-- ==== Sys2Proof/Word.lean ====
section
/-! DEFINITION. The word types, the bit-field reads and the sparse map every array of the device is held in. -/

namespace Sys2Proof

/-- A register word of 32 bits (R6, R36). -/
abbrev Word := BitVec 32

/-- A byte of a frame, a QSPI transfer or the Landing. -/
abbrev Byte := BitVec 8

/-- A gallery, 0 to 5 (R57). -/
abbrev Gal := Fin 6

/-- A network port, 0 for A and 1 for B (R33). -/
abbrev Port := Fin 2

/-- A sparse array held as a list of keys and values, keys rising. What a key that is not listed holds is said by the
operation that reads it (Machine/Ops.lean), so that an array at its reset value is the empty list. -/
abbrev SMap (α : Type) := List (Nat × α)

end Sys2Proof
end

