-- ==== Sys2Proof/Syntax.lean ====
section
/-! DEFINITION. The commands of the device: one constructor for each row of the table of operations and events, and their operand types. -/

namespace Sys2Proof

/-- The strap and oscillator inputs of a bring-up: HOUSE_SEL, XO_SEL as sampled in step 3 (or 4) and as latched in step 6, QSPI_MODE,
and whether XO_IN shows edges (R381, R382, R384, R398). -/
structure Straps where
  houseSel : Bool
  xoSel3 : Bool
  xoSel6 : Bool
  qspiMode : Bool
  xoEdge : Bool
  deriving DecidableEq, Repr

/-- The rails of the regulator (R368). -/
inductive Rail where
  | core | analogue | v33
  deriving DecidableEq, Repr

/-- Negotiated PCIe widths (R58). -/
inductive LinkWidth where
  | x1 | x2 | x4
  deriving DecidableEq, Repr

/-- What a PCIe host changes of its function's MSI-X, power management and link (R58, R60, R61): a word of the table, the function's enable
and function mask, PME enable, a clear of PME status, an entry to or exit from ASPM L1, or correctable errors seen on the link. -/
inductive MsixChange where
  | word (i : Fin 32) (w : Word)
  | control (enable mask : Bool)
  | pmeEnable (b : Bool)
  | pmeClear
  | aspmL1 (on : Bool)
  | corrErrs (n : Nat)
  deriving DecidableEq, Repr

/-- The speed a PHY reports: one of R237, or another (R238). -/
inductive PhySpeed where
  | g1 | g2h | g5 | g10 | other
  deriving DecidableEq, Repr

/-- An edge on a serial port's BCLK pad (R320): its EC, its direction, and the levels of the FS and DI pads at it. -/
structure BckEdge where
  ec : Nat
  rising : Bool
  fs : Bool
  di : Bool
  deriving DecidableEq, Repr

/-- Why a link goes down: lock lost, auto-negotiation lost, a local or a remote fault (R238). -/
inductive LinkLoss where
  | lock | autoNeg | localFault | remoteFault
  deriving DecidableEq, Repr

/-- An edge of SYNCE_A, or SYNCE_B when `b`, and its EC (R153). -/
structure SynceEdge where
  b : Bool
  ec : Nat
  deriving DecidableEq, Repr

/-- `n` MREF_CLK cycles in a row whose phase error at the phase detector is `ps` picoseconds (R181). -/
structure PhaseRun where
  n : Nat
  ps : Int
  deriving DecidableEq, Repr

/-- An edge of the source that watch entry `n` names, and its direction (R103). -/
structure WatchEdge where
  n : Fin 16
  rising : Bool
  deriving DecidableEq, Repr

/-- What a write carries: a word, and the upper half of a 64-bit access (R36). -/
structure WriteData where
  w : Word
  hi : Option Word
  deriving DecidableEq, Repr

/-- The bytes a read names: its first address and its length (R36, R59). -/
structure ReadSpan where
  addr : Nat
  len : Nat
  deriving DecidableEq, Repr

/-- The crossing of a SerDes pad by a delimiter: its EC, and whether it is that of a preemptable frame's first fragment (R123, R241). -/
structure Crossing where
  ec : Nat
  frag : Bool
  deriving DecidableEq, Repr

/-- The phase errors of synthesizer `n` since the last such command, oldest first (R181). -/
structure PhaseSeen where
  n : Fin 8
  err : List PhaseRun
  deriving DecidableEq, Repr


/-- The commands. -/
inductive Instr where
  /-- POWER_UP (R381): VIN rises above its threshold with EN high -/
  | powerUp (st : Straps)
  /-- VIN_LOSS (R368): VIN falls below its threshold -/
  | vinLoss
  /-- EN_LOW (R369): EN low for 10 µs -/
  | enLow
  /-- EN_RISE (R369): rising edge on EN -/
  | enRise (st : Straps)
  /-- RST_N_ASSERT (R384): RST_N low for 1 µs -/
  | rstAssert
  /-- RST_N_RELEASE (R384): RST_N released -/
  | rstRelease (st : Straps)
  /-- XO_IN_LOSS (R388): XO_IN without an edge for 1 µs -/
  | xoInLoss
  /-- SYS_PLL_UNLOCK (R388): the SYS PLL loses lock -/
  | sysPllUnlock
  /-- RAIL_OUT_OF_REGULATION (R370): a rail leaves regulation -/
  | railOut (rail : Rail)
  /-- VIO_UNDERVOLTAGE (R396): bank supply A to D below its level -/
  | vioUnder (bank : Fin 4)
  /-- VIN_WARN_TRIP (R372): VIN below PWR.VIN_CFG.WARN -/
  | vinWarnTrip
  /-- VIN_WARN_CLEAR (R372): VIN above it again with hysteresis -/
  | vinWarnClear
  /-- SLEEP_CMD_RUN (R375): gallery `g` writes SLEEP_CMD, TARGET 0 -/
  | sleepCmdRun (g : Gal)
  /-- SLEEP_CMD_QUIET (R375): TARGET 1 -/
  | sleepCmdQuiet (g : Gal)
  /-- SLEEP_CMD_DOZE (R375): TARGET 2 -/
  | sleepCmdDoze (g : Gal)
  /-- SLEEP_CMD_SHELF (R375): TARGET 3 -/
  | sleepCmdShelf (g : Gal)
  /-- SLEEP_CMD_RESERVED (R375): TARGET 4 + `t` -/
  | sleepCmdReserved (g : Gal) (t : Fin 4)
  /-- SLEEP_COMMIT (R375): the Foyer's commit of the posted SLEEP_CMD -/
  | sleepCommit
  /-- POWER_DOWN_COMPLETE (R377): the core rail is off after a commit -/
  | powerDownComplete
  /-- QUIET_ENTER (R378): sample-period boundary after a QUIET commit -/
  | quietEnter
  /-- QUIET_EXIT (R378): sample-period boundary after a RUN commit -/
  | quietExit
  /-- DOZE_WAKE (R379): a watch entry fires in DOZE on an edge of its source; the coarse counter reads `ms` -/
  | dozeWake (e : WatchEdge) (ms : Nat)
  /-- WAKE_COMPLETE (R379): the core reaches RUN after a wake; the straps count after SHELF -/
  | wakeComplete (st : Straps)
  /-- WATCH_ENTRY_FIRE (R103): a watch entry sees an edge of its source -/
  | watchEntryFire (e : WatchEdge)
  /-- REGISTER_WRITE (R37): write of a register or table word; `narrow`: fewer than 32 bits -/
  | registerWrite (g : Gal) (addr : Nat) (w : WriteData) (narrow : Bool)
  /-- PAGE_STATUS_CLEAR (R41): W1C write of PAGE_STATUS -/
  | pageStatusClear (g : Gal) (page : Fin 128) (w : Word)
  /-- LW_READ (R47): read of bytes (R36, R59); an LW word latches its group -/
  | lwRead (g : Gal) (span : ReadSpan)
  /-- SH_WRITE (R48): write of a higher word of a group or entry -/
  | shWrite (g : Gal) (addr : Nat) (w : Word)
  /-- LW_COMMIT (R48): write of the LW word of a group -/
  | lwCommit (g : Gal) (addr : Nat) (w : Word)
  /-- TABLE_ENTRY_COMMIT (R49): write of word 0 of a table entry -/
  | tableEntryCommit (g : Gal) (addr : Nat) (w : Word)
  /-- PW_WRITE (R51): write of a PW register -/
  | pwWrite (g : Gal) (addr : Nat) (w : Word)
  /-- PW_COMPLETE (R51): the posted value of the page takes effect -/
  | pwComplete (page : Fin 128)
  /-- PARITY_SCRUB (R53): the register scrub visits its next word -/
  | parityScrub
  /-- INJ_SEL_WRITE (R40): write of PAGE_INJ_SEL -/
  | injSelWrite (g : Gal) (page : Fin 128) (w : Word)
  /-- INJ_CTRL_WRITE (R40): write of PAGE_INJ_CTRL -/
  | injCtrlWrite (g : Gal) (page : Fin 128) (w : Word)
  /-- PCIE_LINK_UP (R381): link trained at Gen `speed` + 1 -/
  | pcieLinkUp (speed : Fin 4) (width : LinkWidth)
  /-- PCIE_LINK_LOSS (R80): the data link goes down -/
  | pcieLinkLoss
  /-- PE_PERST_ASSERT (R80): PE_PERST_N asserted -/
  | pePerstAssert
  /-- PE_PERST_DEASSERT (R381): PE_PERST_N deasserted -/
  | pePerstDeassert
  /-- FUNCTION_LEVEL_RESET (R80): function-level reset of function `f` -/
  | functionLevelReset (f : Fin 4)
  /-- GAL_RESET (R80): write of GAL.GAL_RESET -/
  | galReset (g : Gal) (w : Word)
  /-- D3HOT_ENTRY (R61): function `f` enters D3hot -/
  | d3hotEntry (f : Fin 4)
  /-- D0_ENTRY (R94): function `f` returns to D0 -/
  | d0Entry (f : Fin 4)
  /-- MSIX_MASK_CHANGE (R94): MSI-X table, function mask, enable or PME of function `f`, or its ASPM and error state -/
  | msixMaskChange (f : Fin 4) (c : MsixChange)
  /-- QSPI_WR (R65): WR frame on QSPI `q`; `sck` is the SCK period in ps -/
  | qspiWr (q : Fin 2) (addr : Word) (data : List Word) (crc : Byte) (sck : Nat)
  /-- QSPI_RD (R65): RD frame of `len` + 1 words -/
  | qspiRd (q : Fin 2) (addr : Word) (len : Fin 16) (crc : Byte) (sck : Nat)
  /-- QSPI_RD_LINK (R383): RD_LINK frame -/
  | qspiRdLink (q : Fin 2) (addr : Word) (len : Fin 16) (crc : Byte)
  /-- QSPI_ECHO (R65): ECHO frame -/
  | qspiEcho (q : Fin 2) (addr : Word) (len : Fin 16) (crc : Byte)
  /-- QSPI_RESERVED_OPCODE (R65): frame with another opcode -/
  | qspiReservedOpcode (q : Fin 2) (op : Fin 16) (len : Fin 16) (addr : Word) (crc : Byte)
  /-- QSPI_FRAME_ABORT (R68): Qg_CS_N rises before the host CRC ends -/
  | qspiFrameAbort (q : Fin 2)
  /-- APERTURE_READ (R78): read of `len` bytes of the Landing aperture -/
  | apertureRead (g : Gal) (off : Nat) (len : Nat)
  /-- APERTURE_WRITE (R79): write of bytes of the aperture -/
  | apertureWrite (g : Gal) (off : Nat) (data : List Byte)
  /-- GAL_CLAIM (R76): claim of shared page `p` -/
  | galClaim (g : Gal) (p : Fin 4)
  /-- GAL_RELEASE (R76): release of it -/
  | galRelease (g : Gal) (p : Fin 4)
  /-- GAL_FORCE (R76): forced release -/
  | galForce (g : Gal) (p : Fin 4)
  /-- GAL_CLAIM_RESERVED_OP (R76): GAL.CLAIM with OP 0b11 -/
  | galClaimReservedOp (g : Gal) (p : Fin 4)
  /-- PART_DATA_WRITE (R72): write of GAL.PART_DATA -/
  | partDataWrite (g : Gal) (w : Word)
  /-- DEV_SEAL (R74): strobe of DEV.SEAL -/
  | devSeal (g : Gal)
  /-- HOST_SLEEP_WRITE (R106): write of GAL.HOST_SLEEP -/
  | hostSleepWrite (g : Gal) (w : Word)
  /-- EVENT_EDGE (R85): the line of source `n` is sampled -/
  | eventEdge (n : Fin 512)
  /-- SOURCE_DISPATCH (R87): one dispatcher cycle -/
  | sourceDispatch
  /-- COAL_TIME_EXPIRY (R91): COAL_TIME of target `t` elapses -/
  | coalTimeExpiry (t : Fin 48)
  /-- DELIVERY_COMMIT (R92): a delivery to target `t` is committed -/
  | deliveryCommit (t : Fin 48)
  /-- EVT_CLAIM (R95): gallery `g` reads EVT`e`.CLAIM`t` -/
  | evtClaim (g : Gal) (e : Gal) (t : Fin 8)
  /-- EVT_COMPLETE (R96): write of EVT`e`.COMPLETE`t` -/
  | evtComplete (g : Gal) (e : Gal) (t : Fin 8) (w : Word)
  /-- PEND_WORD_WRITE (R100): write of PEND`k` of EVC (none) or EVT`e` -/
  | pendWordWrite (g : Gal) (e : Option Gal) (k : Fin 16) (w : Word)
  /-- MASK_WORD_WRITE (R99): write of MASK`k` -/
  | maskWordWrite (g : Gal) (e : Option Gal) (k : Fin 16) (w : Word)
  /-- SRC_CTRL_WRITE (R101): write of EVT`e`.SRC_CTRL -/
  | srcCtrlWrite (g : Gal) (e : Gal) (w : Word)
  /-- SRC_TGT_WRITE (R101): write of EVT`e`.SRC_TGT`k` -/
  | srcTgtWrite (g : Gal) (e : Gal) (k : Fin 3) (w : Word)
  /-- TGT_ENA_WRITE (R98): write of EVT`e`.TGT_ENA -/
  | tgtEnaWrite (g : Gal) (e : Gal) (w : Word)
  /-- EC_WRAP (R108): the elapsed counter wraps -/
  | ecWrap
  /-- VIEW_SET_STEP (R112): commit of VIEW`v`_SET with KIND 0 -/
  | viewSetStep (g : Gal) (v : Fin 3)
  /-- VIEW_SET_RATE (R112): commit with KIND 1 -/
  | viewSetRate (g : Gal) (v : Fin 3)
  /-- VIEW_SET_RESERVED_KIND (R113): commit with a reserved KIND, or with any while FEED is 0 -/
  | viewSetReservedKind (g : Gal) (v : Fin 3) (k : Fin 4)
  /-- TDC_STAMP (R121): edge on TDC channel `ch` at tap `tap` of its delay line in the present cycle -/
  | tdcStamp (ch : Fin 32) (tap : Fin 256) (rising : Bool)
  /-- TDC_TAP_MEASURE (R122): the 1 ms measurement of taps per CORE_CLK period -/
  | tdcTapMeasure (taps : Fin 256)
  /-- SFD_PAIRING (R124): stamp of a delimiter that crossed the SerDes pad -/
  | sfdPairing (p : Port) (tx : Bool) (boundary : Crossing)
  /-- TBE_SNAP_READ (R121): read of TBE.SNAP -/
  | tbeSnapRead (g : Gal)
  /-- PTP_ENABLE (R138): gallery `g` writes PTP`n`.CTRL with ENA 1 (0 PTPA, 1 PTPB) -/
  | ptpEnable (g : Gal) (n : Fin 2) (w : Word)
  /-- PTP_DISABLE (R139): gallery `g` writes PTP`n`.CTRL with ENA 0 -/
  | ptpDisable (g : Gal) (n : Fin 2) (w : Word)
  /-- PARENT_COMMIT (R132): gallery `g` writes PTP`n`.PARENT word 0 -/
  | parentCommit (g : Gal) (n : Fin 2) (w : Word)
  /-- SYNC_RX (R133): engine `n` takes the Sync at the head of its received messages -/
  | syncRx (n : Fin 2)
  /-- FOLLOW_UP_RX (R133): the Follow_Up at the head -/
  | followUpRx (n : Fin 2)
  /-- DELAY_RESP_RX (R134): the Delay_Resp at the head -/
  | delayRespRx (n : Fin 2)
  /-- DELAY_REQ_RX (R137): the Delay_Req at the head -/
  | delayReqRx (n : Fin 2)
  /-- DELAY_RESP_SEND (R136): engine `n` answers its oldest Delay_Req -/
  | delayRespSend (n : Fin 2)
  /-- PDELAY_REQ_RX (R135): the Pdelay_Req at the head -/
  | pdelayReqRx (n : Fin 2)
  /-- PDELAY_RESP_FU_SEND (R136): the Pdelay_Resp_Follow_Up of its oldest Pdelay_Resp -/
  | pdelayRespFuSend (n : Fin 2)
  /-- PDELAY_RESP_RX (R135): the Pdelay_Resp at the head -/
  | pdelayRespRx (n : Fin 2)
  /-- PDELAY_RESP_FU_RX (R135): the Pdelay_Resp_Follow_Up at the head -/
  | pdelayRespFuRx (n : Fin 2)
  /-- DELAY_REQ_SEND (R134): a Delay_Req is due -/
  | delayReqSend (n : Fin 2)
  /-- PDELAY_REQ_SEND (R135): a Pdelay_Req is due -/
  | pdelayReqSend (n : Fin 2)
  /-- SYNC_SEND (R137): a Sync is due -/
  | syncSend (n : Fin 2)
  /-- FOLLOW_UP_SEND (R136): the Follow_Up of its oldest two-step Sync -/
  | followUpSend (n : Fin 2)
  /-- ANNOUNCE_RX (R131): the Announce at the head -/
  | announceRx (n : Fin 2)
  /-- SIGNALING_MANAGEMENT_RX (R131): the Signaling or Management message at the head -/
  | signalingManagementRx (n : Fin 2)
  /-- SYNC_TIMEOUT (R139): no Sync for SYNC_TIMEOUT intervals -/
  | syncTimeout (n : Fin 2)
  /-- SERVO_STEP (R146): the step that is due on servo `n` (0 SRVA, 1 SRVB) -/
  | servoStep (n : Fin 2)
  /-- SERVO_LOCK (R148): servo `n` has its LOCK_CNT samples -/
  | servoLock (n : Fin 2)
  /-- GAIN_NARROW (R147): servo `n` has its NARROW_N samples -/
  | gainNarrow (n : Fin 2)
  /-- SERVO_ENABLE (R148): gallery `g` writes SRV`n`.CTRL with ENA 1 -/
  | servoEnable (g : Gal) (n : Fin 2) (w : Word)
  /-- SERVO_DISABLE (R148): gallery `g` writes SRV`n`.CTRL with ENA 0 -/
  | servoDisable (g : Gal) (n : Fin 2) (w : Word)
  /-- SERVO_RESTART (R148): strobe of SRV`n`.CMD.RESTART -/
  | servoRestart (g : Gal) (n : Fin 2)
  /-- REF_CHECK (R155): the check of every enabled input at a whole second of EC -/
  | refCheck
  /-- QUAL_TIME_EXPIRY (R157): input `n` has its QUAL_TIME checks -/
  | qualTimeExpiry (n : Fin 8)
  /-- WTR_EXPIRY (R157): input `n` has its WTR checks -/
  | wtrExpiry (n : Fin 8)
  /-- REF_LOS_DETECT (R156): the 1 ms judgement; `synce`: the edges of the SYNCE pads since the last one, oldest first -/
  | refLosDetect (synce : List SynceEdge)
  /-- VIEW_X_DISCIPLINE (R161): the 1 ms update of view X from the selected input 2 to 7 -/
  | viewXDiscipline
  /-- VIEW_X_SHADOW_UPDATE (R160): the 1 ms update of view X as a shadow of AT -/
  | viewXShadowUpdate
  /-- AT_SLEW_UPDATE (R165): the 1 ms update of AT during a slew -/
  | atSlewUpdate
  /-- VIEW_DISAGREE_CHECK (R167): the 1 ms comparison of views A and B -/
  | viewDisagreeCheck
  /-- HOLDOVER_RATE_UPDATE (R170): the update of a second of holdover -/
  | holdoverRateUpdate
  /-- HOLDOVER_BOUND_UPDATE (R173): the 1 ms update of the bound -/
  | holdoverBoundUpdate
  /-- REF_PREFERRED_WRITE (R158): gallery `g` writes REF.PREFERRED -/
  | refPreferredWrite (g : Gal) (w : Word)
  /-- X_TOD_ARM (R162): gallery `g` writes REF.X_TOD word 0 -/
  | xTodArm (g : Gal) (w : Word)
  /-- X_TOD_APPLY (R162): a PPS_IN edge with X_TOD armed -/
  | xTodApply
  /-- REF_FORCE_FREE (R163): strobe of REF.CMD.FORCE_FREE -/
  | refForceFree (g : Gal)
  /-- REF_CLEAR_HIST (R168): strobe of CLEAR_HIST -/
  | refClearHist (g : Gal)
  /-- REF_CLEAR_TABLE (R171): strobe of CLEAR_TABLE -/
  | refClearTable (g : Gal)
  /-- REF_ALLOW_STEP (R164): strobe of ALLOW_STEP -/
  | refAllowStep (g : Gal)
  /-- MCS_ENABLE (R180): the posted write of MCS`n`.CTRL that sets EN takes effect -/
  | mcsEnable (n : Fin 8)
  /-- MCS_DISABLE (R180): the posted write of CTRL that clears EN takes effect -/
  | mcsDisable (n : Fin 8)
  /-- MCS_VCO_SETTLED (R180): the VCO of MCS`n` is powered and settled -/
  | mcsVcoSettled (n : Fin 8)
  /-- MCS_LOCK_ACQUIRED (R180): LOCK_CNT cycles inside LOCK_WIN -/
  | mcsLockAcquired (seen : PhaseSeen)
  /-- MCS_LOCK_LOST (R180): UNLOCK_CNT cycles outside LOCK_WIN -/
  | mcsLockLost (seen : PhaseSeen)
  /-- MCS_REF_LOSS (R181): MREF_CLK absent for 100 ns, or back -/
  | mcsRefLoss (n : Fin 8) (absent : Bool)
  /-- MCS_STOP_COMPLETE (R180): outputs on bypass and VCO down -/
  | mcsStopComplete (n : Fin 8)
  /-- MCS_DISC_MODE_SET (R194): the posted write of CTRL that changes DISC_MODE takes effect -/
  | mcsDiscModeSet (n : Fin 8)
  /-- MCS_FREQ_COMMIT (R184): the posted commit of FREQ reaches the synthesizer -/
  | mcsFreqCommit (n : Fin 8)
  /-- MCS_FREQ_UPDATE (R184): the update of a microsecond -/
  | mcsFreqUpdate (n : Fin 8)
  /-- MCS_RAMP_START (R188): strobe of CMD.RAMP_START -/
  | mcsRampStart (g : Gal) (n : Fin 8)
  /-- MCS_RAMP_STOP (R189): strobe of CMD.RAMP_STOP -/
  | mcsRampStop (g : Gal) (n : Fin 8)
  /-- MCS_RETURN (R182): strobe of CMD.RETURN -/
  | mcsReturn (g : Gal) (n : Fin 8)
  /-- MCS_REALIGN (R192): strobe of CMD.REALIGN -/
  | mcsRealign (g : Gal) (n : Fin 8)
  /-- RAMP_SEGMENT_END (R187): the segment in progress has run its length -/
  | rampSegmentEnd (n : Fin 8)
  /-- MCS_OUTPUT_ENABLE (R192): the posted write of OUT`k`_CFG that sets EN takes effect -/
  | mcsOutputEnable (n : Fin 8) (k : Fin 4)
  /-- MCS_OUTPUT_DISABLE (R190): the posted write that clears EN takes effect -/
  | mcsOutputDisable (n : Fin 8) (k : Fin 4)
  /-- MCS_OUTPUT_DIV_CHANGE (R190): the posted write that changes DIV takes effect -/
  | mcsOutputDivChange (n : Fin 8) (k : Fin 4)
  /-- MCS_OUTPUT_DELAY_CHANGE (R191): the posted write of OUT`k`_DELAY takes effect -/
  | mcsOutputDelayChange (n : Fin 8) (k : Fin 4)
  /-- MCLKO_SEL_WRITE (R193): gallery `g` writes MCLKO_SEL`k` -/
  | mclkoSelWrite (g : Gal) (n : Fin 8) (k : Fin 2) (w : Word)
  /-- MCS_DISC_INTERVAL (R195): a millisecond of EC ends -/
  | mcsDiscInterval (n : Fin 8)
  /-- MCS_ALIGN_ACHIEVED (R196): 16 intervals inside ALIGN_WIN -/
  | mcsAlignAchieved (n : Fin 8)
  /-- MCS_NO_FEEDBACK (R196): 16 intervals without a usable stamp -/
  | mcsNoFeedback (n : Fin 8)
  /-- TRIGGER_ARM (R204): gallery `g` writes TRG.ARM`k` -/
  | triggerArm (g : Gal) (k : Fin 2) (w : Word)
  /-- TRIGGER_DISARM (R205): gallery `g` writes TRG.DISARM`k` -/
  | triggerDisarm (g : Gal) (k : Fin 2) (w : Word)
  /-- TRIGGER_FIRE (R201): the compare of trigger `n` in the present CORE_CLK cycle -/
  | triggerFire (n : Fin 64)
  /-- TRIGGER_PULSE_END (R207): the pulse on TRIG_OUT`p` ends -/
  | triggerPulseEnd (p : Fin 8)
  /-- CAPTURE (R209): the oldest stamp waiting on capture channel `c` is captured -/
  | capture (c : Fin 16)
  /-- CAPTURE_REC_READ (R209): gallery `g` reads CAP`c`_REC word 0 -/
  | captureRecRead (g : Gal) (c : Fin 16)
  /-- ADMISSION_COMPLETE (R216): the admission at the head of the queue ends -/
  | admissionComplete
  /-- TREAD_ZEROED (R214): the head of the zeroing queue has been zeroed -/
  | treadZeroed
  /-- LANDING_SCRUB_STEP (R220): the scrub reads its next word -/
  | landingScrubStep
  /-- LND_CLEAR_UE (R222): strobe of LND.CMD.CLEAR_UE -/
  | lndClearUe (g : Gal)
  /-- LND_CLEAR_CE (R219): strobe of LND.CMD.CLEAR_CE -/
  | lndClearCe (g : Gal)
  /-- HBUF_ENABLE (R420): gallery `g` writes HBUF`b`_CFG with ENA 1 -/
  | hbufEnable (g : Gal) (b : Fin 48) (w : Word)
  /-- HBUF_DISABLE (R420): gallery `g` writes HBUF`b`_CFG with ENA 0 -/
  | hbufDisable (g : Gal) (b : Fin 48) (w : Word)
  /-- HBUF_PTR_WRITE (R224): gallery `g` writes HBUF`b`_PTR -/
  | hbufPtrWrite (g : Gal) (b : Fin 48) (w : Word)
  /-- HBUF_PERIOD_TAKE (R224): the start of a sample period at host-write buffer `b` -/
  | hbufPeriodTake (b : Fin 48)
  /-- HBUF_PERIOD_PUBLISH (R225): the start of a sample period at host-read buffer `b` -/
  | hbufPeriodPublish (b : Fin 48)
  /-- CORRIDOR_ENABLE (R234): gallery `g` writes COR.CFG of its COR.SEL with ENA 1 -/
  | corridorEnable (g : Gal) (w : Word)
  /-- CORRIDOR_DISABLE (R234): gallery `g` writes COR.CFG with ENA 0 -/
  | corridorDisable (g : Gal) (w : Word)
  /-- CORRIDOR_CLOSE_COMPLETE (R234): the record in transfer of corridor `c` is finished -/
  | corridorCloseComplete (c : Fin 256)
  /-- CORRIDOR_RECORD_COMMIT (R230): a hardware producer commits a record into corridor `c` -/
  | corridorRecordCommit (c : Fin 256) (type : Byte) (info : Fin 65536) (payload : List Byte)
  /-- COR_RD_WRITE (R231): gallery `g` writes COR.C`c`_RD -/
  | corRdWrite (g : Gal) (c : Fin 256) (w : Word)
  /-- COR_REL_WRITE (R231): gallery `g` writes COR.C`c`_REL -/
  | corRelWrite (g : Gal) (c : Fin 256) (w : Word)
  /-- COR_MARK_WRITE (R231): gallery `g` writes COR.MARK -/
  | corMarkWrite (g : Gal) (w : Word)
  /-- COR_REWIND (R231): strobe of COR.CMD.REWIND -/
  | corRewind (g : Gal)
  /-- COR_CLEAR_CNT (R231): strobe of COR.CMD.CLEAR_CNT -/
  | corClearCnt (g : Gal)
  /-- OUT_RECORD_CONSUME (R248): the record at the head of OUT corridor `c` is taken -/
  | outRecordConsume (c : Fin 256)
  /-- NET_ENABLE (R259): gallery `g` writes NET`p`.CTRL with ENA 1 -/
  | netEnable (g : Gal) (p : Port) (w : Word)
  /-- NET_DISABLE (R259): gallery `g` writes NET`p`.CTRL with ENA 0 -/
  | netDisable (g : Gal) (p : Port) (w : Word)
  /-- LINK_UP (R238): lock, auto-negotiation and the PHY's speed stand -/
  | linkUp (p : Port) (sp : PhySpeed)
  /-- LINK_DOWN (R238): the link is lost -/
  | linkDown (p : Port) (why : LinkLoss)
  /-- LINK_SPEED_CHANGE (R238): the PHY reports another speed -/
  | linkSpeedChange (p : Port) (sp : PhySpeed)
  /-- MDIO_WRITE (R239): MDIO_CMD with OP 0b00 -/
  | mdioWrite (g : Gal) (p : Port) (w : Word)
  /-- MDIO_READ (R239): MDIO_CMD with OP 0b01 -/
  | mdioRead (g : Gal) (p : Port) (w : Word)
  /-- MDIO_READ_INC (R239): MDIO_CMD with OP 0b10 -/
  | mdioReadInc (g : Gal) (p : Port) (w : Word)
  /-- MDIO_RESERVED_OP (R239): MDIO_CMD with OP 0b11 -/
  | mdioReservedOp (g : Gal) (p : Port) (w : Word)
  /-- MDIO_COMPLETE (R239): the last frame of the operation ends; the PHY answers `data` -/
  | mdioComplete (p : Port) (data : Fin 65536)
  /-- PHY_INT_CHANGE (R240): the PHY interrupt pad is asserted or released -/
  | phyIntChange (p : Port) (on : Bool)
  /-- NET_REVERIFY (R252): strobe of NET`p`.CMD.REVERIFY -/
  | netReverify (g : Gal) (p : Port)
  /-- NET_CLEAR_CNT (R241): strobe of NET`p`.CMD.CLEAR_CNT -/
  | netClearCnt (g : Gal) (p : Port)
  /-- PREEMPT_VERIFY_ANSWER (R252): the partner answers verify -/
  | preemptVerifyAnswer (p : Port)
  /-- PREEMPT_VERIFY_TIMEOUT (R252): an attempt stays unanswered for 10 ms -/
  | preemptVerifyTimeout (p : Port)
  /-- FRAME_RECEIVE (R241): a frame ends at the receive MAC of port `p`: its bytes without FCS, whether its code, its FCS and its fragments are right, and whether the partner preempted it -/
  | frameReceive (p : Port) (bytes : List Byte) (pcsOk fcsOk fragOk preempted : Bool)
  /-- CLS_CLEAR_CNT (R242): strobe of CLS.CMD.CLEAR_CNT -/
  | clsClearCnt (g : Gal)
  /-- GALLERY_FRAME_START (R251): the line of port `p` is offered to a PTP frame, a gallery frame or a fragment -/
  | galleryFrameStart (p : Port)
  /-- GALLERY_FRAME_DONE (R248): the gallery frame on port `p` has left -/
  | galleryFrameDone (p : Port)
  /-- GALLERY_FRAME_STALL (R255): the head frame of corridor `c` has waited the stall limit of port `p` -/
  | galleryFrameStall (p : Port) (c : Fin 256)
  /-- GATE_ENTRY_ADVANCE (R254): an interval of the gate control list of port `p` ends -/
  | gateEntryAdvance (p : Port)
  /-- TX_STREAM_ENABLE (R280): gallery `g` writes word 0 of transmit entry `sn` with ENA 1 -/
  | txStreamEnable (g : Gal) (sn : Fin 1024) (w : Word)
  /-- TX_STREAM_DISABLE (R280): gallery `g` writes word 0 with ENA 0 -/
  | txStreamDisable (g : Gal) (sn : Fin 1024) (w : Word)
  /-- TX_STREAM_RESTRUCTURE (R280): gallery `g` writes word 0 with ENA 1 over changed structural fields -/
  | txStreamRestructure (g : Gal) (sn : Fin 1024) (w : Word)
  /-- TX_FRAME_LAUNCH (R269): the next frame of stream `sn` has left port `p`, its delimiter at the pad at EC `start` -/
  | txFrameLaunch (p : Port) (sn : Fin 1024) (start : Nat)
  /-- TX_FRAME_SKIP (R275): the next frame of stream `sn` on port `p` is skipped -/
  | txFrameSkip (p : Port) (sn : Fin 1024)
  /-- TX_DRAIN_COMPLETE (R281): the drain fade of stream `sn` is complete -/
  | txDrainComplete (sn : Fin 1024)
  /-- TXE_RETIME (R272): strobe of TXE.CMD.RETIME for stream `sn` -/
  | txeRetime (g : Gal) (sn : Fin 1024)
  /-- TXE_CLEAR_CNT (R282): strobe of TXE.CMD.CLEAR_CNT for stream `sn` -/
  | txeClearCnt (g : Gal) (sn : Fin 1024)
  /-- RX_STREAM_ENABLE (R302): gallery `g` writes word 0 of receive entry `sn` with ENA 1 -/
  | rxStreamEnable (g : Gal) (sn : Fin 1024) (w : Word)
  /-- RX_STREAM_DISABLE (R302): gallery `g` writes word 0 with ENA 0 -/
  | rxStreamDisable (g : Gal) (sn : Fin 1024) (w : Word)
  /-- RX_STREAM_RESTRUCTURE (R302): gallery `g` writes word 0 with ENA 1 over changed structural fields -/
  | rxStreamRestructure (g : Gal) (sn : Fin 1024) (w : Word)
  /-- RX_PRESENT (R291): P(k) of receive stream `sn` -/
  | rxPresent (sn : Fin 1024)
  /-- RX_FLOW_STOP (R294): stream `sn` has taken no copy for DEPTH periods -/
  | rxFlowStop (sn : Fin 1024)
  /-- NA_HOLD_EXPIRY (R296): the NA window of a channel pair closes -/
  | naHoldExpiry (sn : Fin 1024) (pair : Fin 32)
  /-- RX_DRAIN_COMPLETE (R302): the drain gain of stream `sn` has reached 0 -/
  | rxDrainComplete (sn : Fin 1024)
  /-- RXE_CLEAR_CNT (R305): strobe of RXE.CMD.CLEAR_CNT for stream `sn` -/
  | rxeClearCnt (g : Gal) (sn : Fin 1024)
  /-- ROUTE_EVALUATION (R307): the next sample period's routes are evaluated -/
  | routeEvaluation
  /-- ROUTE_COMMIT (R312): gallery `g` strobes RTE.CMD.COMMIT -/
  | routeCommit (g : Gal)
  /-- ROUTE_SWAP (R313): the boundary of k_s with a commit pending -/
  | routeSwap
  /-- ROUTE_CHECK (R313): strobe of RTE.CMD.CHECK -/
  | routeCheck (g : Gal)
  /-- RTE_CLEAR_CNT (R313): strobe of RTE.CMD.CLEAR_CNT -/
  | rteClearCnt (g : Gal)
  /-- ROUTE_FADE_DONE (R315): the last ramp of a crossfade has run -/
  | routeFadeDone
  /-- RTE_RATE_WRITE (R318): gallery `g` writes RTE.RATE -/
  | rteRateWrite (g : Gal) (w : Word)
  /-- SAP_FRAME (R326): the next edges on SAP`n`_BCLK: the `before` ones, oldest first, and the last, at EC `ec`, with its direction and the levels of FS and DI at it -/
  | sapFrame (n : Fin 32) (before : List BckEdge) (ec : Nat) (rising : Bool) (fs : Bool) (di : Bool)
  /-- SAP_CLOCK_STOP (R336): SAP`n`_BCLK without an edge for 4T -/
  | sapClockStop (n : Fin 32)
  /-- SAP_ENABLE (R329): gallery `g` writes SAP`n`.CTRL with ENA 1 -/
  | sapEnable (g : Gal) (n : Fin 32) (w : Word)
  /-- SAP_DISABLE (R329): gallery `g` writes SAP`n`.CTRL with ENA 0 -/
  | sapDisable (g : Gal) (n : Fin 32) (w : Word)
  /-- SAP_RUN_START (R330): SAP`n` has its start period and its good frames -/
  | sapRunStart (n : Fin 32)
  /-- SAP_STOP_FADE_DONE (R329): both gains of SAP`n` have reached 0 -/
  | sapStopFadeDone (n : Fin 32)
  /-- SAP_POSTROLL_END (R329): the POSTROLL periods of SAP`n` have run -/
  | sapPostrollEnd (n : Fin 32)
  /-- SAP_GROUP_START (R331): gallery `g` writes SAPG.GRP_START -/
  | sapGroupStart (g : Gal) (w : Word)
  /-- SAP_GROUP_STOP (R332): gallery `g` writes SAPG.GRP_STOP -/
  | sapGroupStop (g : Gal) (w : Word)
  /-- SAP_CLEAR_CNT (R342): strobe of SAP`n`.CMD.CLEAR_CNT -/
  | sapClearCnt (g : Gal) (n : Fin 32)
  /-- MONITOR_INTERVAL_SAMPLE (R345): slot `sl` reaches its INTERVAL -/
  | monitorIntervalSample (sl : Fin 512)
  /-- MONITOR_SNAP (R349): gallery `g` writes MON.SNAP -/
  | monitorSnap (g : Gal) (w : Word)
  /-- TELEMETRY_RECORD_WRITE (R355): the telemetry writer commits its next record -/
  | telemetryRecordWrite
  /-- ALARM_PENDING_FLUSH (R355): the 1 ms tick that writes pending alarm records -/
  | alarmPendingFlush
  /-- ALARM_CLEAR (R354): gallery `g` writes LOG.ALARM_CLR -/
  | alarmClear (g : Gal) (w : Word)
  /-- LOG_CLASS_WRITE (R350): gallery `g` writes LOG.CLASS`k` -/
  | logClassWrite (g : Gal) (k : Fin 32) (w : Word)
  /-- FLT_DISARM_ALL (R362): strobe of FLT.CMD.DISARM_ALL -/
  | fltDisarmAll (g : Gal)
  /-- FLT_CLEAR_CNT (R360): strobe of FLT.CMD.CLEAR_CNT -/
  | fltClearCnt (g : Gal)
  /-- TEMP_SUPERVISOR_EVAL (R366): the 1 ms evaluation; the sensor reads `temp` (1/16 °C, two's complement) -/
  | tempSupervisorEval (temp : Fin 65536) (valid : Bool)
  /-- SUPPLY_SUPERVISOR_EVAL (R366): the 1 ms evaluation of the supplies -/
  | supplySupervisorEval
  /-- OTP_DATA_READ (R386): gallery `g` reads OTP.DATA -/
  | otpDataRead (g : Gal)
  /-- RAIL_IN_REGULATION (R370): a rail returns to regulation -/
  | railInRegulation (rail : Rail)
  /-- BANK_SUPPLY_RESTORED (R396): bank supply A to D returns -/
  | bankSupplyRestored (bank : Fin 4)
  /-- INJECTION_TICK (R363): the 1 µs tick of FLT point 0 -/
  | injectionTick
  deriving DecidableEq, Repr

end Sys2Proof
end

