-- ==== Sys2Proof/Config.lean ====
section
/-! DEFINITION. What one device fixes and the spec leaves open: the free values, which nothing constrains. -/

namespace Sys2Proof.Config

/-- A FREE VALUE for each draw of the device's counter (log entry 3): the random era of a cold start (R109), tap counts,
dither, noise, syndromes and every other value the spec does not give. It has no body, so nothing can be proved of a value of it. -/
opaque freeNat : Nat → Nat

/-- A FREE FUNCTION (log entry 3): the next state of a generator's 32-bit LFSR after a state; R319 gives its width and its seed. -/
opaque lfsrNext : Nat → Nat

/-- A FREE FUNCTION (log entry 3): the noise value of an LFSR state, as a signed 32-bit fraction of full scale (R319). -/
opaque noiseOf : Nat → Nat

/-- A FREE FUNCTION (log entry 3): the next state of a synthesizer's 32-bit dither LFSR, and the sequence's value in units of the fraction's LSB,
taken modulo 3 less 1 (R186). -/
opaque ditherNext : Nat → Nat
/-- See `ditherNext`. -/
opaque ditherOf : Nat → Nat

/-- A FREE FUNCTION (log entry 22): of PTP engine `n` over UDP, at 3n the source IP address, at 3n + 1 the DSCP, at 3n + 2 the TTL or hop limit of the
messages it sends; the spec gives none of them. -/
opaque ptpIp : Nat → Nat

/-- A FREE FUNCTION (log entry 3): where the delay-line tap of that index ends, in units of 2^-8 ns of a CORE_CLK period of 128 taps, for a word of
the OTP tap table (R122). The spec gives the table's place and not its format. -/
opaque tapUnits : Nat → Nat → Nat

end Sys2Proof.Config
end

