-- ==== Sys2Proof/Machine/Operands.lean ====
section
/-! DEFINITION. The operand forms of the commands: bit fields, the register pages and their layout (02, R33 to R43), and the register
list of every block, written from the register tables of the chapters. -/

namespace Sys2Proof.Machine

/-! ### Bit fields (R6) -/

/-- Bits [hi:lo] of a word. -/
def fld (w : Word) (hi lo : Nat) : Nat := (w.toNat / 2 ^ lo) % 2 ^ (hi + 1 - lo)

/-- One bit of a word. -/
def bitOf (w : Word) (i : Nat) : Bool := fld w i i == 1

/-- Bit `i` of a number. -/
def nbit (n i : Nat) : Bool := (n / 2 ^ i) % 2 == 1

/-- A number with bit `i` set or cleared. -/
def nset (n i : Nat) (b : Bool) : Nat := if nbit n i == b then n else if b then n + 2 ^ i else n - 2 ^ i

/-- A word from a number, modulo 2^32. -/
def wd (n : Nat) : Word := BitVec.ofNat 32 n

/-- Two's complement reading of the low `w` bits. -/
def sgn (n w : Nat) : Int := let m := n % 2 ^ w; if m < 2 ^ (w - 1) then (m : Int) else (m : Int) - 2 ^ w

/-- The low `w` bits of an integer in two's complement. -/
def uns (i : Int) (w : Nat) : Nat := (i % (2 ^ w : Int)).toNat

/-- A Bool as a bit. -/
def b2n (b : Bool) : Nat := if b then 1 else 0

/-- Division rounded to the nearest, halves towards plus infinity (R111, R315). -/
def rdiv (n : Int) (d : Int) : Int := (2 * n + d) / (2 * d)

/-- Division rounded to the nearest, halves away from zero. -/
def rdivAway (n : Int) (d : Int) : Int := if 0 ≤ n then (2 * n + d) / (2 * d) else -((2 * (-n) + d) / (2 * d))

/-- Division rounded up. -/
def cdiv (n d : Nat) : Nat := (n + d - 1) / d

/-- Saturating increment. -/
def satInc (n max : Nat) : Nat := if n < max then n + 1 else max

/-- Four bytes of a word, lowest address first (R6). -/
def wordBytes (w : Word) : List Byte :=
  [BitVec.ofNat 8 (w.toNat % 256), BitVec.ofNat 8 (w.toNat / 256 % 256), BitVec.ofNat 8 (w.toNat / 65536 % 256), BitVec.ofNat 8 (w.toNat / 16777216)]

/-- A word from bytes, lowest address first (R6). -/
def bytesNat : List Byte → Nat
  | [] => 0
  | b :: t => b.toNat + 256 * bytesNat t

/-- A number from bytes in network order, most significant first (R6). -/
def beNat (l : List Byte) : Nat := l.foldl (fun n b => 256 * n + b.toNat) 0

/-- `n` bytes of a number in network order. -/
def beBytes (n v : Nat) : List Byte := (List.range n).map fun i => BitVec.ofNat 8 (v / 256 ^ (n - 1 - i) % 256)

/-- `n` bytes of a number, lowest first. -/
def leBytes (n v : Nat) : List Byte := (List.range n).map fun i => BitVec.ofNat 8 (v / 256 ^ i % 256)

/-! ### Blocks and pages (R33) -/

/-- The blocks that own a register page. -/
inductive Blk where
  | dev | gal | hif | evc | evt (g : Nat) | pwr | clk | otp | lnd | cor | net (p : Nat) | cls | shp | tbe
  | ptp (n : Nat) | srv (n : Nat) | trg | ref | mcs (n : Nat) | txe | rxe | rte | sapg | sap (n : Nat) | mon | log | flt
  deriving DecidableEq, Repr

/-- Page number of a block (R33). -/
def Blk.page : Blk → Nat
  | .dev => 0x00 | .gal => 0x01 | .hif => 0x02 | .evc => 0x03 | .evt g => 0x04 + g | .pwr => 0x0A | .clk => 0x0B | .otp => 0x0C
  | .lnd => 0x10 | .cor => 0x11 | .net p => 0x14 + p | .cls => 0x16 | .shp => 0x17 | .tbe => 0x18 | .ptp n => 0x19 + n
  | .srv n => 0x1B + n | .trg => 0x1E | .ref => 0x1F | .mcs n => 0x20 + n | .txe => 0x30 | .rxe => 0x31 | .rte => 0x32
  | .sapg => 0x38 | .sap n => 0x40 + n | .mon => 0x60 | .log => 0x61 | .flt => 0x62

/-- The block of an implemented page; a reserved page has none (R35). -/
def Blk.ofPage (p : Nat) : Option Blk :=
  if p < 4 then [Blk.dev, .gal, .hif, .evc][p]?
  else if p ≤ 9 then some (.evt (p - 4))
  else if p ≤ 0x0C then [Blk.pwr, .clk, .otp][p - 0x0A]?
  else if p = 0x10 then some .lnd else if p = 0x11 then some .cor
  else if p = 0x14 ∨ p = 0x15 then some (.net (p - 0x14))
  else if p = 0x16 then some .cls else if p = 0x17 then some .shp else if p = 0x18 then some .tbe
  else if p = 0x19 ∨ p = 0x1A then some (.ptp (p - 0x19))
  else if p = 0x1B ∨ p = 0x1C then some (.srv (p - 0x1B))
  else if p = 0x1E then some .trg else if p = 0x1F then some .ref
  else if 0x20 ≤ p ∧ p ≤ 0x27 then some (.mcs (p - 0x20))
  else if p = 0x30 then some .txe else if p = 0x31 then some .rxe else if p = 0x32 then some .rte
  else if p = 0x38 then some .sapg
  else if 0x40 ≤ p ∧ p ≤ 0x5F then some (.sap (p - 0x40))
  else if p = 0x60 then some .mon else if p = 0x61 then some .log else if p = 0x62 then some .flt
  else none

/-- Steward classes (R33). -/
inductive StewardClass where
  | house | gallery (g : Nat) | claimed (i : Nat) | assigned | sapElem (n : Nat)
  deriving DecidableEq, Repr

/-- Steward class of a block; the index of a claimed page is its GAL.CLAIM code. -/
def Blk.cls' : Blk → StewardClass
  | .evt g => .gallery g
  | .tbe => .claimed 0 | .ref => .claimed 1 | .clk => .claimed 2 | .rte => .claimed 3
  | .sap n => .sapElem n
  | .dev | .gal | .hif | .evc | .pwr | .otp => .house
  | _ => .assigned

/-- PAGE_ID.BLOCK and INST (R33). -/
def Blk.code : Blk → Nat × Nat
  | .dev => (0x01, 0) | .gal => (0x02, 0) | .hif => (0x03, 0) | .evc => (0x04, 0) | .evt g => (0x05, g) | .pwr => (0x06, 0)
  | .clk => (0x07, 0) | .otp => (0x08, 0) | .lnd => (0x10, 0) | .cor => (0x11, 0) | .net p => (0x14, p) | .cls => (0x16, 0)
  | .shp => (0x17, 0) | .tbe => (0x18, 0) | .ptp n => (0x19, n) | .srv n => (0x1B, n) | .trg => (0x1E, 0) | .ref => (0x1F, 0)
  | .mcs n => (0x20, n) | .txe => (0x30, 0) | .rxe => (0x31, 0) | .rte => (0x32, 0) | .sapg => (0x38, 0) | .sap n => (0x40, n)
  | .mon => (0x60, 0) | .log => (0x61, 0) | .flt => (0x62, 0)

/-- PAGE_CAP.INJ_POINTS (R358). -/
def Blk.injPoints : Blk → Nat
  | .hif | .lnd | .net _ | .tbe | .ptp _ | .mcs _ | .rxe | .ref => 2
  | .cor | .srv _ | .txe | .log => 1
  | .sap _ => 5
  | .flt => 3
  | _ => 0

/-- Every implemented block, in page order. -/
def Blk.all : List Blk :=
  List.flatten
    [[.dev, .gal, .hif, .evc, .evt 0, .evt 1, .evt 2, .evt 3, .evt 4, .evt 5, .pwr, .clk, .otp, .lnd, .cor, .net 0, .net 1, .cls, .shp],
     [.tbe, .ptp 0, .ptp 1, .srv 0, .srv 1, .trg, .ref], (List.range 8).map Blk.mcs, [.txe, .rxe, .rte, .sapg],
     (List.range 32).map Blk.sap, [.mon, .log, .flt]]

/-! ### Registers -/

/-- Register types (R43). `hk` is an RW or MC register whose contents the block keeps in state of its own (per gallery, per corridor or
per source); `lohk` the same of type LO. `lw` opens a group of `n` words, `sh` is word `i` of one; their base types are RO, RW or PW. -/
inductive RegTy where
  | ro | rw | mc | w1c | wo | lo | pw | hk | lohk
  | lwRo (n : Nat) | lwRw (n : Nat) | lwPw (n : Nat)
  | shRo (i : Nat) | shRw (i : Nat) | shPw (i : Nat)
  deriving DecidableEq, Repr

/-- A register or an array of registers: first offset, stride, count, type and reset value. -/
structure Reg where
  off : Nat
  stride : Nat
  cnt : Nat
  ty : RegTy
  rst : Nat
  deriving DecidableEq, Repr

/-- One register. -/
def r1 (off : Nat) (ty : RegTy) (rst : Nat := 0) : Reg := ⟨off, 4, 1, ty, rst⟩

/-- An array of registers. -/
def rN (off stride cnt : Nat) (ty : RegTy) (rst : Nat := 0) : Reg := ⟨off, stride, cnt, ty, rst⟩

/-- A group of `n` words of type RO, RW or PW, `cnt` times (R47, R48). -/
def grp (off n : Nat) (lw : Nat → RegTy) (sh : Nat → RegTy) (stride : Nat := 4) (cnt : Nat := 1) : List Reg :=
  rN off stride cnt (lw n) :: (List.range (n - 1)).map fun i => rN (off + 4 * (i + 1)) stride cnt (sh (i + 1))

/-- Registers of the DEV page. -/
def regsDev : List Reg :=
  [[r1 0x040 .ro, r1 0x044 .wo, r1 0x048 .ro],
   grp 0x04C 2 .lwRo .shRo].flatten

/-- Registers of the GAL page. -/
def regsGal : List Reg :=
  [r1 0x040 .wo, r1 0x044 .ro, r1 0x048 .ro, r1 0x04C .rw 0x10000, r1 0x050 .lohk, r1 0x054 .wo, r1 0x058 .ro, r1 0x05C .mc, r1 0x060 .ro, r1 0x064 .ro]

/-- Registers of the HIF page. R60 gives the pending-bit array an offset alone: it is taken as the one 64-bit entry that the PCI Express
specification, which R60 cites, gives 8 vectors (PRESUMED, log entry 6). -/
def regsHif : List Reg :=
  [r1 0x040 .ro, rN 0x050 4 2 .rw 16, rN 0x058 4 2 .rw, rN 0x060 4 2 .ro, rN 0x800 4 32 .hk, rN 0xC00 4 2 .ro]

/-- Registers of the EVC page. -/
def regsEvc : List Reg :=
  [r1 0x040 .ro, rN 0x100 4 16 .hk, rN 0x140 4 16 .hk, rN 0x180 4 16 .ro, rN 0x1C0 4 16 .ro]

/-- Registers of the EVT page. -/
def regsEvt : List Reg :=
  [r1 0x040 .rw, r1 0x044 .ro, r1 0x048 .rw, r1 0x04C .hk, rN 0x050 4 3 .hk, rN 0x080 4 8 .rw 1, rN 0x0C0 4 8 .ro, rN 0x0E0 4 8 .wo, rN 0x100 4 16 .hk, rN 0x140 4 16 .hk]

/-- Registers of the PWR page. -/
def regsPwr : List Reg :=
  [r1 0x040 .pw, r1 0x044 .ro, r1 0x048 .ro, r1 0x04C .ro, r1 0x050 .ro, r1 0x054 .pw 90, r1 0x058 .pw 1, rN 0x100 4 16 .pw]

/-- Registers of the CLK page. -/
def regsClk : List Reg :=
  [r1 0x040 .ro, r1 0x044 .pw 1, r1 0x048 .ro]

/-- Registers of the OTP page. -/
def regsOtp : List Reg :=
  [r1 0x040 .ro, r1 0x044 .hk, r1 0x048 .ro]

/-- Registers of the TBE page. -/
def regsTbe : List Reg :=
  [[r1 0x040 .rw 0x10, r1 0x044 .ro, r1 0x048 .ro],
   grp 0x04C 2 .lwRo .shRo,
   grp 0x054 2 .lwRo .shRo,
   [r1 0x060 .rw, rN 0x064 4 3 .ro, r1 0x070 .ro, r1 0x074 .ro, r1 0x078 .rw 16],
   grp 0x080 19 .lwRo .shRo,
   grp 0x0D0 8 .lwRo .shRo,
   grp 0x100 8 .lwRo .shRo 0x80 3,
   grp 0x120 9 .lwRw .shRw 0x80 3,
   [rN 0x300 4 16 .rw, rN 0x340 4 4 .ro]].flatten

/-- Registers of the PTP page. -/
def regsPtp (n : Nat) : List Reg :=
  [[r1 0x040 .rw (0x1100 + 2 * n), r1 0x044 .ro],
   grp 0x048 3 .lwRw .shRw,
   [r1 0x054 (.lwRw 3) 1, r1 0x058 (.shRw 1) 0xFE000000, r1 0x05C (.shRw 2) 0xFF],
   [r1 0x060 .rw 0x0300FDFD, r1 0x064 .rw, r1 0x068 .rw, r1 0x06C .ro],
   grp 0x070 2 .lwRo .shRo,
   [rN 0x080 4 4 .ro]].flatten

/-- Registers of the SRV page. -/
def regsSrv : List Reg :=
  [[r1 0x040 .rw 0x3080E, r1 0x044 .ro, r1 0x048 .rw 0x20008000, r1 0x04C .rw 0x01001000, r1 0x050 .rw 10000, r1 0x054 .rw 0x10080064, r1 0x058 .rw 1000, r1 0x05C .rw 100000, r1 0x060 .rw],
   grp 0x064 2 .lwRo .shRo,
   grp 0x06C 2 .lwRo .shRo,
   [r1 0x074 .ro, r1 0x078 .ro, r1 0x07C .wo]].flatten

/-- Registers of the REF page. -/
def regsRef : List Reg :=
  [[r1 0x040 .rw 0x10000, r1 0x044 .ro, r1 0x048 .rw 0xF, r1 0x04C .rw 0xFFFFFFFF, r1 0x050 .rw 0x012C0A0A, r1 0x054 .rw 0x10003C, r1 0x058 .rw 100, r1 0x05C .rw 0x006411F8, r1 0x060 .rw 0x00320064, r1 0x064 .rw 1000, r1 0x068 .rw 1000, r1 0x06C .rw 2, r1 0x070 .rw 10000, r1 0x074 .rw 100000, r1 0x078 .rw 1000, r1 0x07C .ro, r1 0x080 .ro],
   grp 0x084 2 .lwRo .shRo,
   [r1 0x08C .ro, r1 0x090 .wo, rN 0x0A0 4 8 .rw 0x10000, rN 0x0C0 4 8 .rw 1000000000, rN 0x0E0 4 8 .ro, rN 0x100 4 8 .ro, rN 0x120 4 16 .rw],
   grp 0x160 3 .lwRw .shRw,
   [rN 0x180 4 8 .rw, r1 0x1A0 .ro]].flatten

/-- Registers of the MCS page. -/
def regsMcs (n : Nat) : List Reg :=
  [[r1 0x040 .pw 0x10, r1 0x044 .ro],
   [r1 0x048 (.lwPw 2) 0xC154C986, r1 0x04C (.shPw 1) 0x004EA4A8,
    r1 0x050 .pw (1 + n), r1 0x054 .pw 0x7D000000, r1 0x058 .pw 0x040040C8, r1 0x05C .wo, rN 0x060 8 4 .pw 0x023F00A0, rN 0x064 8 4 .pw, r1 0x080 .rw 24576000, r1 0x084 .rw (0x10000 + 2 * n), r1 0x088 .rw 0x04004000, r1 0x08C .rw 10000, r1 0x090 .rw 0x03E80096, r1 0x094 .rw, r1 0x098 .ro, r1 0x09C .ro],
   grp 0x0A0 2 .lwRo .shRo,
   [r1 0x0A8 .ro, r1 0x0AC .ro, r1 0x0B0 .rw, rN 0x100 8 16 .rw, rN 0x104 8 16 .rw 1, rN 0x200 8 64 .rw, rN 0x204 8 64 .rw, rN 0x400 4 2 .rw 0x3F]].flatten

/-- Registers of the TRG page. -/
def regsTrg : List Reg :=
  [[r1 0x040 .rw, r1 0x044 .ro, rN 0x048 4 2 .wo, rN 0x050 4 2 .wo, rN 0x058 4 2 .ro],
   grp 0x100 4 .lwRw .shRw 0x20 64,
   [rN 0x110 0x20 64 .rw, rN 0x114 0x20 64 .rw, rN 0x118 0x20 64 .rw 0x10008, rN 0x11C 0x20 64 .ro, rN 0x900 4 64 .ro, rN 0xA00 0x40 16 .rw 0x1FF00000, rN 0xA04 0x40 16 .ro],
   grp 0xA08 8 .lwRo .shRo 0x40 16].flatten

/-- Registers of the LND page. -/
def regsLnd : List Reg :=
  [[r1 0x040 .rw 0x03E80001, r1 0x044 .ro, r1 0x048 .ro, r1 0x04C .ro, r1 0x050 .ro, rN 0x060 4 8 .ro, r1 0x080 .ro, r1 0x084 .wo],
   grp 0x090 4 .lwRo .shRo,
   [r1 0x0A0 .hk, r1 0x0A4 .ro, r1 0x0A8 .hk, r1 0x0AC .ro, r1 0x0B0 .hk, r1 0x0B4 .ro, r1 0x0B8 .ro, rN 0x200 0x10 48 .rw 0x14000000, rN 0x204 0x10 48 .rw 0xFFFF0000, rN 0x208 0x10 48 .ro, rN 0x20C 0x10 48 .hk, rN 0x500 4 48 .ro]].flatten

/-- Registers of the COR page. -/
def regsCor : List Reg :=
  [r1 0x040 .hk, r1 0x044 .hk, r1 0x048 .ro, r1 0x04C .ro, r1 0x050 .ro, r1 0x054 .hk, r1 0x058 .wo, r1 0x05C .ro, rN 0x800 8 256 .hk, rN 0x804 8 256 .hk]

/-- Registers of the NET page. -/
def regsNet : List Reg :=
  [r1 0x040 .rw 0x05F20070, r1 0x044 .ro, r1 0x048 .rw 19, r1 0x04C .wo, r1 0x050 .rw, r1 0x054 .ro, r1 0x058 .wo, rN 0x100 4 13 .ro]

/-- Registers of the CLS page. -/
def regsCls : List Reg :=
  [r1 0x040 .rw, r1 0x044 .wo, rN 0x080 4 7 .ro, rN 0x100 4 8 .rw]

/-- Registers of the SHP page. -/
def regsShp : List Reg :=
  [[r1 0x040 .ro, rN 0x100 0x200 2 .rw 0x0064004B, rN 0x104 0x200 2 .ro, rN 0x108 0x200 2 .rw 0xFAC688, rN 0x10C 0x200 2 .rw, rN 0x110 0x200 2 .rw 1000000],
   grp 0x114 4 .lwRw .shRw 0x200 2,
   [rN 0x124 0x200 2 .ro, rN 0x140 4 8 .rw, rN 0x340 4 8 .rw, rN 0x160 4 8 .ro, rN 0x360 4 8 .ro, rN 0x180 4 32 .rw 0xFF000000, rN 0x380 4 32 .rw 0xFF000000]].flatten

/-- Registers of the TXE page. -/
def regsTxe : List Reg :=
  [[r1 0x040 .ro, r1 0x044 .ro, r1 0x048 .wo, r1 0x04C .ro, r1 0x050 .ro, r1 0x054 .ro, r1 0x058 .rw, r1 0x05C .ro, rN 0x100 4 32 .w1c],
   ([0, 1, 4, 5, 6, 7, 8, 9, 10, 11, 12, 13, 14, 16, 17, 18] : List Nat).map fun i => rN (0x400 + 4 * i) 0x80 8 .rw].flatten

/-- Registers of the RXE page. -/
def regsRxe : List Reg :=
  [r1 0x040 .ro, r1 0x044 .ro, r1 0x048 .wo, r1 0x04C .ro, r1 0x050 .ro, r1 0x054 .ro, r1 0x058 .ro, r1 0x05C .ro, r1 0x060 .rw, rN 0x100 4 32 .w1c, rN 0x180 4 32 .ro]

/-- Registers of the RTE page. -/
def regsRte : List Reg :=
  [r1 0x040 .rw 1, r1 0x044 .ro, r1 0x048 .wo, r1 0x04C .ro, r1 0x050 .ro, r1 0x054 .ro, r1 0x058 .ro, r1 0x05C .ro, r1 0x060 .ro, rN 0x400 8 256 .rw 0x280000, rN 0x404 8 256 .rw 349525]

/-- Registers of the SAPG page. -/
def regsSapg : List Reg :=
  [r1 0x040 .wo, r1 0x044 .wo, r1 0x048 .ro, r1 0x04C .ro, rN 0x080 4 8 .ro]

/-- Registers of the SAP page. -/
def regsSap : List Reg :=
  [r1 0x040 .rw 0x10002, r1 0x044 .mc 8, r1 0x048 .rw 0x03000040, r1 0x04C .rw 0x10100800, r1 0x050 .rw 0x03E801F4, r1 0x054 .rw 96, r1 0x058 .ro, r1 0x05C .ro, r1 0x060 .ro, r1 0x064 .ro, r1 0x068 .ro, r1 0x06C .ro, r1 0x070 .wo]

/-- Registers of the MON page. -/
def regsMon : List Reg :=
  [[r1 0x040 .wo, r1 0x044 .ro, r1 0x048 .ro, r1 0x04C .ro, r1 0x050 .ro, r1 0x054 .ro],
   grp 0x058 2 .lwRo .shRo,
   [r1 0x060 .ro, rN 0x080 4 16 .ro, rN 0x100 4 64 .ro]].flatten

/-- Registers of the LOG page. -/
def regsLog : List Reg :=
  [r1 0x040 .ro, r1 0x044 .ro, r1 0x048 .ro, r1 0x04C .ro, r1 0x050 .wo, rN 0x060 4 6 .rw, rN 0x100 4 32 .rw]

/-- Registers of the FLT page. -/
def regsFlt : List Reg :=
  [[r1 0x040 .rw 1, r1 0x044 .wo, r1 0x048 .rw 0x06C00640, r1 0x04C .ro, r1 0x050 .rw, r1 0x054 .rw, r1 0x058 .ro],
   grp 0x05C 3 .lwRo .shRo,
   [rN 0x080 4 4 .ro]].flatten

/-- The registers of a block from offset 0x040 (the register tables of chapters 03 to 18). -/
def Blk.regs : Blk → List Reg
  | .dev => regsDev
  | .gal => regsGal
  | .hif => regsHif
  | .evc => regsEvc
  | .evt _ => regsEvt
  | .pwr => regsPwr
  | .clk => regsClk
  | .otp => regsOtp
  | .tbe => regsTbe
  | .ptp n => regsPtp n
  | .srv _ => regsSrv
  | .ref => regsRef
  | .mcs n => regsMcs n
  | .trg => regsTrg
  | .lnd => regsLnd
  | .cor => regsCor
  | .net _ => regsNet
  | .cls => regsCls
  | .shp => regsShp
  | .txe => regsTxe
  | .rxe => regsRxe
  | .rte => regsRte
  | .sapg => regsSapg
  | .sap _ => regsSap
  | .mon => regsMon
  | .log => regsLog
  | .flt => regsFlt

/-- The common header (R38). -/
def headerRegs : List Reg :=
  [r1 0x000 .ro, r1 0x004 .ro, r1 0x008 .ro, r1 0x00C .w1c, r1 0x010 .ro, r1 0x014 .mc 3, r1 0x018 .rw, r1 0x01C .mc, r1 0x020 .ro]

/-- Whether offset `o` is one of a register row's. -/
def Reg.has (r : Reg) (o : Nat) : Bool := r.off ≤ o && (o - r.off) % r.stride == 0 && (o - r.off) / r.stride < r.cnt

/-- The register at an offset of a block's page; none at a reserved offset. -/
def Blk.reg (b : Blk) (o : Nat) : Option Reg := (if o < 0x40 then headerRegs else b.regs).find? (·.has o)

/-- BAR0 byte offset of a register (R33). -/
def Blk.addr (b : Blk) (o : Nat) : Nat := b.page * 0x1000 + o

/-- Index of a register within its array. -/
def Reg.idx (r : Reg) (o : Nat) : Nat := (o - r.off) / r.stride

/-- PAGE_CAP.REG_END, 12 bits (R38). The registers of COR end at 0x1000, which 12 bits do not hold: the field reads the offset modulo 0x1000,
which is 0 there (DESIGN CHOICE, log entry 15). -/
def Blk.regEnd (b : Blk) : Nat := (b.regs.map fun r => r.off + r.stride * (r.cnt - 1) + 4).foldl max 0 % 0x1000

/-- PAGE_CAP.HAS_LW. -/
def Blk.hasLw (b : Blk) : Bool := b.regs.any fun r => match r.ty with | .lwRo _ | .lwRw _ | .lwPw _ => true | _ => false

/-- PAGE_CAP.HAS_PW: MCS, CLK and PWR only. -/
def Blk.hasPw : Blk → Bool
  | .mcs _ | .clk | .pwr => true
  | _ => false

/-- Whether a register carries a parity bit: RW, MC, LO and PW (R53). -/
def RegTy.parity : RegTy → Bool
  | .rw | .mc | .lo | .pw | .hk | .lohk | .lwRw _ | .lwPw _ | .shRw _ | .shPw _ => true
  | _ => false

/-! ### Table space (R34) -/

/-- The table regions. -/
inductive Tbl where
  | route0 | route1 | txs | rxs | flow | hist | monslot | alarm
  deriving DecidableEq, Repr

/-- Base, entry size in bytes, entries and owning block of a region (R34). -/
def Tbl.geom : Tbl → Nat × Nat × Nat × Blk
  | .route0 => (0x80000, 16, 8192, .rte) | .route1 => (0xA0000, 16, 8192, .rte) | .txs => (0xC0000, 64, 1024, .txe)
  | .rxs => (0xD0000, 64, 1024, .rxe) | .flow => (0xE0000, 16, 4096, .cls) | .hist => (0x100000, 4, 32768, .mon)
  | .monslot => (0x120000, 32, 512, .mon) | .alarm => (0x130000, 32, 128, .log)

/-- Base address of a region. -/
def Tbl.base (t : Tbl) : Nat := t.geom.1
/-- Entry size of a region in bytes. -/
def Tbl.size (t : Tbl) : Nat := t.geom.2.1
/-- Entries of a region. -/
def Tbl.entries (t : Tbl) : Nat := t.geom.2.2.1
/-- The block whose page reports a region's faults. -/
def Tbl.blk (t : Tbl) : Blk := t.geom.2.2.2
/-- A region's number, for its shadows. -/
def Tbl.num : Tbl → Nat
  | .route0 => 0 | .route1 => 1 | .txs => 2 | .rxs => 3 | .flow => 4 | .hist => 5 | .monslot => 6 | .alarm => 7
/-- The regions that no gallery writes (R34). -/
def Tbl.readOnly : Tbl → Bool
  | .hist | .alarm => true
  | _ => false

/-- All regions. -/
def Tbl.all : List Tbl := [.route0, .route1, .txs, .rxs, .flow, .hist, .monslot, .alarm]

/-- What an address of the map reaches. -/
inductive Place where
  | reg (b : Blk) (off : Nat)
  | table (t : Tbl) (entry word : Nat)
  | reserved
  deriving DecidableEq, Repr

/-- The place of an aligned BAR0 offset (R33 to R35). -/
def place (a : Nat) : Place :=
  if a < 0x80000 then
    match Blk.ofPage (a / 0x1000) with
    | some b => .reg b (a % 0x1000)
    | none => .reserved
  else
    match Tbl.all.find? fun t => t.base ≤ a && a < t.base + t.size * t.entries with
    | some t => .table t ((a - t.base) / t.size) ((a - t.base) % t.size / 4)
    | none => .reserved

/-- Address of word `i` of entry `e` of a region. -/
def Tbl.addr (t : Tbl) (e i : Nat) : Nat := t.base + e * t.size + 4 * i

/-- Reset value of the word at an address; table words reset to zero (log entry 7), MIN and MAX of a monitor slot to their values while
it holds none (R344). -/
def regReset (a : Nat) : Word :=
  match place a with
  | .reg b o => match b.reg o with | some r => wd r.rst | none => 0
  | .table .monslot _ 6 => 0x7FFFFFFF
  | .table .monslot _ 7 => 0x80000000
  | _ => 0

end Sys2Proof.Machine
end

