-- ==== Sys2Proof/Machine/State.lean ====
section
/-! DEFINITION. The state of the device as plain data: every register, table, counter, mode and pin the spec gives it, the queue of waiting
commands, and the reasons a step could stop. -/

namespace Sys2Proof.Machine

/-! ### Power, straps and what stands outside the core -/

/-- The power states of R373 with the passages between them: `off` (VIN below its threshold, R368), `rstHeld` (RST_N low, R384),
`entering` between a DOZE or SHELF commit and the core rail going off (R377), `waking` between a wake and RUN (R379). -/
inductive Power where
  | off | rstHeld | run | quiet
  | entering (doze : Bool)
  | doze | shelf
  | waking (fromDoze : Bool)
  deriving DecidableEq, Repr

/-- What no register write reaches: the elapsed counter (R108), the power state (R373), the straps (R398), the OTP (R386) and the EN and RST_N pads. -/
structure Root where
  /-- the elapsed counter in units of 2^-8 ns (R108) -/
  ec : Nat
  power : Power
  /-- bring-up step completed (R381, R383) -/
  step : Nat
  /-- QUIET entry (`some true`) or exit (`some false`) committed and waiting for its sample-period boundary (R378) -/
  quietReq : Option Bool
  houseSel : Bool
  xoSel : Bool
  qspiMode : Bool
  mismatch : Bool
  /-- EN pad high (R369) -/
  en : Bool
  /-- RST_N held low from outside (R384); it also reads 0 while VIO_D is down (R396) -/
  rstLow : Bool := false
  /-- the 2,048 OTP words, an unlisted one 0 (R386) -/
  otp : SMap Word
  deriving DecidableEq, Repr

/-! ### Register pages (02) -/

/-- A fault of one CFG_CLK cycle: its PAGE_STATUS bit, who set it (a gallery, or 7 the hardware), and the capture it would leave (R41, R44). -/
structure FaultSet where
  bit : Nat
  who : Nat
  cap : Word
  deriving DecidableEq, Repr

/-- A level line: the CFG_CLK cycle in which it last fell, plus one, and whether it has read 0 for a whole cycle since it was last sampled high
(R84). -/
structure LineSt where
  fell : Nat := 0
  low : Bool := false
  deriving DecidableEq, Repr

/-- Fault bits [5:1] of PAGE_STATUS and the captured PAGE_FAULT_ADDR (R41). -/
structure PageSt where
  bits : Nat := 0
  cap : Word := 0
  /-- the CFG_CLK cycle of the latest fault, plus one, the faults of that cycle, and the bits as they stood before them (R44) -/
  setCyc : Nat := 0
  sets : List FaultSet := []
  before : Nat := 0
  deriving DecidableEq, Repr

/-- A posted write on its way to its clock domain: the register's offset and the words of its group (R51). -/
structure Posted where
  off : Nat
  ws : List Word
  deriving DecidableEq, Repr

/-! ### Galleries and host links (03) -/

/-- The GAL page's own state: claims, the partition, reset causes, apertures' fault counts and the resets in progress. -/
structure GalSt where
  /-- holder of shared page 0 TBE, 1 REF, 2 CLK, 3 RTE; 7 none (R76) -/
  holder : SMap Nat := []
  /-- GAL.CLAIM_RESULT of each gallery (R76) -/
  claimRes : SMap Word := []
  /-- owner of element `resource * 512 + index`; 8 stands for the house gallery, the reset (R72) -/
  part : SMap Nat := []
  /-- APT_LIMIT of each gallery (R72) -/
  aptLimit : SMap Nat := []
  resetCause : SMap Nat := []
  aptFaults : SMap Nat := []
  /-- the CFG_CLK cycle of the latest claim operation, plus one; the galleries that acted in it, who was granted a page in it, and who
  found it held (R76) -/
  claimCyc : Nat := 0
  acted : List Nat := []
  granted : SMap Nat := []
  waiting : SMap (List Nat) := []
  deriving DecidableEq, Repr

/-- The host links: PCIe, MSI-X and the two Velgelet ports (R58 to R70). -/
structure HifSt where
  linkUp : Bool := false
  speed : Nat := 0
  width : Nat := 0
  l1 : Bool := false
  corrErrs : Nat := 0
  perst : Bool := false
  /-- functions in D3hot, bit f (R61) -/
  d3hot : Nat := 0
  msixEn : SMap Bool := []
  funMask : SMap Bool := []
  /-- MSI-X table word `32 * f + i` (R60) -/
  msix : SMap Word := []
  pme : SMap Bool := []
  pmeEn : SMap Bool := []
  /-- functions whose host wake is asserted on PE_WAKE_N (R106) -/
  wokenFn : Nat := 0
  /-- QSPI galleries whose host wake is asserted on WAKE_OUT, bits 4 and 5 (R106) -/
  wokenQspi : Nat := 0
  aborts : SMap Nat := []
  crcErrs : SMap Nat := []
  /-- QSPI port's CFG written since reset, so that its pads are driven (R70) -/
  cfgWritten : SMap Bool := []
  /-- bytes last driven by each QSPI port (R63) -/
  reply : SMap (List Byte) := []
  /-- word of the first 32-bit access of each gallery's latest register read, and the bytes that read returned (R36, R59) -/
  readData : SMap Word := []
  readBytes : SMap (List Byte) := []
  /-- bytes last returned to each gallery by an aperture read (R78) -/
  aptData : SMap (List Byte) := []
  /-- the completion of each gallery's latest aperture read over PCIe was marked poisoned, EP (R221) -/
  aptPoison : SMap Bool := []
  /-- MSI-X memory writes issued for each target (R92) -/
  msixSent : SMap Nat := []
  deriving DecidableEq, Repr

/-! ### Event controller and the Foyer (04) -/

/-- The states of one source (R85). -/
inductive SrcSt where
  | idle | pending | dispatched | active | activePending
  deriving DecidableEq, Repr

/-- One event source. -/
structure Src where
  st : SrcSt := .idle
  /-- target holding it, 63 none -/
  tgt : Nat := 63
  /-- target it was last dispatched to (R88) -/
  last : Nat := 47
  mask : Bool := true
  /-- target set, bit per target -/
  set : Nat := 0
  /-- made PENDING by a completion: taken first (R87) -/
  first : Bool := false
  /-- 0 in its target's collection, else the number of the delivery decision that covers it (R91) -/
  cov : Nat := 0
  /-- EC and era of the commit of that decision's delivery (R92, R97) -/
  com : Option (Nat × Nat) := none
  /-- EC of its dispatch (R91) -/
  dispEC : Nat := 0
  /-- rising edges of the line not yet sampled, and the CFG_CLK cycle of its latest pulse, plus two (R84) -/
  pulses : Nat := 0
  cyc : Nat := 0
  /-- the CFG_CLK cycle in which an edge last set its pending bit, plus one (R44) -/
  setCyc : Nat := 0
  /-- the CFG_CLK cycle in which an edge was last merged, plus one (R44, R85) -/
  mergeCyc : Nat := 0
  /-- that merge was counted in MERGED -/
  counted : Bool := false
  /-- level last sampled, for the lines that are levels (R42, R84) -/
  sampled : Bool := false
  deriving DecidableEq, Repr

/-- One event target. -/
structure Tgt where
  /-- delivery decisions made, the number of the latest (R91) -/
  made : Nat := 0
  /-- decisions not yet committed, oldest first: their numbers, and whether each is held (R92 to R94) -/
  waiting : List (Nat × Bool) := []
  /-- a delivery has been committed since the target's gallery was last reset -/
  committed : Bool := false
  /-- the target's CLAIM has been read since its latest commit (R70) -/
  claimed : Bool := true
  deriving DecidableEq, Repr

/-- The event controller: 512 sources and 48 targets (R83). -/
structure EvcSt where
  src : SMap Src := []
  tgt : SMap Tgt := []
  merged : Nat := 0
  badComplete : SMap Nat := []
  deriving DecidableEq, Repr

/-! ### Power states (18) -/

/-- The PWR page and the Foyer (R103 to R107, R372 to R379). -/
structure PwrSt where
  /-- watch entries fired since a SLEEP_CMD was accepted or since the core went down (R376) -/
  latched : Nat := 0
  wakeSet : Nat := 0
  result : Nat := 0
  refuse : Nat := 0
  fromSt : Nat := 0
  cause : Nat := 0x1F
  dozeMs : Nat := 0
  vinWarn : Bool := false
  deriving DecidableEq, Repr

/-- The oscillator and the SYS PLL (R382, R388). -/
structure ClkSt where
  tcxoOk : Bool := true
  xoFail : Bool := false
  xoSrc : Bool := false
  sysLock : Bool := true
  switches : Nat := 0
  unlocks : Nat := 0
  deriving DecidableEq, Repr

/-! ### Timebase (05) -/

/-- A stamp (R126): EC, era, point and flags. -/
structure Stamp where
  ec : Nat := 0
  era : Nat := 0
  point : Nat := 0
  valid : Bool := true
  pin : Bool := false
  noPin : Bool := false
  uncal : Bool := false
  speed : Nat := 0
  deriving DecidableEq, Repr

/-- The parameters of a view or of AT (R111); the time is in units of 2^-8 ns since the epoch. -/
structure View where
  anchorEC : Nat := 0
  anchorT : Int := 0
  rate : Int := 0
  deriving DecidableEq, Repr

/-- The timebase. -/
structure TbSt where
  era : Nat := 1
  /-- the era before the present one, 0 none -/
  prevEra : Nat := 0
  changes : Nat := 0
  cause : Nat := 1
  eraEC : Nat := 0
  a : View := {}
  b : View := {}
  x : View := {}
  at' : View := {}
  viewSet : Nat := 0
  atView : Nat := 2
  switching : Bool := false
  /-- the MODEL's own field: how often AT has gone to another sample period by a step or a restart; what a block remembers of a period of one such run
  of AT says nothing of the periods of another (log entry 26) -/
  run : Nat := 0
  timeState : Nat := 0
  steps : SMap Nat := []
  refused : SMap Nat := []
  taps : Nat := 0
  trackFail : Bool := false
  missed : Nat := 0
  invalid : Nat := 0
  /-- EC of the latest edge that each TDC channel stamped, plus one (R121) -/
  lastEdge : SMap Nat := []
  /-- latest stamp of each TDC channel -/
  chan : SMap Stamp := []
  /-- the last 8 edges of SFD channels 0 to 3, newest first (R124) -/
  hist : SMap (List Stamp) := []
  /-- latest stamp issued at network points 1 to 4 (R123) -/
  issued : SMap Stamp := []
  sfdMiss : SMap Nat := []
  sfdAmbig : SMap Nat := []
  deriving DecidableEq, Repr

/-! ### Fault detection (17) -/

/-- Supervisors and the injection record (R360, R366). -/
structure FltSt where
  tempState : Nat := 0
  supply : Nat := 0
  total : Nat := 0
  lastEra : Nat := 0
  lastPage : Nat := 0
  lastPoint : Nat := 0
  lastEC : Nat := 0
  /-- die temperature reading in 1/16 °C, two's complement, and whether it is valid (REF.TEMP, R366) -/
  temp : Nat := 0
  tempValid : Bool := false
  deriving DecidableEq, Repr

/-! ### The Landing and its corridors (10) -/

/-- A consumer's extent: where its Tread Map entries start, its treads by virtual index, and where they lie in an aperture (R215, R227). -/
structure Ext where
  start : Nat := 0
  treads : List Nat := []
  /-- gallery whose aperture maps it, 7 none -/
  g : Nat := 7
  apt : Nat := 0
  deriving DecidableEq, Repr

/-- An enable waiting for its admission: CFG_CLK cycle of acceptance, gallery, consumer (R216). -/
structure Admit where
  cyc : Nat
  g : Nat
  cons : Nat
  deriving DecidableEq, Repr

/-- States of a host buffer (R420). -/
inductive HbSt where
  | idle | admitting | active | refused
  deriving DecidableEq, Repr

/-- A host buffer: state, and the admission fields as sampled (R420). -/
structure Hbuf where
  st : HbSt := .idle
  reason : Nat := 0
  ptr : Nat := 0
  late : Nat := 0
  read : Bool := false
  pack : Nat := 1
  depthLog : Nat := 4
  first : Nat := 0xFFFF
  count : Nat := 0
  /-- ENA cleared in ACTIVE: IDLE at the next period boundary; in ADMITTING: IDLE when the admission passes -/
  closing : Bool := false
  quit : Bool := false
  /-- host-read: the period whose slot was written last, and its run of AT (R225) -/
  wrote : Option (Int × Nat) := none
  /-- the period it takes or publishes last and its run of AT; the first period a host-read buffer still waits for -/
  last : Option (Int × Nat) := none
  from' : Option Int := none
  deriving DecidableEq, Repr

/-- States of a corridor (R234). -/
inductive CorSt where
  | idle | active | closing | refused | admitting
  deriving DecidableEq, Repr

/-- A corridor: its CFG as written, state, the fields sampled at admission, pointers and counters (R227 to R234). -/
structure Cor where
  cfg : Word := 0
  st : CorSt := .idle
  reason : Nat := 0
  out : Bool := false
  sizeLog : Nat := 0
  wr : Nat := 0
  rd : Nat := 0
  mark : Nat := 0
  rel : Nat := 0
  seq : Nat := 0
  overflow : Nat := 0
  ptrErr : Nat := 0
  /-- a run of consecutive overflows is open (R230) -/
  run : Bool := false
  /-- ENA was cleared in ADMITTING: to IDLE when the admission passes (R234) -/
  quit : Bool := false
  deriving DecidableEq, Repr

/-- The Landing's allocator, ECC state, host buffers and corridors. -/
structure LndSt where
  /-- free zeroed treads as runs of first tread and length -/
  free : List (Nat × Nat) := [(0, 65536)]
  zeroing : List Nat := []
  quar : List Nat := []
  /-- treads marked for quarantine (R222) -/
  bad : List Nat := []
  ext : SMap Ext := []
  admitQ : List Admit := []
  lastCons : Nat := 0xFFFF
  lastGal : Nat := 7
  lastReason : Nat := 0
  scrubWord : Nat := 0
  passes : Nat := 0
  bankCE : SMap Nat := []
  ueCnt : Nat := 0
  ueValid : Bool := false
  ueSyndrome : Nat := 0
  ueWord : Nat := 0
  ueCons : Nat := 0
  ueEra : Nat := 0
  ueEC : Nat := 0
  /-- Landing words with one flipped bit, and with an uncorrectable error (R219, R221) -/
  ce : List Nat := []
  ue : List Nat := []
  /-- Tread Map entries with the same (R215) -/
  mapCe : List Nat := []
  mapUe : List Nat := []
  hbuf : SMap Hbuf := []
  cor : SMap Cor := []
  deriving DecidableEq, Repr

/-! ### Monitors and telemetry (16) -/

/-- A gallery's snapshot window (R349). -/
structure Snap where
  valid : Bool := false
  refuse : Nat := 0
  slot : Nat := 0
  count : Nat := 0
  min : Word := 0
  max : Word := 0
  dropped : Nat := 0
  ec : Nat := 0
  era : Nat := 0
  bins : List Word := []
  deriving DecidableEq, Repr

/-- A slot's accumulation before a cycle's values, and those values: bins with their counts before, values, values dropped (R349). -/
structure MonLate where
  cyc : Nat := 0
  count : Nat := 0
  min : Word := 0
  max : Word := 0
  dropped : Nat := 0
  bins : List (Nat × Word) := []
  vals : List Int := []
  drops : Nat := 0
  deriving DecidableEq, Repr

/-- Monitor slots beyond their configuration entries and the histogram RAM (R344 to R349). -/
structure MonSt where
  count : SMap Nat := []
  dropped : SMap Nat := []
  limit : SMap Bool := []
  /-- LEVEL: peak and periods since the last value (R345) -/
  peak : SMap Nat := []
  periods : SMap Nat := []
  snap : SMap Snap := []
  /-- by slot, the accumulation as the latest CFG_CLK cycle with a value found it, and what that cycle added (R349) -/
  late : SMap MonLate := []
  deriving DecidableEq, Repr

/-- An alarm occurrence of the present cycle: the entry it went to, its gallery, ID and VALUE (R354). -/
structure AlarmOcc where
  e : Nat
  g : Nat
  id : Nat
  value : Word
  deriving DecidableEq, Repr

/-- A log or trace waiting for the telemetry writer (R355). -/
structure TeleRec where
  log : Bool
  g : Nat
  id : Nat
  ec : Nat
  era : Nat
  value : Word
  deriving DecidableEq, Repr

/-- A gallery's open gap (R356). -/
structure Gap where
  lost : Nat := 0
  firstEC : Nat := 0
  lastEC : Nat := 0
  firstEra : Nat := 0
  lastEra : Nat := 0
  deriving DecidableEq, Repr

/-- Telemetry; the alarm table's words stand with the other table words (R353). -/
structure LogSt where
  queue : List TeleRec := []
  gap : SMap (Option Gap) := []
  cntLog : Nat := 0
  cntTrace : Nat := 0
  cntAlarm : Nat := 0
  /-- alarm entries whose record has not yet been tried, oldest first (R355) -/
  fresh : List Nat := []
  /-- occurrences since the entry's last record (R351) -/
  since : SMap Nat := []
  /-- the CFG_CLK cycle of the latest alarm occurrence, plus one, and the occurrences of that cycle, oldest first (R354) -/
  occCyc : Nat := 0
  occ : List AlarmOcc := []
  deriving DecidableEq, Repr

/-! ### Network ports, classifier and shapers (11) -/

/-- A PTP message an engine sends (R136): time in units of 2^-8 ns, correction in units of 2^-16 ns, requesting port identity, and the
address of a unicast destination. -/
structure PtpOut where
  eng : Nat
  type : Nat
  seq : Nat
  ts : Int := 0
  corr : Int := 0
  req : Nat := 0
  dest : List Byte := []
  /-- one-step Sync: its time is written at the launch (R136) -/
  oneStep : Bool := false
  deriving DecidableEq, Repr

/-- What waits for the launch stamp of a frame that has left: an engine's event message, a copy of a gallery frame of a corridor, or a copy
of an audio frame with its scheduled launch in AT. -/
inductive StampFor where
  | ptp (eng type seq : Nat)
  | gallery (cor : Nat)
  | audio (stream : Nat) (due : Int)
  deriving DecidableEq, Repr

/-- The gallery frame in transmission on a port: its corridor and queue, bytes left including FCS when the fragment began, and of that
fragment the EC of its start, its bytes and the EC at which it and its gap end (R251, R252). -/
structure TxCur where
  cor : Nat
  q : Nat
  left : Nat
  start : Nat
  data : Nat
  done : Nat
  /-- least data of its fragments, by ADD_FRAG as the frame began (R259) -/
  mf : Nat
  deriving DecidableEq, Repr

/-- A network port (R237 to R241, R252). -/
structure NetP where
  pcsLock : Bool := false
  anDone : Bool := false
  localFault : Bool := false
  remoteFault : Bool := false
  speedUnsup : Bool := false
  link : Bool := false
  /-- speed code: 0 1 Gb/s, 1 2.5 Gb/s, 2 5 Gb/s, 3 10 Gb/s -/
  speed : Nat := 0
  /-- STATUS.PREEMPT -/
  preempt : Nat := 0
  /-- verify attempts gone unanswered (R252) -/
  tries : Nat := 0
  /-- MDIO operation in progress: command and write data (R239) -/
  mdio : Option (Word × Word) := none
  rdata : Nat := 0
  drops : Nat := 0
  cnt : SMap Nat := []
  /-- EC of the last receive-error event since the counters were cleared (R241) -/
  rxErr : Option Nat := none
  /-- the frame sent last without FCS, and whether its FCS was inverted (R258) -/
  lastTx : Option (List Byte × Bool) := none
  /-- latest receive stamp of a first fragment's delimiter (R241) -/
  fragRx : Stamp := {}
  /-- PTP messages waiting for the line, oldest first (R250) -/
  ptpQ : List PtpOut := []
  /-- frames launched whose stamps are still to be issued, oldest first (R123) -/
  awaitTx : List StampFor := []
  /-- the port has had a link since reset (R279) -/
  hadLink : Bool := false
  /-- EC at which the line is free, gap included (R251) -/
  busyTo : Nat := 0
  cur : Option TxCur := none
  /-- credit of each queue in kb/s × EC units, and the EC it was reckoned at (R253) -/
  credit : SMap (Int × Nat) := []
  /-- gate control list: the AT instant of its first cycle, entry in force, gates open (R254) -/
  gateFrom : Option Int := none
  gateEntry : Nat := 0
  gateOpen : Nat := 0xFF
  /-- SHP.Pp_STATUS.STALLS and OVERCOMMIT, and Pp_QqCNT -/
  stalls : Nat := 0
  overcommit : Bool := false
  qcnt : SMap Nat := []
  deriving DecidableEq, Repr

/-- The gallery frame record at the head of an OUT corridor (R248, R249): its place and length, the frame as it leaves, ports still to
send on and ports sent on, launch stamps. -/
structure OutHead where
  pos : Nat
  len : Nat
  vif : Nat
  stamp : Bool
  /-- an uncorrectable error was found in the record (R221) -/
  ecc : Bool
  frame : List Byte
  /-- waiting for its release -/
  held : Bool
  /-- EC at which it became eligible -/
  elig : Nat
  ports : Nat
  sent : Nat := 0
  stA : Option Stamp := none
  stB : Option Stamp := none
  deriving DecidableEq, Repr

/-- Network ports, classifier and shapers. -/
structure NetSt where
  port : SMap NetP := []
  /-- CLS.CNTk (R242) -/
  clsCnt : SMap Nat := []
  /-- head records by OUT corridor (R248) -/
  head : SMap (Option OutHead) := []
  /-- SHP.P0_STATUS.REL_EMPTY (R249) -/
  relEmpty : Nat := 0
  deriving DecidableEq, Repr
/-! ### Time triggers and captures (09) -/

/-- TRGn.STATUS.STATE. -/
inductive TrSt where
  | idle | armed | refused
  deriving DecidableEq, Repr

/-- A trigger: its STATUS and LATE registers, with the full count of occurrences (R203, R205). -/
structure Trig where
  st : TrSt := .idle
  outcome : Nat := 0
  refuse : Nat := 0
  k : Nat := 0
  late : Nat := 0
  deriving DecidableEq, Repr

/-- A capture channel (R209, R210). -/
structure Capt where
  new : Bool := false
  overrun : Nat := 0
  ignored : Nat := 0
  timeState : Nat := 0
  seq : Nat := 0
  rec' : List Word := []
  at' : List Word := []
  /-- latest stamp captured -/
  last : Option Stamp := none
  /-- stamps taken and not yet captured, oldest first -/
  queue : List Stamp := []
  deriving DecidableEq, Repr

/-- A level action on a pad: EC of its edge, CORE_CLK cycle and trigger of its fire, the level (R206, R207). -/
structure LevAct where
  edge : Nat
  cyc : Nat
  n : Nat
  high : Bool
  deriving DecidableEq, Repr

/-- The TRG page: triggers, captures and the pads' levels and pulses. -/
structure TrgSt where
  trig : SMap Trig := []
  capt : SMap Capt := []
  /-- level actions of each pad, oldest first; of those whose edge is past the first stands for all before it (R206, R207) -/
  level : SMap (List LevAct) := []
  /-- pulses of each pad: EC of the rising and of the falling edge (R206, R207) -/
  pulse : SMap (List (Nat × Nat)) := []
  deriving DecidableEq, Repr

/-! ### PTP engines and servos (06) -/

/-- A PTP message received and matched to an engine: its bytes from the common header, its receive stamp, its source addresses, MAC first
(R130), and whether its sourcePortIdentity is the PARENT in force when it was classified (R132). -/
structure PtpRx where
  bytes : List Byte
  stamp : Stamp
  src : List Byte
  par : Bool
  deriving DecidableEq, Repr

/-- A Sync received from the parent (R133): sequence, its two-step flag, receive stamp t2, time t1 (2^-8 ns) and correction (2^-16 ns). -/
structure SyncRx where
  seq : Nat
  stamp : Stamp
  t1 : Int
  corr : Int
  deriving DecidableEq, Repr

/-- A peer delay exchange of the engine (R135): its request's stamp t1, then the response's t2, t4 and correction. -/
structure PdelayEx where
  seq : Nat
  t1 : Option Stamp := none
  t2 : Option Int := none
  t4 : Stamp := {}
  corr : Int := 0
  src : Nat := 0
  deriving DecidableEq, Repr

/-- A PTP engine (R130 to R141). -/
structure Ptp where
  /-- STATUS.STATE: 0 DISABLED, 1 LISTENING, 2 RECEIVING, 3 TRANSMITTING, 4 REFUSED -/
  st : Nat := 0
  refuse : Nat := 0
  oneStepRx : Bool := false
  /-- counters: 0 SYNC, 1 FOLLOW_UP, 2 REQ, 3 RESP, 4 NOT_PARENT, 5 OVER_LIMIT, 6 TIMEOUT, 7 SEQ_ERR, 8 INVALID, 9 CORR_FULL -/
  cnt : SMap Nat := []
  meanDelay : Int := 0
  nrr : Int := 0
  /-- messages received and not yet acted on, oldest first -/
  rxQ : List PtpRx := []
  /-- two-step Sync waiting for its Follow_Up -/
  waitFU : Option SyncRx := none
  /-- PARENT before its latest commit, and the CFG_CLK cycle of that commit, plus one (R132) -/
  parOld : Nat := 0
  parCyc : Nat := 0
  /-- last Sync completed, for the delay measurement (R141) -/
  lastSync : Option SyncRx := none
  /-- EC of the last Sync from the parent, and its source address -/
  syncEC : Nat := 0
  parentAddr : List Byte := []
  /-- Delay_Req outstanding: sequence and its stamp t3; the next sequence; EC before which none is sent (R134) -/
  dreq : Option (Nat × Option Stamp) := none
  dreqSeq : Nat := 0
  /-- the Delay_Req before it, unanswered, and the EC at which its successor was sent -/
  dreqPrev : Option (Nat × Option Stamp × Nat) := none
  dreqAt : Option Nat := none
  pd : Option PdelayEx := none
  pdSeq : Nat := 0
  pdAt : Nat := 0
  /-- t3 and t4 of the last peer exchange, for the rate ratio (R135) -/
  pdPrev : Option (Int × Stamp) := none
  /-- requests to answer: identity, sequence, stamp, correction (R136, R137) -/
  answers : List (Nat × Nat × Stamp × Int) := []
  /-- identities of the time-receivers served (R137) -/
  served : List Nat := []
  /-- Pdelay_Resp sent: identity, sequence, the request's correction, stamp once issued, oldest first (R135) -/
  pdAnswers : List (Nat × Nat × Int × Option Stamp) := []
  /-- two-step Syncs sent: sequence, and stamp once issued (R136) -/
  syncOut : List (Nat × Option Stamp) := []
  syncSeq : Nat := 0
  deriving DecidableEq, Repr

/-- A servo (R142 to R150). I is held in units of 2^-48 ÷ 10^9, in which R143 is exact (log entry 21). -/
structure Srv where
  /-- STATUS.STATE: 0 DISABLED, 1 WAIT, 2 FREQ_EST, 3 LOCKING, 4 LOCKED, 5 NO_SYNC -/
  st : Nat := 0
  discarded : Nat := 0
  stage : Nat := 0
  clamped : Bool := false
  theta : Int := 0
  i : Int := 0
  gated : Nat := 0
  clamps : Nat := 0
  samples : Nat := 0
  /-- delay measurements and apparent transits of the window, newest first (R142) -/
  dWin : List Int := []
  qWin : List Int := []
  /-- θ and t1 of the first estimation sample (R145) -/
  first : Option (Int × Int) := none
  /-- consecutive samples above STEP_THRESH, and inside LOCK_THRESH; samples in LOCKED since the last halving -/
  stepRun : Nat := 0
  lockRun : Nat := 0
  narrow : Nat := 0
  /-- θ of a step that is due (R146) -/
  stepDue : Option Int := none
  deriving DecidableEq, Repr

/-! ### Reference selector (07) -/

/-- A reference input (R153 to R157). -/
structure RefIn where
  /-- 0 ABSENT, 1 QUALIFYING, 2 QUALIFIED, 3 WAIT_RESTORE, 4 DISQUALIFIED -/
  st : Nat := 0
  timer : Nat := 0
  /-- consecutive failed checks while QUALIFIED, and the second of the first of them -/
  run : Nat := 0
  failSec : Nat := 0
  lost : Bool := false
  fail : Nat := 0
  changes : Nat := 0
  /-- input rate of the last check (R154) -/
  rate : Option Int := none
  /-- EC of the stamped edges of the last second, newest first, INi_ADJ subtracted -/
  edges : List Int := []
  /-- EC of the last stamped edge or servo sample -/
  last : Option Nat := none
  /-- an edge has come too late for the window of the one before it (R156) -/
  late : Bool := false
  /-- EC of the last edge before that one (R169) -/
  gap : Nat := 0
  /-- EC at which the measurement began or last restarted (R155, R176) -/
  since : Nat := 0
  /-- its settings have changed since the last check, so that the next one fails (R176) -/
  cut : Bool := false
  deriving DecidableEq, Repr

/-- The reference selector (R158 to R175). -/
structure RefSt where
  /-- STATUS.STATE -/
  st : Nat := 0
  sel : Nat := 15
  target : Nat := 15
  retargets : Nat := 0
  faultCause : Nat := 0
  disagree : Bool := false
  allowStep : Bool := false
  inp : SMap RefIn := []
  /-- history, newest second first: AT's mean rate and the mean die temperature in 1/16 °C (R168) -/
  hist : List (Option (Int × Int)) := []
  /-- second of the last check -/
  checkSec : Nat := 0
  /-- the loss instant, in seconds of EC (R169) -/
  lossSec : Nat := 0
  /-- holdover: EC of entry, mean rate, and mean temperature as a sum over a count (R170) -/
  hoEC : Nat := 0
  hoMean : Int := 0
  hoTemp : Int × Nat := (0, 1)
  hoRate : Int := 0
  hoBound : Nat := 0
  holdovers : Nat := 0
  switches : Nat := 0
  /-- the followed input has passed a check in ACQUIRE (R163) -/
  passed : Bool := false
  suspect : Nat := 0
  okRun : Nat := 0
  /-- rate × EC since the last check, and the EC it runs to: views A, B, X and AT (R154, R168) -/
  acc : SMap (Int × Nat) := []
  accFrom : Nat := 0
  /-- servos since the last check: samples, greatest |θ|, and whether out of LOCKED or clamped (R155) -/
  thetaCnt : SMap Nat := []
  thetaMax : SMap Nat := []
  srvBad : SMap Bool := []
  /-- die temperature readings since the last check: sum and count -/
  tempSum : Int := 0
  tempCnt : Nat := 0
  /-- a PPS_IN edge not yet seen by X_TOD, as its EC (R162) -/
  pps : Option Int := none
  /-- edges since the last stamped one, inputs 3 to 7 -/
  div : SMap Nat := []
  /-- the selector has been out of LOCKED since the last check (R168) -/
  unlocked : Bool := true
  /-- updates of view X discarded while FEED is 1; the page has no register that shows them (R113) -/
  discarded : Nat := 0
  /-- the port of input 6 has reported a clock fault since LOS was last judged (R338) -/
  sapFault : Bool := false
  deriving DecidableEq, Repr

/-! ### Media clock synthesizers (08) -/

/-- A synthesizer (R177 to R199). The ramp offset is held in units of 2^-32 ppb and the loop's I and u in units of 2^-24 ppb (log entry 24). -/
structure Mcs where
  /-- STATUS.STATE: 0 OFF, 1 STARTING, 2 ACQUIRING, 3 LOCKED, 4 STOPPING, 5 REFUSED -/
  st : Nat := 0
  refuse : Nat := 0
  band : Nat := 0
  /-- F_MIN and F_MAX in kHz of the band in use, as read at the start (R179) -/
  lim : Nat × Nat := (0, 0)
  /-- MREF_CLK cycles in a row with the phase error inside LOCK_WIN, and outside it (R180) -/
  inWin : Nat := 0
  outWin : Nat := 0
  bypass : Nat := 0
  aligned : Nat := 0
  /-- MREF_CLK absent, and the EC up to which an injected loss of it lasts (R181, R363) -/
  refLoss : Bool := false
  refInj : Nat := 0
  bandLimit : Bool := false
  /-- 0 IDLE, 1 RUNNING, 2 HELD -/
  rampSt : Nat := 0
  seg : Nat := 0
  /-- µs run of the segment, and the offset at its start -/
  elapsed : Nat := 0
  from' : Int := 0
  r : Int := 0
  /-- profile as copied at the start: end offsets in ppb and lengths in µs; END (R187) -/
  prof : List (Int × Nat) := []
  endAct : Nat := 0
  /-- what the EC lacks of the time since the spread's triangle started (R186; a free value at a start) -/
  sscFrom : Nat := 0
  /-- the dither LFSR (R186) -/
  lfsr : Nat := 1
  /-- AT's RATE as last read (R194) -/
  rho : Int := 0
  /-- DISC_STATE: 0 OFF, 1 PULLING, 2 ALIGNED, 3 SUSPENDED, 4 NO_FEEDBACK -/
  disc : Nat := 0
  u : Int := 0
  i : Int := 0
  phi : Int := 0
  inRun : Nat := 0
  missRun : Nat := 0
  /-- EC of the feedback stamp last taken -/
  taken : Option Nat := none
  /-- applied INT and FRAC of the last update, in units of 2^-48 -/
  applied : Nat := 0
  /-- what the modulator takes: the applied frequency with the dither's LSB (R186) -/
  driven : Nat := 0
  unlocks : Nat := 0
  bypasses : Nat := 0
  fbMissed : Nat := 0
  updRefused : Nat := 0
  /-- delay of each output: the steps it moves from, the EC since, and the part of an output period gone then, in 2^-32 (R191) -/
  delay : SMap (Nat × Nat × Nat) := []
  deriving DecidableEq, Repr

/-! ### Audio: channels, routes, ports and streams (12 to 15) -/

/-- A sample that a source channel supplies: its period, its word, and the AT instant it is ready from (R270). -/
structure Samp where
  k : Int
  w : Word
  rdy : Int
  deriving DecidableEq, Repr

/-- A gain ramp (R315): its end gains in units of 2^-22, the periods it has run and its length. -/
structure Ramp where
  g0 : Int := 0
  g1 : Int := 0
  j : Nat := 0
  n : Nat := 0
  deriving DecidableEq, Repr

/-- A contribution (R314): entry index, source and destination channel, FADE in ms of the entry it came from, gain. -/
structure Contr where
  e : Nat
  src : Nat
  dst : Nat
  fade : Nat
  ramp : Ramp
  /-- it is the route of the live bank's entry, not one fading out (R311) -/
  valid : Bool
  deriving DecidableEq, Repr

/-- The destination samples of an evaluated period: word and ready time by channel; an unlisted one is zero, with no requirement. -/
structure EvalPer where
  k : Int
  out : SMap (Word × Int)
  /-- contributions, source and gain, of the destinations that still wait for a source sample of the period (R307) -/
  todo : SMap (List (Nat × Int)) := []
  /-- LEVEL slots that still wait for their channel's sample (R345), and host-read buffers whose slot is not yet written (R225) -/
  lvl : List Nat := []
  hb : List Nat := []
  deriving DecidableEq, Repr

/-- A test generator beyond its registers (R319): the LFSR of its noise; and after a change in a period the words that still hold in it: the period,
its run of AT, CFG and INC. -/
structure Gen where
  lfsr : Nat := 0
  old : Option (Int × Nat × Word × Word) := none
  deriving DecidableEq, Repr

/-- The route engine (R307 to R318). -/
structure RteSt where
  live : Nat := 0
  /-- a pending commit: the AT it may swap from, and whether that is the time of a trigger (R312) -/
  pending : Option (Int × Bool) := none
  refuse : Nat := 0
  fsRefuse : Nat := 0
  /-- STATUS.FS_APPLIED (R318) -/
  fs : Nat := 1
  need : Nat := 0
  infoE : Nat := 0
  infoD : Nat := 0xFFFF
  swapPeriod : Nat := 0
  swaps : Nat := 0
  refused : Nat := 0
  drops : Nat := 0
  sat : Nat := 0
  /-- contributions, by entry index rising -/
  con : List Contr := []
  /-- the contributions evaluated in the latest period, at their gains in it (R314) -/
  prev : List Contr := []
  fading : Bool := false
  /-- live entries written during a crossfade (R311) -/
  held : List Nat := []
  /-- period evaluated last, and its run of AT -/
  last : Option (Int × Nat) := none
  /-- evaluated periods, newest first, as many as a stream's buffer holds (R278) -/
  hist : List EvalPer := []
  gen : SMap Gen := []
  deriving DecidableEq, Repr

/-- A frame of a serial audio port as it runs (R320 to R328): from its frame edge on, the index of the last sampling edge taken, the newest bits
of DI, and what the frame edge settled: the sample period it maps to, its phase, whether the port takes its input and sends fresh samples, the
gains, and the layout. -/
structure SapRun where
  edge : Nat
  i : Nat := 0
  bits : List Bool := []
  /-- the opposite FS edge has come; no clock fault in the frame so far; a sample was not ready in it -/
  second : Bool := false
  ok : Bool := true
  late : Bool := false
  k : Option Int := none
  phi : Int := 0
  live : Bool := false
  inp : Bool := false
  out : Bool := false
  drives : Bool := false
  gin : Int := 0
  gout : Int := 0
  conv : Bool := true
  fmt : Word := 0
  len : Nat := 64
  slots : Nat := 0
  deriving DecidableEq, Repr

/-- A serial audio port (R320 to R342). -/
structure SapS where
  /-- STATUS.STATE: 0 IDLE, 1 ADMITTING, 2 WAIT_START, 3 STARTING, 4 RUNNING, 5 STOPPING, 6 POSTROLL, 7 REFUSED -/
  st : Nat := 0
  refuse : Nat := 0
  /-- STATUS.CLK: 0 GOOD, 1 STOP, 2 GLITCH, 3 RATE_CHANGED -/
  clk : Nat := 1
  cause : Nat := 0
  /-- admission fields as sampled (R329) -/
  slots : Nat := 0
  bufLog : Nat := 0
  gate : Bool := false
  pad : Nat := 0
  inG : Ramp := {}
  outG : Ramp := {}
  /-- the sample period that the gains have run to (R333, R337) -/
  gk : Option Int := none
  /-- a fault has the input gain, and the output gain, falling or held at 0 (R335, R336) -/
  faultI : Bool := false
  faultO : Bool := false
  phi : Int := 0
  /-- Φ0 (R326), and the period of the last frame while the clock is good (R327) -/
  phi0 : Option Int := none
  lastK : Option Int := none
  pos : Int := 0
  /-- consecutive good frames; consecutive frames outside and inside FS_TOL (R330, R336) -/
  good : Nat := 0
  outTol : Nat := 0
  inTol : Nat := 0
  period : Nat := 0
  bclk : Nat := 0
  underruns : Nat := 0
  overruns : Nat := 0
  clkFaults : Nat := 0
  notReady : Nat := 0
  /-- start period; none while the group start waits for its first frame edge (R331) -/
  k0 : Option Int := none
  /-- stopped by a group stop (R332); period at which POSTROLL began -/
  byGroup : Bool := false
  rollK : Int := 0
  /-- an admission field changed in STOPPING or POSTROLL: readmit at IDLE -/
  readmit : Bool := false
  /-- ENA was cleared in ADMITTING: to IDLE when the admission passes (R329) -/
  quit : Bool := false
  /-- first period that begins LEAD periods after the admission (R329, R334) -/
  leadK : Int := 0
  /-- period boundary of a group stop that is due (R332) -/
  stopAt : Option Int := none
  /-- PREROLL good frames are to be counted before the gains return (R336) -/
  needPre : Bool := false
  /-- samples last sent in the output slots, and the slots' bits as DO drives them, by slot -/
  sent : SMap Word := []
  dout : SMap Nat := []
  /-- EC of the last edge on BCLK, and of the last on which DO changes; FS was at its active level at the last sampling edge (R320) -/
  lastEdge : Nat := 0
  drv : Nat := 0
  fsOn : Bool := false
  /-- FMT, FRAME_LEN, ROLL and FS_TOL as the present frame has them (R341) -/
  fmt : Word := 0x10002
  len : Nat := 64
  roll : Word := 0x10100800
  tol : Nat := 1000
  /-- the frame in progress, and the one before it while slots of it still run (R322) -/
  cur : Option SapRun := none
  tail : Option SapRun := none
  /-- frames that POINT 2 still has read outside FS_TOL, and the EC to which POINT 0 holds the clock stopped (R342) -/
  injRate : Nat := 0
  injStop : Nat := 0
  deriving DecidableEq, Repr

/-- A group start that waits for a frame edge (R331): the port whose edge it is, the EC of the start, and the ports that it starts. -/
structure SapStart where
  lead : Nat
  ec : Nat
  ms : List Nat
  deriving DecidableEq, Repr

/-- The start groups (R331): groups started, B(k_g) of each as ST32, and the group starts that wait for a frame edge. -/
structure SapgSt where
  started : Nat := 0
  period : SMap Nat := []
  starting : SMap (List SapStart) := []
  deriving DecidableEq, Repr

/-- A gain over sample periods (R281, R303): from period `k` on it is `g + s × (periods run)`, held between 0 and 1. -/
structure Fade where
  k : Int := 0
  g : Rat := 1
  s : Rat := 0
  deriving DecidableEq, Repr

/-- A frame of a transmit stream that its first copy has built (R276): its payload, and the entry and phases its headers are made of. -/
structure TxBuilt where
  f : Int
  pay : List Byte
  adm : List Word
  phase : SMap Int
  deriving DecidableEq, Repr

/-- A transmit stream (R267 to R281). -/
structure TxS where
  /-- STATE: 0 IDLE, 1 ADMITTING, 2 RUNNING, 3 DRAINING, 4 REFUSED -/
  st : Nat := 0
  reason : Nat := 0
  /-- ports whose phase left out a channel with no running source (R272) -/
  part : Nat := 0
  phase : SMap Int := []
  notReady : Nat := 0
  skipped : Nat := 0
  /-- words 0 to 11 of the entry it was admitted with; the gallery that enabled it -/
  adm : List Word := []
  g : Nat := 7
  /-- first frame after the admission; next frame of each port -/
  f0 : Int := 0
  next : SMap Int := []
  fade : Fade := {}
  readmit : Bool := false
  /-- ENA was committed as 0 in ADMITTING: to IDLE when the admission passes (R280) -/
  quit : Bool := false
  /-- EC at which its schedule last moved other than with time: its admission, a step of AT, a new phase (R272, R277) -/
  moved : Nat := 0
  /-- previous sample of each channel (R273) -/
  prev : List Word := []
  /-- frames built and not yet behind on every port (R276), oldest first -/
  built : List TxBuilt := []
  /-- EC at which the last byte of its latest frame has left, the latest of the ports (R280) -/
  offWire : Nat := 0
  deriving DecidableEq, Repr

/-- The TXE page's own state. -/
structure TxeSt where
  lastS : Nat := 0
  lastG : Nat := 7
  lastR : Nat := 0
  notReady : Nat := 0
  skipped : Nat := 0
  linkSkip : SMap Nat := []
  attn : SMap Bool := []
  /-- the CFG_CLK cycle in which each ATTN bit was last set, plus one (R44) -/
  attnCyc : SMap Nat := []
  deriving DecidableEq, Repr

/-- A slot of a presentation buffer (R288): its period, whether it has been presented, its words by stream channel, and whether channel status was
read as they were taken (R297, R298). -/
structure RxSlot where
  k : Int
  used : Bool
  ws : List Word
  cs : Bool := false
  deriving DecidableEq, Repr

/-- A receive stream (R286 to R303). -/
structure RxS where
  st : Nat := 0
  reason : Nat := 0
  adm : List Word := []
  /-- the entry whose live fields are in force: the latest committed with the structural fields it was admitted with (R303) -/
  ent : List Word := []
  g : Nat := 7
  flowing : Bool := false
  naActive : Bool := false
  lastSeq : Nat := 0
  transit : SMap Int := []
  taken : SMap Nat := []
  gap : SMap Nat := []
  /-- sequence of the last copy that passed R284 on each port -/
  seq : SMap (Option Nat) := []
  late : Nat := 0
  early : Nat := 0
  lost : Nat := 0
  dup : Nat := 0
  formErr : Nat := 0
  concealed : Nat := 0
  margin : SMap Int := []
  slots : List RxSlot := []
  /-- last sample period taken, none since admission (R284) -/
  lastM : Option Int := none
  /-- period presented last and its run of AT; periods presented since the admission (R303) -/
  shown : Option (Int × Nat) := none
  pres : Nat := 0
  /-- period in which a copy was taken last and its run of AT; periods that have begun since (R294) -/
  took : Option (Int × Nat) := none
  idle : Nat := 0
  /-- consecutive unfilled periods; the ramp-in step; last presented unconcealed words (R292, R293) -/
  run : Nat := 0
  ramp : Nat := 0
  good : List Word := []
  /-- matches of R296 by pair; channel-status NA by channel; block start of each pair in the last period (R297) -/
  match' : SMap (List Int) := []
  csNa : SMap Bool := []
  csB : SMap Bool := []
  /-- some channel carries NA in the last period by its word or its channel status -/
  naWord : Bool := false
  fade : Fade := {}
  readmit : Bool := false
  /-- ENA was committed as 0 in ADMITTING: to IDLE when the admission passes (R302) -/
  quit : Bool := false
  deriving DecidableEq, Repr

/-- The RXE page's own state. -/
structure RxeSt where
  lastS : Nat := 0
  lastG : Nat := 7
  lastR : Nat := 0
  late : Nat := 0
  lost : Nat := 0
  eraDrop : Nat := 0
  attn : SMap Bool := []
  /-- the CFG_CLK cycle in which each ATTN bit was last set, plus one (R44) -/
  attnCyc : SMap Nat := []
  deriving DecidableEq, Repr


/-! ### The device -/

/-- What a host asks of a block that QUIET gates: SAPn.CTRL, with the ENA it writes; a group start or stop; an entry of a stream table, by its gallery; a
host buffer's CFG (R374). -/
inductive Owed where
  | sap (n : Nat) (set : Option Bool)
  | group (stop : Bool) (w : Word)
  | tx (g s : Nat)
  | rx (g s : Nat)
  | hb (b : Nat)
  deriving DecidableEq, Repr

/-- Whether it reads what it acts on when it acts, so that one is as good as many. -/
def Owed.once : Owed → Bool
  | .tx _ _ | .rx _ _ | .hb _ => true
  | .sap _ _ | .group _ _ => false

/-- Everything inside the core, and the Foyer with it. -/
structure Dev where
  /-- registers by BAR0 address, and the words of table space; an unlisted one holds its reset value -/
  regs : SMap Word := []
  /-- PW registers as their clock domain holds them (R51) -/
  eff : SMap Word := []
  /-- addresses of words whose stored parity bit is wrong (R53, R365) -/
  parityBad : List Nat := []
  /-- next word of the register scrub (R53) -/
  scrubAt : Nat := 0
  page : SMap PageSt := []
  /-- the fault lines, by PAGE_STATUS bit, and the PHY interrupt lines, by 70 and 71 (R84) -/
  lines : SMap LineSt := []
  /-- what hosts asked of the gated blocks in QUIET, oldest first (R374) -/
  owed : List Owed := []
  /-- the CFG_CLK cycle in which the device last set a word that hosts also write, by BAR0 address, plus one (R44) -/
  hwSet : SMap Nat := []
  posted : SMap (Option Posted) := []
  sealed : Bool := false
  /-- read shadows, by gallery and group address (R47) -/
  rshadow : SMap (List Word) := []
  /-- write shadows, by gallery and group address: word index and value (R48) -/
  wshadow : SMap (SMap Word) := []
  /-- table write shadows, by gallery and region: word address and value (R49) -/
  tshadow : SMap (SMap Word) := []
  /-- registers held per gallery, by gallery and address (R235) -/
  perGal : SMap Word := []
  gal : GalSt := {}
  hif : HifSt := {}
  evc : EvcSt := {}
  pwr : PwrSt := {}
  clk : ClkSt := {}
  tb : TbSt := {}
  flt : FltSt := {}
  lnd : LndSt := {}
  mon : MonSt := {}
  log : LogSt := {}
  net : NetSt := {}
  trg : TrgSt := {}
  ptp : SMap Ptp := []
  srv : SMap Srv := []
  ref : RefSt := {}
  mcs : SMap Mcs := []
  /-- first stamp of the present millisecond at each MCLKO pad's feedback channel (R195) -/
  fb : SMap (Option Stamp) := []
  /-- samples that the source channels have supplied, newest first -/
  chan : SMap (List Samp) := []
  rte : RteSt := {}
  sap : SMap SapS := []
  sapg : SapgSt := {}
  tx : SMap TxS := []
  txe : TxeSt := {}
  rx : SMap RxS := []
  rxe : RxeSt := {}
  /-- OTP.STATUS: regions whose CRC passed, bits 1 to 5 (R387) -/
  otpOk : Nat := 0x3E
  /-- rails and bank supplies out of tolerance as they are now: bit 0 the analogue rail, bits 1 to 6 as in FLT.STATUS.SUPPLY (R366, R370, R396) -/
  rails : Nat := 0
  /-- PHY interrupt pads as they are now: bit 0 NA_INT_N asserted, bit 1 NB_INT_N (R240) -/
  phyPads : Nat := 0
  /-- the MODEL's own field: how many free values have been drawn (log entry 3) -/
  freeCtr : Nat := 0
  deriving DecidableEq, Repr

/-- The machine: commands waiting, what stands outside the core, the Landing's bytes and the device. -/
structure State where
  /-- commands waiting, first in first out -/
  pending : List Instr
  root : Root
  /-- bytes of the Landing by physical address (R212, R213); an unlisted byte is 0 (R214, log entry 10) -/
  mem : List Host.Cell
  dev : Dev
  deriving DecidableEq, Repr

/-- Why a step stops with a fault: no command of this device does. -/
inductive Fault where
  /-- never raised: the spec gives every command an effect, and every refused access a report (safe) -/
  | none
  deriving DecidableEq, Repr

/-- Why a step is refused. -/
inductive Refusal where
  /-- raised by a command whose meaning is not written yet (safe: the machine stops) -/
  | notModelled (mnemonic : String)
  deriving DecidableEq, Repr

/-- What stands outside the core after reset: bring-up step 7 completed in RUN, house gallery 0, a blank OTP whose CRC words are right
(log entry 5). -/
def Root.reset : Root :=
  { ec := 0, power := .run, step := 7, quietReq := none, houseSel := false, xoSel := false, qspiMode := false, mismatch := false,
    en := true,
    otp := [(0x002, 0x0C), (0x003, 0xB1), (0x7F0, 0x7095D489), (0x7F1, 0x758D6336), (0x7F2, 0xB2AA7578), (0x7F3, 0xC2A8FA9D), (0x7F4, 0xC71C0011)] }

/-- The machine right after reset (R381 step 7, R385): nothing waiting, every register at its reset value, the Landing zero. The EC has
restarted, so that 96 ERA_CHANGED and 97 TIME_STATE_CHANGED are signalled (R110, R117). -/
def State.reset : State :=
  { pending := [], root := Root.reset, mem := [],
    dev := { evc := { src := [(96, { pulses := 1, cyc := 2 }), (97, { pulses := 1, cyc := 2 })] } } }

end Sys2Proof.Machine
end

