-- ==== Sys2Proof/Machine/Ops.lean ====
section
/-! DEFINITION. The named operations every meaning is made of: sparse arrays, registers, ownership, events and the ways a command acts
on the state. -/

namespace Sys2Proof.Machine

/-! ### Sorting -/

/-- Insert before the first element that does not come earlier. -/
def insertBy {α : Type} (le : α → α → Bool) (a : α) : List α → List α
  | [] => [a]
  | b :: l => if le a b then a :: b :: l else b :: insertBy le a l

/-- The list in order, equals as they stood. -/
def sortBy {α : Type} (le : α → α → Bool) : List α → List α
  | [] => []
  | a :: l => insertBy le a (sortBy le l)

/-- Numbers ascending. -/
def sortNat (l : List Nat) : List Nat := sortBy (fun a b => decide (a ≤ b)) l

/-! ### Sparse arrays -/

/-- Value at key `k`; `f` says what an unlisted key holds. -/
def sget {α : Type} (f : Nat → α) : SMap α → Nat → α
  | [], k => f k
  | (k', v) :: t, k => if k = k' then v else sget f t k

/-- List `v` at key `k`, keys rising. -/
def sput {α : Type} (k : Nat) (v : α) : SMap α → SMap α
  | [] => [(k, v)]
  | (k', v') :: t => if k < k' then (k, v) :: (k', v') :: t else if k = k' then (k, v) :: t else (k', v') :: sput k v t

/-- Drop key `k`. -/
def sdel {α : Type} (k : Nat) : SMap α → SMap α
  | [] => []
  | (k', v') :: t => if k = k' then sdel k t else (k', v') :: sdel k t

/-- Set key `k` to `v`, keeping the canonical form: no entry equal to what an unlisted key holds. -/
def sset {α : Type} [DecidableEq α] (f : Nat → α) (m : SMap α) (k : Nat) (v : α) : SMap α :=
  if v = f k then sdel k m else sput k v m

/-- Change every listed value, dropping those that become equal to the unlisted value `z`. -/
def smap {α : Type} [DecidableEq α] (z : α) (f : α → α) (m : SMap α) : SMap α :=
  m.foldr (fun p l => sset (fun _ => z) l p.1 (f p.2)) []

/-- Keys strictly rising from `lo`, no entry equal to the unlisted value: the canonical form. -/
def swf {α : Type} [DecidableEq α] (f : Nat → α) : Nat → SMap α → Bool
  | _, [] => true
  | lo, (k, v) :: t => decide (lo ≤ k) && decide (v ≠ f k) && swf f (k + 1) t

/-- Arrays whose unlisted entries are 0. -/
def nget (m : SMap Nat) (k : Nat) : Nat := sget (fun _ => 0) m k
/-- Set an entry of such an array. -/
def nput (m : SMap Nat) (k v : Nat) : SMap Nat := sset (fun _ => 0) m k v
/-- Arrays of flags, unlisted ones false. -/
def bget (m : SMap Bool) (k : Nat) : Bool := sget (fun _ => false) m k
/-- Set a flag. -/
def bput (m : SMap Bool) (k : Nat) (v : Bool) : SMap Bool := sset (fun _ => false) m k v
/-- Arrays of words, unlisted ones zero. -/
def wget (m : SMap Word) (k : Nat) : Word := sget (fun _ => 0) m k
/-- Set a word. -/
def wput (m : SMap Word) (k : Nat) (v : Word) : SMap Word := sset (fun _ => 0) m k v
/-- Arrays of lists, unlisted ones empty. -/
def lget {α : Type} (m : SMap (List α)) (k : Nat) : List α := sget (fun _ => []) m k
/-- Set a list. -/
def lput {α : Type} [DecidableEq α] (m : SMap (List α)) (k : Nat) (v : List α) : SMap (List α) := sset (fun _ => []) m k v

/-! ### The Landing's bytes -/

/-- A byte of the Landing; an unlisted one is 0 (R214). -/
def memByte (m : List Host.Cell) (a : Nat) : BitVec 8 := sget (fun _ => 0) m a

/-- Write bytes from address `a` up. -/
def memWrite (m : List Host.Cell) (a : Nat) : List Byte → List Host.Cell
  | [] => m
  | b :: t => memWrite (sset (fun _ => 0) m a b) (a + 1) t

/-- Read `n` bytes from address `a` up. -/
def memRead (m : List Host.Cell) (a n : Nat) : List Byte := (List.range n).map fun i => memByte m (a + i)

/-- The canonical form of the Landing's bytes. -/
abbrev memWf (m : List Host.Cell) : Prop := swf (fun _ => (0 : BitVec 8)) 0 m = true

/-- A write a command makes to the Landing: address and bytes. -/
abbrev MemWr := Nat × List Byte

/-- Make the writes in order. -/
def memWrites (m : List Host.Cell) (l : List MemWr) : List Host.Cell := l.foldl (fun m w => memWrite m w.1 w.2) m

/-! ### The commands' ways of acting -/

/-- The core runs: RUN or QUIET (R373). Between a commit and the core's loss, and while it wakes, no command of the core acts (log entry 11). -/
def Root.coreOn (r : Root) : Bool := match r.power with | .run | .quiet => true | _ => false

/-- RUN: the datapath clocks are not gated (R374). -/
def Root.running (r : Root) : Bool := match r.power with | .run => true | _ => false

/-- A command that changes the device alone, while the core runs. -/
def onDev (f : Root → Dev → Dev) (s : State) : Host.Outcome State Fault Refusal :=
  if s.root.coreOn then .next { s with dev := f s.root s.dev } else .next s

/-- A command that reads the Landing and changes the device. -/
def onDevMem (f : Root → List Host.Cell → Dev → Dev) (s : State) : Host.Outcome State Fault Refusal :=
  onDev (fun r d => f r s.mem d) s

/-- A command that changes the device and writes the Landing. -/
def onMem (f : Root → List Host.Cell → Dev → Dev × List MemWr) (s : State) : Host.Outcome State Fault Refusal :=
  if s.root.coreOn then
    let p := f s.root s.mem s.dev
    .next { s with dev := p.1, mem := memWrites s.mem p.2 }
  else .next s

/-- A command of the datapath, which QUIET gates (R374). -/
def onRun (f : Root → Dev → Dev) (s : State) : Host.Outcome State Fault Refusal :=
  if s.root.running then .next { s with dev := f s.root s.dev } else .next s

/-- A datapath command that writes the Landing. -/
def onRunMem (f : Root → List Host.Cell → Dev → Dev × List MemWr) (s : State) : Host.Outcome State Fault Refusal :=
  if s.root.running then
    let p := f s.root s.mem s.dev
    .next { s with dev := p.1, mem := memWrites s.mem p.2 }
  else .next s

/-! ### Registers -/

/-- A register as it is stored. -/
def Dev.reg (d : Dev) (b : Blk) (o : Nat) : Word := sget regReset d.regs (b.addr o)

/-- Bits of a stored register. -/
def Dev.rf (d : Dev) (b : Blk) (o hi lo : Nat) : Nat := fld (d.reg b o) hi lo

/-- One bit of a stored register. -/
def Dev.rb (d : Dev) (b : Blk) (o i : Nat) : Bool := bitOf (d.reg b o) i

/-- Store a word at an address; it gets fresh parity (R53, R54). -/
def Dev.setAddr (d : Dev) (a : Nat) (w : Word) : Dev :=
  { d with regs := sset regReset d.regs a w, parityBad := d.parityBad.filter (· != a) }

/-- Store a register. -/
def Dev.setReg (d : Dev) (b : Blk) (o : Nat) (w : Word) : Dev := d.setAddr (b.addr o) w

/-- A PW register as its clock domain holds it (R51). -/
def Dev.pwv (d : Dev) (b : Blk) (o : Nat) : Word := sget regReset d.eff (b.addr o)

/-- Bits of a PW register as its block uses it. -/
def Dev.pf (d : Dev) (b : Blk) (o hi lo : Nat) : Nat := fld (d.pwv b o) hi lo

/-- Set a PW register in its clock domain. -/
def Dev.setPwv (d : Dev) (b : Blk) (o : Nat) (w : Word) : Dev := { d with eff := sset regReset d.eff (b.addr o) w }

/-- Word `i` of entry `e` of a table region. -/
def Dev.tw (d : Dev) (t : Tbl) (e i : Nat) : Word := sget regReset d.regs (t.addr e i)

/-- Bits of a table word. -/
def Dev.tf (d : Dev) (t : Tbl) (e i hi lo : Nat) : Nat := fld (d.tw t e i) hi lo

/-- Store a table word. -/
def Dev.setTw (d : Dev) (t : Tbl) (e i : Nat) (w : Word) : Dev := d.setAddr (t.addr e i) w

/-- Key of a per-gallery item. -/
def galKey (g a : Nat) : Nat := g * 0x200000 + a

/-- A register that each gallery has a copy of (R235). -/
def Dev.own (d : Dev) (b : Blk) (o g : Nat) : Word := wget d.perGal (galKey g (b.addr o))

/-- Store a gallery's own copy. -/
def Dev.setOwn (d : Dev) (b : Blk) (o g : Nat) (w : Word) : Dev :=
  { d with perGal := wput d.perGal (galKey g (b.addr o)) w, parityBad := d.parityBad.filter (· != b.addr o) }

/-! ### Free values -/

/-- The next free value (log entry 3). -/
def Dev.free (d : Dev) : Nat := Config.freeNat d.freeCtr

/-- The device after a free value is drawn. -/
def Dev.drew (d : Dev) : Dev := { d with freeCtr := d.freeCtr + 1 }

/-! ### Time -/

/-- EC units in a CFG_CLK cycle of 10 ns (R13). -/
def cfgUnits : Nat := 2560

/-- EC units in a nanosecond. -/
def nsUnits : Nat := 256

/-- The EC counts 64 bits (R108). -/
def ecMod : Nat := 2 ^ 64

/-- V(e) of a view (R111): nearest unit, halves towards plus infinity. -/
def View.val (v : View) (e : Int) : Int :=
  let x := e - v.anchorEC
  v.anchorT + x + rdiv (x * v.rate) (2 ^ 48)

/-- AT at the present EC. -/
def Dev.atNow (d : Dev) (r : Root) : Int := d.tb.at'.val r.ec

/-! ### Events (R83, R84) -/

/-- One source. -/
def Dev.src (d : Dev) (n : Nat) : Src := sget (fun _ => {}) d.evc.src n

/-- Set a source. -/
def Dev.setSrc (d : Dev) (n : Nat) (x : Src) : Dev := { d with evc := { d.evc with src := sset (fun _ => {}) d.evc.src n x } }

/-- The CFG_CLK cycle of the present EC. -/
def Root.cyc (r : Root) : Nat := r.ec / cfgUnits

/-- Raise a source line for one CFG_CLK cycle. Pulses of one cycle are one, and a pulse in the cycle after another holds the line at 1, so that
it gives no edge of its own (R84). -/
def raise (r : Root) (n : Nat) (d : Dev) : Dev :=
  let x := d.src n
  let c := r.cyc + 2
  if x.cyc = c then d else d.setSrc n { x with pulses := if x.cyc + 1 = c then x.pulses else x.pulses + 1, cyc := c }

/-- Raise a source line when a condition holds. -/
def raiseIf (c : Bool) (r : Root) (n : Nat) (d : Dev) : Dev := if c then raise r n d else d

/-! ### The partition (R71, R72) -/

/-- The house gallery (R71). -/
def Root.house (r : Root) : Nat := if r.houseSel then 4 else 0

/-- Resource codes of the partition (R72). -/
inductive Res where
  | page | chNetRx | chNetTx | chHostW | chHostR | txStream | rxStream | corridor | sap | monSlot | trgSlot | evtSource | vif | route
  | flow | generator | aptLimit
  deriving DecidableEq, Repr

/-- Code and element count of a resource (R72). -/
def Res.info : Res → Nat × Nat
  | .page => (0x01, 128) | .chNetRx => (0x02, 64) | .chNetTx => (0x03, 64) | .chHostW => (0x04, 64) | .chHostR => (0x05, 64)
  | .txStream => (0x06, 64) | .rxStream => (0x07, 64) | .corridor => (0x08, 256) | .sap => (0x09, 32) | .monSlot => (0x0A, 64)
  | .trgSlot => (0x0B, 80) | .evtSource => (0x0C, 512) | .vif => (0x0D, 8) | .route => (0x0E, 64) | .flow => (0x0F, 64)
  | .generator => (0x10, 16) | .aptLimit => (0x11, 6)

/-- Every resource. -/
def Res.all : List Res :=
  [.page, .chNetRx, .chNetTx, .chHostW, .chHostR, .txStream, .rxStream, .corridor, .sap, .monSlot, .trgSlot, .evtSource, .vif, .route,
   .flow, .generator, .aptLimit]

/-- Owner of an element of the partition, 7 none; an element never written names the house gallery (R72). -/
def owner (r : Root) (d : Dev) (res : Res) (i : Nat) : Nat :=
  let v := sget (fun _ => 8) d.gal.part (res.info.1 * 512 + i)
  if v = 8 then r.house else v

/-- Aperture limit of a gallery in treads; larger values act as 32,768 (R72). -/
def aptLimit (d : Dev) (g : Nat) : Nat := min (sget (fun _ => 0x8000) d.gal.aptLimit g) 32768

/-- The steward of a page, 7 none (R33, R72, R76). -/
def steward (r : Root) (d : Dev) (b : Blk) : Nat :=
  match b.cls' with
  | .house => r.house
  | .gallery g => g
  | .claimed i => sget (fun _ => 7) d.gal.holder i
  | .assigned => owner r d .page b.page
  | .sapElem n => owner r d .sap n

/-! ### Network ports -/

/-- A network port. -/
def Dev.netp (d : Dev) (p : Nat) : NetP := sget (fun _ => {}) d.net.port p

/-- Change the network state. -/
def Dev.netMap (d : Dev) (f : NetSt → NetSt) : Dev := { d with net := f d.net }

/-- Set a port. -/
def Dev.setNetp (d : Dev) (p : Nat) (x : NetP) : Dev := d.netMap fun n => { n with port := sset (fun _ => {}) n.port p x }

/-! ### Power pads that follow the state -/

/-- PGOOD released: RUN or QUIET with every rail in regulation (R370). -/
def pgood (r : Root) (d : Dev) : Bool := r.coreOn && d.rails % 8 == 0

/-- Bank supply A to D (0 to 3) is below its undervoltage level: its inputs read 0 and its outputs are not driven (R396). -/
def bankDown (d : Dev) (b : Nat) : Bool := d.rails / 2 ^ (3 + b) % 2 == 1

/-- V33_OUT on (R371): with RST_N held low bring-up step 2 stays complete (R384), and a wake from DOZE ends after V33_CTRL is restored (R379);
the model keeps the output on and as in DOZE there (DEDUCED, log entry 14). -/
def v33On (r : Root) (d : Dev) : Bool :=
  match r.power with
  | .run | .quiet | .entering _ | .rstHeld => true
  | .doze | .waking true => d.pf .pwr 0x058 0 0 == 1
  | _ => false

end Sys2Proof.Machine
end

