-- ==== Sys2Proof/Machine/Flags.lean ====
section
/-! DEFINITION. The flags a register page keeps: fault bits, the captured fault, BUSY, the injection fields and the event lines. -/

namespace Sys2Proof.Machine

/-! ### Fault capture (R41, R42) -/

/-- The kinds of PAGE_FAULT_ADDR.KIND. -/
inductive FaultKind where
  | regParity | tableParity | lockViol | notSteward | outOfPartition | accessSize | reservedPage | postDrop | tableTorn
  deriving DecidableEq, Repr

/-- KIND code. -/
def FaultKind.code : FaultKind → Nat
  | .regParity => 1 | .tableParity => 2 | .lockViol => 3 | .notSteward => 4 | .outOfPartition => 5 | .accessSize => 6
  | .reservedPage => 7 | .postDrop => 8 | .tableTorn => 9

/-- The PAGE_STATUS bit that a kind sets. -/
def FaultKind.bit : FaultKind → Nat
  | .regParity | .tableParity => 2
  | .lockViol => 3
  | .notSteward | .outOfPartition | .accessSize | .reservedPage => 4
  | .postDrop => 1
  | .tableTorn => 5

/-- Fault state of a page. -/
def Dev.pg (d : Dev) (b : Blk) : PageSt := sget (fun _ => {}) d.page b.page

/-- Set it. -/
def Dev.setPg (d : Dev) (b : Blk) (x : PageSt) : Dev := { d with page := sset (fun _ => {}) d.page b.page x }

/-- PAGE_FAULT_ADDR.VALID. -/
def PageSt.valid (x : PageSt) : Bool := bitOf x.cap 28

/-- The sources whose line is a level over all pages, with their PAGE_STATUS bit (R42). -/
def faultSources : List (Nat × Nat) := [(2, 3), (3, 4), (4, 1), (5, 5), (480, 2)]

/-- Level of a fault event's line: the OR of a PAGE_STATUS bit over all pages (R42). -/
def faultLine (d : Dev) (bit : Nat) : Bool := d.page.any fun p => nbit p.2.bits bit

/-- History of a level line. -/
def Dev.line (d : Dev) (k : Nat) : LineSt := sget (fun _ => {}) d.lines k

/-- Line `k` moves from level `was` to `is`: a rise in a later cycle than the fall finds that the line has read 0 for a whole cycle, one in the
cycle of the fall does not, since a line is sampled at the end of the cycle (R84). -/
def lineMove (r : Root) (k : Nat) (was is : Bool) (d : Dev) : Dev :=
  let x := d.line k
  if was == is then d
  else { d with lines := sset (fun _ => {}) d.lines k
                  (if was then { x with fell := r.cyc + 1 } else if x.fell = r.cyc + 1 then x else { x with low := true }) }

/-- The bits of PAGE_STATUS under whose faults a page's line stands. -/
def linesMove (r : Root) (o d : Dev) : Dev :=
  faultSources.foldl (fun e p => lineMove r p.2 (faultLine o p.2) (faultLine d p.2) e) d

/-- The faults of the present cycle on a page, with its bits before them. -/
def PageSt.cycle (r : Root) (x : PageSt) : List FaultSet × Nat := if x.setCyc = r.cyc + 1 then (x.sets, x.before) else ([], x.bits)

/-- A fault on a page by gallery `g` (7: the hardware) at the word of address `a`: its bit is set, and the first while VALID is 0 is captured (R38,
R41). The page notes the faults of the cycle, each with the capture it would leave (R44). -/
def fault (r : Root) (b : Blk) (k : FaultKind) (g a : Nat) (d : Dev) : Dev :=
  let x := d.pg b
  let f : FaultSet := { bit := k.bit, who := g, cap := wd (g * 2 ^ 29 + 2 ^ 28 + k.code * 2 ^ 24 + a / 4 * 4 % 2 ^ 21) }
  let c := x.cycle r
  linesMove r d (d.setPg b { bits := nset x.bits k.bit true, cap := if x.valid then x.cap else f.cap,
                             setCyc := r.cyc + 1, sets := c.1 ++ [f], before := c.2 })

/-- The faults that a W1C write by gallery `g` finds set by others in its own CFG_CLK cycle, which come after the write (R44). Two accesses of one
gallery never share a cycle (log entry 30). -/
def PageSt.later (r : Root) (g : Nat) (x : PageSt) : List FaultSet := (x.cycle r).1.filter (·.who != g)

/-- Whether a W1C write by gallery `g` leaves a fault bit set though it writes 1. -/
def PageSt.survives (r : Root) (g : Nat) (x : PageSt) (bit : Nat) : Bool := (x.later r g).any (·.bit == bit)

/-- W1C clear of fault bits by gallery `g`; VALID returns to 0 when bits [5:1] are all clear (R41). Of the cycle's faults by others the write is first:
they stand after it, and the first is captured where the write left no bit (R44). -/
def clearFaults (r : Root) (g : Nat) (b : Blk) (w : Word) (d : Dev) : Dev :=
  let x := d.pg b
  let c := x.cycle r
  let late := x.later r g
  let left := ((List.range 5).map fun i =>
    b2n ((nbit c.2 (i + 1) || c.1.any fun f => f.who == g && f.bit == i + 1) && !bitOf w (i + 1)) * 2 ^ (i + 1)).sum
  let cap := if left ≠ 0 then x.cap else match late.head? with
    | some f => f.cap
    | none => x.cap &&& ~~~(wd (2 ^ 28))
  linesMove r d (d.setPg b { x with bits := late.foldl (fun n f => nset n f.bit true) left, cap := cap, sets := late, before := left })

/-! ### Posted writes (R51, R52) -/

/-- The posted write in transit on a page. -/
def Dev.post (d : Dev) (b : Blk) : Option Posted := sget (fun _ => none) d.posted b.page

/-- PAGE_STATUS.BUSY (R52). -/
def Dev.busy (d : Dev) (b : Blk) : Bool := (d.post b).isSome

/-- Set or clear it. -/
def Dev.setPost (d : Dev) (b : Blk) (p : Option Posted) : Dev := { d with posted := sset (fun _ => none) d.posted b.page p }

/-! ### Parity (R53, R54) -/

/-- Whether the word at an address carries parity (R53). -/
def hasParity (a : Nat) : Bool :=
  match place a with
  | .reg b o => match b.reg o with | some x => x.ty.parity | none => false
  | .table .. => true
  | .reserved => false

/-- The page that reports an address (R34). No page owns a reserved address: what is reported of one stands on DEV, where R37 reports
RESERVED_PAGE, also where check 1 fails before check 2 and the kind is ACCESS_SIZE (DESIGN CHOICE, log entry 15). -/
def ownerBlk (a : Nat) : Blk :=
  match place a with
  | .reg b _ => b
  | .table t .. => t.blk
  | .reserved => .dev

/-- Report a parity error found at an address: PARITY_ERR, capture with GALLERY 7, and the stored value stays in use (R54). -/
def parityFault (r : Root) (a : Nat) (d : Dev) : Dev :=
  let k := match place a with | .table .. => FaultKind.tableParity | _ => .regParity
  fault r (ownerBlk a) k 7 a d

/-- A block uses the words whose addresses `p` holds of: with CHECK_EN of the page that reports it, each of them whose parity is wrong is
reported (R53; log entry 12). -/
def useWords (r : Root) (p : Nat → Bool) (d : Dev) : Dev :=
  (d.parityBad.filter fun a => p a && d.rb (ownerBlk a) 0x014 0).foldl (fun d a => parityFault r a d) d

/-- A block uses the registers at offsets `os` of a page (R53). -/
def pageUse (r : Root) (b : Blk) (os : List Nat) (d : Dev) : Dev := useWords r (fun a => a / 0x1000 == b.page && os.contains (a % 0x1000)) d

/-- A block uses an entry of a table region (R53). -/
def entryUse (r : Root) (t : Tbl) (e : Nat) (d : Dev) : Dev := useWords r (fun a => t.addr e 0 ≤ a && a < t.addr (e + 1) 0) d

/-! ### Injection (R40, R358 to R360) -/

/-- PAGE_INJ_CTRL.ARM. -/
def Dev.armed (d : Dev) (b : Blk) : Bool := d.rb b 0x01C 0

/-- PAGE_INJ_SEL.COUNT. -/
def Dev.injCount (d : Dev) (b : Blk) : Nat := d.rf b 0x018 31 16

/-- Clear ARM. -/
def disarm (b : Blk) (d : Dev) : Dev := d.setReg b 0x01C (d.reg b 0x01C &&& ~~~1)

/-- ARM clears at once when a write leaves it set with MODE 0b11, or COUNTED with COUNT 0 (R40). -/
def armRule (b : Blk) (d : Dev) : Dev :=
  let m := d.rf b 0x01C 2 1
  if d.armed b && (m == 3 || (m == 1 && d.injCount b == 0)) then disarm b d else d

/-- The record of an injection performed: total, last, event (R360). -/
def recordInj (r : Root) (b : Blk) (pt : Nat) (d : Dev) : Dev :=
  let x := pageUse r .flt [0x040] d
  raiseIf (x.rb .flt 0x040 0) r 483
    { x with flt := { x.flt with total := (x.flt.total + 1) % 2 ^ 32, lastEra := x.tb.era, lastPage := b.page, lastPoint := pt, lastEC := r.ec } }

/-- Whether page `b` is armed at its point `pt` (R358, R359). -/
def injects (b : Blk) (pt : Nat) (d : Dev) : Bool := d.armed b && d.rf b 0x018 4 0 == pt && decide (pt < b.injPoints)

/-- An opportunity of point `pt`, which uses PAGE_INJ_SEL and PAGE_INJ_CTRL (R53): the injection, if armed, is performed, and COUNT and ARM step as MODE
states (R40, R359). -/
def opportunity (r : Root) (b : Blk) (pt : Nat) (d0 : Dev) : Dev :=
  let d := pageUse r b [0x018, 0x01C] d0
  if injects b pt d then
    let m := d.rf b 0x01C 2 1
    let d1 := if m == 1 then d.setReg b 0x018 (wd ((d.injCount b - 1) * 2 ^ 16 + d.rf b 0x018 15 0)) else d
    let d2 := if m == 0 || (m == 1 && d1.injCount b == 0) then disarm b d1 else d1
    recordInj r b pt d2
  else d

/-! ### Words that the device sets and hosts write (R44) -/

/-- The device sets the word at offset `o` of a page in this cycle. -/
def hwSets (r : Root) (b : Blk) (o : Nat) (d : Dev) : Dev := { d with hwSet := nput d.hwSet (b.addr o) (r.cyc + 1) }

/-- The word that a host write of `w` leaves where bits `m` of the present word `now` are the device's: those it set in the write's own CFG_CLK cycle
come after the write (R44). -/
def hostFirst (r : Root) (b : Blk) (o : Nat) (m now w : Word) (d : Dev) : Word :=
  if nget d.hwSet (b.addr o) = r.cyc + 1 then (w &&& ~~~m) ||| (now &&& m) else w

/-! ### Event lines of a page -/

/-- The source behind each assigned bit of PAGE_EVT_LOCAL, from bit 0 (the chapters' event tables). -/
def Blk.events : Blk → List Nat
  | .pwr => [17, 18] | .otp => [19] | .clk => [20] | .tbe => [96, 97, 98, 99]
  | .ptp n => [100 + n, 102 + n] | .srv n => [104 + n, 106 + n, 108 + n]
  | .ref => [128, 129, 130, 131, 132]
  | .mcs n => (List.range 6).map fun i => 160 + 8 * n + i
  | .lnd => [32, 33, 34, 35, 36, 37, 38, 39, 40, 41]
  | .cor => [42, 43, 44, 45, 46, 47, 48, 49]
  | .net p => [64 + p, 66 + p, 68 + p, 70 + p, 72 + p]
  | .cls => [80, 81] | .shp => [88, 89]
  | .txe => [304, 305, 306, 307] | .rxe => [336, 337, 338, 339, 340, 341, 342] | .rte => [368, 369, 370, 371, 372]
  | .sap n => [384 + 2 * n, 385 + 2 * n] | .mon => [448] | .log => [449, 450, 451] | .flt => [481, 482, 483]
  | _ => []

end Sys2Proof.Machine
end

