-- ==== Sys2Proof/Machine/Time.lean ====
section
/-! DEFINITION. Eras, views, sample periods and stamps (05, R17, R108 to R126): the operations; their commands stand in Timebase.lean. -/

namespace Sys2Proof.Machine

/-! ### LT, ST32 and Rate values (R118 to R120) -/

/-- Units of 2^-8 ns in a second. -/
def secUnits : Int := 256000000000

/-- LT words 0 to 3 of a time. -/
def ltWords (t : Int) : List Word :=
  let s := (t / secUnits) % 2 ^ 48
  let f := (t % secUnits).toNat
  [wd (f % 256), wd (f / 256), wd s.toNat, wd (s.toNat / 2 ^ 32)]

/-- The time of LT words; NS of 10^9 or more carries into the seconds (R118). -/
def ltTime (w : List Word) : Int :=
  let sub := fld (w.getD 0 0) 7 0
  let ns := fld (w.getD 1 0) 29 0
  let sec := (w.getD 2 0).toNat + 2 ^ 32 * fld (w.getD 3 0) 15 0
  ((sec * 1000000000 + ns) * 256 + sub : Nat) % (2 ^ 48 * secUnits)

/-- LT words as an LT group stores them (R118). -/
def ltNorm (w : List Word) : List Word := ltWords (ltTime w)

/-- ST32 of an AT value: nanoseconds modulo 2^32 (R119). -/
def st32 (t : Int) : Nat := ((t / 256) % 2 ^ 32).toNat

/-- A Rate value from its two words (R120). -/
def rateOf (lo hi : Word) : Int := sgn (lo.toNat + 2 ^ 32 * fld hi 7 0) 40

/-- The two words of a Rate value, the high one sign-extended (R120). -/
def rateWords (x : Int) : List Word := [wd (uns x 64), wd (uns x 64 / 2 ^ 32)]

/-- A Rate value as an update writes it. The spec states no result for one outside its 40 bits: a free value there (DESIGN CHOICE, log entry
21). -/
def rate40 (x : Int) (d : Dev) : Int × Dev :=
  if -(2 ^ 39) ≤ x ∧ x < 2 ^ 39 then (x, d) else (sgn (d.free % 2 ^ 40) 40, d.drew)

/-- EC words, low first. -/
def ecWords (e : Nat) : List Word := [wd e, wd (e / 2 ^ 32)]

/-! ### Sample periods (R17) -/

/-- Sample rates by FS code (R17, R318); reserved codes act as 48 kHz and are never applied (R318). -/
def fsHz : Nat → Nat
  | 0 => 44100 | 1 => 48000 | 2 => 88200 | 3 => 96000 | 4 => 176400 | 5 => 192000 | _ => 48000

/-- B(k): AT start of sample period `k`, at the nearest unit (R17, R11). -/
def bOf (fs : Nat) (k : Int) : Int := rdiv (k * secUnits) fs

/-- The sample period that AT value `t` lies in: the largest `k` with B(k) ≤ t (R8, R17). -/
def periodOf (fs : Nat) (t : Int) : Int :=
  let k := t * fs / secUnits
  if bOf fs (k + 1) ≤ t then k + 1 else if t < bOf fs k then k - 1 else k

/-! ### Eras (R109, R110) -/

/-- The next era: never zero (R109). -/
def eraNext (e : Nat) : Nat := if 65535 ≤ e then 1 else e + 1

/-- An era change for cause bit `c`; causes of one CORE_CLK cycle, the start of the EC among them, give one increment and one event (R110). -/
def eraBump (r : Root) (c : Nat) (d : Dev) : Dev :=
  if d.tb.eraEC = r.ec then
    { d with tb := { d.tb with cause := nset d.tb.cause c true } }
  else
    raise r 96 { d with tb := { d.tb with prevEra := d.tb.era, era := eraNext d.tb.era, changes := satInc d.tb.changes 255, cause := 2 ^ c, eraEC := r.ec } }

/-- The era that a stamp of EC `e` carries (R110). One whose corrections take it before EC 0 after a cold start, when there was no era, carries 0 and its
EC is read modulo 2^64 (DESIGN CHOICE, log entry 40). -/
def stampEra (d : Dev) (e : Int) : Nat := if e < d.tb.eraEC then d.tb.prevEra else d.tb.era

/-- TIME_STATE moves to `n`, with its event at a change (R117). -/
def setTimeState (r : Root) (n : Nat) (d : Dev) : Dev :=
  if d.tb.timeState = n then d else raise r 97 { d with tb := { d.tb with timeState := n } }

/-! ### Views (R111 to R115) -/

/-- View 0 A, 1 B, 2 X. -/
def Dev.view (d : Dev) (v : Nat) : View := match v with | 0 => d.tb.a | 1 => d.tb.b | _ => d.tb.x

/-- Set a view's parameters. -/
def Dev.setView (d : Dev) (v : Nat) (x : View) : Dev :=
  match v with
  | 0 => { d with tb := { d.tb with a := x } }
  | 1 => { d with tb := { d.tb with b := x } }
  | _ => { d with tb := { d.tb with x := x } }

/-- Set AT's own parameters. -/
def Dev.setAt (d : Dev) (x : View) : Dev := { d with tb := { d.tb with at' := x } }

/-- A RATE update at EC `e`: continuous, the anchor moved to `e` (R112). -/
def View.rerate (v : View) (e : Nat) (rate : Int) : View := { anchorEC := e, anchorT := v.val e, rate := rate }

/-- AT keeps the parameters of the view it follows, except while switching (R115). -/
def followAt (v : Nat) (d : Dev) : Dev := if d.tb.atView = v ∧ ¬ d.tb.switching then d.setAt (d.view v) else d

/-- FEED bit of a view (R113). -/
def Dev.feed (d : Dev) (v : Nat) : Bool := d.rb .tbe 0x060 v

/-- The running sum rate × EC of view `v` (3: AT) is brought up to the present EC (R154, R168). -/
def accRate (r : Root) (v : Nat) (d : Dev) : Dev :=
  let a := sget (fun _ => (0, d.ref.accFrom)) d.ref.acc v
  let rate := if v = 3 then d.tb.at'.rate else (d.view v).rate
  { d with ref := { d.ref with acc := sput v (a.1 + rate * ((r.ec : Int) - a.2), r.ec) d.ref.acc } }

/-- A RATE update of a view (R112). -/
def viewRate (r : Root) (v : Nat) (rate : Int) (d : Dev) : Dev :=
  let d1 := if d.tb.atView = v then accRate r 3 (accRate r v d) else accRate r v d
  followAt v (d1.setView v ((d.view v).rerate r.ec rate))

/-- Restart of the views with the EC: anchors zero, VIEW_SET clear; after a cold start the rates too (R114). AT follows view X (R115). R114 gives
the RATE after a cold start and after a wake from DOZE; after a wrap, of which it says nothing, the model keeps it (DESIGN CHOICE, log entry 13). -/
def restartViews (cold : Bool) (d : Dev) : Dev :=
  let z := fun (v : View) => ({ anchorEC := 0, anchorT := 0, rate := if cold then 0 else v.rate } : View)
  { d with tb :=
      { d.tb with a := z d.tb.a, b := z d.tb.b, x := z d.tb.x, at' := z d.tb.x, viewSet := 0, atView := 2, switching := false, run := d.tb.run + 1 } }

/-! ### Stamps (R121 to R126) -/

/-- OTP region bits of OTP.STATUS: 1 ID, 2 MAC, 3 TDC, 4 PAD, 5 BAND (R387). -/
def Dev.otpRegion (d : Dev) (i : Nat) : Bool := nbit d.otpOk i

/-- Input delay of a TDC channel, zero when the PAD region failed (R121, R387). -/
def padDelay (r : Root) (d : Dev) (ch : Nat) : Int :=
  if d.otpRegion 4 then sgn (wget r.otp (0x0A0 + ch)).toNat 32 else 0

/-- An EC value from a signed one. -/
def ecOf (x : Int) : Nat := (x % (ecMod : Int)).toNat

/-- A stamp with VALID = 0 is counted and raised (R125). -/
def invalidStamp (r : Root) (d : Dev) : Dev :=
  raise r 99 { d with tb := { d.tb with invalid := satInc d.tb.invalid 0xFFFF } }

/-- POINT code of a TDC channel (R121). -/
def chanPoint (ch : Nat) : Nat :=
  if ch < 4 then ch + 1 else if ch < 12 then 0x10 + (ch - 4) else if ch < 14 then 0x20 + (ch - 12) else if ch < 16 then 0x22 + (ch - 14)
  else 0x30 + (ch - 16)

/-- Taps in a CORE_CLK period: the last measurement, 128 before the first (R122). -/
def tdcTaps (d : Dev) : Nat := if d.tb.taps = 0 then 128 else d.tb.taps

/-- The fine value of an edge at tap `tap` of the delay line (R122): the OTP table's, scaled by the measured taps; uniform taps without the
table; 0 while the measurement fails. The quotient is rounded down and held to 511, the units of a CORE_CLK cycle (DESIGN CHOICE, log entry 40). -/
def tdcFine (r : Root) (d : Dev) (tap : Nat) : Nat :=
  if d.tb.trackFail then 0
  else if d.otpRegion 3 then min 511 (Config.tapUnits tap (wget r.otp (0x020 + tap % 128)).toNat * 128 / tdcTaps d)
  else min 511 (tap * 512 / tdcTaps d)

/-- A stamp at EC `e` with the converter's state: VALID clears with a tracking failure (R122), and TBE point 0 clears that of the next stamp
(R363). -/
def takeStamp (r : Root) (e : Int) (point speed : Nat) (d : Dev) : Stamp × Dev :=
  let inj := injects .tbe 0 d
  let d1 := opportunity r .tbe 0 d
  let ok := ¬ d.tb.trackFail ∧ ¬ inj
  let s : Stamp := { ec := ecOf e, era := stampEra d e, point := point, valid := ok, uncal := !d.otpRegion 3, speed := speed }
  (s, if ok then d1 else invalidStamp r d1)

/-- A cycle-exact stamp at the present EC (R121, points 0x18 to 0x1F and 0xF0). -/
def exactStamp (r : Root) (point : Nat) (d : Dev) : Stamp := { ec := r.ec, era := stampEra d r.ec, point := point }

/-- The four words of a stamp record (R126). -/
def stampWords (s : Stamp) (context : Word) : List Word :=
  ecWords s.ec ++
    [wd (s.era * 65536 + s.point * 256 + b2n s.valid * 128 + b2n s.pin * 64 + b2n s.noPin * 32 + b2n s.uncal * 16 + s.speed * 4), context]

/-- Bytes of words as a record carries them (R6). -/
def wordsBytes (l : List Word) : List Byte := l.flatMap wordBytes

/-- Whether a stamp may be judged in AT: its era is AT's era (R12). -/
def Dev.sameEra (d : Dev) (s : Stamp) : Bool := s.era == d.tb.era

/-- A stamp in AT (R116). -/
def Dev.atOf (d : Dev) (s : Stamp) : Int := d.tb.at'.val s.ec

end Sys2Proof.Machine
end

