-- ==== Sys2Proof/Machine/Landing.lean ====
section
/-! DEFINITION. The Landing (10): allocator, Tread Map, apertures, ECC, admission checks and corridors, with the commands that need no
other block. -/

namespace Sys2Proof.Machine

/-! ### Consumers (R213) -/

/-- Consumer identifier of a transmit stream. -/
def consTx (s : Nat) : Nat := s
/-- Of a receive stream. -/
def consRx (s : Nat) : Nat := 0x400 + s
/-- Of a corridor. -/
def consCor (c : Nat) : Nat := 0x800 + c
/-- Of a host buffer. -/
def consHb (b : Nat) : Nat := 0x900 + b
/-- Of a serial audio port. -/
def consSap (n : Nat) : Nat := 0xA00 + n

/-- Extent of a consumer. -/
def Dev.ext (d : Dev) (c : Nat) : Ext := sget (fun _ => {}) d.lnd.ext c

/-- Change the Landing's state. -/
def Dev.lndMap (d : Dev) (f : LndSt → LndSt) : Dev := { d with lnd := f d.lnd }

/-- Set an extent. -/
def Dev.setExt (d : Dev) (c : Nat) (x : Ext) : Dev := d.lndMap fun l => { l with ext := sset (fun _ => {}) l.ext c x }

/-! ### The pool (R214, R215) -/

/-- LND.FREE. -/
def freeCount (d : Dev) : Nat := (d.lnd.free.map (·.2)).sum

/-- Take the `k`-th free tread out of the runs. -/
def pickRun : List (Nat × Nat) → Nat → Nat × List (Nat × Nat)
  | [], _ => (0, [])
  | (s, l) :: t, k =>
    if k < l then
      (s + k, (if k = 0 then [] else [(s, k)]) ++ (if k + 1 = l then [] else [(s + k + 1, l - k - 1)]) ++ t)
    else
      let p := pickRun t (k - l)
      (p.1, (s, l) :: p.2)

/-- Put a tread back among the runs, joining its neighbours. -/
def addRun : List (Nat × Nat) → Nat → List (Nat × Nat)
  | [], x => [(x, 1)]
  | (s, l) :: t, x =>
    if x + 1 < s then (x, 1) :: (s, l) :: t
    else if x + 1 = s then (x, l + 1) :: t
    else if x = s + l then
      match t with
      | (s', l') :: t' => if s' = x + 1 then (s, l + 1 + l') :: t' else (s, l + 1) :: t
      | [] => [(s, l + 1)]
    else (s, l) :: addRun t x

/-- Hand out `n` free treads; which ones is not specified, so each is drawn by a free value (R215). -/
def allocTreads : Nat → Dev → List Nat × Dev
  | 0, d => ([], d)
  | n + 1, d =>
    let p := pickRun d.lnd.free (d.free % freeCount d)
    let q := allocTreads n ((d.drew).lndMap fun l => { l with free := p.2 })
    (p.1 :: q.1, q.2)

/-- Lowest run of Tread Map entries that is free and long enough (R215). -/
def mapRun (d : Dev) (n : Nat) : Option Nat :=
  let used := d.lnd.ext.map fun e => (e.2.start, e.2.treads.length)
  let starts := sortNat (0 :: used.map fun u => u.1 + u.2)
  starts.find? fun s => s + n ≤ 65536 && used.all fun u => u.2 == 0 || s + n ≤ u.1 || u.1 + u.2 ≤ s

/-- The physical tread that a Tread Map entry names, none where it lies in no extent (R215). -/
def entryTread (d : Dev) (i : Nat) : Option Nat :=
  d.lnd.ext.findSome? fun e => if e.2.start ≤ i then e.2.treads[i - e.2.start]? else none

/-- Whether one of these Tread Map entries names tread `t`. -/
def entryNames (d : Dev) (l : List Nat) (t : Nat) : Bool := l.any fun i => entryTread d i == some t

/-- Whether Landing word `w` reads as uncorrectable: by its own check bits, or by the map entry that names its tread (R215, R221). -/
def wordBad (d : Dev) (w : Nat) : Bool := d.lnd.ue.contains w || entryNames d d.lnd.mapUe (w / 64)

/-- Whether a single-bit error is corrected where word `w` is read (R215, R219). -/
def wordSoft (d : Dev) (w : Nat) : Bool := d.lnd.ce.contains w || entryNames d d.lnd.mapCe (w / 64)

/-- Tread Map entries that the hardware writes get fresh check bits. -/
def mapFresh (p : Nat → Bool) (d : Dev) : Dev :=
  d.lndMap fun l => { l with mapCe := l.mapCe.filter (!p ·), mapUe := l.mapUe.filter (!p ·) }

/-! ### Apertures (R78, R216) -/

/-- Mapped ranges of a gallery's aperture: offset, length in bytes, consumer. -/
def aptRanges (d : Dev) (g : Nat) : List (Nat × Nat × Nat) :=
  (d.lnd.ext.filter fun e => e.2.g == g && decide (0 < e.2.treads.length)).map fun e => (e.2.apt, e.2.treads.length * 512, e.1)

/-- Treads mapped into a gallery's aperture (GAL.APT_STATUS.USED). -/
def aptUsed (d : Dev) (g : Nat) : Nat := ((aptRanges d g).map (·.2.1)).sum / 512

/-- Lowest free run of aperture offsets of a size and alignment (R216). -/
def aptFind (d : Dev) (g size align : Nat) : Option Nat :=
  let rs := aptRanges d g
  let cands := sortNat ((0 :: rs.map fun x => x.1 + x.2.1).map fun x => cdiv x align * align)
  cands.find? fun c => c + size ≤ 0x1000000 && rs.all fun x => c + size ≤ x.1 || x.1 + x.2.1 ≤ c

/-- Consumer and offset behind an aperture byte; none where no tread is mapped (R78). -/
def aptResolve (d : Dev) (g off : Nat) : Option (Nat × Nat) :=
  ((aptRanges d g).find? fun x => x.1 ≤ off && off < x.1 + x.2.1).map fun x => (x.2.2, off - x.1)

/-! ### ECC (R219 to R222) -/

/-- Physical byte address behind a consumer's offset. -/
def physAt (d : Dev) (c off : Nat) : Option Nat := ((d.ext c).treads[off / 512]?).map fun t => t * 512 + off % 512

/-- The consumer of a physical tread: 0xFFFF free, 0xFFFE quarantined, 0xFFFD being zeroed (R213). -/
def treadOwner (d : Dev) (t : Nat) : Nat × Nat :=
  match d.lnd.ext.find? fun e => e.2.treads.contains t with
  | some e => (e.1, (e.2.treads.findIdx? (· == t)).getD 0)
  | none => if d.lnd.zeroing.contains t then (0xFFFD, 0) else if d.lnd.quar.contains t then (0xFFFE, 0) else (0xFFFF, 0)

/-- A single-bit error corrected in Landing word `w` (R219). -/
def ceReport (r : Root) (w : Nat) (d : Dev) : Dev :=
  let b := w / 64 / 4096
  raiseIf (d.rb .lnd 0x040 1) r 32 (d.lndMap fun l => { l with bankCE := nput l.bankCE b (satInc (nget l.bankCE b) 0xFFFF) })

/-- An uncorrectable error in Landing word `w`: event, count, the first captured, its tread marked (R221, R222). The syndrome is a free value. -/
def ueReport (r : Root) (w : Nat) (d : Dev) : Dev :=
  let t := w / 64
  let own := (treadOwner d t).1
  let d1 := d.lndMap fun l => { l with ueCnt := satInc l.ueCnt 0xFFFF, bad := if l.bad.contains t then l.bad else t :: l.bad }
  raise r 33 (if d.lnd.ueValid then d1 else
    (d1.drew).lndMap fun l => { l with ueValid := true, ueSyndrome := d.free % 256, ueWord := w, ueCons := own, ueEra := d.tb.era, ueEC := r.ec })

/-- The Tread Map entries that an operation reads: an uncorrectable one is an error in the tread it names (R215). -/
def mapReads (r : Root) (p : Nat → Bool) (d : Dev) : Dev :=
  (d.lnd.mapUe.filter p).foldl (fun d i => match entryTread d i with | some t => ueReport r (64 * t) d | none => d) d

/-- Compaction: extents move towards entry 0, keeping their order (R215). -/
def compactMap (r : Root) (d0 : Dev) : Dev :=
  let d := mapFresh (fun _ => true) (mapReads r (fun _ => true) d0)
  let byStart := sortBy (fun a b => decide (a.2.start ≤ b.2.start)) d.lnd.ext
  let placed := (byStart.foldl (fun (acc : Nat × List (Nat × Nat)) e => (acc.1 + e.2.treads.length, (e.1, acc.1) :: acc.2)) (0, [])).2
  d.lndMap fun l => { l with ext := l.ext.map fun e => (e.1, { e.2 with start := ((placed.find? (·.1 == e.1)).map (·.2)).getD 0 }) }

/-- A consumer gives up its treads: to the zeroing queue, and its aperture range unmapped (R214, R234). -/
def giveUp (r : Root) (c : Nat) (d : Dev) : Dev :=
  let e := d.ext c
  let mine := fun (i : Nat) => decide (e.start ≤ i ∧ i < e.start + e.treads.length)
  ((mapFresh mine (mapReads r mine d)).lndMap fun l => { l with zeroing := l.zeroing ++ e.treads }).setExt c {}

/-- The Landing words that a run of bytes of a consumer touches. -/
def wordsOf (d : Dev) (c off n : Nat) : List Nat := ((List.range n).filterMap fun i => (physAt d c (off + i)).map (· / 8)).dedup

/-- Read bytes of a consumer: an uncorrectable word reads zero, a single-bit error is corrected, and both are reported. -/
def lndRead (r : Root) (m : List Host.Cell) (c off n : Nat) (d : Dev) : List Byte × Dev :=
  let bytes := (List.range n).map fun i =>
    match physAt d c (off + i) with
    | some a => if wordBad d (a / 8) then 0 else memByte m a
    | none => 0
  let ws := wordsOf d c off n
  (bytes, ws.foldl (fun d w => if wordBad d w then ueReport r w d else if wordSoft d w then ceReport r w d else d) d)

/-- Write bytes of a consumer. A narrow write of an uncorrectable word zeroes its other bytes (R221); every written word gets fresh check bits. -/
def lndWrite (r : Root) (c off : Nat) (bytes : List Byte) (d : Dev) : Dev × List MemWr :=
  let n := bytes.length
  let ws := wordsOf d c off n
  let part := fun w => ((List.range n).filter fun i => (physAt d c (off + i)).map (· / 8) == some w).length < 8
  let zero := (ws.filter fun w => wordBad d w && part w).map fun w => (8 * w, List.replicate 8 (0 : Byte))
  let d1 := ws.foldl (fun d w =>
    if wordBad d w && part w then ueReport r w d else if wordSoft d w && part w then ceReport r w d else d) d
  (d1.lndMap fun l => { l with ue := l.ue.filter (!ws.contains ·), ce := l.ce.filter (!ws.contains ·) },
    zero ++ bytes.zipIdx.filterMap fun p => (physAt d c (off + p.2)).map fun a => (a, [p.1]))

/-- `n` sample words of consumer `c` are written: the Landing words they lie in get fresh check bits. Where the extent holds erroneous words, which words
those are is a free value; a producer of samples writes a Landing word, two samples, whole (DESIGN CHOICE, log entry 26). -/
def sampleWrite (c n : Nat) (d : Dev) : Dev :=
  let ts := (d.ext c).treads
  if !(d.lnd.ue ++ d.lnd.ce).any fun x => ts.contains (x / 64) then d
  else (List.range (cdiv n 2)).foldl (fun (d : Dev) _ =>
    let i := d.free % (64 * ts.length)
    let x := ts.getD (i / 64) 0 * 64 + i % 64
    d.drew.lndMap fun l => { l with ue := l.ue.filter (· != x), ce := l.ce.filter (· != x) }) d

/-- TREAD_ZEROED (R214): the head of the zeroing queue has been zeroed; a marked tread is quarantined, any other returns to the pool. -/
def treadZeroed (d : Dev) : Dev × List MemWr :=
  match d.lnd.zeroing with
  | [] => (d, [])
  | t :: q =>
    let keep := fun w => w / 64 != t
    let d1 := d.lndMap fun l => { l with zeroing := q, ue := l.ue.filter keep, ce := l.ce.filter keep }
    let d2 := if d.lnd.bad.contains t then d1.lndMap fun l => { l with quar := t :: l.quar }
      else d1.lndMap fun l => { l with free := addRun l.free t }
    (d2, [(t * 512, List.replicate 512 0)])

/-- The scrub reads Tread Map entry `i`: an uncorrectable one is reported, a corrected one written back (R215, R220). -/
def scrubEntry (r : Root) (i : Nat) (d : Dev) : Dev :=
  let d1 := mapReads r (· == i) d
  if d.lnd.mapCe.contains i then
    (match entryTread d i with | some t => ceReport r (64 * t) d1 | none => d1).lndMap fun l => { l with mapCe := l.mapCe.filter (· != i) }
  else d1

/-- LANDING_SCRUB_STEP (R220): the scrub reads its next word, with the injection points of R236, and writes back a correction; with the first word
of tread `t` it reads Tread Map entry `t`. A second flipped bit makes a word uncorrectable. -/
def scrubStep (r : Root) (d : Dev) : Dev :=
  if d.rb .lnd 0x040 0 then
    let w := d.lnd.scrubWord
    let one := injects .lnd 0 d
    let two := injects .lnd 1 d
    let d0 := opportunity r .lnd 1 (opportunity r .lnd 0 d)
    let d1 := if w % 64 = 0 then scrubEntry r (w / 64) d0 else d0
    let d2 := if two || (one && d1.lnd.ce.contains w) then d1.lndMap fun l => { l with ue := if l.ue.contains w then l.ue else w :: l.ue }
      else if one && !d1.lnd.ue.contains w then d1.lndMap fun l => { l with ce := if l.ce.contains w then l.ce else w :: l.ce } else d1
    let d3 := if d2.lnd.ue.contains w then ueReport r w d2
      else if d2.lnd.ce.contains w then (ceReport r w d2).lndMap fun l => { l with ce := l.ce.filter (· != w) } else d2
    d3.lndMap fun l => if w + 1 = 4194304 then { l with scrubWord := 0, passes := (l.passes + 1) % 65536 } else { l with scrubWord := w + 1 }
  else d

/-! ### Channels (R72, R306) -/

/-- Owner of an audio channel by its address, none outside the channel ranges. -/
def chanOwner (r : Root) (d : Dev) (c : Nat) : Option Nat :=
  if c ≤ 0x0FFF then some (owner r d .chNetRx (c / 64))
  else if c ≤ 0x1FFF then some (owner r d .chNetTx ((c - 0x1000) / 64))
  else if c ≤ 0x23FF then some (owner r d .sap ((c - 0x2000) / 32))
  else if c ≤ 0x27FF then some (owner r d .sap ((c - 0x2400) / 32))
  else if c ≤ 0x37FF then some (owner r d .chHostW ((c - 0x2800) / 64))
  else if c ≤ 0x47FF then some (owner r d .chHostR ((c - 0x3800) / 64))
  else if c ≤ 0x48FF then some (owner r d .generator ((c - 0x4800) / 16))
  else none

/-! ### Admission (R216) -/

/-- A Landing request. -/
structure LndReq where
  treads : Nat
  formed : Bool
  owned : Bool
  /-- mapped into the enabling gallery's aperture, at this alignment -/
  align : Option Nat
  deriving DecidableEq, Repr

/-- The Landing checks in their order: 0, or the reason code of the first that fails (R216). -/
def lndCheck (d : Dev) (g : Nat) (q : LndReq) : Nat :=
  if !q.formed then 5
  else if !q.owned then 4
  else if freeCount d + d.lnd.zeroing.length < q.treads then 1
  else match q.align with
    | none => 0
    | some a => if aptLimit d g < aptUsed d g + q.treads then 2 else if (aptFind d g (q.treads * 512) a).isNone then 3 else 0

/-- A Landing refusal: ADMIT_LAST and its event (R216). -/
def lndRefuse (r : Root) (g c reason : Nat) (d : Dev) : Dev :=
  raise r 34 (d.lndMap fun l => { l with lastCons := c, lastGal := g, lastReason := reason })

/-- Commit a request that passed: treads drawn, the extent placed, compacting when no run is long enough, and the aperture mapped (R215, R216). -/
def lndCommit (r : Root) (g c : Nat) (q : LndReq) (d : Dev) : Dev :=
  let apt := q.align.bind fun a => aptFind d g (q.treads * 512) a
  let d1 := if (mapRun d q.treads).isNone then compactMap r d else d
  let p := allocTreads q.treads d1
  let start := (mapRun d1 q.treads).getD 0
  (mapFresh (fun i => decide (start ≤ i ∧ i < start + q.treads)) p.2).setExt c { start := start, treads := p.1, g := if q.align.isSome then g else 7, apt := apt.getD 0 }

/-- An enable is accepted: it joins the admission queue, galleries ascending within one CFG_CLK cycle (R216). -/
def enqueueAdmit (r : Root) (g c : Nat) (d : Dev) : Dev :=
  let e : Admit := { cyc := r.ec / cfgUnits, g := g, cons := c }
  let before := fun (x : Admit) => x.cyc < e.cyc || (x.cyc == e.cyc && x.g ≤ e.g)
  d.lndMap fun l => { l with admitQ := l.admitQ.takeWhile before ++ e :: l.admitQ.dropWhile before }

/-! ### Corridors (R227 to R236) -/

/-- A corridor. -/
def Dev.cor (d : Dev) (c : Nat) : Cor := sget (fun _ => {}) d.lnd.cor c

/-- Set it. -/
def Dev.setCor (d : Dev) (c : Nat) (x : Cor) : Dev := d.lndMap fun l => { l with cor := sset (fun _ => {}) l.cor c x }

/-- Ring length of a corridor in bytes (R227). -/
def Cor.len (x : Cor) : Nat := 512 * 2 ^ x.sizeLog

/-- Difference of free-running byte counts (R227). -/
def pdiff (a b : Nat) : Nat := (a + 2 ^ 32 - b % 2 ^ 32) % 2 ^ 32

/-- Free bytes of a corridor (R227). -/
def Cor.free (x : Cor) : Nat := x.len - pdiff x.wr x.rel

/-- Bytes a record of `n` payload bytes occupies (R228). -/
def recSize (n : Nat) : Nat := 8 + cdiv n 8 * 8

/-- Whether records of these payload lengths fit one after the other (R229 step 1). -/
def Cor.fits (x : Cor) : List Nat → Bool
  | [] => true
  | n :: t =>
    let s := recSize n
    let gap := if s ≤ x.len - x.wr % x.len then 0 else x.len - x.wr % x.len
    decide (gap + s + 8 ≤ x.free) && Cor.fits { x with wr := (x.wr + gap + s) % 2 ^ 32 } t

/-- An IN corridor that takes records: ACTIVE (R234). -/
def Cor.takes (x : Cor) : Bool := x.st == .active && !x.out

/-- A record header (R228). -/
def recHeader (len status type seq info : Nat) : List Byte :=
  leBytes 8 (len * 2 ^ 48 + status * 2 ^ 40 + type * 2 ^ 32 + seq % 65536 * 65536 + info % 65536)

/-- A record not written: counted, with the event once per run of overflows (R230). -/
def corOverflow (r : Root) (c : Nat) (d : Dev) : Dev :=
  let x := d.cor c
  raiseIf (!x.run) r 48 (d.setCor c { x with overflow := satInc x.overflow 0xFFFF, run := true })

/-- The corridor that COR point 0 acts on: the steward's COR.SEL, or the house gallery's (R236). -/
def corInjTarget (r : Root) (d : Dev) : Nat :=
  let st := steward r d .cor
  fld (d.own .cor 0x040 (if st = 7 then r.house else st)) 7 0

/-- The writes of a record at a consumer's ring: WRAP when it does not fit before the ring's end, payload, zero header after, header (R229). -/
def corWrites (x : Cor) (status type info : Nat) (pay : List Byte) : Nat × List (Nat × List Byte) :=
  let n := pay.length
  let s := recSize n
  let pos := x.wr % x.len
  let pad := List.replicate (s - 8 - n) (0 : Byte)
  let z := List.replicate 8 (0 : Byte)
  let body := fun p w => (w + s, [(p + 8, pay ++ pad), ((p + s) % x.len, z), (p, recHeader n status type x.seq info)])
  if s ≤ x.len - pos then body pos x.wr
  else
    let q := body 0 (x.wr + (x.len - pos))
    (q.1, (0, z) :: (pos, recHeader 0xFFFF 0 0 0 0) :: q.2)

/-- The part of a record at ring offset `p` as it can be written: words of the ring that are uncorrectable read as zero in it (R221). -/
def eccPart (d : Dev) (c : Nat) (q : Nat × List Byte) : Nat × List Byte :=
  (q.1, q.2.zipIdx.map fun b => match physAt d (consCor c) (q.1 + b.2) with | some a => if wordBad d (a / 8) then 0 else b.1 | none => b.1)

/-- Commit a hardware record into corridor `c` (R229, R230): false when it is not written. Where words under its payload are uncorrectable it has
STATUS ECC_ERR and those words zero (R221; log entry 25). -/
def produce (r : Root) (c type info : Nat) (payload : List Byte) (d : Dev) : Bool × Dev × List MemWr :=
  let hit := corInjTarget r d == c
  let inj := hit && injects .cor 0 d
  let d0 := if hit then opportunity r .cor 0 d else d
  let x := d0.cor c
  let cap := min (x.len - 16) 65528
  let pay := payload.take cap
  if inj || !x.takes || !x.fits [pay.length] then (false, corOverflow r c d0, [])
  else
    let start := if recSize pay.length ≤ x.len - x.wr % x.len then x.wr % x.len else 0
    let bad := (wordsOf d0 (consCor c) (start + 8) (recSize pay.length - 8)).filter (wordBad d0)
    let p := corWrites x (if bad ≠ [] then 2 else if cap < payload.length then 1 else 0) type info pay
    let parts := p.2.map fun q => if q.1 = start + 8 then eccPart d0 c q else q
    let w := parts.foldl (fun (a : Dev × List MemWr) q => let b := lndWrite r (consCor c) q.1 q.2 a.1; (b.1, a.2 ++ b.2))
      (bad.foldl (fun d w => ueReport r w d) d0, [])
    let d1 := w.1.setCor c { x with wr := p.1 % 2 ^ 32, seq := (x.seq + 1) % 65536, run := false }
    let g := owner r d .corridor c
    (true, raiseIf (bitOf x.cfg 29 && decide (g < 6)) r (42 + g) d1, w.2)

/-- Pointers in the order of R227. -/
def Cor.ordered (x : Cor) : Bool :=
  decide (pdiff x.mark x.rel ≤ pdiff x.rd x.rel) && decide (pdiff x.rd x.rel ≤ pdiff x.wr x.rel)

/-- The host's pointer writes (R231). -/
inductive PtrWrite where
  | rd (v : Nat) | mark (v : Nat) | rel (v : Nat) | rewind
  deriving DecidableEq, Repr

/-- A host pointer write: ignored and counted when it breaks the order, is no multiple of 8, or the corridor is OUT (R231, R232). -/
def corPtr (r : Root) (c : Nat) (p : PtrWrite) (d : Dev) : Dev :=
  let x := d.cor c
  let y : Cor := match p with
    | .rd v => { x with rd := v }
    | .mark v => { x with mark := v }
    | .rel v => { x with rel := v, mark := if pdiff x.mark x.rel < pdiff v x.rel then v else x.mark }
    | .rewind => { x with rd := x.mark }
  let aligned := match p with | .rd v | .mark v | .rel v => v % 8 == 0 | .rewind => true
  let fwd := match p with | .rel v => decide (pdiff v x.rel ≤ pdiff x.rd x.rel) | _ => true
  if !x.out && aligned && fwd && y.ordered then d.setCor c y
  else raise r 49 (d.setCor c { x with ptrErr := satInc x.ptrErr 0xFFFF })

/-- An admission of corridor `c` starts: DIR and SIZE_LOG sampled (R234). -/
def corStart (r : Root) (g c : Nat) (d : Dev) : Dev :=
  let x := d.cor c
  enqueueAdmit r g (consCor c) (d.setCor c { x with st := .admitting, sizeLog := fld x.cfg 3 0, out := bitOf x.cfg 30, quit := false })

/-- A write of COR.CFG (R234). -/
def corCfg (r : Root) (g c : Nat) (w : Word) (d : Dev) : Dev :=
  let x := d.cor c
  let d1 := d.setCor c { x with cfg := w }
  if bitOf w 31 then (if x.st = .idle ∨ x.st = .refused then corStart r g c d1 else d1)
  else match x.st with
    | .active => d1.setCor c { x with cfg := w, st := .closing }
    | .admitting => d1.setCor c { x with cfg := w, quit := true }
    | _ => d1

/-- CORRIDOR_CLOSE_COMPLETE (R234): treads to zeroing, aperture unmapped; with ENA set again it is admitted afresh. -/
def corClose (r : Root) (c : Nat) (d : Dev) : Dev :=
  let x := d.cor c
  if x.st = .closing then
    let d1 := (giveUp r (consCor c) d).setCor c { x with st := .idle }
    if bitOf x.cfg 31 then corStart r (owner r d .corridor c) c d1 else d1
  else d

/-- The Landing request of a corridor (R216, R227). -/
def corReq (r : Root) (d : Dev) (g c : Nat) : LndReq :=
  let x := d.cor c
  { treads := 2 ^ x.sizeLog, formed := decide (x.sizeLog ≤ 12), owned := owner r d .corridor c == g, align := some (512 * 2 ^ x.sizeLog) }

/-- The end of a corridor's admission (R234). -/
def corAdmitted (r : Root) (g c : Nat) (d : Dev) : Dev :=
  let x := d.cor c
  let q := corReq r d g c
  let reason := lndCheck d g q
  if reason ≠ 0 then lndRefuse r g (consCor c) reason (d.setCor c { x with st := .refused, reason := reason })
  else
    let d1 := lndCommit r g (consCor c) q d
    if bitOf x.cfg 31 && !x.quit then
      d1.setCor c { x with st := .active, wr := 0, rd := 0, mark := 0, rel := 0, seq := 0, run := false }
    else (giveUp r (consCor c) d1).setCor c { x with st := .idle }

/-- The record header at a ring offset of a corridor, as it stands in memory (R228). -/
def headWord (m : List Host.Cell) (d : Dev) (c pos : Nat) : Nat :=
  bytesNat ((List.range 8).map fun i => match physAt d (consCor c) (pos + i) with | some a => memByte m a | none => 0)

/-- The zero header after the last committed record, from pointer `p` on: WR of R227. -/
def ringEnd (m : List Host.Cell) (d : Dev) (c : Nat) : Nat → Nat → Nat
  | 0, p => p
  | f + 1, p =>
    let l := (d.cor c).len
    let n := headWord m d c (p % l) / 2 ^ 48
    if n = 0 then p else ringEnd m d c f ((if n = 0xFFFF then p + (l - p % l) else p + recSize n) % 2 ^ 32)

/-- WR of a corridor: the device's own of an IN corridor; the host keeps that of an OUT corridor, so that the ring shows it (R227, R232). -/
def corWr (m : List Host.Cell) (d : Dev) (c : Nat) : Nat :=
  let x := d.cor c
  if x.out then ringEnd m d c (x.len / 16 + 1) x.rd else x.wr

/-- The registers reached through COR.SEL and the pointer registers, read by gallery `g` (10, COR registers). -/
def corRead (d : Dev) (g o : Nat) : Word :=
  if 0x800 ≤ o then
    let x := d.cor ((o - 0x800) / 8)
    if o % 8 = 0 then wd x.rd else wd x.rel
  else
    let c := fld (d.own .cor 0x040 g) 7 0
    let x := d.cor c
    let stc := match x.st with | .idle => 0 | .active => 1 | .closing => 2 | .refused => 3 | .admitting => 4
    match o with
    | 0x040 => d.own .cor 0x040 g
    | 0x044 => x.cfg
    | 0x048 => wd (x.seq * 65536 + x.reason * 16 + stc)
    | 0x04C => wd (d.ext (consCor c)).apt
    | 0x050 => if x.out then 0 else wd x.wr
    | 0x054 => wd x.mark
    | 0x05C => wd (x.overflow * 65536 + x.ptrErr)
    | _ => 0

/-- LND registers that show live state, read by gallery `g` (10, LND registers); the host buffers' stand in Hostbuf.lean. -/
def lndRegRead (d : Dev) (g o : Nat) : Word :=
  match o with
  | 0x044 => wd (freeCount d)
  | 0x048 => wd (d.lnd.quar.length * 65536 + min d.lnd.zeroing.length 65535)
  | 0x04C => wd (d.lnd.lastCons * 65536 + d.lnd.lastGal * 4096 + d.lnd.lastReason)
  | 0x050 => wd (d.lnd.passes * 65536)
  | 0x080 => wd d.lnd.ueCnt
  | 0x090 => wd (b2n d.lnd.ueValid * 2 ^ 31 + d.lnd.ueSyndrome * 2 ^ 22 + d.lnd.ueWord)
  | 0x094 => wd (d.lnd.ueCons * 65536 + d.lnd.ueEra)
  | 0x098 => wd d.lnd.ueEC
  | 0x09C => wd (d.lnd.ueEC / 2 ^ 32)
  | 0x0A4 =>
    let s := d.own .lnd 0x0A0 g
    match (d.ext (fld s 31 16)).treads[fld s 15 0]? with
    | some t => wd (2 ^ 31 + t)
    | none => 0
  | 0x0AC => let p := treadOwner d (fld (d.own .lnd 0x0A8 g) 15 0); wd (p.1 * 65536 + p.2)
  | 0x0B4 => let n := (d.ext (fld (d.own .lnd 0x0B0 g) 15 0)).treads.length; if n = 0 then 0 else wd (2 ^ 31 + n)
  | 0x0B8 =>
    let e := d.ext (fld (d.own .lnd 0x0B0 g) 15 0)
    if e.g = 7 ∨ e.treads = [] then 0 else wd (2 ^ 31 + e.g * 2 ^ 24 + e.apt)
  | _ =>
    if 0x060 ≤ o ∧ o < 0x080 then
      let k := (o - 0x060) / 4
      wd (nget d.lnd.bankCE (2 * k + 1) * 65536 + nget d.lnd.bankCE (2 * k))
    else d.own .lnd o g

/-- LND.CMD (R219, R222). -/
def lndCmd (w : Word) (d : Dev) : Dev :=
  let d1 := if bitOf w 0 then d.lndMap fun l => { l with bankCE := [] } else d
  if bitOf w 1 then d1.lndMap fun l => { l with ueValid := false, ueCnt := 0 } else d1

/-! ### Meanings -/

/-- TREAD_ZEROED. -/
def execTreadZeroed (s : State) : Host.Outcome State Fault Refusal := onMem (fun _ _ d => treadZeroed d) s

/-- LANDING_SCRUB_STEP. -/
def execLandingScrubStep (s : State) : Host.Outcome State Fault Refusal := onDev (fun r d => scrubStep r (pageUse r .lnd [0x040] d)) s

end Sys2Proof.Machine
end

