-- ==== Sys2Proof/Machine/Mon.lean ====
section
/-! DEFINITION. Monitors and telemetry (16): the slots' recording, classes, the alarm table, the telemetry writer and the gaps. -/

namespace Sys2Proof.Machine

/-! ### Telemetry occurrences (R350 to R356) -/

/-- Change the telemetry state. -/
def Dev.logMap (d : Dev) (f : LogSt → LogSt) : Dev := { d with log := f d.log }

/-- Class of a source: 0 NONE, 1 TRACE, 2 LOG, 3 ALARM; sources 448 to 479 have none (R350). -/
def srcClass (d : Dev) (n : Nat) : Nat :=
  if 448 ≤ n ∧ n ≤ 479 then 0 else let i := n % 16; d.rf .log (0x100 + 4 * (n / 16)) (2 * i + 1) (2 * i)

/-- LOG.GALg_COR; an element without an owner has none, and reads as every class disabled. -/
def galCor (d : Dev) (g : Nat) : Word := if g ≤ 5 then d.reg .log (0x060 + 4 * g) else 0

/-- A log of gallery `g` is lost: its gap opens or extends (R356). -/
def logLost (r : Root) (g ec era : Nat) (d : Dev) : Dev :=
  let old := sget (fun _ => none) d.log.gap g
  let new : Gap := match old with
    | none => { lost := 1, firstEC := ec, lastEC := ec, firstEra := era, lastEra := era }
    | some x => { x with lost := satInc x.lost 0xFFFFFFFF, lastEC := ec, lastEra := era }
  raiseIf old.isNone r 450
    (d.logMap fun l => { l with gap := sset (fun _ => none) l.gap g (some new), cntLog := (l.cntLog + 1) % 2 ^ 32 })

/-- A log or trace joins the queue of 64 (R355). -/
def teleQueue (r : Root) (x : TeleRec) (d : Dev) : Dev :=
  let q := d.log.queue
  if q.length < 64 then d.logMap fun l => { l with queue := q ++ [x] }
  else if !x.log then d.logMap fun l => { l with cntTrace := (l.cntTrace + 1) % 2 ^ 32 }
  else
    match q.reverse.findIdx? fun y => !y.log with
    | some i => d.logMap fun l => { l with queue := (q.reverse.eraseIdx i).reverse ++ [x], cntTrace := (l.cntTrace + 1) % 2 ^ 32 }
    | none => logLost r x.g x.ec x.era d

/-- The alarm entries in use. -/
def alarmEntries (d : Dev) : List Nat :=
  d.regs.filterMap fun p => match place p.1 with | .table .alarm e 0 => if bitOf p.2 31 then some e else none | _ => none

/-- An alarm occurrence in entry `e`, taken afresh or updated (R353). -/
def alarmUpdate (r : Root) (e g id : Nat) (value : Word) (taken : Bool) (d : Dev) : Dev :=
  let era := d.tb.era
  let w0 := if taken then wd (2 ^ 31 + g * 2 ^ 27 + id) else d.tw .alarm e 0
  let cnt := if taken then 1 else satInc (d.tw .alarm e 1).toNat 0xFFFFFFFF
  let now := ecWords (r.ec / 512 * 512)
  let first := if taken then now else [d.tw .alarm e 2, d.tw .alarm e 3]
  let fera := if taken then era else d.tf .alarm e 6 31 16
  let ws := [w0, wd cnt] ++ first ++ now ++ [wd (fera * 65536 + era), value]
  let d1 := ws.zipIdx.foldl (fun d p => d.setTw .alarm e p.2 p.1) d
  let g' := fld w0 29 27
  d1.logMap fun l =>
    { l with since := nput l.since e (satInc (if taken then 0 else nget l.since e) 0xFFFF),
             fresh := if bitOf (galCor d g') 31 && !bitOf w0 30 && !l.fresh.contains e then l.fresh ++ [e] else l.fresh }

/-- An alarm occurrence takes its place: the entry of its ID, the lowest free one, or entry 127 (R353). The cycle's occurrences are noted (R354). -/
def alarmPlace (r : Root) (g id : Nat) (value : Word) (d : Dev) : Dev :=
  let used := alarmEntries d
  let note := fun (e : Nat) (d : Dev) => d.logMap fun l =>
    { l with occCyc := r.cyc + 1, occ := (if l.occCyc = r.cyc + 1 then l.occ else []) ++ [⟨e, g, id, value⟩] }
  match used.find? fun e => e < 127 && d.tf .alarm e 0 11 0 == id with
  | some e => note e (alarmUpdate r e g id value false d)
  | none =>
    match (List.range 127).find? fun e => !used.contains e with
    | some e => raise r 449 (note e (alarmUpdate r e g id value true d))
    | none => raise r 451 (note 127 (alarmUpdate r 127 g 0x0FFF (wd id) (!used.contains 127) d))

/-- One alarm occurrence: counted, and placed. -/
def alarmOccur (r : Root) (g id : Nat) (value : Word) (d : Dev) : Dev :=
  alarmPlace r g id value (d.logMap fun l => { l with cntAlarm := (l.cntAlarm + 1) % 2 ^ 32 })

/-- One occurrence of a class for gallery `g` (R350, R351). An element that no gallery owns has 7 here: there is no LOG.GALg_COR for it, so that its logs
and traces have nowhere to go, and its alarms stand in the table without a record. -/
def teleOccur (r : Root) (cls g id : Nat) (value : Word) (d : Dev) : Dev :=
  match cls with
  | 1 => if g ≤ 5 ∧ bitOf (galCor d g) 29 = true then teleQueue r ⟨false, g, id, r.ec / 512 * 512, d.tb.era, value⟩ d else d
  | 2 => if g ≤ 5 ∧ bitOf (galCor d g) 30 = true then teleQueue r ⟨true, g, id, r.ec / 512 * 512, d.tb.era, value⟩ d else d
  | 3 => alarmOccur r g id value d
  | _ => d

/-! ### The telemetry writer (R355, R356) -/

/-- Payload of an alarm, log or trace record (R351). -/
def telePayload (ec era count : Nat) (value : Word) : List Byte := wordsBytes (ecWords ec ++ [wd (era * 65536 + count), value])

/-- Whether an alarm entry's record can be written now: its gallery's A_EN, and room in its corridor. -/
def alarmRoom (d : Dev) (e : Nat) : Bool :=
  let gc := galCor d (d.tf .alarm e 0 29 27)
  let c := fld gc 23 16
  bitOf gc 31 && (d.cor c).takes && (d.cor c).fits [16]

/-- The entries whose record is owed. -/
def alarmOwed (d : Dev) : List Nat := (alarmEntries d).filter fun e => bitOf (d.tw .alarm e 0) 30

/-- Try an alarm entry's record: written when its corridor has room, else PENDING (R355). While A_EN is 0 nothing is written, and what is owed stays
owed. -/
def alarmRecord (r : Root) (e : Nat) (d : Dev) : Dev × List MemWr :=
  let w0 := d.tw .alarm e 0
  let g := fld w0 29 27
  let gc := galCor d g
  let c := fld gc 23 16
  let pend := fun (b : Bool) (d : Dev) => d.setTw .alarm e 0 (wd (nset (d.tw .alarm e 0).toNat 30 b))
  if !bitOf w0 31 || !bitOf gc 31 then (d, [])
  else if alarmRoom d e then
    let pay := telePayload ((d.tw .alarm e 4).toNat + 2 ^ 32 * (d.tw .alarm e 5).toNat) (d.tf .alarm e 6 15 0) (nget d.log.since e) (d.tw .alarm e 7)
    let p := produce r c 0x05 (fld w0 11 0) pay d
    if p.1 then ((pend false p.2.1).logMap fun l => { l with since := nput l.since e 0 }, p.2.2) else (pend true p.2.1, p.2.2)
  else (pend true d, [])

/-- Write each PENDING entry's record that has room, in entry order (R355). -/
def flushPending (r : Root) (d : Dev) : Dev × List MemWr :=
  (alarmOwed d).foldl (fun a e => let p := alarmRecord r e a.1; (p.1, a.2 ++ p.2)) (d, [])

/-- A log record leaves the queue: with a gap open it goes only when both fit (R356). LOG point 0 loses it (R363). -/
def writeLog (r : Root) (x : TeleRec) (d : Dev) : Dev × List MemWr :=
  let inj := injects .log 0 d
  let d := opportunity r .log 0 d
  let c := fld (galCor d x.g) 15 8
  let gap := sget (fun _ => none) d.log.gap x.g
  let need := if gap.isSome then [24, 16] else [16]
  if inj || !(d.cor c).takes || !(d.cor c).fits need then (logLost r x.g x.ec x.era (corOverflow r c d), [])
  else
    let pre : Bool × Dev × List MemWr := match gap with
      | none => (true, d, [])
      | some y =>
        let pay := wordsBytes (ecWords y.firstEC ++ ecWords y.lastEC ++ [wd (y.firstEra * 65536 + y.lastEra), wd y.lost])
        let p := produce r c 0x08 0 pay d
        (p.1, if p.1 then p.2.1.logMap fun l => { l with gap := sset (fun _ => none) l.gap x.g none } else p.2.1, p.2.2)
    let q := if pre.1 then produce r c 0x06 x.id (telePayload x.ec x.era 1 x.value) pre.2.1 else (false, pre.2.1, [])
    (if q.1 then q.2.1 else logLost r x.g x.ec x.era q.2.1, pre.2.2 ++ q.2.2)

/-- TELEMETRY_RECORD_WRITE (R355): an alarm's record first, a pending one that finds room among them, then the head of the queue; a trace without room is
dropped. -/
def teleWrite (r : Root) (d : Dev) : Dev × List MemWr :=
  match d.log.fresh with
  | e :: t => alarmRecord r e (d.logMap fun l => { l with fresh := t })
  | [] =>
    match (alarmOwed d).find? (alarmRoom d), d.log.queue with
    | some e, _ => alarmRecord r e d
    | none, [] => (d, [])
    | none, x :: t =>
      let d := d.logMap fun l => { l with queue := t }
      let gc := galCor d x.g
      if x.log then (if bitOf gc 30 then writeLog r x d else (d, []))
      else if !bitOf gc 29 then (d, [])
      else
        let c := fld gc 7 0
        let lost := fun (d : Dev) => d.logMap fun l => { l with cntTrace := (l.cntTrace + 1) % 2 ^ 32 }
        if (d.cor c).takes && (d.cor c).fits [16] then
          let p := produce r c 0x07 x.id (telePayload x.ec x.era 1 x.value) d
          (if p.1 then p.2.1 else lost p.2.1, p.2.2)
        else (lost d, [])

/-- LOG.ALARM_CLR: the entry's owner or the house gallery frees it; the occurrences of the clear's own cycle come after it (R354). -/
def alarmClear (r : Root) (g : Nat) (w : Word) (d : Dev) : Dev :=
  let e := fld w 6 0
  let w0 := d.tw .alarm e 0
  if bitOf w0 31 && (fld w0 29 27 == g || g == r.house) then
    let d1 := (List.range 8).foldl (fun d i => d.setTw .alarm e i 0) d
    let l := d.log
    let now := l.occCyc == r.cyc + 1
    let again := if now then l.occ.filter (·.e == e) else []
    again.foldl (fun d o => alarmPlace r o.g o.id o.value d)
      (d1.logMap fun l => { l with since := nput l.since e 0, fresh := l.fresh.filter (· != e), occ := l.occ.filter (·.e != e) })
  else d

/-! ### Monitor slots (R344 to R349) -/

/-- Change the monitors' state. -/
def Dev.monMap (d : Dev) (f : MonSt → MonSt) : Dev := { d with mon := f d.mon }

/-- Bins per octave (R344). -/
def bpoOf (d : Dev) (s : Nat) : Nat := 2 ^ d.tf .monslot s 0 21 20

/-- Bin of a value (R346); an edge E_i is compared as d^BPO against STEP^BPO × 2^i, which has no rounding. -/
def binOf (log : Bool) (bpo : Nat) (lo : Int) (step : Nat) (v : Int) : Nat :=
  if v < lo then 0
  else
    let x := (v - lo).toNat
    let st := if step = 0 then 1 else step
    if log then 1 + ((List.range 62).filter fun i => st ^ bpo * 2 ^ i ≤ x ^ bpo).length
    else min 63 (x / st + 1)

/-- Saturate to signed 32 bits (R345). -/
def clamp32 (v : Int) : Int := max (-(2 ^ 31)) (min (2 ^ 31 - 1) v)

/-- What a slot's accumulation was before the present CFG_CLK cycle, and the cycle's values so far (R349). -/
def Dev.monLate (r : Root) (d : Dev) (s : Nat) : MonLate :=
  let x := sget (fun _ => ({} : MonLate)) d.mon.late s
  if x.cyc = r.cyc + 1 then x
  else { cyc := r.cyc + 1, count := nget d.mon.count s, min := d.tw .monslot s 6, max := d.tw .monslot s 7, dropped := nget d.mon.dropped s }

/-- Set it. -/
def setLate (s : Nat) (x : MonLate) (d : Dev) : Dev := { d with mon := { d.mon with late := sset (fun _ => {}) d.mon.late s x } }

/-- A slot's accumulation takes a value: bin, MIN, MAX, COUNT (R346). -/
def monAdd (r : Root) (s : Nat) (v : Int) (d : Dev) : Dev :=
  let w0 := d.tw .monslot s 0
  let x := d.monLate r s
  let lo := sgn (d.tw .monslot s 2).toNat 32
  let b := binOf (fld w0 23 22 == 1) (bpoOf d s) lo (d.tw .monslot s 3).toNat v
  let old := d.tw .hist (64 * s + b) 0
  let d1 := d.setTw .hist (64 * s + b) 0 (wd (satInc old.toNat 0xFFFFFFFF))
  let mn := sgn (d1.tw .monslot s 6).toNat 32
  let mx := sgn (d1.tw .monslot s 7).toNat 32
  let d2 := (d1.setTw .monslot s 6 (wd (uns (min mn v) 32))).setTw .monslot s 7 (wd (uns (max mx v) 32))
  setLate s { x with vals := x.vals ++ [v], bins := x.bins ++ [(b, old)] }
    { d2 with mon := { d2.mon with count := nput d2.mon.count s (satInc (nget d2.mon.count s) 0xFFFFFFFF) } }

/-- A value is dropped (R345). -/
def monDrop (r : Root) (s : Nat) (d : Dev) : Dev :=
  let x := d.monLate r s
  setLate s { x with drops := x.drops + 1 } { d with mon := { d.mon with dropped := nput d.mon.dropped s (satInc (nget d.mon.dropped s) 0xFFFFFFFF) } }

/-- A slot records a value: its accumulation, limits and trace (R346, R348, R352). LIM_EN governs the alarm; LIMIT shows the latest value with
or without it (log entry 39). -/
def monRecord (r : Root) (s : Nat) (raw : Int) (d : Dev) : Dev :=
  let w0 := d.tw .monslot s 0
  let v := clamp32 (raw / 2 ^ fld w0 19 16)
  let d3 := monAdd r s v d
  let own := owner r d .monSlot (s / 8)
  let out := v < sgn (d.tw .monslot s 4).toNat 32 || sgn (d.tw .monslot s 5).toNat 32 < v
  let d4 := raiseIf (out && !bget d3.mon.limit s) r 448 (d3.monMap fun m => { m with limit := bput m.limit s out })
  let d5 := if bitOf w0 29 && out then teleOccur r 3 own (0x200 + s) (wd (uns v 32)) d4 else d4
  if bitOf w0 30 then teleOccur r 1 own (0x400 + s) (wd (uns v 32)) d5 else d5

/-- The enabled slots on a quantity of an object (R345). -/
def monSlots (d : Dev) (qty obj : Nat) : List Nat :=
  d.regs.filterMap fun p => match place p.1 with
    | .table .monslot s 0 => if bitOf p.2 31 && fld p.2 27 24 == qty && d.tf .monslot s 1 31 16 == obj then some s else none
    | _ => none

/-- A quantity yields a raw value; one from another era is dropped (R345). -/
def monTake (r : Root) (qty obj : Nat) (sameEra : Bool) (raw : Int) (d : Dev) : Dev :=
  (monSlots d qty obj).foldl (fun d s =>
    if sameEra then monRecord r s raw d
    else monDrop r s d) d

/-- Clear a slot's accumulation (R347, R349). -/
def monClear (s : Nat) (d : Dev) : Dev :=
  let d1 := (List.range 64).foldl (fun d j => d.setTw .hist (64 * s + j) 0 0) d
  ((d1.setTw .monslot s 6 0x7FFFFFFF).setTw .monslot s 7 0x80000000).monMap fun m =>
    { m with count := nput m.count s 0, dropped := nput m.dropped s 0, late := sset (fun _ => {}) m.late s {} }

/-- MON.SNAP by gallery `g` (R349): it copies what was taken before its cycle, and a clear leaves the values of the cycle. -/
def monSnap (r : Root) (g : Nat) (w : Word) (d : Dev) : Dev :=
  let s := fld w 8 0
  let win := sget (fun _ => {}) d.mon.snap g
  if owner r d .monSlot (s / 8) = g then
    let l := d.monLate r s
    let x : Snap :=
      { valid := true, refuse := 0, slot := s, count := l.count, min := l.min, max := l.max, dropped := l.dropped, ec := r.ec, era := d.tb.era,
        bins := (List.range 64).map fun j => match l.bins.find? (·.1 == j) with | some p => p.2 | none => d.tw .hist (64 * s + j) 0 }
    let d1 := d.monMap fun m => { m with snap := sset (fun _ => {}) m.snap g x }
    if bitOf w 31 then (List.range l.drops).foldl (fun d _ => monDrop r s d) (l.vals.foldl (fun d v => monAdd r s v d) (monClear s d1)) else d1
  else d.monMap fun m => { m with snap := sset (fun _ => {}) m.snap g { win with refuse := 1 } }

/-- A commit of a slot's entry that changes QTY, OBJ, MODE, BPO, SHIFT, LO or STEP clears it (R347). LEVEL begins its periods afresh then, and where ENA
changes: the periods of a disabled slot are none of its last INTERVAL (R345). -/
def monCommit (s : Nat) (old new : List Word) (d : Dev) : Dev :=
  let key := fun (w : List Word) => (fld (w.getD 0 0) 27 16, fld (w.getD 1 0) 31 16, w.getD 2 0, w.getD 3 0)
  let d1 := if key old = key new then d else monClear s d
  if key old = key new ∧ bitOf (old.getD 0 0) 31 = bitOf (new.getD 0 0) 31 then d1
  else d1.monMap fun m => { m with peak := nput m.peak s 0, periods := nput m.periods s 0 }

/-- 1/16 dB of a peak: round(320 × log10(peak ÷ 2^23)), −2,400 for 0 (R345). -/
def levelOf (peak : Nat) : Int :=
  if peak = 0 then -2400
  else match (List.range 2400).find? fun m => 2 ^ 14720 ≤ peak ^ 640 * 10 ^ (2 * m + 1) with
    | some m => -(m : Int)
    | none => -2400

/-- MONITOR_INTERVAL_SAMPLE of slot `s` (R345): LEVEL once its INTERVAL periods have passed, corridor occupancy, temperature. -/
def monInterval (r : Root) (m : List Host.Cell) (s : Nat) (d : Dev) : Dev :=
  let w0 := d.tw .monslot s 0
  let obj := d.tf .monslot s 1 31 16
  let itv := max 1 (d.tf .monslot s 1 15 0)
  if !bitOf w0 31 then d
  else match fld w0 27 24 with
    | 7 =>
      if r.running && itv ≤ nget d.mon.periods s then
        monRecord r s (levelOf (nget d.mon.peak s)) (d.monMap fun m => { m with peak := nput m.peak s 0, periods := nput m.periods s 0 })
      else d
    | 9 => monRecord r s (pdiff (corWr m d obj) (d.cor obj).rel) d
    | 10 => if d.flt.tempValid then monRecord r s (sgn d.flt.temp 16) d else d
    | _ => d

/-- MON registers as gallery `g` reads them (16). -/
def monRead (d : Dev) (g o : Nat) : Word :=
  let x := sget (fun _ => {}) d.mon.snap g
  match o with
  | 0x044 => wd (b2n x.valid * 2 ^ 31 + x.refuse * 2 ^ 28 + x.slot)
  | 0x048 => wd x.count
  | 0x04C => x.min
  | 0x050 => x.max
  | 0x054 => wd x.dropped
  | 0x058 => wd x.ec
  | 0x05C => wd (x.ec / 2 ^ 32)
  | 0x060 => wd (x.era * 65536)
  | _ =>
    if 0x100 ≤ o then x.bins.getD ((o - 0x100) / 4) 0
    else if 0x080 ≤ o then wd (((List.range 32).map fun i => b2n (bget d.mon.limit (32 * ((o - 0x080) / 4) + i)) * 2 ^ i).sum)
    else 0

/-- LOG registers that show live state (16). -/
def logRead (d : Dev) (o : Nat) : Word :=
  match o with
  | 0x040 => wd ((alarmEntries d).length * 65536 + ((List.range 6).map fun g => b2n (sget (fun _ => none) d.log.gap g).isSome * 2 ^ g).sum * 256
      + d.log.queue.length)
  | 0x044 => wd d.log.cntLog
  | 0x048 => wd d.log.cntTrace
  | 0x04C => wd d.log.cntAlarm
  | _ => d.reg .log o

/-- Offsets of LOG.GALg_COR. -/
def gcWords : List Nat := (List.range 6).map fun g => 0x060 + 4 * g

/-! ### Meanings -/

/-- MONITOR_INTERVAL_SAMPLE. -/
def execMonitorIntervalSample (sl : Fin 512) (s : State) : Host.Outcome State Fault Refusal :=
  onDevMem (fun r m d => monInterval r m sl (entryUse r .monslot sl d)) s

/-- TELEMETRY_RECORD_WRITE. -/
def execTelemetryRecordWrite (s : State) : Host.Outcome State Fault Refusal := onMem (fun r _ d => teleWrite r (pageUse r .log gcWords d)) s

/-- ALARM_PENDING_FLUSH. -/
def execAlarmPendingFlush (s : State) : Host.Outcome State Fault Refusal := onMem (fun r _ d => flushPending r (pageUse r .log gcWords d)) s

end Sys2Proof.Machine
end

