-- ==== Sys2Proof/Machine/Events.lean ====
section
/-! DEFINITION. The event controller (04): edges, dispatch, coalescing, delivery, claim and completion, masks and sets, host wakes. -/

namespace Sys2Proof.Machine

/-! ### Targets, galleries and their wakes -/

/-- Change the event controller's state. -/
def Dev.evcMap (d : Dev) (f : EvcSt → EvcSt) : Dev := { d with evc := f d.evc }

/-- Change the host links' state. -/
def Dev.hifMap (d : Dev) (f : HifSt → HifSt) : Dev := { d with hif := f d.hif }

/-- A target. -/
def Dev.tgt (d : Dev) (t : Nat) : Tgt := sget (fun _ => {}) d.evc.tgt t

/-- Set it. -/
def Dev.setTgt (d : Dev) (t : Nat) (x : Tgt) : Dev := d.evcMap fun e => { e with tgt := sset (fun _ => {}) e.tgt t x }

/-- Whether a target is enabled (R87). -/
def tgtEnabled (d : Dev) (t : Nat) : Bool := d.rb (.evt (t / 8)) 0x040 (t % 8)

/-- Whether a gallery is asleep (R81). -/
def asleep (d : Dev) (g : Nat) : Bool := d.rb .gal 0x05C g || (decide (g < 4) && nbit d.hif.d3hot g)

/-- Whether vector `v` of function `f` is masked in its MSI-X table entry (R61). -/
def vecMasked (d : Dev) (f v : Nat) : Bool := bitOf (sget (fun k => if k % 4 = 3 then 1 else 0) d.hif.msix (32 * f + 4 * v + 3)) 0

/-- Whether the function of target `t` cannot receive an MSI-X write (R61). -/
def msixBlocked (d : Dev) (t : Nat) : Bool :=
  let f := t / 8
  decide (f < 4) && (nbit d.hif.d3hot f || !bget d.hif.msixEn f || bget d.hif.funMask f || vecMasked d f (t % 8) || !d.hif.linkUp)

/-- Whether a decision for a target is held (R94). -/
def holds (d : Dev) (t : Nat) : Bool := asleep d (t / 8) || msixBlocked d t

/-- IRQMAP field of a target of a QSPI gallery (R70). -/
def irqMap (d : Dev) (t : Nat) : Nat := let v := t % 8; d.rf .hif (0x058 + 4 * (t / 8 - 4)) (2 * v + 1) (2 * v)

/-- PE_WAKE_N is released once the PCIe link is up and each woken function is in D0 (R106). -/
def wakeSettle (d : Dev) : Dev :=
  d.hifMap fun h => if h.linkUp && h.wokenFn &&& h.d3hot == 0 then { h with wokenFn := 0 } else h

/-- Assert the host wake of gallery `g` (R106). -/
def assertWake (g : Nat) (d : Dev) : Dev :=
  wakeSettle (d.hifMap fun h => if g < 4 then { h with wokenFn := nset h.wokenFn g true } else { h with wokenQspi := nset h.wokenQspi g true })

/-- A watch entry as the Foyer holds it: ENA, EDGE, WAKE_GAL, SRC (R103). -/
def watchOf (d : Dev) (n : Nat) : Word := d.pwv .pwr (0x100 + 4 * n)

/-- Wake the galleries of an entry's WAKE_GAL, all of them or only those asleep (R104, R105). -/
def wakeGals (onlyAsleep : Bool) (w : Word) (d : Dev) : Dev :=
  (List.range 6).foldl (fun d g => if bitOf w (16 + g) && (!onlyAsleep || asleep d g) then assertWake g d else d) d

/-- A SLEEP_CMD has been accepted and awaits its commit (R375). -/
def sleepPending (d : Dev) : Bool := match d.post .pwr with | some p => p.off == 0x040 | none => false

/-- Entry `i` fires while the core runs: its sleeping galleries are woken, and the Foyer latches it while a SLEEP_CMD awaits its commit (R105, R376). -/
def watchFire (i : Nat) (d : Dev) : Dev :=
  let d1 := wakeGals true (watchOf d i) d
  if sleepPending d then { d1 with pwr := { d1.pwr with latched := nset d1.pwr.latched i true } } else d1

/-- The words of the Foyer's watch entries. -/
def watchWords : List Nat := (List.range 16).map fun i => 0x100 + 4 * i

/-- The watch entries on event source `n` fire (R105); they and HOST_SLEEP are used (R53). -/
def foyerSource (r : Root) (n : Nat) (d : Dev) : Dev :=
  (List.range 16).foldl (fun d i => let w := watchOf d i; if bitOf w 31 && fld w 9 0 == n then watchFire i d else d)
    (pageUse r .gal [0x05C] (pageUse r .pwr watchWords d))

/-! ### Source states (R85) -/

/-- Sources whose entries are listed, in ascending order. -/
def listed (d : Dev) (p : Src → Bool) : List Nat := (d.evc.src.filter fun x => p x.2).map (·.1)

/-- Whether a source's set holds an enabled target. -/
def hasTarget (d : Dev) (x : Src) : Bool := (List.range 48).any fun t => nbit x.set t && tgtEnabled d t

/-- Whether a source is waiting (R87). -/
def waits (d : Dev) (x : Src) : Bool := x.st == .pending && !x.mask && hasTarget d x

/-- A source in a state that belongs to no target. -/
def Src.leave (x : Src) (st : SrcSt) (first : Bool) : Src := { x with st := st, tgt := 63, cov := 0, com := none, first := first }

/-- A source becomes PENDING; with no enabled target its watch entries wake their hosts (R105). -/
def toPending (r : Root) (n : Nat) (first : Bool) (d : Dev) : Dev :=
  let x := d.src n
  let d1 := d.setSrc n (x.leave .pending first)
  if hasTarget d x then d1 else foyerSource r n d1

/-- A DISPATCHED source is withdrawn from its target (R85). -/
def withdraw (r : Root) (n : Nat) (d : Dev) : Dev := if (d.src n).st = .dispatched then toPending r n false d else d

/-- A rising edge sampled on a source (R85); the cycle in which it sets the pending bit, or is merged, is noted (R44). -/
def srcEdge (r : Root) (n : Nat) (d : Dev) : Dev :=
  let x := { d.src n with setCyc := r.cyc + 1 }
  match x.st with
  | .idle => toPending r n false (d.setSrc n x)
  | .active => d.setSrc n { x with st := .activePending }
  | _ => (d.setSrc n { d.src n with mergeCyc := r.cyc + 1, counted := d.evc.merged < 0xFFFF }).evcMap fun e => { e with merged := satInc e.merged 0xFFFF }

/-- A pending bit written (R85, R99). -/
def pendWrite (r : Root) (n : Nat) (b : Bool) (d : Dev) : Dev :=
  let x := d.src n
  match x.st, b with
  | .idle, true => toPending r n false d
  | .active, true => d.setSrc n { x with st := .activePending }
  | .pending, false | .dispatched, false => d.setSrc n (x.leave .idle false)
  | .activePending, false => d.setSrc n { x with st := .active }
  | _, _ => d

/-- A source's pending bit (R85). -/
def Src.pend (x : Src) : Bool := match x.st with | .pending | .dispatched | .activePending => true | _ => false

/-- A source's active bit. -/
def Src.act (x : Src) : Bool := match x.st with | .active | .activePending => true | _ => false

/-- A mask bit written (R85, R99). -/
def maskWrite (r : Root) (n : Nat) (b : Bool) (d : Dev) : Dev :=
  let d1 := d.setSrc n { d.src n with mask := b }
  if b then withdraw r n d1 else d1

/-- A completion of source `n` (R85): ACTIVE_PENDING is dispatched ahead of every other. -/
def completeSrc (r : Root) (n : Nat) (d : Dev) : Dev :=
  let x := d.src n
  match x.st with
  | .active => d.setSrc n (x.leave .idle false)
  | .activePending => toPending r n true d
  | _ => d

/-! ### Lines (R42, R84, R240) -/

/-- Level of a source line: the fault lines are levels over all pages, 70 and 71 follow the PHY interrupt pads, every other is
high in the CFG_CLK cycle of its pulse. -/
def lineOf (r : Root) (d : Dev) (n : Nat) : Bool :=
  match faultSources.find? (·.1 == n) with
  | some p => faultLine d p.2
  | none => if n = 70 ∨ n = 71 then nbit d.phyPads (n - 70) else (d.src n).cyc == r.cyc + 2

/-- Whether a source line is a level. -/
def isLevel (n : Nat) : Bool := faultSources.any (·.1 == n) || n == 70 || n == 71

/-- One edge of a source: its state, and one occurrence of its telemetry class for its owner (R85, R350). -/
def edge (r : Root) (n : Nat) (d : Dev) : Dev :=
  teleOccur r (srcClass d n) (owner r d .evtSource n) n 0 (srcEdge r n d)

/-- The key of a level line's history: a fault line goes by its PAGE_STATUS bit. -/
def lineKey (n : Nat) : Nat := match faultSources.find? (·.1 == n) with | some p => p.2 | none => n

/-- Whether a level line has read 0 for a cycle since it was last sampled 1 (R84). -/
def wasLow (d : Dev) (n : Nat) : Bool := !(d.src n).sampled || (d.line (lineKey n)).low

/-- A level line is sampled. -/
def lineSampled (n : Nat) (l : Bool) (d : Dev) : Dev :=
  { d.setSrc n { d.src n with sampled := l } with
    lines := sset (fun _ => {}) d.lines (lineKey n) { d.line (lineKey n) with low := false } }

/-- EVENT_EDGE (R84): the line of source `n` is sampled; a level gives an edge where it has read 0 since it was last sampled 1. -/
def eventEdge (r : Root) (n : Nat) (d : Dev) : Dev :=
  let x := d.src n
  if isLevel n then
    let l := lineOf r d n
    if l && wasLow d n then edge r n (lineSampled n l d) else lineSampled n l d
  else if 0 < x.pulses then edge r n (d.setSrc n { x with pulses := x.pulses - 1 })
  else d

/-! ### Dispatch, decision and delivery (R87 to R94) -/

/-- Sources DISPATCHED to a target. -/
def atTarget (d : Dev) (t : Nat) : List Nat := listed d fun x => x.st == .dispatched && x.tgt == t

/-- A target's collection (R91). -/
def collection (d : Dev) (t : Nat) : List Nat := listed d fun x => x.st == .dispatched && x.tgt == t && x.cov == 0

/-- Whether a committed delivery covers a source. -/
def covered (s : Src) : Bool := s.com.isSome

/-- Whether a decision for a target is held (R94). -/
def Tgt.held (x : Tgt) : Bool := x.waiting.any (·.2)

/-- A delivery is committed to target `t` that covers the decisions `ns`: the sources under them note its EC and era (R92, R97). -/
def commitTo (r : Root) (t : Nat) (ns : List Nat) (d : Dev) : Dev :=
  let x := d.tgt t
  let d1 := d.setTgt t { x with waiting := x.waiting.filter (fun p => !ns.contains p.1), committed := true, claimed := false }
  let d2 := (atTarget d t).foldl (fun d n => let s := d.src n; if ns.contains s.cov then d.setSrc n { s with com := some (r.ec, d.tb.era) } else d) d1
  if t < 32 then d2.hifMap fun h => { h with msixSent := nput h.msixSent t (nget h.msixSent t + 1) } else d2

/-- A decision of function `f` is held: in D3hot it sets PME status, which with PME enabled wakes the host (R61). -/
def heldPme (f : Nat) (d : Dev) : Dev :=
  if f < 4 ∧ nbit d.hif.d3hot f then
    let d1 := d.hifMap fun h => { h with pme := bput h.pme f true }
    if bget d.hif.pmeEn f then assertWake f d1 else d1
  else d

/-- The sources `ns` are covered by a decision held for their sleeping gallery: their watch entries wake it, and a held decision of a function
in D3hot sets its PME status (R61, R105). -/
def heldWakes (r : Root) (t : Nat) (ns : List Nat) (d : Dev) : Dev :=
  heldPme (t / 8) (if asleep d (t / 8) then ns.foldl (fun d n => foyerSource r n d) d else d)

/-- The words that say whether a decision of target `t` is held, or goes to a pad: HOST_SLEEP, and the vector's mask or the IRQMAP of a QSPI gallery
(R53). -/
def holdUse (r : Root) (t : Nat) (d : Dev) : Dev :=
  pageUse r .hif (if t < 32 then [0x80C + 16 * (t % 8)] else [0x058 + 4 * (t / 8 - 4)]) (pageUse r .gal [0x05C] d)

/-- The words a delivery decision of target `t` uses: its TGT_CFG, and those of `holdUse`. -/
def tgtUse (r : Root) (t : Nat) (d : Dev) : Dev := holdUse r t (pageUse r (.evt (t / 8)) [0x080 + 4 * (t % 8)] d)

/-- The delivery decision of target `t`, when its collection is full or its window has closed (R91); it is held under R94, committed at
once for a polled target (R70), or waits for its commit. A decision made while none is held is a delivery of its own, whatever is held before it. -/
def decide' (r : Root) (t : Nat) (d0 : Dev) : Dev :=
  let d := tgtUse r t d0
  let col := collection d t
  let cfg := d.reg (.evt (t / 8)) (0x080 + 4 * (t % 8))
  let first := (col.map fun n => (d.src n).dispEC).foldl min r.ec
  if col = [] ∨ (col.length < max 1 (fld cfg 7 0) ∧ r.ec < first + fld cfg 31 16 * 256000) then d
  else
    let x := d.tgt t
    let d1 := col.foldl (fun d n => d.setSrc n { d.src n with cov := x.made + 1 }) d
    let d2 := d1.setTgt t { x with made := x.made + 1, waiting := x.waiting ++ [(x.made + 1, holds d t)] }
    if holds d t then heldWakes r t col d2
    else if 32 ≤ t ∧ irqMap d t = 0 then commitTo r t [x.made + 1] d2
    else d2

/-- The next enabled target of a source's set above the last one, wrapping (R88). -/
def nextTarget (d : Dev) (x : Src) : Option Nat :=
  ((List.range 48).map fun i => (x.last + 1 + i) % 48).find? fun t => nbit x.set t && tgtEnabled d t

/-- SOURCE_DISPATCH (R87): a source made PENDING by a completion first, else the lowest waiting one. Of several that completions made PENDING
together, the lowest goes first, and one that is masked keeps its precedence until it waits (DESIGN CHOICE, log entry 18). A collection of the
chosen target whose window has closed is decided without the new source, which opens the next (R8, R91). -/
def dispatch (r : Root) (d : Dev) : Dev :=
  let w := listed d (waits d)
  match (w.find? fun n => (d.src n).first).or w.head? with
  | none => d
  | some n =>
    let x := d.src n
    match nextTarget d x with
    | none => d
    | some t =>
      let d1 := decide' r t d
      decide' r t (d1.setSrc n { d1.src n with st := .dispatched, tgt := t, last := t, cov := 0, com := none, first := false, dispEC := r.ec })

/-- DELIVERY_COMMIT of target `t` (R92 to R94): the held decisions as one delivery once their condition has ended, else the oldest decision in
its delivery window, which a gallery's sleep no longer stops. One whose function cannot receive an MSI-X write at its commit is held (R61). -/
def deliver (r : Root) (t : Nat) (d0 : Dev) : Dev :=
  let d := holdUse r t d0
  let x := d.tgt t
  if x.held && !holds d t then commitTo r t ((x.waiting.filter (·.2)).map (·.1)) d
  else match x.waiting.find? (!·.2) with
    | none => d
    | some p =>
      if msixBlocked d t then
        heldWakes r t (listed d fun s => s.st == .dispatched && s.tgt == t && s.cov == p.1)
          (d.setTgt t { x with waiting := x.waiting.map fun q => if q.1 = p.1 then (q.1, true) else q })
      else commitTo r t [p.1] d

/-- Whether target `t` holds a pad interrupt (R70). -/
def holdsPad (d : Dev) (t : Nat) : Bool :=
  let x := d.tgt t
  x.committed && (!x.claimed || (atTarget d t).any fun n => covered (d.src n))

/-- IRQgA (`b` false) or IRQgB of QSPI gallery `g` is asserted (R70). -/
def irqPad (d : Dev) (g : Nat) (b : Bool) : Bool :=
  bget d.hif.cfgWritten (g - 4) && (List.range 8).any fun v => nbit (irqMap d (8 * g + v)) (b2n b) && holdsPad d (8 * g + v)

/-- A claim read of target `t` by its gallery (R95): the word read and the device after it. The monitor's latency runs from the commit of the
delivery that covers the source (R97). -/
def claim (r : Root) (t : Nat) (d : Dev) : Word × Dev :=
  let l := atTarget d t
  let d1 := d.setTgt t { d.tgt t with claimed := true }
  match l with
  | [] => (0x3FF, d1)
  | n :: rest =>
    let s := d.src n
    let d2 := d1.setSrc n { s with st := .active, cov := 0, com := none }
    (wd (rest.length * 65536 + n), match s.com with
      | some c => monTake r 8 t (c.2 == d.tb.era) (((r.ec - c.1) / 256 : Nat) : Int) d2
      | none => d2)

/-- A completion write at target `t` (R96). -/
def complete (r : Root) (t n : Nat) (d : Dev) : Dev :=
  let x := d.src n
  if n < 512 ∧ x.act ∧ x.tgt = t then completeSrc r n d
  else if n = 0x3FF then d
  else d.evcMap fun e => { e with badComplete := nput e.badComplete (t / 8) (satInc (nget e.badComplete (t / 8)) 0xFFFF) }

/-- A change of target enables or sets from the device `o` withdraws what it no longer reaches (R85); a PENDING source that loses its last
enabled target wakes hosts by its watch entries in that cycle (R105). -/
def withdrawLost (r : Root) (o d : Dev) : Dev :=
  let gone := (listed d fun x => x.st == .pending && !hasTarget d x).filter fun n => hasTarget o (o.src n)
  gone.foldl (fun d n => foyerSource r n d)
    ((listed d fun x => x.st == .dispatched && !(nbit x.set x.tgt && tgtEnabled d x.tgt)).foldl (fun d n => withdraw r n d) d)

/-- The EVTg part of a gallery reset (R80, R98). -/
def evtReset (r : Root) (g : Nat) (d : Dev) : Dev :=
  let d1 := withdrawLost r d (d.setReg (.evt g) 0x040 0)
  let d2 := (listed d1 fun x => x.act && x.tgt / 8 == g).foldl (fun d n => completeSrc r n d) d1
  let d3 := (List.range 8).foldl (fun d v => d.setTgt (8 * g + v) {}) d2
  d3.evcMap fun e => { e with badComplete := nput e.badComplete g 0 }

/-! ### Registers of EVC and EVTg -/

/-- A word of 32 bits from a predicate. -/
def bitsWord (p : Nat → Bool) : Word := wd (((List.range 32).map fun i => b2n (p i) * 2 ^ i).sum)

/-- A bulk word write over the sources it reaches: a bit written with its present value changes nothing (R99, R100). -/
def bulkWrite (k : Nat) (w : Word) (may : Nat → Bool) (now : Src → Bool) (f : Nat → Bool → Dev → Dev) (d : Dev) : Dev :=
  (List.range 32).foldl (fun d i =>
    let n := 32 * k + i
    if may n && now (d.src n) != bitOf w i then f n (bitOf w i) d else d) d

/-- EVC registers (04). -/
def evcRead (r : Root) (d : Dev) (o : Nat) : Word :=
  let k := o % 64 / 4
  if o = 0x040 then wd (d.evc.merged * 65536 + (listed d (waits d)).length)
  else if o < 0x140 then bitsWord fun i => (d.src (32 * k + i)).pend
  else if o < 0x180 then bitsWord fun i => (d.src (32 * k + i)).mask
  else if o < 0x1C0 then bitsWord fun i => (d.src (32 * k + i)).act
  else bitsWord fun i => lineOf r d (32 * k + i)

/-- A 0 written to the pending bit of source `n`. An edge of the write's own CFG_CLK cycle comes after it (R44, R100): one that set the bit leaves it
set, and one merged into a bit that stood before the write sets it anew and was no merge. -/
def pendClear (r : Root) (n : Nat) (d : Dev) : Dev :=
  let x := d.src n
  if x.setCyc = r.cyc + 1 then d
  else if x.mergeCyc = r.cyc + 1 then
    let d1 := (d.setSrc n { x with setCyc := r.cyc + 1 }).evcMap fun e => { e with merged := e.merged - b2n x.counted }
    if x.st = .activePending then d1 else toPending r n false d1
  else pendWrite r n false d

/-- A bulk write of pending bits. -/
def pendBulk (r : Root) (k : Nat) (w : Word) (may : Nat → Bool) (d : Dev) : Dev :=
  bulkWrite k w may Src.pend (fun n b d => if b then pendWrite r n true d else pendClear r n d) d

/-- A write of EVC.PENDk or MASKk by the steward (R99). -/
def evcWrite (r : Root) (o : Nat) (w : Word) (d : Dev) : Dev :=
  let k := o % 64 / 4
  if o < 0x140 then pendBulk r k w (fun _ => true) d else bulkWrite k w (fun _ => true) (·.mask) (maskWrite r) d

/-- The source selected by EVTg.SRC_SEL. -/
def srcSel (d : Dev) (g : Nat) : Nat := d.rf (.evt g) 0x048 8 0

/-- EVTg registers (04) that show live state. -/
def evtRead (r : Root) (d : Dev) (g o : Nat) : Word :=
  let x := d.src (srcSel d g)
  if o = 0x044 then
    wd (nget d.evc.badComplete g * 65536
      + ((List.range 8).map fun v => b2n (d.tgt (8 * g + v)).held * 2 ^ v).sum * 256
      + ((List.range 8).map fun v => b2n ((atTarget d (8 * g + v)).any fun n => covered (d.src n)) * 2 ^ v).sum)
  else if o = 0x04C then
    let stc := match x.st with | .idle => 0 | .pending => 1 | .dispatched => 2 | .active => 3 | .activePending => 4
    wd (stc * 2 ^ 13 + x.tgt * 2 ^ 7 + b2n x.pend * 2 + b2n x.mask)
  else if 0x050 ≤ o ∧ o < 0x05C then wd (x.set / 2 ^ (16 * ((o - 0x050) / 4)) % 65536)
  else if 0x100 ≤ o then evcRead r d o
  else d.reg (.evt g) o

/-- SRC_CTRL of the selected source: the masked bits PEND and MASK (R101). -/
def srcCtrlWrite (r : Root) (g : Nat) (w : Word) (d : Dev) : Dev :=
  let n := srcSel d g
  let d1 := if bitOf w 17 && (d.src n).pend != bitOf w 1 then pendWrite r n (bitOf w 1) d else d
  if bitOf w 16 && (d1.src n).mask != bitOf w 0 then maskWrite r n (bitOf w 0) d1 else d1

/-- SRC_TGTk of the selected source (R101). -/
def srcTgtWrite (r : Root) (g k : Nat) (w : Word) (d : Dev) : Dev :=
  let n := srcSel d g
  let x := d.src n
  let set := (List.range 16).foldl (fun s i => if bitOf w (16 + i) then nset s (16 * k + i) (bitOf w i) else s) x.set
  withdrawLost r d (d.setSrc n { x with set := set })

/-- A write of an EVTg register kept by the controller, by gallery `g` its steward (R96, R99, R101). -/
def evtWrite (r : Root) (g o : Nat) (w : Word) (d : Dev) : Dev :=
  let own := fun n => owner r d .evtSource n == g
  let k := o % 64 / 4
  if o = 0x04C then srcCtrlWrite r g w d
  else if o < 0x05C then srcTgtWrite r g ((o - 0x050) / 4) w d
  else if 0x0E0 ≤ o ∧ o < 0x100 then complete r (8 * g + (o - 0x0E0) / 4) (fld w 9 0) d
  else if o < 0x140 then pendBulk r k w own d
  else bulkWrite k w own (·.mask) (maskWrite r) d

/-! ### Meanings -/

/-- EVENT_EDGE. -/
def execEventEdge (n : Fin 512) (s : State) : Host.Outcome State Fault Refusal := onDev (fun r d => eventEdge r n d) s

/-- SOURCE_DISPATCH: it uses the mask words and every TGT_ENA. -/
def execSourceDispatch (s : State) : Host.Outcome State Fault Refusal := 
  onDev (fun r d => dispatch r (((List.range 6).foldl (fun d g => pageUse r (.evt g) [0x040] d)
    (pageUse r .evc ((List.range 16).map fun k => 0x140 + 4 * k) d)))) s

/-- COAL_TIME_EXPIRY (R91): the decision of a target whose window has closed. -/
def execCoalTimeExpiry (t : Fin 48) (s : State) : Host.Outcome State Fault Refusal := onDev (fun r d => decide' r t d) s

/-- DELIVERY_COMMIT. -/
def execDeliveryCommit (t : Fin 48) (s : State) : Host.Outcome State Fault Refusal := onDev (fun r d => deliver r t d) s

end Sys2Proof.Machine
end

