-- ==== Sys2Proof/Machine/Flt.lean ====
section
/-! DEFINITION. Fault supervisors, the parity scrub and the FLT page (17, R53, R54, R358 to R367). -/

namespace Sys2Proof.Machine

/-- Change the FLT state. -/
def Dev.fltMap (d : Dev) (f : FltSt → FltSt) : Dev := { d with flt := f d.flt }

/-! ### Supervisors (R366, R367) -/

/-- TEMP_STATE after a valid reading `t`; from INVALID a reading is judged afresh (DEDUCED, log entry 29). -/
def tempNext (old : Nat) (t warn crit : Int) : Nat :=
  let o := if old = 3 then 0 else old
  if crit < t ∨ (o = 2 ∧ crit - 32 < t) then 2 else if warn < t ∨ (o ≠ 0 ∧ warn - 32 < t) then 1 else 0

/-- TEMP_SUPERVISOR_EVAL (R366): the sensor's reading, which also enters the second's mean (R168), and the state; point 1 replaces the
reading for one evaluation (R367). -/
def tempEval (r : Root) (temp : Nat) (valid : Bool) (d : Dev) : Dev :=
  let inj := injects .flt 1 d
  let d1 := opportunity r .flt 1 d
  let t := if inj then d.rf .flt 0x054 15 0 else temp
  let n := if inj || valid then tempNext d.flt.tempState (sgn t 16) (sgn (d.rf .flt 0x048 15 0) 16) (sgn (d.rf .flt 0x048 31 16) 16) else 3
  let d2 := d1.fltMap fun f => { f with temp := temp, tempValid := valid, tempState := n }
  let d3 := if valid then { d2 with ref := { d2.ref with tempSum := d2.ref.tempSum + sgn temp 16, tempCnt := d2.ref.tempCnt + 1 } } else d2
  raiseIf (n != d.flt.tempState) r 481 d3

/-- SUPPLY_SUPERVISOR_EVAL (R366): the conditions of FLT.STATUS.SUPPLY; point 2 gives VIN_WARN for one evaluation (R367). -/
def supplyEval (r : Root) (d : Dev) : Dev :=
  let warn := d.pwr.vinWarn || injects .flt 2 d
  let n := d.rails / 2 % 64 * 2 + b2n warn
  raiseIf (n != d.flt.supply) r 482 ((opportunity r .flt 2 d).fltMap fun f => { f with supply := n })

/-! ### Parity (R53, R54, R365) -/

/-- The stored parity bit of a word is wrong. -/
def spoil (a : Nat) (d : Dev) : Dev := if hasParity a && !d.parityBad.contains a then { d with parityBad := a :: d.parityBad } else d

/-- INJECTION_TICK (R363): FLT point 0 at its 1 µs tick. -/
def injTick (r : Root) (d : Dev) : Dev :=
  let d1 := opportunity r .flt 0 d
  if injects .flt 0 d then spoil (d.rf .flt 0x050 20 0 / 4 * 4) d1 else d1

/-- The first word with parity at or after an address, ascending through the map and on from its start (R53). -/
def scrubFind : Nat → Nat → Nat
  | 0, a => a
  | n + 1, a =>
    if 0x131000 ≤ a then scrubFind n 0
    else if hasParity a then a
    else scrubFind n (match place a with | .reserved => (a / 0x1000 + 1) * 0x1000 | _ => a + 4)

/-- PARITY_SCRUB (R53): the scrub checks its next word, where SCRUB_EN of its page is 1. -/
def parityScrub (r : Root) (d : Dev) : Dev :=
  let a := scrubFind 4096 d.scrubAt
  let d1 := { d with scrubAt := a + 4 }
  if d.rb (ownerBlk a) 0x014 1 && d.parityBad.contains a then parityFault r a d1 else d1

/-! ### FLT registers -/

/-- ARM clears on every page (R362). -/
def disarmAll (d : Dev) : Dev := Blk.all.foldl (fun d b => if d.armed b then disarm b d else d) d

/-- FLT.CMD: DISARM_ALL by the steward or the house gallery, CLEAR_CNT by the steward. -/
def fltCmd (w : Word) (isSteward : Bool) (d : Dev) : Dev :=
  let d1 := if bitOf w 0 then disarmAll d else d
  if bitOf w 1 && isSteward then d1.fltMap fun f => { f with total := 0 } else d1

/-- FLT registers that show live state (17). -/
def fltRead (d : Dev) (o : Nat) : Word :=
  match o with
  | 0x04C => wd (d.flt.tempState * 256 + d.flt.supply)
  | 0x058 => wd d.flt.total
  | 0x05C => wd (d.flt.lastEra * 65536 + d.flt.lastPage * 256 + d.flt.lastPoint)
  | 0x060 => wd d.flt.lastEC
  | 0x064 => wd (d.flt.lastEC / 2 ^ 32)
  | _ => if 0x080 ≤ o then bitsWord fun i => match Blk.ofPage (32 * ((o - 0x080) / 4) + i) with | some b => d.armed b | none => false
         else d.reg .flt o

/-! ### Meanings -/

/-- TEMP_SUPERVISOR_EVAL. -/
def execTempSupervisorEval (temp : Fin 65536) (valid : Bool) (s : State) : Host.Outcome State Fault Refusal :=
  onDev (fun r d => tempEval r temp valid (pageUse r .flt [0x048, 0x054] d)) s

/-- SUPPLY_SUPERVISOR_EVAL. -/
def execSupplySupervisorEval (s : State) : Host.Outcome State Fault Refusal := onDev (fun r d => supplyEval r d) s

/-- INJECTION_TICK. -/
def execInjectionTick (s : State) : Host.Outcome State Fault Refusal := onDev (fun r d => injTick r (pageUse r .flt [0x050] d)) s

/-- PARITY_SCRUB. -/
def execParityScrub (s : State) : Host.Outcome State Fault Refusal := onDev (fun r d => parityScrub r d) s

end Sys2Proof.Machine
end

