-- ==== Sys2Proof/Machine/Gal.lean ====
section
/-! DEFINITION. Galleries (03, R57 to R82, R386): claims, the partition, the seal, gallery reset, sleeping hosts, the PCIe link, and the
GAL, HIF, DEV and OTP registers. -/

namespace Sys2Proof.Machine

/-- Change the GAL state. -/
def Dev.galMap (d : Dev) (f : GalSt → GalSt) : Dev := { d with gal := f d.gal }

/-! ### Claims (R76) -/

/-- Holder of shared page `p`, 7 none. -/
def holderOf (d : Dev) (p : Nat) : Nat := sget (fun _ => 7) d.gal.holder p

/-- Set it. -/
def setHolder (p g : Nat) (d : Dev) : Dev := d.galMap fun x => { x with holder := sset (fun _ => 7) x.holder p g }

/-- CLAIM_RESULT of a gallery after its own operation on page `p`. -/
def claimDone (g p res : Nat) (d : Dev) : Dev := d.galMap fun x => { x with claimRes := wput x.claimRes g (wd (p * 16 + res)) }

/-- RESULT alone of a gallery, PAGE staying that of its own last operation. -/
def claimTold (g res : Nat) (d : Dev) : Dev :=
  d.galMap fun x => { x with claimRes := wput x.claimRes g (wd ((wget x.claimRes g).toNat / 8 * 8 + res)) }

/-- The CFG_CLK cycle that an operation falls into: operations of different galleries at one EC cycle share it, two of one gallery never
do (log entry 30). -/
def claimCycle (r : Root) (g : Nat) (d : Dev) : Dev :=
  let c := r.ec / cfgUnits + 1
  d.galMap fun x =>
    if x.claimCyc = c ∧ ¬ x.acted.contains g then { x with acted := g :: x.acted }
    else { x with claimCyc := c, acted := [g], granted := [], waiting := [] }

/-- Page `p` is granted to `g` in this cycle: EV_CLAIM_CHANGE. -/
def claimGrant (r : Root) (g p : Nat) (d : Dev) : Dev :=
  raise r 9 (setHolder p g ((claimDone g p 1 d).galMap fun x => { x with granted := sset (fun _ => 7) x.granted p g }))

/-- CLAIM: the page is judged as every RELEASE and FORCE of the cycle leaves it, and of several claims the lowest gallery wins. -/
def galClaim (r : Root) (g p : Nat) (d0 : Dev) : Dev :=
  let d := claimCycle r g d0
  let h := holderOf d p
  let held := d.galMap fun x => { x with waiting := lput x.waiting p (lget x.waiting p ++ [g]) }
  if h = 7 then claimGrant r g p d
  else if h = g then claimDone g p 2 held
  else if sget (fun _ => 7) d.gal.granted p = h then (if g < h then claimTold h 3 (claimGrant r g p d) else claimDone g p 3 d)
  else claimDone g p 4 held

/-- The page is given up: claims of the same cycle that found it held are judged again. -/
def claimFree (r : Root) (p : Nat) (d : Dev) : Dev :=
  let w := lget d.gal.waiting p
  let d1 := raise r 9 (setHolder p 7 (d.galMap fun x => { x with waiting := lput x.waiting p [] }))
  match w.min? with
  | none => d1
  | some g => claimGrant r g p (w.foldl (fun d i => claimTold i 3 d) d1)

/-- RELEASE. -/
def galRelease (r : Root) (g p : Nat) (d0 : Dev) : Dev :=
  let d := claimCycle r g d0
  if holderOf d p = g then claimFree r p (claimDone g p 5 d) else claimDone g p 6 d

/-- FORCE: of a page that was held before the claims of its cycle, by the house gallery. -/
def galForce (r : Root) (g p : Nat) (d0 : Dev) : Dev :=
  let d := claimCycle r g d0
  let h := holderOf d p
  if g ≠ r.house ∨ h = 7 ∨ sget (fun _ => 7) d.gal.granted p = h then claimDone g p 6 d
  else claimFree r p (claimDone g p 5 (if h = g then d else claimTold h 7 d))

/-- A write of GAL.CLAIM by gallery `g`; the reserved OP is ignored. -/
def claimCmd (r : Root) (g : Nat) (w : Word) (d : Dev) : Dev :=
  let p := fld w 1 0
  match fld w 9 8 with
  | 0 => galClaim r g p d
  | 1 => galRelease r g p d
  | 2 => galForce r g p d
  | _ => d

/-! ### The partition (R72) -/

/-- The element that PART_SEL selects; none when it selects nothing. -/
def partSel (d : Dev) : Option (Res × Nat) :=
  let i := d.rf .gal 0x04C 8 0
  ((Res.all.find? fun x => x.info.1 == d.rf .gal 0x04C 20 16).filter fun x => decide (i < x.info.2)).map fun x => (x, i)

/-- GAL.PART_DATA as read: the raw limit, or the owner. -/
def partRead (r : Root) (d : Dev) : Word :=
  match partSel d with
  | some (.aptLimit, i) => wd (sget (fun _ => 0x8000) d.gal.aptLimit i * 65536)
  | some (x, i) => wd (owner r d x i)
  | none => 0

/-- A write of GAL.PART_DATA: value 6 is stored as 7; the house gallery's own number is the reset value. -/
def partWrite (r : Root) (w : Word) (d : Dev) : Dev :=
  match partSel d with
  | some (.aptLimit, i) => d.galMap fun x => { x with aptLimit := sset (fun _ => 0x8000) x.aptLimit i (fld w 31 16) }
  | some (x, i) =>
    let v := fld w 2 0
    let o := if v = 6 then 7 else if v = r.house then 8 else v
    d.galMap fun y => { y with part := sset (fun _ => 8) y.part (x.info.1 * 512 + i) o }
  | none => d

/-! ### Sleeping hosts (R81, R106) -/

/-- A write of GAL.HOST_SLEEP by gallery `g`: its own bit alone; writing 0 releases its WAKE_OUT. A decision that is held for another reason when the
gallery falls asleep begins no episode of R105 then: no watch entry fires (DESIGN CHOICE, log entry 18). -/
def hostSleep (g : Nat) (w : Word) (d : Dev) : Dev :=
  if !bitOf w (16 + g) then d
  else
    let d1 := d.setReg .gal 0x05C (wd (nset (d.reg .gal 0x05C).toNat g (bitOf w g)))
    if bitOf w g then d1 else d1.hifMap fun h => { h with wokenQspi := nset h.wokenQspi g false }

/-! ### Gallery reset (R80) -/

/-- Drop the entries of a map whose key belongs to gallery `g`, `n` keys a gallery. -/
def dropGal {α : Type} (g n : Nat) (m : SMap α) : SMap α := m.filter fun p => p.1 / n != g

/-- The link state of gallery `g`: PCIe configuration and MSI-X table of its function, or the counters of its QSPI port. -/
def linkReset (g : Nat) (d : Dev) : Dev :=
  if g < 4 then
    wakeSettle (d.hifMap fun h =>
      { h with msix := dropGal g 32 h.msix, msixEn := bput h.msixEn g false, funMask := bput h.funMask g false, pme := bput h.pme g false,
               pmeEn := bput h.pmeEn g false, d3hot := nset h.d3hot g false })
  else d.hifMap fun h => { h with crcErrs := nput h.crcErrs g 0, aborts := nput h.aborts g 0 }

/-- A reset of gallery `g`: causes 1 FLR, 2 PE_PERST_N or link loss, 3 GAL_RESET. -/
def galReset (r : Root) (cause g : Nat) (d : Dev) : Dev :=
  let d1 := { d with rshadow := dropGal g 0x200000 d.rshadow, wshadow := dropGal g 0x200000 d.wshadow, tshadow := dropGal g 8 d.tshadow }
  let d2 := (List.range 4).foldl (fun d p => if holderOf d p = g then raise r 9 (setHolder p 7 d) else d) d1
  let d3 := d2.galMap fun x =>
    { x with claimRes := wput x.claimRes g 0, aptFaults := nput x.aptFaults g 0, resetCause := sset (fun _ => 4) x.resetCause g cause }
  raise r 8 (linkReset g (evtReset r g d3))

/-- Galleries 0 to 3 are reset together (R80). -/
def pcieReset (r : Root) (d : Dev) : Dev := (List.range 4).foldl (fun d g => galReset r 2 g d) d

/-! ### The PCIe link (R58, R61, R80, R381) -/

/-- The data link goes down: EV_PCIE_LINK. -/
def linkGone (r : Root) (d : Dev) : Dev :=
  if d.hif.linkUp then raise r 12 (d.hifMap fun h => { h with linkUp := false, speed := 0, width := 0, l1 := false }) else d

/-- PCIE_LINK_UP: trained while PE_PERST_N is deasserted. -/
def pcieUp (r : Root) (speed : Nat) (width : LinkWidth) (d : Dev) : Dev :=
  if d.hif.linkUp || d.hif.perst then d
  else
    let w := match width with | .x1 => 1 | .x2 => 2 | .x4 => 4
    wakeSettle (raise r 12 (d.hifMap fun h => { h with linkUp := true, speed := speed + 1, width := w }))

/-- PE_PERST_ASSERT: CORR_ERRS clears, the link goes down, galleries 0 to 3 are reset. -/
def perstAssert (r : Root) (d : Dev) : Dev :=
  pcieReset r (linkGone r (d.hifMap fun h => { h with perst := true, corrErrs := 0 }))

/-- A change of MSI-X, PME or the link of function `f` by its host (R58, R60, R61; log entry 16): a function that holds PME status in D3hot wakes its host when PME is
enabled (log entry 31). -/
def msixChange (f : Nat) (c : MsixChange) (d : Dev) : Dev :=
  match c with
  | .word i w => d.hifMap fun h => { h with msix := sset (fun k => if k % 4 = 3 then 1 else 0) h.msix (32 * f + i) w }
  | .control e m => d.hifMap fun h => { h with msixEn := bput h.msixEn f e, funMask := bput h.funMask f m }
  | .pmeEnable b =>
    let d1 := d.hifMap fun h => { h with pmeEn := bput h.pmeEn f b }
    if b && bget d.hif.pme f && nbit d.hif.d3hot f then assertWake f d1 else d1
  | .pmeClear => d.hifMap fun h => { h with pme := bput h.pme f false }
  | .aspmL1 on => d.hifMap fun h => { h with l1 := on }
  | .corrErrs n => d.hifMap fun h => { h with corrErrs := min (h.corrErrs + n) 0xFFFF }

/-- What each of the four functions shows in its PCI configuration: class code and Device ID (R58). -/
def pcieIds : Nat × Nat := (0x040100, 0x4096)

/-! ### OTP (R386, R387) -/

/-- The OTP's regions: bit of OTP.STATUS, first word, end, CRC word. -/
def otpRegions : List (Nat × Nat × Nat × Nat) :=
  [(1, 0x000, 0x010, 0x7F0), (2, 0x010, 0x020, 0x7F1), (3, 0x020, 0x0A0, 0x7F2), (4, 0x0A0, 0x0C0, 0x7F3), (5, 0x100, 0x500, 0x7F4)]

/-- Word `i` of the OTP as OTP.DATA gives it: reserved words read zero, and with the BAND region failed each VALID reads 0. -/
def otpWord (r : Root) (d : Dev) (i : Nat) : Word :=
  if (0x0C0 ≤ i ∧ i < 0x100) ∨ (0x500 ≤ i ∧ i < 0x7F0) ∨ 0x7F5 ≤ i then 0
  else
    let w := wget r.otp i
    if 0x100 ≤ i ∧ i < 0x500 ∧ i % 2 = 0 ∧ ¬ d.otpRegion 5 then wd (w.toNat % 2 ^ 31) else w

/-! ### Registers -/

/-- GAL registers as gallery `g` reads them (03). -/
def galRead (r : Root) (d : Dev) (g o : Nat) : Word :=
  match o with
  | 0x044 => wget d.gal.claimRes g
  | 0x048 => wd (((List.range 4).map fun p => holderOf d p * 8 ^ p).sum)
  | 0x050 => partRead r d
  | 0x058 => wd (((List.range 6).map fun i => sget (fun _ => 4) d.gal.resetCause i * 16 ^ i).sum)
  | 0x060 => wd (nget d.gal.aptFaults g * 65536 + aptUsed d g)
  | 0x064 => wd (b2n (g == r.house) * 16 + g)
  | _ => d.reg .gal o

/-- HIF registers as gallery `g` reads them (03). -/
def hifRead (d : Dev) (g o : Nat) : Word :=
  let h := d.hif
  if o = 0x040 then wd (h.corrErrs * 65536 + h.d3hot * 4096 + b2n h.l1 * 256 + h.width * 16 + h.speed * 2 + b2n h.linkUp)
  else if o = 0x060 ∨ o = 0x064 then let q := 4 + (o - 0x060) / 4; wd (nget h.aborts q * 65536 + nget h.crcErrs q)
  else if 0xC00 ≤ o then
    (if g < 4 ∧ o = 0xC00 then bitsWord fun v => decide (v < 8) && (d.tgt (8 * g + v)).held && vecMasked d g v else 0)
  else if 0x800 ≤ o then (if g < 4 then let i := (o - 0x800) / 4; sget (fun k => if k % 4 = 3 then 1 else 0) h.msix (32 * g + i) else 0)
  else d.reg .hif o

/-- DEV registers (18). -/
def devRead (r : Root) (o : Nat) : Word :=
  match o with
  | 0x040 => wd (0x40960000 + (wget r.otp 2).toNat % 256 * 256 + 0xB1)
  | 0x048 => wd (b2n r.mismatch * 256 + b2n r.qspiMode * 4 + b2n r.xoSel * 2 + b2n r.houseSel)
  | 0x04C => wget r.otp 0
  | 0x050 => wget r.otp 1
  | _ => 0

/-- OTP registers as gallery `g` reads them (18). -/
def otpRead (r : Root) (d : Dev) (g o : Nat) : Word :=
  match o with
  | 0x040 => wd (d.otpOk + 1)
  | 0x048 => otpWord r d (fld (d.own .otp 0x044 g) 10 0)
  | _ => d.own .otp 0x044 g

/-! ### Meanings -/

/-- PCIE_LINK_UP. -/
def execPcieLinkUp (speed : Fin 4) (width : LinkWidth) (s : State) : Host.Outcome State Fault Refusal :=
  onDev (fun r d => pcieUp r speed width d) s

/-- PCIE_LINK_LOSS. -/
def execPcieLinkLoss (s : State) : Host.Outcome State Fault Refusal :=
  onDev (fun r d => if d.hif.linkUp then pcieReset r (linkGone r d) else d) s

/-- PE_PERST_ASSERT; with the core off the pad alone moves. -/
def execPePerstAssert (s : State) : Host.Outcome State Fault Refusal :=
  if s.root.coreOn then onDev (fun r d => perstAssert r d) s
  else .next { s with dev := s.dev.hifMap fun h => { h with perst := true } }

/-- PE_PERST_DEASSERT (R381): training starts; the link comes up by PCIE_LINK_UP. -/
def execPePerstDeassert (s : State) : Host.Outcome State Fault Refusal :=
  .next { s with dev := s.dev.hifMap fun h => { h with perst := false } }

/-- FUNCTION_LEVEL_RESET: it reaches the device over the PCIe link. -/
def execFunctionLevelReset (f : Fin 4) (s : State) : Host.Outcome State Fault Refusal :=
  onDev (fun r d => if d.hif.linkUp then galReset r 1 f d else d) s

/-- D3HOT_ENTRY (R61): a decision held before now sets PME status (log entry 31). -/
def execD3hotEntry (f : Fin 4) (s : State) : Host.Outcome State Fault Refusal :=
  onDev (fun _ d =>
    if d.hif.linkUp then
      let d1 := d.hifMap fun h => { h with d3hot := nset h.d3hot f true }
      if (List.range 8).any fun v => (d.tgt (8 * f + v)).held then heldPme f d1 else d1
    else d) s

/-- D0_ENTRY (R94, R106): held deliveries can be committed; PE_WAKE_N is released when every woken function is in D0. -/
def execD0Entry (f : Fin 4) (s : State) : Host.Outcome State Fault Refusal :=
  onDev (fun _ d => if d.hif.linkUp then wakeSettle (d.hifMap fun h => { h with d3hot := nset h.d3hot f false }) else d) s

/-- MSIX_MASK_CHANGE (R60, R61, R94). -/
def execMsixMaskChange (f : Fin 4) (c : MsixChange) (s : State) : Host.Outcome State Fault Refusal :=
  onDev (fun _ d => if d.hif.linkUp then msixChange f c d else d) s

end Sys2Proof.Machine
end

