-- ==== Sys2Proof/Machine/Audio.lean ====
section
/-! DEFINITION. What the audio blocks share: sample words, ramps and fades, channels and their samples, the test generators (R17, R306,
R315, R319). -/

namespace Sys2Proof.Machine

/-! ### The device sample rate (R17, R318) -/

/-- The device sample rate in force. -/
def fsNow (d : Dev) : Nat := fsHz d.rte.fs

/-- B(k) at the rate in force. -/
def bNow (d : Dev) (k : Int) : Int := bOf (fsNow d) k

/-- The sample period in progress. -/
def periodNow (r : Root) (d : Dev) : Int := periodOf (fsNow d) (d.atNow r)

/-- Sample periods of `ms` milliseconds or, with `per` 10^6, of µs (R315, R333). -/
def rampLen (d : Dev) (len per : Nat) : Nat := cdiv (len * fsNow d) per

/-! ### Sample words (R226) -/

/-- The 24-bit audio of a sample word. -/
def audio (w : Word) : Int := sgn (w.toNat / 256) 24

/-- A sample word from its audio and its low byte. -/
def sampleWord (a : Int) (side : Nat) : Word := wd (uns a 24 * 256 + side % 256)

/-- Zero with V set. -/
def zeroV : Word := 0x80

/-- A sample word with V set. -/
def withV (w : Word) : Word := w ||| 0x80

/-- NA of a sample word. -/
def isNA (w : Word) : Bool := bitOf w 3

/-- Saturate to 24 bits. -/
def sat24 (a : Int) : Int := max (-(2 ^ 23)) (min (2 ^ 23 - 1) a)

/-- Audio times `num` ÷ `den`, to the nearest, halves away from zero; the side bits stay. -/
def scaleWord (w : Word) (num : Int) (den : Int) : Word := sampleWord (sat24 (rdivAway (audio w * num) den)) (fld w 7 0)

/-- Audio in 16 bits: rounded to the nearest, ties away from zero, saturated (R261, R324). -/
def audio16 (w : Word) : Int := max (-32768) (min 32767 (rdivAway (audio w) 256))

/-! ### Ramps and fades -/

/-- 1.0 in units of 2^-22. -/
def unity : Int := 0x400000

/-- Gain in the next period of a ramp (R315). -/
def Ramp.next (x : Ramp) : Int := if x.n ≤ x.j then x.g1 else x.g0 + rdiv ((x.g1 - x.g0) * (x.j + 1)) x.n

/-- Gain in the latest period of a ramp. -/
def Ramp.now (x : Ramp) : Int := if x.n ≤ x.j then x.g1 else if x.j = 0 then x.g0 else x.g0 + rdiv ((x.g1 - x.g0) * x.j) x.n

/-- One more period. -/
def Ramp.step (x : Ramp) : Ramp := { x with j := min (x.j + 1) x.n }

/-- Whether a ramp runs. -/
def Ramp.runs (x : Ramp) : Bool := decide (x.j < x.n)

/-- A ramp from the present gain. -/
def Ramp.toGain (x : Ramp) (g : Int) (n : Nat) : Ramp := { g0 := x.now, g1 := g, j := 0, n := n }

/-- `m` more periods. -/
def Ramp.steps (x : Ramp) (m : Nat) : Ramp := { x with j := min (x.j + m) x.n }

/-- A gain taken at once. -/
def Ramp.fixed (g : Int) : Ramp := { g0 := g, g1 := g }

/-- A ramp to a gain where the present one does not go there, or is not there, already. -/
def Ramp.head (x : Ramp) (g : Int) (n : Nat) : Ramp := if x.g1 = g then x else x.toGain g n

/-- Gain of a fade in period `k` (R281, R303). -/
def Fade.at (x : Fade) (k : Int) : Rat := if k < x.k then x.g else max 0 (min 1 (x.g + x.s * ((k - x.k + 1 : Int) : Rat)))

/-- A fade to 0 over `len` periods from period `k` on; 0 acts as one period. -/
def Fade.down (x : Fade) (k : Int) (len : Nat) : Fade :=
  let g := x.at (k - 1)
  { k := k, g := g, s := -(g / ((max 1 len : Nat) : Rat)) }

/-- Back up from period `k` on at the rate it fell. -/
def Fade.up (x : Fade) (k : Int) : Fade := { k := k, g := x.at (k - 1), s := -x.s }

/-- A word times a fade's gain. -/
def fadeWord (g : Rat) (w : Word) : Word := if g = 1 then w else scaleWord w g.num g.den

/-! ### Channels (R306) -/

/-- Ranges of source channels. -/
def isSource (c : Nat) : Bool := decide (c ≤ 0x0FFF ∨ (0x2000 ≤ c ∧ c ≤ 0x23FF) ∨ (0x2800 ≤ c ∧ c ≤ 0x37FF) ∨ (0x4800 ≤ c ∧ c ≤ 0x48FF))

/-- Ranges of destination channels. -/
def isDest (c : Nat) : Bool := decide ((0x1000 ≤ c ∧ c ≤ 0x1FFF) ∨ (0x2400 ≤ c ∧ c ≤ 0x27FF) ∨ (0x3800 ≤ c ∧ c ≤ 0x47FF))

/-- A source channel supplies a sample; the newest four periods are kept. -/
def putChan (c : Nat) (x : Samp) (d : Dev) : Dev :=
  { d with chan := lput d.chan c ((x :: (lget d.chan c).filter fun y => y.k != x.k).take 4) }

/-- The sample a channel supplied for period `k`; none gives zero with V set (R303, R325; log entries 20 and 26). -/
def chanSample (d : Dev) (c : Nat) (k : Int) : Samp := ((lget d.chan c).find? fun x => x.k == k).getD ⟨k, zeroV, bNow d k⟩

/-! ### Landing errors under sample words (R221) -/

/-- A sample word of consumer `c` is read: where its extent holds erroneous words, which word the sample lies in is a free value (log entry
26); an uncorrectable one gives zero with V set. -/
def sampleRead (r : Root) (c : Nat) (w : Word) (d : Dev) : Word × Dev :=
  let ts := (d.ext c).treads
  if !((d.lnd.ue ++ d.lnd.ce).any fun x => ts.contains (x / 64)) && !ts.any fun t => entryNames d (d.lnd.mapUe ++ d.lnd.mapCe) t then (w, d)
  else
    let i := d.free % (64 * ts.length)
    let x := ts.getD (i / 64) 0 * 64 + i % 64
    if wordBad d x then (zeroV, ueReport r x d.drew)
    else if wordSoft d x then (w, ceReport r x d.drew) else (w, d.drew)

/-- A port. -/
def Dev.sapn (d : Dev) (n : Nat) : SapS := sget (fun _ => {}) d.sap n

/-- Set it. -/
def Dev.setSap (d : Dev) (n : Nat) (x : SapS) : Dev := { d with sap := sset (fun _ => {}) d.sap n x }

/-- Bits of word `i` of the entry that a receive stream was admitted with. -/
def RxS.af (x : RxS) (i hi lo : Nat) : Nat := fld (x.adm.getD i 0) hi lo
/-- Channels of a receive stream. -/
def RxS.n (x : RxS) : Nat := x.af 0 21 16 + 1
/-- FIRST_CH of a receive stream. -/
def RxS.first (x : RxS) : Nat := x.af 1 31 16
/-- RUNNING or DRAINING. -/
def RxS.carries (x : RxS) : Bool := x.st == 2 || x.st == 3

/-- Whether a period is new to a user that acted last in `last` (R295). -/
def newPeriod (d : Dev) (last : Option (Int × Nat)) (k : Int) : Bool :=
  match last with
  | none => true
  | some (k', e) => e != d.tb.run || decide (k' < k)

/-- Whether an input channel of a serial audio port is still to supply its sample of period `k` (R325, R326): the frame of `k` runs and its slot has
not ended, or it is still to come. -/
def sapAwaits (x : SapS) (s : Nat) (k : Int) : Bool :=
  let frames := (x.cur.toList ++ x.tail.toList).filter fun f => f.k == some k
  let comes := decide (4 ≤ x.st ∧ x.st ≤ 5) && x.clk == 0 && (x.inG.runs || x.inG.g1 != 0) && (match x.lastK with | some l => decide (l < k) | none => false)
  decide (s < x.slots) && (comes || frames.any fun f => f.ok && f.inp)

/-- Whether a source channel is still to supply its sample of period `k` (R224, R291, R307, R325). -/
def awaited (d : Dev) (c : Nat) (k : Int) : Bool :=
  if (lget d.chan c).any fun x => x.k == k then false
  else if c ≤ 0x0FFF then d.rx.any fun p => p.2.carries && newPeriod d p.2.shown k && decide (p.2.first ≤ c ∧ c < p.2.first + p.2.n)
  else if 0x2000 ≤ c ∧ c ≤ 0x23FF then sapAwaits (d.sapn ((c - 0x2000) / 32)) (c % 32) k
  else d.lnd.hbuf.any fun p => p.2.st == .active && !p.2.read && !p.2.closing && newPeriod d p.2.last k && decide (p.2.first ≤ c ∧ c < p.2.first + p.2.count)

/-! ### Test generators (R319) -/

/-- sin of `m` ÷ 2^22 of a quarter turn, in units of 2^-64: the Taylor sum at 64 bits. -/
def sinQuarter (m : Nat) : Int :=
  let a : Int := (m * 57952155664616982739 / 2 ^ 23 : Nat)
  let q : Int := a * a / 2 ^ 64
  ((List.range 14).foldl (fun (s : Int × Int) i => (s.1 + s.2, -(s.2 * q / 2 ^ 64 / ((2 * i + 2) * (2 * i + 3))))) (0, a)).1

/-- sin of `m` ÷ 2^24 of a turn, in units of 2^-64. -/
def sinTurn (m : Nat) : Int :=
  let x := m % 2 ^ 22
  match m / 2 ^ 22 % 4 with
  | 0 => sinQuarter x
  | 1 => sinQuarter (2 ^ 22 - x)
  | 2 => -sinQuarter x
  | _ => -sinQuarter (2 ^ 22 - x)

/-- 0x7F_FFFF × 10^(−level ÷ 40) in units of 2^-40, rounded down. -/
def genAmp (level : Nat) : Nat :=
  let n := (0x7FFFFF * 2 ^ 40) ^ 40 / 10 ^ level
  (List.range 64).foldl (fun acc i => let t := acc + 2 ^ (63 - i); if t ^ 40 ≤ n then t else acc) 0

/-- A generator. -/
def Dev.gen (d : Dev) (g : Nat) : Gen := sget (fun _ => {}) d.rte.gen g

/-- Set it. -/
def Dev.setGen (d : Dev) (g : Nat) (x : Gen) : Dev := { d with rte := { d.rte with gen := sset (fun _ => {}) d.rte.gen g x } }

/-- The words of generator `g` that hold in period `k`: a change takes effect from the next period (R55, R319). -/
def genWords (d : Dev) (g : Nat) (k : Int) : Word × Word :=
  let now := (d.reg .rte (0x400 + 8 * g), d.reg .rte (0x404 + 8 * g))
  match (d.gen g).old with
  | some (c, e, w0, w1) => if e = d.tb.run ∧ k ≤ c then (w0, w1) else now
  | none => now

/-- Sample of generator `g` in period `k` (R319); NOISE is a free function of its LFSR's state (log entry 3). -/
def genSample (d : Dev) (g : Nat) (k : Int) : Word :=
  let ws := genWords d g k
  let cfg := ws.1
  let amp := genAmp (fld cfg 23 16)
  if !bitOf cfg 31 then 0
  else match fld cfg 25 24 with
    | 0 => 0
    | 1 => sampleWord (rdivAway (amp * sinTurn ((k * fld ws.2 23 0 + fld cfg 15 0 * 65536) % 2 ^ 24).toNat) (2 ^ 104)) 0
    | 2 => sampleWord (rdivAway (amp * sgn (Config.noiseOf (d.gen g).lfsr) 32) (2 ^ 71)) 0
    | _ => sampleWord k 0

/-- The generators on NOISE move one period. -/
def genStep (k : Int) (d : Dev) : Dev :=
  (List.range 256).foldl (fun d g =>
    let cfg := (genWords d g k).1
    if bitOf cfg 31 && fld cfg 25 24 == 2 then let x := d.gen g; d.setGen g { x with lfsr := Config.lfsrNext x.lfsr % 2 ^ 32 } else d) d

/-- A write of a word of generator `g` over its old words: they hold to the end of the period, and ENA set seeds the noise with `g` + 1 (R319). -/
def genHook (r : Root) (g : Nat) (w0 w1 : Word) (d : Dev) : Dev :=
  let c := periodNow r d
  let x := d.gen g
  let kept := match x.old with | some (c', e, _, _) => decide (c' = c ∧ e = d.tb.run) | none => false
  d.setGen g { lfsr := if bitOf (d.reg .rte (0x400 + 8 * g)) 31 && !bitOf w0 31 then g + 1 else x.lfsr,
               old := if kept then x.old else some (c, d.tb.run, w0, w1) }

/-- Every generator restarts: an enabled one's noise from its seed (R318). -/
def gensRestart (d : Dev) : Dev :=
  (List.range 256).foldl (fun d g => d.setGen g { lfsr := if bitOf (d.reg .rte (0x400 + 8 * g)) 31 then g + 1 else (d.gen g).lfsr }) d

/-- Sample of a source channel in period `k`: a generator's is made when the period is evaluated. -/
def sourceSample (d : Dev) (c : Nat) (k : Int) : Samp :=
  if 0x4800 ≤ c ∧ !(lget d.chan c).any fun x => x.k == k then ⟨k, genSample d (c - 0x4800) k, bNow d k⟩ else chanSample d c k

end Sys2Proof.Machine
end

