-- ==== Sys2Proof/Machine/Hostbuf.lean ====
section
/-! DEFINITION. Host buffers (10, R223 to R226, R420). -/

namespace Sys2Proof.Machine

/-- A host buffer. -/
def Dev.hb (d : Dev) (b : Nat) : Hbuf := sget (fun _ => {}) d.lnd.hbuf b

/-- Set it. -/
def Dev.setHb (d : Dev) (b : Nat) (x : Hbuf) : Dev := d.lndMap fun l => { l with hbuf := sset (fun _ => {}) l.hbuf b x }

/-- HBUFb_CFG. -/
def hbCfg (d : Dev) (b : Nat) : Word := d.reg .lnd (0x200 + 0x10 * b)

/-- Bytes of a sample in a packing. -/
def Hbuf.w (x : Hbuf) : Nat := if x.pack = 0 then 3 else 4

/-- Depth of the ring in periods; DEPTH_LOG 0 acts as 1. -/
def Hbuf.depth (x : Hbuf) : Nat := 2 ^ max 1 x.depthLog

/-- STRIDE (R223). -/
def Hbuf.stride (x : Hbuf) : Nat := cdiv (x.count * x.w) 64 * 64

/-- Offset of slot `k`. -/
def Hbuf.slot (x : Hbuf) (k : Int) : Nat := (k % (x.depth : Int)).toNat * x.stride

/-- A sample as a packing lays it out (R226). -/
def packSample (pack : Nat) (w : Word) : List Byte :=
  match pack with
  | 0 => leBytes 3 (w.toNat / 256)
  | 1 => leBytes 4 (w.toNat / 8 * 8)
  | _ => leBytes 4 (uns (audio w) 32)

/-- A sample word from its packed bytes (R226). -/
def unpackSample (pack : Nat) (l : List Byte) : Word :=
  match pack with
  | 0 => wd (bytesNat l * 256)
  | 1 => wd (bytesNat l / 8 * 8)
  | _ => wd (bytesNat l % 2 ^ 24 * 256)

/-! ### Admission (R223, R420) -/

/-- An admission starts: the admission fields are sampled, LATE cleared. -/
def hbStart (r : Root) (b : Nat) (d : Dev) : Dev :=
  let cfg := hbCfg d b
  let ch := d.reg .lnd (0x204 + 0x10 * b)
  enqueueAdmit r (b / 8) (consHb b) (d.setHb b
    { d.hb b with st := .admitting, read := bitOf cfg 30, pack := fld cfg 29 28, depthLog := fld cfg 27 24, first := fld ch 31 16,
                  count := fld ch 10 0, late := 0, closing := false, quit := false })

/-- A write of HBUFb_CFG (R420). A buffer that a disable takes to IDLE goes there also with ENA set again before the boundary: setting ENA starts an
admission on an IDLE or REFUSED buffer alone. -/
def hbCfgHook (r : Root) (b : Nat) (new : Word) (d : Dev) : Dev :=
  let x := d.hb b
  if bitOf new 31 then
    (if x.st = .idle ∨ x.st = .refused then hbStart r b d else d)
  else match x.st with
    | .active => d.setHb b { x with closing := true }
    | .admitting => d.setHb b { x with quit := true }
    | _ => d

/-- The Landing request of a host buffer (R223). -/
def hbReq (r : Root) (d : Dev) (b : Nat) : LndReq :=
  let x := d.hb b
  let lo := if x.read then 0x3800 else 0x2800
  let hi := if x.read then 0x47FF else 0x37FF
  { treads := cdiv (x.depth * x.stride) 512,
    formed := decide (x.pack ≠ 3 ∧ x.depthLog ≤ 12 ∧ 1 ≤ x.count ∧ x.count ≤ 1024 ∧ lo ≤ x.first ∧ x.first + x.count - 1 ≤ hi),
    owned := (List.range x.count).all fun i => chanOwner r d (x.first + i) == some (b / 8), align := some 512 }

/-- CH_BUSY: the range includes a channel of another host-write buffer that is not IDLE or REFUSED (R223); a range of COUNT 0 includes none. -/
def hbBusy (d : Dev) (b : Nat) : Bool :=
  let x := d.hb b
  !x.read && d.lnd.hbuf.any fun p =>
    p.1 != b && (p.2.st == .active || p.2.st == .admitting) && !p.2.read
      && decide (1 ≤ x.count ∧ 1 ≤ p.2.count ∧ p.2.first < x.first + x.count ∧ x.first < p.2.first + p.2.count)

/-- The end of a host buffer's admission. -/
def hbAdmitted (r : Root) (b : Nat) (d : Dev) : Dev :=
  let x := d.hb b
  let g := b / 8
  let q := hbReq r d b
  let reason := if hbBusy d b then 6 else lndCheck d g q
  if reason ≠ 0 then lndRefuse r g (consHb b) reason (d.setHb b { x with st := .refused, reason := reason })
  else
    let d1 := hwSets r .lnd (0x20C + 0x10 * b) (lndCommit r g (consHb b) q d)
    if bitOf (hbCfg d b) 31 && !x.quit then
      let c := periodNow r d
      d1.setHb b { x with st := .active, ptr := uns c 32, last := some (c, d.tb.run), from' := some (c + 1), wrote := none }
    else (giveUp r (consHb b) d1).setHb b { x with st := .idle, ptr := uns (periodNow r d) 32 }

/-- HBUFb_PTR written by the host, after which comes the value an admission set in the same cycle (R44): taken by a host-write
buffer, ignored by a host-read buffer (R224, R225); with no admission under way DIR says which it is. -/
def hbPtrHook (r : Root) (b : Nat) (w : Word) (d : Dev) : Dev :=
  let x := d.hb b
  let read := if x.st = .active ∨ x.st = .admitting then x.read else bitOf (hbCfg d b) 30
  if read then d else d.setHb b { x with ptr := (hostFirst r .lnd (0x20C + 0x10 * b) (~~~0) (wd x.ptr) w d).toNat }

/-! ### Sample periods (R224, R225) -/

/-- The tick of a period's start (10, events). -/
def hbTick (r : Root) (b : Nat) (k : Int) (d : Dev) : Dev :=
  let cfg := hbCfg d b
  raiseIf (bitOf cfg 19 && k % (2 ^ fld cfg 23 20 : Nat) == 0) r (36 + b / 8) d

/-- A disabled buffer reaches its period boundary: IDLE, treads to zeroing, aperture unmapped. -/
def hbClose (r : Root) (b : Nat) (d : Dev) : Dev := (giveUp r (consHb b) d).setHb b { d.hb b with st := .idle, closing := false }

/-- A host-write buffer gives every channel its sample of period `k`. -/
def hbSupply (b : Nat) (k : Int) (ws : List Word) (d : Dev) : Dev :=
  let t := bNow d k
  ws.zipIdx.foldl (fun d p => putChan ((d.hb b).first + p.2) ⟨k, p.1, t⟩ d) d

/-- HBUF_PERIOD_TAKE (R224): the period that begins is taken from its slot, or is late. -/
def hbTake (r : Root) (m : List Host.Cell) (b : Nat) (d : Dev) : Dev :=
  let x := d.hb b
  let k := periodNow r d
  if x.st ≠ .active ∨ x.read ∨ !newPeriod d x.last k then d
  else if x.closing then hbClose r b d
  else
    let d0 := d.setHb b { x with last := some (k, d.tb.run) }
    let ahead := sgn (pdiff x.ptr (uns k 32)) 32
    if 0 ≤ ahead ∧ ahead < x.depth then
      let p := lndRead r m (consHb b) (x.slot k) (x.count * x.w) d0
      let hit := fun i => (wordsOf d (consHb b) (x.slot k + i * x.w) x.w).any (wordBad d)
      let ws := (List.range x.count).map fun i => if hit i then zeroV else unpackSample x.pack ((p.1.drop (i * x.w)).take x.w)
      hbTick r b k (hbSupply b k ws p.2)
    else
      let ws := (List.range x.count).map fun i => withV ((lget d.chan (x.first + i)).head?.map (·.w) |>.getD 0)
      hbTick r b k (raise r 35 (hbSupply b k ws (d0.setHb b { x with last := some (k, d.tb.run), late := satInc x.late 0xFFFF })))

/-- PTR shows the latest period before `k` whose slot has been written (R225). -/
def Hbuf.publish (x : Hbuf) (run : Nat) (k : Int) : Hbuf :=
  match x.wrote with
  | some (w, e) => if e = run then { x with ptr := uns (min w (k - 1)) 32 } else x
  | none => x

/-- A host-read buffer at the start of period `k`, and later in it where the last word of a slot is written only then (R225). -/
def hbPublished (r : Root) (b : Nat) (d : Dev) : Dev :=
  let x := d.hb b
  let k := periodNow r d
  if x.st ≠ .active ∨ !x.read then d
  else if !newPeriod d x.last k then d.setHb b (x.publish d.tb.run k)
  else if x.closing then hbClose r b d
  else hbTick r b k (d.setHb b { x.publish d.tb.run k with last := some (k, d.tb.run) })

/-- Whether a buffer writes its slot `k`: an active host-read buffer, from its first period on (R225, R420). -/
def Hbuf.writes (x : Hbuf) (k : Int) : Bool := x.st == .active && x.read && (match x.from' with | some ka => decide (ka ≤ k) | none => true)

/-- The bytes of a slot whose channels carry `val` (R223, R226). -/
def Hbuf.slotBytes (x : Hbuf) (val : Nat → Word) : List Byte := (List.range x.count).flatMap fun i => packSample x.pack (val (x.first + i))

/-- Slot `k` of host-read buffer `b` gets the destination samples of period `k` (R225). -/
def hbWriteSlot (r : Root) (k : Int) (val : Nat → Word) (b : Nat) (d : Dev) : Dev × List MemWr :=
  let x := d.hb b
  if x.writes k then lndWrite r (consHb b) (x.slot k) (x.slotBytes val) (d.setHb b { x with from' := none, wrote := some (k, d.tb.run) })
  else (d, [])

/-- HBUF registers that show live state (10). -/
def hbRead (d : Dev) (o : Nat) : Word :=
  if 0x500 ≤ o then wd (d.hb ((o - 0x500) / 4)).late
  else
    let b := (o - 0x200) / 0x10
    let x := d.hb b
    let stc := match x.st with | .idle => 0 | .admitting => 1 | .active => 2 | .refused => 3
    match o % 0x10 with
    | 8 => wd (x.reason * 2 ^ 28 + stc * 2 ^ 24 + (d.ext (consHb b)).apt)
    | 0xC => wd x.ptr
    | _ => d.reg .lnd o

/-! ### Meanings -/

/-- HBUF_PERIOD_TAKE. -/
def execHbufPeriodTake (b : Fin 48) (s : State) : Host.Outcome State Fault Refusal := onRunMem (fun r m d => (hbTake r m b (pageUse r .lnd [0x200 + 0x10 * b] d), [])) s

end Sys2Proof.Machine
end

