-- ==== Sys2Proof/Machine/Trig.lean ====
section
/-! DEFINITION. Time triggers and captures (09, R201 to R211): arming, cancelling, occurrences and captures. Firing stands in
TrigFire.lean, after the blocks it acts on; a step of a view stands here because it cancels triggers. -/

namespace Sys2Proof.Machine

/-! ### Triggers -/

/-- Change the TRG state. -/
def Dev.trgMap (d : Dev) (f : TrgSt → TrgSt) : Dev := { d with trg := f d.trg }

/-- A trigger. -/
def Dev.trig (d : Dev) (n : Nat) : Trig := sget (fun _ => {}) d.trg.trig n

/-- Set it. -/
def Dev.setTrig (d : Dev) (n : Nat) (x : Trig) : Dev := d.trgMap fun t => { t with trig := sset (fun _ => {}) t.trig n x }

/-- Bits of a register of trigger `n`, by its offset from TRGn.TIME. -/
def trigF (d : Dev) (n o hi lo : Nat) : Nat := d.rf .trg (0x100 + 0x20 * n + o) hi lo

/-- TRGn.CTRL.ACTION. -/
def trigAction (d : Dev) (n : Nat) : Nat := trigF d n 0x10 3 0
/-- TRGn.CTRL.ARG. -/
def trigArg (d : Dev) (n : Nat) : Nat := trigF d n 0x10 31 24
/-- TRGn.CTRL.REPEAT. -/
def trigRepeat (d : Dev) (n : Nat) : Nat := trigF d n 0x10 23 16
/-- TRGn.CTRL.TIMEBASE. -/
def trigBase (d : Dev) (n : Nat) : Nat := trigF d n 0x10 13 12
/-- TRGn.CTRL.EVT_EN. -/
def trigEvt (d : Dev) (n : Nat) : Bool := trigF d n 0x10 10 10 == 1
/-- TRGn.CTRL.PERIODIC. -/
def trigPeriodic (d : Dev) (n : Nat) : Bool := trigF d n 0x10 7 7 == 1
/-- TRGn.PERIOD_NUM. -/
def trigNum (d : Dev) (n : Nat) : Nat := trigF d n 0x14 31 0
/-- TRGn.PERIOD_DEN.DEN; 0 acts as 1. -/
def trigDen (d : Dev) (n : Nat) : Nat := max 1 (trigF d n 0x18 31 16)
/-- TRGn.PERIOD_DEN.WIDTH; less than 8 acts as 8. -/
def trigWidth (d : Dev) (n : Nat) : Nat := max 8 (trigF d n 0x18 15 0)

/-- The timescale a trigger compares against: 0 AT, 1 to 3 views A, B, X. -/
def timebase (d : Dev) (b : Nat) : View := if b = 0 then d.tb.at' else d.view (b - 1)

/-- Whether an action moves a pad: PULSE, LEVEL_HIGH, LEVEL_LOW. -/
def padAction (a : Nat) : Bool := a == 1 || a == 2 || a == 3

/-- Compare time T′ of occurrence `k` (R201, R203). -/
def trigTime (d : Dev) (n k : Nat) : Int :=
  let t := ltTime ((List.range 4).map fun i => d.reg .trg (0x100 + 0x20 * n + 4 * i))
  let p := if trigPeriodic d n then rdiv ((k * trigNum d n : Nat) * secUnits) (trigDen d n) else 0
  t + p - (if padAction (trigAction d n) then 40 * 256 else 0)

/-- BAD_CONFIG (R204). -/
def trigBad (d : Dev) (n : Nat) : Bool :=
  let a := trigAction d n
  7 < a || ((a == 1 || a == 2 || a == 3 || a == 4 || a == 7) && 7 < trigArg d n)
    || (trigPeriodic d n && (trigNum d n == 0 || trigNum d n * 1000000 < trigDen d n
        || (a == 1 && trigNum d n * 1000000000 ≤ trigWidth d n * trigDen d n)))

/-- NOT_OWNER: the trigger's owner lacks the action's target (R204). -/
def trigNotOwner (r : Root) (d : Dev) (n : Nat) : Bool :=
  let g := owner r d .trgSlot n
  match trigAction d n with
  | 1 | 2 | 3 => owner r d .trgSlot (trigArg d n) != g
  | 4 => steward r d .sapg != g
  | 5 => steward r d .rte != g
  | 6 => owner r d .corridor (trigArg d n) != g
  | 7 => steward r d (.mcs (trigArg d n)) != g
  | _ => false

/-- EV_TRGn. -/
def evTrg (r : Root) (n : Nat) (d : Dev) : Dev := raise r (224 + n) d

/-- An ARM bit of trigger `n` (R204, R205): ignored while ARMED, else checked. -/
def trigArm (r : Root) (n : Nat) (d : Dev) : Dev :=
  let x := d.trig n
  if x.st = .armed then d
  else if trigBad d n then evTrg r n (d.setTrig n { x with st := .refused, refuse := 2 })
  else if trigNotOwner r d n then evTrg r n (d.setTrig n { x with st := .refused, refuse := 1 })
  else d.setTrig n { x with st := .armed, refuse := 0, outcome := 0, k := 0 }

/-- An armed trigger returns to IDLE with an outcome: 4 CANCEL_ERA, 5 CANCEL_RESTART, 6 DISARMED; the cancels raise EV_TRGn (R205). -/
def trigStop (r : Root) (outcome n : Nat) (d : Dev) : Dev :=
  let x := d.trig n
  if x.st = .armed then raiseIf (outcome != 6) r (224 + n) (d.setTrig n { x with st := .idle, outcome := outcome }) else d

/-- Do `f` for every trigger of word `k` whose bit is set and whose owner is gallery `g` (R204). -/
def trigBits (r : Root) (g k : Nat) (w : Word) (f : Nat → Dev → Dev) (d : Dev) : Dev :=
  (List.range 32).foldl (fun d i => if bitOf w i && owner r d .trgSlot (32 * k + i) == g then f (32 * k + i) d else d) d

/-- Every armed trigger stops at an EC restart, and the pads return to INV (R205, R207). -/
def trgRestart (r : Root) (d : Dev) : Dev :=
  let d1 := (List.range 64).foldl (fun d n => trigStop r 5 n d) d
  d1.trgMap fun t => { t with level := [], pulse := [] }

/-! ### A step of a view (R110, R112, R115, R117, R205) -/

/-- The triggers with ERA_CANCEL whose timescale is view `v`, or AT while it follows `v`. -/
def trigEraCancel (r : Root) (v : Nat) (d : Dev) : Dev :=
  (List.range 64).foldl (fun d n =>
    let b := trigBase d n
    if trigF d n 0x10 9 9 == 1 && (b == v + 1 || (b == 0 && d.tb.atView == v)) then trigStop r 4 n d else d) d

/-! ### Gate cycles (R254) -/

/-- Offset of a register of port `p`'s SHP block. -/
def shpOfs (p o : Nat) : Nat := 0x100 + 0x200 * p + o

/-- Bits of a register of a port's SHP block. -/
def shp (d : Dev) (p o hi lo : Nat) : Nat := d.rf .shp (shpOfs p o) hi lo

/-- GATE_EN. -/
def gatesOn (d : Dev) (p : Nat) : Bool := shp d p 0x0C 31 31 == 1

/-- CYCLE in units of 2^-8 ns. -/
def gateCycle (d : Dev) (p : Nat) : Int := ((let c := shp d p 0x10 31 0; if c = 0 then 1000 else c) * 256 : Nat)

/-- BASE of a port's gate cycles. -/
def gateBase (d : Dev) (p : Nat) : Int := ltTime ((List.range 4).map fun i => d.reg .shp (shpOfs p (0x14 + 4 * i)))

/-- The first gate cycle of a port that begins at AT value `t` or later. -/
def gateFirst (d : Dev) (p : Nat) (t : Int) : Int := gateBase d p + max 0 (-((gateBase d p - t) / gateCycle d p)) * gateCycle d p

/-- The gate cycles of a port after AT has gone from `t0` to `t1`: those under way go on in the cycle that AT is in, none before BASE; those that wait for
their first cycle wait for the first one now. -/
def gateJump (t0 t1 : Int) (d : Dev) (p : Nat) (b : Int) : Int :=
  if t0 < b then gateFirst d p t1
  else if b ≤ t1 then b
  else gateBase d p + max 0 ((t1 - gateBase d p) / gateCycle d p) * gateCycle d p

/-! ### A jump of AT -/

/-- A port's periods after AT has gone from period `k0` to `k1`: those it counts towards move along, a group stop that is due stays due, and a frame in
progress supplies no period that comes again. -/
def SapS.jump (k0 k1 : Int) (x : SapS) : SapS :=
  let dry := fun (f : SapRun) => if k1 < k0 then { f with inp := false } else f
  { x with k0 := x.k0.map (· + (k1 - k0)), leadK := x.leadK + (k1 - k0), rollK := x.rollK + (k1 - k0), gk := x.gk.map (· + (k1 - k0)),
           stopAt := x.stopAt.map fun k => if k ≤ k0 then min k k1 else if k1 < k0 then k1 + 1 else k,
           cur := x.cur.map dry, tail := x.tail.map dry }

/-- The AT that a pending commit may swap from after AT has gone from period `k0` to `k1`: one that is due stays due, the time of a trigger stays, and
the boundary of a strobe is the next one (R312). -/
def swapJump (fs : Nat) (k0 k1 : Int) (p : Int × Bool) : Int × Bool :=
  if p.1 ≤ bOf fs k0 then (min p.1 (bOf fs k1), p.2) else if p.2 ∨ k0 < k1 then p else (bOf fs (k1 + 1), false)

/-- AT has gone from one sample period to another by a step: a new run of AT begins. Samples and evaluated periods that have yet to come are dropped, and
what waits for a period waits for as many more as before (DESIGN CHOICE, log entry 26). -/
def periodJump (fs : Nat) (k0 k1 : Int) (d : Dev) : Dev :=
  { d with
    tb := { d.tb with run := d.tb.run + 1 }
    chan := smap [] (fun l => l.filter fun y => decide (y.k < k1)) d.chan
    rte := { d.rte with hist := d.rte.hist.filter fun y => decide (y.k < k1), pending := d.rte.pending.map (swapJump fs k0 k1) }
    sap := smap {} (SapS.jump k0 k1) d.sap
    lnd := { d.lnd with hbuf := smap {} (fun x => { x with from' := x.from'.map (· + (k1 - k0)) }) d.lnd.hbuf } }

/-- AT has gone from its value in `d0` to the one in `d` by a step: launches and gate edges move with it (R254, R277), and sample periods where it is in
another one. -/
def atJump (r : Root) (d0 d : Dev) : Dev :=
  let fs := fsHz d.rte.fs
  let t0 := d0.atNow r
  let t1 := d.atNow r
  if t0 = t1 then d
  else
    let d1 := { d with
      tx := smap {} (fun x => { x with moved := r.ec }) d.tx
      net := { d.net with port := (List.range 2).foldl (fun m p =>
        let x := sget (fun _ => ({} : NetP)) m p
        sset (fun _ => {}) m p { x with gateFrom := x.gateFrom.map (gateJump t0 t1 d p) }) d.net.port } }
    if periodOf fs t0 = periodOf fs t1 then d1 else periodJump fs (periodOf fs t0) (periodOf fs t1) d1

/-- View `v` takes a STEP to new parameters: the era changes, AT takes the same step when it follows `v`, the step is counted. During a slew
(STATUS.SWITCHING 1) AT is not at the view's value, and the spec does not say what the same step is: the step's difference is added to AT's
ANCHOR_TIME and AT's RATE stays (DESIGN CHOICE, log entry 23). -/
def stepView (r : Root) (v : Nat) (x : View) (d : Dev) : Dev :=
  let delta := x.val r.ec - (d.view v).val r.ec
  let d0 := if d.tb.atView = v then accRate r 3 (accRate r v d) else accRate r v d
  let d1 := d0.setView v x
  let d2 := if d.tb.atView = v then
      atJump r d1 (if d.tb.switching then d1.setAt { d.tb.at' with anchorT := d.tb.at'.anchorT + delta } else d1.setAt x)
    else d1
  let d3 := eraBump r (2 + v) { d2 with tb := { d2.tb with viewSet := nset d2.tb.viewSet v true, steps := nput d2.tb.steps v (satInc (nget d2.tb.steps v) 0xFFFF) } }
  let d4 := if d.tb.atView = v ∧ d.tb.timeState = 0 then setTimeState r 1 d3 else d3
  trigEraCancel r v d4

/-! ### Pads -/

/-- The level action that holds after another: of one fire cycle's the highest-numbered trigger's (R207). -/
def LevAct.later (a b : LevAct) : LevAct := if a.cyc = b.cyc ∧ b.n < a.n then a else b

/-- The level action in force among those whose edge has left the pad, if any. -/
def levNow (r : Root) (l : List LevAct) : Option LevAct :=
  (l.filter fun a => decide (a.edge ≤ r.ec)).foldl (fun m a => some (match m with | none => a | some b => b.later a)) none

/-- The level bit of pad `p` (R206, R207). -/
def padLevel (r : Root) (d : Dev) (p : Nat) : Bool := match levNow r (lget d.trg.level p) with | some a => a.high | none => false

/-- TRG.OUT_LEVEL.DRIVE of pad `p`: its level bit or a pulse in progress (R207). -/
def padDrive (r : Root) (d : Dev) (p : Nat) : Bool := padLevel r d p || (lget d.trg.pulse p).any fun w => decide (w.1 ≤ r.ec ∧ r.ec < w.2)

/-- TRIG_OUT`p` as it drives (R207). -/
def trigOut (r : Root) (d : Dev) (p : Nat) : Bool := padDrive r d p != bitOf (d.reg .trg 0x040) (4 * p)

/-- TRIGGER_PULSE_END (R207): the pulses on pad `p` that have reached their end are over. -/
def pulseEnd (r : Root) (p : Nat) (d : Dev) : Dev :=
  d.trgMap fun t => { t with pulse := lput t.pulse p ((lget t.pulse p).filter fun w => decide (r.ec < w.2)) }

/-! ### Captures (R208 to R210) -/

/-- A capture channel. -/
def Dev.capt (d : Dev) (c : Nat) : Capt := sget (fun _ => {}) d.trg.capt c

/-- Set it. -/
def Dev.setCapt (d : Dev) (c : Nat) (x : Capt) : Dev := d.trgMap fun t => { t with capt := sset (fun _ => {}) t.capt c x }

/-- CAPc_CFG. -/
def capCfg (d : Dev) (c : Nat) : Word := d.reg .trg (0xA00 + 0x40 * c)

/-- A stamp of an edge waits for capture on channel `c`, while the channel is enabled. -/
def capQueue (c : Nat) (s : Stamp) (d : Dev) : Dev :=
  if bitOf (capCfg d c) 31 then let x := d.capt c; d.setCapt c { x with queue := x.queue ++ [s] } else d

/-- An internal source `src` of R208 happens in the present cycle: every enabled channel of 8 to 15 that names it takes a stamp. -/
def capInternal (r : Root) (src : Nat) (d : Dev) : Dev :=
  (List.range 8).foldl (fun d i =>
    if fld (capCfg d (8 + i)) 28 20 == src then capQueue (8 + i) (exactStamp r (0x18 + i) d) d else d) d

/-- CAPTURE (R209, R210): the oldest waiting stamp of channel `c`. In the hold-off or dead time after the last capture of the same era
it is ignored or missed; else it is converted, recorded and reported. -/
def capture (r : Root) (c : Nat) (d : Dev) : Dev × List MemWr :=
  let x := d.capt c
  let cfg := capCfg d c
  match x.queue with
  | [] => (d, [])
  | s :: q =>
    let since := match x.last with
      | some l => if l.era = s.era then some ((s.ec : Int) - l.ec) else none
      | none => none
    let within := fun (w : Nat) => match since with | some i => decide (0 ≤ i ∧ i < w) | none => false
    if within 2048 then
      ({ d.setCapt c { x with queue := q } with tb := { d.tb with missed := satInc d.tb.missed 0xFFFF } }, [])
    else if within (fld cfg 11 0 * 25600000) then (d.setCapt c { x with queue := q, ignored := satInc x.ignored 255 }, [])
    else
      let rec' := stampWords s (wd (x.seq * 65536 + c))
      let at' := ltWords (d.atOf s)
      let y : Capt := { new := true, overrun := if x.new then satInc x.overrun 0xFFFF else x.overrun, ignored := x.ignored,
                        timeState := d.tb.timeState, seq := (x.seq + 1) % 65536, rec' := rec', at' := at', last := some s, queue := q }
      let d1 := raise r (288 + c) (d.setCapt c y)
      if bitOf cfg 29 then (produce r (fld cfg 19 12) 0x04 c (wordsBytes (rec' ++ at')) d1).2 else (d1, [])

/-- A write of CAPc_CFG: ENA from 0 to 1 starts the sequence again (R209). -/
def capCfgHook (c : Nat) (old new : Word) (d : Dev) : Dev :=
  if bitOf old 31 == bitOf new 31 then d
  else let x := d.capt c; d.setCapt c { x with seq := if bitOf new 31 then 0 else x.seq, queue := [] }

/-- A read of CAPc_REC word 0 clears NEW (R209). -/
def capRecHook (c : Nat) (d : Dev) : Dev := d.setCapt c { d.capt c with new := false }

/-- TRG registers that show live state (09). -/
def trgRead (r : Root) (d : Dev) (o : Nat) : Word :=
  let bits := fun (f : Nat → Bool) => ((List.range 8).map fun p => b2n (f p) * 2 ^ p).sum
  if o = 0x044 then wd (bits (padDrive r d) * 256 + bits (padLevel r d))
  else if o = 0x058 ∨ o = 0x05C then
    wd (((List.range 32).map fun i => b2n ((d.trig (32 * ((o - 0x058) / 4) + i)).st == .armed) * 2 ^ i).sum)
  else if 0x900 ≤ o ∧ o < 0xA00 then wd (d.trig ((o - 0x900) / 4)).late
  else if 0x100 ≤ o ∧ o < 0x900 ∧ o % 0x20 = 0x1C then
    let x := d.trig ((o - 0x100) / 0x20)
    wd (x.k % 65536 * 65536 + x.refuse * 256 + x.outcome * 16 + (match x.st with | .idle => 0 | .armed => 1 | .refused => 2))
  else if 0xA00 ≤ o then
    let x := d.capt ((o - 0xA00) / 0x40)
    let i := o % 0x40
    if i = 4 then wd (x.overrun * 65536 + x.ignored * 256 + x.timeState * 4 + b2n x.new)
    else if i = 0 then d.reg .trg o
    else if i < 0x18 then x.rec'.getD ((i - 8) / 4) 0
    else x.at'.getD ((i - 0x18) / 4) 0
  else d.reg .trg o

/-! ### Meanings -/

/-- TRIGGER_PULSE_END. -/
def execTriggerPulseEnd (p : Fin 8) (s : State) : Host.Outcome State Fault Refusal := onDev (fun r d => pulseEnd r p d) s

/-- CAPTURE. -/
def execCapture (c : Fin 16) (s : State) : Host.Outcome State Fault Refusal := onMem (fun r _ d => capture r c (pageUse r .trg [0xA00 + 0x40 * c] d)) s

end Sys2Proof.Machine
end

