-- ==== Sys2Proof/Machine/Timebase.lean ====
section
/-! DEFINITION. The timebase's commands (05): view sets, TDC edges, tap measurements, SFD pairing, and the TBE registers. -/

namespace Sys2Proof.Machine

/-- Whether a commit of VIEWv_SET with KIND word `w` is refused: a reserved KIND, or any while FEED is 0 (R113). -/
def viewSetRefused (d : Dev) (v : Nat) (w : Word) : Bool := !d.feed v || decide (2 ≤ fld w 1 0)

/-- A refused commit is counted; the register keeps its words (R113). -/
def viewRefuse (v : Nat) (d : Dev) : Dev :=
  { d with tb := { d.tb with refused := nput d.tb.refused v (satInc (nget d.tb.refused v) 0xFFFF) } }

/-- A commit of TBE.VIEWv_SET that is taken (R112). -/
def viewSetHook (r : Root) (v : Nat) (d : Dev) : Dev :=
  let w := fun i => d.reg .tbe (0x120 + 0x80 * v + 4 * i)
  let rate := rateOf (w 7) (w 8)
  if fld (w 0) 1 0 = 0 then
    stepView r v { anchorEC := (w 1).toNat + 2 ^ 32 * (w 2).toNat, anchorT := ltTime [w 3, w 4, w 5, w 6], rate := rate } d
  else viewRate r v rate d

/-! ### TDC edges (R121) -/

/-- Whether channel `ch` stamps this edge: the rising one, or the falling one of a capture channel with INV set (R121, R208). -/
def stampsEdge (d : Dev) (ch : Nat) (rising : Bool) : Bool :=
  rising != (decide (4 ≤ ch ∧ ch < 12) && bitOf (capCfg d (ch - 4)) 30)

/-- INi_PERIOD in ns (R153). -/
def refPeriod (d : Dev) (i : Nat) : Nat := max 100000 (min 1000000000 (d.reg .ref (0x0C0 + 4 * i)).toNat)

/-- A stamped edge of reference input `i` (R153, R154): INi_ADJ is subtracted. One that comes after the window of the edge before it leaves
that window empty (R156). -/
def refEdge (i : Nat) (ec : Int) (d : Dev) : Dev :=
  let x := sget (fun _ => ({} : RefIn)) d.ref.inp i
  let e := ec - sgn (d.reg .ref (0x180 + 4 * i)).toNat 32
  let l := x.last.getD 0
  let late := x.last.isSome && decide ((2 * l + 3 * refPeriod d i * 256 : Nat) ≤ 2 * ec)
  { d with ref := { d.ref with inp := sset (fun _ => {}) d.ref.inp i { x with
                                 edges := e :: x.edges, last := some ec.toNat, late := x.late || late, gap := if late && !x.late then l else x.gap },
                               pps := if i = 2 then some e else d.ref.pps } }

/-- Counts an edge of reference input `i`: true for every DIV-th one (R153). -/
def refDiv (i : Nat) (d : Dev) : Bool × Dev :=
  let n := nget d.ref.div i + 1
  let last := decide (max 1 (d.rf .ref (0x0A0 + 4 * i) 31 16) ≤ n)
  (last, { d with ref := { d.ref with div := nput d.ref.div i (if last then 0 else n) } })

/-- The first stamp of each millisecond of EC at an MCLKO pad is kept for its synthesizer (R195). -/
def fbEdge (p : Nat) (s : Stamp) (d : Dev) : Dev :=
  let keep := match sget (fun _ => none) d.fb p with
    | some (t : Stamp) => t.ec / 256000000 == s.ec / 256000000
    | none => false
  if keep then d else { d with fb := sset (fun _ => none) d.fb p (some s) }

/-- TDC_STAMP (R121, R122): an edge at tap `tap` of the delay line is stamped, or missed in the channel's dead time. An edge of FREQ_IN or WCLK_IN
that is not a DIV-th one is counted towards DIV and is no lost edge, also within the dead time (DESIGN CHOICE, log entry 40). -/
def tdcEdge (r : Root) (ch tap : Nat) (rising : Bool) (d : Dev) : Dev :=
  let e := r.ec + tdcFine r d tap
  let last := nget d.tb.lastEdge ch
  let pre := if 13 ≤ ch ∧ ch < 16 ∧ stampsEdge d ch rising then refDiv (ch - 10) d else (true, d)
  let d := pre.2
  if !stampsEdge d ch rising || !pre.1 then d
  else if 0 < last ∧ e < last - 1 + 2048 then { d with tb := { d.tb with missed := satInc d.tb.missed 0xFFFF } }
  else
    let p := takeStamp r (e - padDelay r d ch) (chanPoint ch) 0 d
    let tb := p.2.tb
    let d1 := { p.2 with tb := { tb with lastEdge := nput tb.lastEdge ch (e + 1), chan := sset (fun _ => {}) tb.chan ch p.1,
                                          hist := if ch < 4 then lput tb.hist ch ((p.1 :: lget tb.hist ch).take 8) else tb.hist } }
    if 4 ≤ ch ∧ ch < 12 then capQueue (ch - 4) p.1 d1
    else if 12 ≤ ch ∧ ch < 16 then refEdge (ch - 10) p.1.ec d1
    else if 16 ≤ ch then fbEdge (ch - 16) p.1 d1
    else d1

/-- TDC_TAP_MEASURE (R122). -/
def tapMeasure (taps : Nat) (d : Dev) : Dev :=
  if d.rb .tbe 0x040 4 then { d with tb := { d.tb with taps := taps, trackFail := taps < 80 || 200 < taps } } else d

/-! ### Network stamps (R123, R124) -/

/-- TBE.PHYLATn of a port, direction and link speed (R123). -/
def phyLat (d : Dev) (p : Nat) (tx : Bool) (speed : Nat) : Word := d.reg .tbe (0x300 + 4 * (8 * p + 4 * b2n tx + speed))

/-- The R123 stamp of a delimiter that crossed the SerDes pad at EC `boundary`: PHYLATn.LAT of the link speed is taken off a receive stamp and
added to a transmit stamp; while the tap measurement fails the fine value is 0 (R122). -/
def boundaryStamp (d : Dev) (p : Nat) (tx : Bool) (speed boundary : Nat) : Int :=
  let b := if d.tb.trackFail then boundary / 512 * 512 else boundary
  (b : Int) + (if tx then 1 else -1) * (fld (phyLat d p tx speed) 19 0 * 4 : Nat)

/-- The close P + WIN of the pairing window of a delimiter that crossed the SerDes pad at EC `boundary` (R124). -/
def sfdClose (d : Dev) (p : Nat) (tx : Bool) (boundary : Nat) : Int :=
  let speed := (d.netp p).speed
  boundaryStamp d p tx speed boundary + sgn (fld (phyLat d p tx speed) 31 20) 12 * 4 + (max 1 (d.rf .tbe 0x078 7 0) * 256 : Nat)

/-- Whether one of the judgements `ws` that wait falls into the CORE_CLK cycle of this one on a lower SFD channel, which then takes TBE POINT 1 (R363). -/
def sfdYields (d : Dev) (p : Nat) (tx : Bool) (boundary : Nat) (ws : List (Nat × Bool × Nat)) : Bool :=
  ws.any fun w => decide (2 * w.1 + b2n w.2.1 < 2 * p + b2n tx) && d.rb .tbe 0x040 (2 * w.1 + b2n w.2.1)
    && decide (sfdClose d w.1 w.2.1 w.2.2 / 512 = sfdClose d p tx boundary / 512)

/-- SFD_PAIRING (R123, R124): the network stamp of a delimiter that crossed the SerDes pad at EC `boundary`. A pin-enabled stamp is
judged once its window has closed; TBE point 1 skips the pairing unless it `yields` it to a lower channel, and point 0 makes a stamp without pin invalid as it does a pin's edge (R127,
R363). None while it cannot be issued. -/
def sfdPair (r : Root) (p : Nat) (tx : Bool) (boundary : Nat) (yields : Bool) (d : Dev) : Option Stamp × Dev :=
  let speed := (d.netp p).speed
  let lat := phyLat d p tx speed
  let ch := 2 * p + b2n tx
  let point := ch + 1
  let base : Int := boundaryStamp d p tx speed boundary
  let adj : Int := sgn (fld lat 31 20) 12 * 4
  let win : Int := (max 1 (d.rf .tbe 0x078 7 0) * 256 : Nat)
  let era := stampEra d base
  let out := fun (s : Stamp) (d : Dev) => (some s, { d with tb := { d.tb with issued := sset (fun _ => {}) d.tb.issued point s } })
  let issue := fun (noPin : Bool) (d : Dev) =>
    let q := takeStamp r base point speed d
    out { q.1 with noPin := noPin } q.2
  if d.rb .tbe 0x040 ch then
    if (r.ec : Int) < base + adj + win then (none, d)
    else
      let skip := !yields && injects .tbe 1 d
      let d1 := if yields then d else opportunity r .tbe 1 d
      let edges := (lget d1.tb.hist ch).filter fun s => s.era == era && decide (base + adj - win ≤ s.ec ∧ (s.ec : Int) < base + adj + win)
      let miss := fun (d : Dev) => raise r 98 { d with tb := { d.tb with sfdMiss := nput d.tb.sfdMiss ch (satInc (nget d.tb.sfdMiss ch) 0xFFFF) } }
      match edges with
      | [s] => if skip then issue true (miss d1)
               else out { s with ec := ecOf ((s.ec : Int) - adj), era := stampEra d ((s.ec : Int) - adj), point := point, pin := true, speed := speed } d1
      | [] => issue true (miss d1)
      | _ =>
        if skip then issue true (miss d1)
        else issue true
          (raise r 98 { d1 with tb := { d1.tb with sfdAmbig := nput d1.tb.sfdAmbig ch (satInc (nget d1.tb.sfdAmbig ch) 0xFFFF) } })
  else issue false d

/-! ### Registers -/

/-- Words of a view's parameters, as VIEWv_PARAM lays them out. -/
def paramWords (v : View) : List Word := List.flatten [ecWords v.anchorEC, ltWords v.anchorT, rateWords v.rate]

/-- TBE.STATUS. -/
def tbeStatus (d : Dev) : Nat := b2n d.tb.switching * 2 ^ 15 + d.tb.atView * 2 ^ 12 + d.tb.viewSet * 2 ^ 8 + d.tb.timeState

/-- The running EC: bits [8:0] are zero (R108). -/
def runningEC (r : Root) : Nat := r.ec / 512 * 512

/-- Words of TBE.SNAP (05). -/
def snapWords (r : Root) (d : Dev) : List Word :=
  let e := runningEC r
  List.flatten [ecWords e, [wd (d.tb.era * 65536 + tbeStatus d)], ltWords (d.tb.at'.val e), ltWords (d.tb.a.val e), ltWords (d.tb.b.val e),
    ltWords (d.tb.x.val e)]

/-- TBE registers that show live state (05). -/
def tbeRead (r : Root) (d : Dev) (o : Nat) : Word :=
  let cal := d.otpRegion 3
  if o = 0x044 then wd (tbeStatus d)
  else if o = 0x048 then wd (d.tb.era * 65536 + d.tb.changes * 256 + d.tb.cause)
  else if o = 0x04C then wd (runningEC r)
  else if o = 0x050 then wd (runningEC r / 2 ^ 32)
  else if o = 0x054 then wd d.tb.eraEC
  else if o = 0x058 then wd (d.tb.eraEC / 2 ^ 32)
  else if 0x064 ≤ o ∧ o < 0x070 then let v := (o - 0x064) / 4; wd (nget d.tb.steps v * 65536 + nget d.tb.refused v)
  else if o = 0x070 then
    wd (d.tb.taps * 65536 + b2n d.tb.trackFail * 4 + b2n cal * 2 + b2n (cal && decide (80 ≤ d.tb.taps ∧ d.tb.taps ≤ 200)))
  else if o = 0x074 then wd (d.tb.invalid * 65536 + d.tb.missed)
  else if 0x080 ≤ o ∧ o < 0x0CC then (snapWords r d).getD ((o - 0x080) / 4) 0
  else if 0x0D0 ≤ o ∧ o < 0x0F0 then (paramWords d.tb.at').getD ((o - 0x0D0) / 4) 0
  else if 0x100 ≤ o ∧ o < 0x300 ∧ o % 0x80 < 0x20 then (paramWords (d.view ((o - 0x100) / 0x80))).getD (o % 0x80 / 4) 0
  else if 0x340 ≤ o then let k := (o - 0x340) / 4; wd (nget d.tb.sfdAmbig k * 65536 + nget d.tb.sfdMiss k)
  else d.reg .tbe o

/-! ### Meanings -/

/-- TDC_STAMP. With VIO_C down no pad of channels 0 to 15 can rise, and no MCLKO pad moves (R396). -/
def execTdcStamp (ch : Fin 32) (tap : Fin 256) (rising : Bool) (s : State) : Host.Outcome State Fault Refusal :=
  onDev (fun r d => if bankDown d 2 && (rising || decide (16 ≤ ch.val)) then d else tdcEdge r ch tap rising d) s

/-- TDC_TAP_MEASURE. -/
def execTdcTapMeasure (taps : Fin 256) (s : State) : Host.Outcome State Fault Refusal :=
  onDev (fun r d => tapMeasure taps (pageUse r .tbe [0x040] d)) s

end Sys2Proof.Machine
end

