-- ==== Sys2Proof/Machine/Net.lean ====
section
/-! DEFINITION. The network ports' own state (11): link speed, counters, MDIO, preemption, and the frames that leave a port. -/

namespace Sys2Proof.Machine

/-- Count `n` in NETn.CNTk, wrapping. -/
def netCount (p k n : Nat) (d : Dev) : Dev :=
  let x := d.netp p
  d.setNetp p { x with cnt := nput x.cnt k ((nget x.cnt k + n) % 2 ^ 32) }

/-- Line rate of a speed code in Mb/s (R237). -/
def lineMbps : Nat → Nat
  | 0 => 1000 | 1 => 2500 | 2 => 5000 | _ => 10000

/-- Line rate of a port in Mb/s. -/
def portMbps (d : Dev) (p : Nat) : Nat := lineMbps (d.netp p).speed

/-- EC units that `n` bytes take on a port's line, to the nearest (R11, R251); a byte is 8 bits of 1/rate. -/
def byteUnits (d : Dev) (p n : Nat) : Nat := (2 * n * 2048000 + portMbps d p) / (2 * portMbps d p)

/-- The port starts frames: its link is up and ENA set; with ENA cleared the frame in transmission alone finishes (R259). -/
def portUp (d : Dev) (p : Nat) : Bool := (d.netp p).link && d.rb (.net p) 0x040 0

/-- A frame has left a port: its counters, and the FCS inversion of NET point 0 (R258). -/
def netSent (r : Root) (p : Nat) (f : List Byte) (express : Bool) (len : Nat) (d : Dev) : Dev :=
  let bad := injects (.net p) 0 d
  let d1 := opportunity r (.net p) 0 d
  let d2 := netCount p 11 len (netCount p (if express then 8 else 9) 1 d1)
  d2.setNetp p { d2.netp p with lastTx := some (f, bad) }

/-- MAC address `v`: the OTP's, or the one the device makes when the MAC region failed (R246, R386, R387). -/
def macAddr (r : Root) (d : Dev) (v : Nat) : List Byte :=
  if d.otpRegion 2 then beBytes 2 (fld (wget r.otp (0x011 + 2 * v)) 31 16) ++ beBytes 4 (wget r.otp (0x010 + 2 * v)).toNat
  else beBytes 6 (0x024758000000 + (wget r.otp 0).toNat % 65536 * 256 + v)

/-! ### MDIO (R239) -/

/-- A write of NETn.MDIO_CMD. -/
def mdioCmd (p : Nat) (w : Word) (d : Dev) : Dev :=
  let x := d.netp p
  if fld w 31 30 = 3 then d
  else if x.mdio.isSome then d.setNetp p { x with drops := satInc x.drops 255 }
  else d.setNetp p { x with mdio := some (w, d.reg (.net p) 0x050) }

/-- MDIO_COMPLETE: the operation ends, a read loads RDATA. -/
def mdioDone (r : Root) (p data : Nat) (d : Dev) : Dev :=
  let x := d.netp p
  match x.mdio with
  | none => d
  | some (w, _) => raise r (68 + p) (d.setNetp p { x with mdio := none, rdata := if fld w 31 30 = 0 then x.rdata else data })

/-! ### Preemption (R252) -/

/-- STATUS.PREEMPT moves, with its event at a change. -/
def setPreempt (r : Root) (p n : Nat) (d : Dev) : Dev :=
  let x := d.netp p
  let d1 := d.setNetp p { x with preempt := n, tries := 0 }
  if x.preempt = n then d1 else raise r (72 + p) d1

/-- The conditions of R252 after a change of PREEMPT_EN or of the link. -/
def preemptEval (r : Root) (p : Nat) (d : Dev) : Dev :=
  if !d.rb (.net p) 0x040 8 || !(d.netp p).link then setPreempt r p 0 d
  else if (d.netp p).preempt = 0 then setPreempt r p (if d.rb (.net p) 0x040 9 then 2 else 1) d
  else d

/-- NETn.CMD.REVERIFY: verify starts again. -/
def reverify (r : Root) (p : Nat) (d : Dev) : Dev :=
  if d.rb (.net p) 0x040 8 && (d.netp p).link then setPreempt r p (if d.rb (.net p) 0x040 9 then 2 else 1) d else d

/-- PREEMPT_VERIFY_ANSWER. -/
def verifyAnswer (r : Root) (p : Nat) (d : Dev) : Dev := if (d.netp p).preempt = 1 then setPreempt r p 2 d else d

/-- PREEMPT_VERIFY_TIMEOUT: the third attempt unanswered fails. -/
def verifyTimeout (r : Root) (p : Nat) (d : Dev) : Dev :=
  let x := d.netp p
  if x.preempt = 1 then (if 2 ≤ x.tries then setPreempt r p 3 d else d.setNetp p { x with tries := x.tries + 1 }) else d

/-! ### Commands and registers -/

/-- NETn.CMD. -/
def netCmd (r : Root) (p : Nat) (w : Word) (d : Dev) : Dev :=
  let d1 := if bitOf w 0 then d.setNetp p { d.netp p with cnt := [], rxErr := none } else d
  if bitOf w 1 then reverify r p d1 else d1

/-- CLS.CMD. -/
def clsCmd (w : Word) (d : Dev) : Dev := if bitOf w 0 then d.netMap fun n => { n with clsCnt := [] } else d

/-- Count in CLS.CNTk, wrapping. -/
def clsCount (k : Nat) (d : Dev) : Dev := d.netMap fun n => { n with clsCnt := nput n.clsCnt k ((nget n.clsCnt k + 1) % 2 ^ 32) }

/-- NETn registers that show live state (11). -/
def netRead (d : Dev) (p o : Nat) : Word :=
  let x := d.netp p
  if o = 0x044 then
    wd (b2n (nbit d.phyPads p) * 2 ^ 11 + x.preempt * 2 ^ 9 + b2n x.speedUnsup * 2 ^ 8 + b2n x.remoteFault * 2 ^ 7 + b2n x.localFault * 2 ^ 6
      + b2n x.anDone * 2 ^ 5 + b2n x.pcsLock * 2 ^ 4 + x.speed * 2 + b2n x.link)
  else if o = 0x054 then wd (x.rdata * 65536 + x.drops * 256 + b2n x.mdio.isSome)
  else if 0x100 ≤ o then wd (nget x.cnt ((o - 0x100) / 4))
  else d.reg (.net p) o

/-! ### Meanings -/

/-- MDIO_COMPLETE. -/
def execMdioComplete (p : Port) (data : Fin 65536) (s : State) : Host.Outcome State Fault Refusal :=
  onDev (fun r d => mdioDone r p data (pageUse r (.net p) [0x04C, 0x050] d)) s

/-- PHY_INT_CHANGE (R240): the source line of EV_NETn_PHY_INT follows the pad, which moves with the core off too. -/
def execPhyIntChange (p : Port) (on : Bool) (s : State) : Host.Outcome State Fault Refusal :=
  .next { s with dev := lineMove s.root (70 + p) (nbit s.dev.phyPads p) on { s.dev with phyPads := nset s.dev.phyPads p on } }

/-- PREEMPT_VERIFY_ANSWER. -/
def execPreemptVerifyAnswer (p : Port) (s : State) : Host.Outcome State Fault Refusal :=
  onDev (fun r d => verifyAnswer r p (pageUse r (.net p) [0x040] d)) s

/-- PREEMPT_VERIFY_TIMEOUT. -/
def execPreemptVerifyTimeout (p : Port) (s : State) : Host.Outcome State Fault Refusal :=
  onDev (fun r d => verifyTimeout r p (pageUse r (.net p) [0x040] d)) s

end Sys2Proof.Machine
end

