-- ==== Sys2Proof/Machine/Servo.lean ====
section
/-! DEFINITION. The time servos (06, R141 to R152): packet selection, the loop, steps, gains and states. Index 0 is SRVA, 1 SRVB. -/

namespace Sys2Proof.Machine

/-- A PTP engine. -/
def Dev.ptpn (d : Dev) (n : Nat) : Ptp := sget (fun _ => {}) d.ptp n
/-- Set it. -/
def Dev.setPtp (d : Dev) (n : Nat) (x : Ptp) : Dev := { d with ptp := sset (fun _ => {}) d.ptp n x }
/-- A servo. -/
def Dev.srvn (d : Dev) (n : Nat) : Srv := sget (fun _ => {}) d.srv n
/-- Set it; a servo out of LOCKED, or clamped, fails its input's next check (R155). -/
def Dev.setSrv (d : Dev) (n : Nat) (x : Srv) : Dev :=
  { d with srv := sset (fun _ => {}) d.srv n x,
           ref := if x.st ≠ 4 ∨ x.clamped then { d.ref with srvBad := bput d.ref.srvBad n true } else d.ref }

/-- A servo sample as the selector's checks see it (R155, R156). -/
def refTheta (r : Root) (n : Nat) (theta : Int) (d : Dev) : Dev :=
  let x := sget (fun _ => ({} : RefIn)) d.ref.inp n
  { d with ref := { d.ref with thetaCnt := nput d.ref.thetaCnt n (nget d.ref.thetaCnt n + 1),
                               thetaMax := nput d.ref.thetaMax n (max (nget d.ref.thetaMax n) theta.natAbs),
                               inp := sset (fun _ => {}) d.ref.inp n { x with last := some r.ec } } }

/-- Signed log2 interval of PTPn.INTERVALS from bit `lo`. -/
def ptpLog (d : Dev) (n lo : Nat) : Int := sgn (d.rf (.ptp n) 0x060 (lo + 7) lo) 8

/-- 2^k seconds in units of 2^-8 ns. -/
def pow2s (k : Int) : Nat := if 0 ≤ k then 256000000000 * 2 ^ k.toNat else 256000000000 / 2 ^ (-k).toNat

/-- Window size SRVn.CTRL.SEL_WIN. -/
def selWin (d : Dev) (n : Nat) : Nat := max 1 (d.rf (.srv n) 0x040 13 8)

/-- Least of a list. -/
def listMin : List Int → Option Int
  | [] => none
  | x :: t => some (t.foldl min x)

/-- A gain at halving stage `k`: halved down to its tracking value (R147; log entry 21). -/
def gainAt (acq trk k : Nat) : Nat := max (acq / 2 ^ k) (min acq trk)

/-- KP (lo 0) or KI (lo 16) of the present stage; with ADAPT_EN 0, LOCKED uses the tracking gains (R147). -/
def srvGain (d : Dev) (n lo : Nat) : Nat :=
  let x := d.srvn n
  let acq := d.rf (.srv n) 0x048 (lo + 15) lo
  let trk := d.rf (.srv n) 0x04C (lo + 15) lo
  if x.st = 4 ∧ ¬ d.rb (.srv n) 0x040 3 then trk else gainAt acq trk x.stage

/-- Units in which I is held: 2^-48 ÷ 10^9. -/
def iUnits : Int := 1000000000

/-- K × e ÷ T in units of I, exact for gains of Q0.16 and T = 2^L s (R143). -/
def loopTerm (gain : Nat) (e : Int) (logSync : Int) : Int := gain * e * 2 ^ (24 - logSync).toNat

/-- Clamp in units of I: ppb × 2^48 (R144). -/
def srvClamp (d : Dev) (n : Nat) : Int := min (d.rf (.srv n) 0x05C 23 0) 1953125 * 2 ^ 48

/-- One RATE update of the servo's view, discarded and counted while FEED is 1 (R143, R150). -/
def srvRate (r : Root) (n : Nat) (rate : Int) (d : Dev) : Dev :=
  if d.feed n then let x := d.srvn n; d.setSrv n { x with discarded := satInc x.discarded 0xFFFF }
  else let q := rate40 rate d; viewRate r n q.1 q.2

/-- R143 and R144 for a sample θ: the loop's update and its clamp. -/
def srvLoop (r : Root) (n : Nat) (theta : Int) (d : Dev) : Dev :=
  let x := d.srvn n
  let l := ptpLog d n 0
  let i' := x.i + loopTerm (srvGain d n 16) (-theta) l
  let u := i' + loopTerm (srvGain d n 0) (-theta) l
  let c := srvClamp d n
  if u.natAbs ≤ c.natAbs then srvRate r n (rdiv u iUnits) (d.setSrv n { x with i := i', clamped := false })
  else
    srvRate r n (rdiv (if 0 ≤ u then c else -c) iUnits)
      (raiseIf (!x.clamped) r (108 + n) (d.setSrv n { x with clamped := true, clamps := satInc x.clamps 0xFFFF }))

/-- The servo's state after the conditions of R148 on its ENA, its engine's state and its engine's ROLE. -/
def srvSettle (n : Nat) (d : Dev) : Dev :=
  let x := d.srvn n
  let e := (d.ptpn n).st
  if !d.rb (.srv n) 0x040 0 || d.rf (.ptp n) 0x040 5 4 == 1 then d.setSrv n { x with st := 0, stage := 0, stepDue := none }
  else if x.st = 0 ∧ (e = 1 ∨ e = 2) then d.setSrv n { x with st := 1, lockRun := 0, stepRun := 0, narrow := 0, stage := 0, first := none }
  else d

/-- The servo goes to WAIT with its windows emptied (R132, R148). -/
def srvWait (n : Nat) (d : Dev) : Dev :=
  let x := d.srvn n
  if x.st = 0 then d
  else d.setSrv n { x with st := 1, dWin := [], qWin := [], first := none, stepRun := 0, lockRun := 0, narrow := 0, stage := 0, stepDue := none }

/-- The engine leaves RECEIVING on a timeout or link loss (R148). No EV_SRVn_LOCK here, nor at the other exits from LOCKED for which the table of R148
shows none (a step, a new PARENT, RESTART, a disable): the page's event table has it at any exit (DESIGN CHOICE, log entry 21). -/
def srvNoSync (n : Nat) (d : Dev) : Dev :=
  let x := d.srvn n
  if 1 ≤ x.st ∧ x.st ≤ 4 then d.setSrv n { x with st := 5, stage := 0, stepRun := 0, lockRun := 0, narrow := 0, first := none, stepDue := none } else d

/-- SRVn.CMD.RESTART (R148). -/
def srvRestart (n : Nat) (d : Dev) : Dev := if (d.srvn n).st = 0 then d else let d1 := srvWait n d; d1.setSrv n { d1.srvn n with i := 0 }

/-- STEP_THRESH in units of 2^-8 ns; 0 acts as 1 ns. -/
def stepThresh (d : Dev) (n : Nat) : Nat := max 1 (d.reg (.srv n) 0x050).toNat * 256

/-- A sample θ in LOCKING, LOCKED or on the way into LOCKING (R143 to R149): a step that is due, else the loop, and the runs of samples. -/
def srvUse (r : Root) (n : Nat) (theta : Int) (single counted : Bool) (d : Dev) : Dev :=
  let x := d.srvn n
  let above := decide (stepThresh d n < theta.natAbs) && d.rb (.srv n) 0x040 1
  let run := if above then x.stepRun + 1 else 0
  let need := if single then 1 else max 1 (d.rf (.srv n) 0x040 19 16)
  let unlock := x.st == 4 && decide ((d.reg (.srv n) 0x058).toNat * 256 < theta.natAbs)
  let inside := decide (theta.natAbs ≤ d.rf (.srv n) 0x054 15 0 * 256)
  let y : Srv := { x with stepRun := run, st := if x.st = 4 && !unlock then 4 else 3,
                          lockRun := if counted && x.st == 3 && inside then x.lockRun + 1 else 0,
                          stage := if unlock then 0 else x.stage, narrow := if x.st = 4 && !unlock then x.narrow + 1 else 0 }
  let d1 := raiseIf unlock r (106 + n) (d.setSrv n y)
  if above ∧ need ≤ run then d1.setSrv n { d1.srvn n with stepDue := some theta } else srvLoop r n theta d1

/-- The second estimation sample (R145): RATE and I from the frequency between the two, no clamp judged. The spec states no quotient for two samples
of the same t1: a free value there (DESIGN CHOICE, log entry 21). -/
def srvEstimate (r : Root) (n : Nat) (theta t1 : Int) (d : Dev) : Dev :=
  let x := d.srvn n
  match x.first with
  | none => d
  | some (th0, t0) =>
    let phi := if t1 = t0 then sgn (d.free % 2 ^ 40) 40 * iUnits else rdiv ((theta - th0) * 2 ^ 48 * iUnits) (t1 - t0)
    let i := (d.view n).rate * iUnits - phi
    let d0 := if t1 = t0 then d.drew else d
    let d1 := srvRate r n (rdiv i iUnits) (d0.setSrv n { x with i := i, st := 3, clamped := false, first := none, lockRun := 0, stepRun := 0 })
    if d.rb (.srv n) 0x040 1 ∧ stepThresh d n < theta.natAbs then d1.setSrv n { d1.srvn n with stepDue := some theta } else d1

/-- One sample of the servo: θ, from a Sync that sent t1 (R143 to R150). SRV point 0 adds STEP_THRESH + 1 ns (R363). -/
def srvSample (r : Root) (n : Nat) (theta t1 delay : Int) (d : Dev) : Dev :=
  let th := if injects (.srv n) 0 d then theta + stepThresh d n + 256 else theta
  let d1 := opportunity r (.srv n) 0 d
  let x := d1.srvn n
  let d2 := d1.setSrv n { x with theta := th, samples := (x.samples + 1) % 2 ^ 32 }
  let d3 := refTheta r n th <| monTake r 5 n true th (monTake r 3 n true delay (d2.setPtp n { d2.ptpn n with meanDelay := delay }))
  match x.st with
  | 1 =>
    if d.rb (.srv n) 0x040 2 then d3.setSrv n { d3.srvn n with st := 2, first := some (th, t1) }
    else srvUse r n th true false d3
  | 2 => srvEstimate r n th t1 d3
  | 3 | 4 => srvUse r n th false true d3
  | 5 => srvUse r n th true false d3
  | _ => d3

/-- A delay measurement joins the window (R142). -/
def srvDelay (n : Nat) (m : Int) (d : Dev) : Dev :=
  let x := d.srvn n
  if x.st = 0 then d else d.setSrv n { x with dWin := (m :: x.dWin).take (selWin d n) }

/-- A Sync completed with t1, t2 and its correction: transit, gate and θ (R141, R142). With no delay measurement in the window there is no minimum d, and
the Sync yields no sample (DESIGN CHOICE, log entry 21). -/
def srvSync (r : Root) (n : Nat) (y : SyncRx) (d : Dev) : Dev :=
  let x := d.srvn n
  if x.st = 0 then d
  else
    let q := (d.view n).val y.stamp.ec - y.t1 - rdiv y.corr 256
    let win := (q :: x.qWin).take (selWin d n)
    let d1 := d.setSrv n { x with qWin := win, dWin := x.dWin.take (selWin d n) }
    let gate := d.rf (.srv n) 0x060 15 0
    if gate ≠ 0 ∧ (listMin win).getD 0 + gate * 256 < q then d1.setSrv n { d1.srvn n with gated := satInc x.gated 0xFFFF }
    else match if d.rf (.ptp n) 0x040 7 6 < 2 then listMin (d1.srvn n).dWin else some 0 with
      | none => d1
      | some dl => srvSample r n (q - dl - sgn (d.reg (.ptp n) 0x064).toNat 32) y.t1 dl d1

/-- SERVO_STEP (R146): the step that is due. -/
def srvStep (r : Root) (n : Nat) (d : Dev) : Dev :=
  let x := d.srvn n
  match x.stepDue with
  | none => d
  | some th =>
    let d1 := d.setSrv n { x with stepDue := none, st := 3, stepRun := 0, lockRun := 0, narrow := 0, stage := 0, dWin := [], qWin := [] }
    if d.feed n then d1.setSrv n { d1.srvn n with discarded := satInc x.discarded 0xFFFF }
    else
      let v := d.view n
      raise r (104 + n) (stepView r n { anchorEC := r.ec, anchorT := v.val r.ec - th, rate := v.rate } d1)

/-- SERVO_LOCK (R148): LOCK_CNT consecutive samples inside LOCK_THRESH. -/
def srvLock (r : Root) (n : Nat) (d : Dev) : Dev :=
  let x := d.srvn n
  if x.st = 3 ∧ max 1 (d.rf (.srv n) 0x054 23 16) ≤ x.lockRun then
    raise r (106 + n) (d.setSrv n { x with st := 4, lockRun := 0, narrow := 0, stage := 0 })
  else d

/-- GAIN_NARROW (R147): NARROW_N samples in LOCKED halve the gains, until both are at their tracking values. -/
def srvNarrow (n : Nat) (d : Dev) : Dev :=
  let x := d.srvn n
  let done := fun lo => decide (gainAt (d.rf (.srv n) 0x048 (lo + 15) lo) (d.rf (.srv n) 0x04C (lo + 15) lo) x.stage
    ≤ d.rf (.srv n) 0x04C (lo + 15) lo)
  if x.st = 4 ∧ d.rb (.srv n) 0x040 3 ∧ max 1 (d.rf (.srv n) 0x054 31 24) ≤ x.narrow then
    d.setSrv n { x with narrow := 0, stage := if (done 0 && done 16) || 15 ≤ x.stage then x.stage else x.stage + 1 }
  else d

/-- A write of SRVn.CTRL (R148): setting ENA clears the page's counters. -/
def srvCtrlHook (n : Nat) (old new : Word) (d : Dev) : Dev :=
  let x := d.srvn n
  srvSettle n (if !bitOf old 0 && bitOf new 0 then d.setSrv n { x with discarded := 0, gated := 0, clamps := 0, samples := 0 } else d)

/-- SRVn registers that show live state (06). -/
def srvRead (d : Dev) (n o : Nat) : Word :=
  let x := d.srvn n
  let f := rdiv x.i iUnits
  if o = 0x044 then wd (x.discarded * 65536 + x.stage * 256 + b2n x.clamped * 16 + x.st)
  else if o = 0x064 then wd (uns x.theta 64)
  else if o = 0x068 then wd (uns x.theta 64 / 2 ^ 32)
  else if o = 0x06C then wd (uns f 64)
  else if o = 0x070 then wd (uns f 64 / 2 ^ 32)
  else if o = 0x074 then wd (x.gated * 65536 + x.clamps)
  else if o = 0x078 then wd x.samples
  else d.reg (.srv n) o

/-! ### Meanings -/

/-- SERVO_STEP. -/
def execServoStep (n : Fin 2) (s : State) : Host.Outcome State Fault Refusal := onDev (fun r d => srvStep r n (pageUse r (.srv n) [0x050] d)) s

/-- SERVO_LOCK. -/
def execServoLock (n : Fin 2) (s : State) : Host.Outcome State Fault Refusal := onDev (fun r d => srvLock r n (pageUse r (.srv n) [0x054] d)) s

/-- GAIN_NARROW. -/
def execGainNarrow (n : Fin 2) (s : State) : Host.Outcome State Fault Refusal := 
  onDev (fun r d => srvNarrow n (pageUse r (.srv n) [0x040, 0x048, 0x04C, 0x054] d)) s

end Sys2Proof.Machine
end

