-- ==== Sys2Proof/Machine/Ptp.lean ====
section
/-! DEFINITION. The PTP engines (06, R128 to R140): messages received and sent, exchanges and states. Index 0 is PTPA, 1 PTPB. -/

namespace Sys2Proof.Machine

/-! ### Messages (log entry 22: the layout of IEEE 1588-2019) -/

/-- Byte `i` of a message. -/
def pb (l : List Byte) (i : Nat) : Nat := (l.getD i 0).toNat

/-- Bytes `i` to `i + n - 1` as a number, most significant first. -/
def pbe (l : List Byte) (i n : Nat) : Nat := beNat ((l.drop i).take n)

/-- messageType. -/
def pType (m : PtpRx) : Nat := pb m.bytes 0 % 16
/-- sequenceId. -/
def pSeq (m : PtpRx) : Nat := pbe m.bytes 30 2
/-- sourcePortIdentity, 80 bits. -/
def pSrc (m : PtpRx) : Nat := pbe m.bytes 20 10
/-- correctionField, in units of 2^-16 ns. -/
def pCorr (m : PtpRx) : Int := sgn (pbe m.bytes 8 8) 64
/-- twoStepFlag. -/
def pTwoStep (m : PtpRx) : Bool := nbit (pb m.bytes 6) 1
/-- logMessageInterval. -/
def pLog (m : PtpRx) : Nat := pb m.bytes 33
/-- The timestamp in the body, in units of 2^-8 ns. -/
def pTime (m : PtpRx) : Int := ((pbe m.bytes 34 6 * 1000000000 + pbe m.bytes 40 4) * 256 : Nat)
/-- requestingPortIdentity. -/
def pReq (m : PtpRx) : Nat := pbe m.bytes 44 10

/-- The port identity that three words of PARENT or LOCAL give. -/
def identOf (lo mid hi : Word) : Nat := (hi.toNat * 2 ^ 32 + mid.toNat) * 65536 + fld lo 15 0

/-- A port identity from the three words of PARENT or LOCAL. -/
def ptpIdent (d : Dev) (n o : Nat) : Nat := identOf (d.reg (.ptp n) o) (d.reg (.ptp n) (o + 4)) (d.reg (.ptp n) (o + 8))

/-- PTPn.PARENT; 0 is none (R132). -/
def ptpParent (d : Dev) (n : Nat) : Nat := ptpIdent d n 0x048

/-- PARENT as a frame classified now is judged: a commit of the same CFG_CLK cycle applies from the next frame onwards (R132). -/
def parentNow (r : Root) (d : Dev) (n : Nat) : Nat :=
  let x := d.ptpn n
  if x.parCyc = r.cyc + 1 then x.parOld else ptpParent d n

/-- The engine's port. -/
def ptpPort (d : Dev) (n : Nat) : Nat := d.rf (.ptp n) 0x040 1 1

/-- Count in a PTP counter, saturating at its width. -/
def ptpCount (n k : Nat) (d : Dev) : Dev :=
  let x := d.ptpn n
  d.setPtp n { x with cnt := nput x.cnt k (satInc (nget x.cnt k) (if k < 6 then 0xFFFF else 0xFF)) }

/-- A message joins its port's PTP frames (R250). -/
def ptpSend (m : PtpOut) (d : Dev) : Dev :=
  let p := ptpPort d m.eng
  let x := d.netp p
  d.setNetp p { x with ptpQ := x.ptpQ ++ [m] }

/-- Whether the engine runs: LISTENING, RECEIVING or TRANSMITTING. -/
def ptpRuns (d : Dev) (n : Nat) : Bool := decide (1 ≤ (d.ptpn n).st ∧ (d.ptpn n).st ≤ 3)

/-- Whether a stamp may take part in an exchange: valid, and of the present era (R140). -/
def ptpGood (d : Dev) (s : Stamp) : Bool := s.valid && s.era == d.tb.era

/-- The head of an engine's received messages, taken when it has one of these types. -/
def ptpTake (types : List Nat) (f : PtpRx → Dev → Dev) (n : Nat) (d : Dev) : Dev :=
  let x := d.ptpn n
  match x.rxQ with
  | m :: q => if types.contains (pType m) then f m (d.setPtp n { x with rxQ := q }) else d
  | [] => d

/-! ### Following the parent (R132, R133) -/

/-- A Sync has its t1 (R133, R140): it yields a servo sample, or its exchange is discarded. -/
def syncDone (r : Root) (n : Nat) (y : SyncRx) (d : Dev) : Dev :=
  if ptpGood d y.stamp then srvSync r n y (d.setPtp n { d.ptpn n with lastSync := some y }) else ptpCount n 8 d

/-- RECEIVING ends on a timeout or link loss (R139). -/
def ptpLost (r : Root) (n : Nat) (d : Dev) : Dev :=
  let x := d.ptpn n
  if x.st = 2 then srvNoSync n (raise r (100 + n) (d.setPtp n { x with st := 1, waitFU := none })) else d

/-- Whether a RECEIVING engine has gone without a Sync for its timeout at EC `ec` (R139). -/
def syncLate (d : Dev) (n ec : Nat) : Bool :=
  let x := d.ptpn n
  decide (x.st = 2 ∧ x.syncEC + max 1 (d.rf (.ptp n) 0x060 31 24) * pow2s (ptpLog d n 0) ≤ ec)

/-- SYNC_RX (R132, R133, R139). A commit of PARENT since its arrival has discarded its exchange; one that arrived when the time without a Sync was
over finds the engine timed out (R8). -/
def syncRx (r : Root) (n : Nat) (m : PtpRx) (d0 : Dev) : Dev :=
  let x0 := d0.ptpn n
  if ¬(x0.st = 1 ∨ x0.st = 2) then d0
  else if !m.par then ptpCount n 4 d0
  else if pSrc m ≠ ptpParent d0 n then d0
  else
    let d := if syncLate d0 n m.stamp.ec then ptpLost r n (ptpCount n 6 d0) else d0
    let x := d.ptpn n
    let two := pTwoStep m
    let y : SyncRx := { seq := pSeq m, stamp := m.stamp, t1 := pTime m, corr := pCorr m }
    let d1 := ptpCount n 0 (d.setPtp n { x with
      st := 2, oneStepRx := !two, syncEC := m.stamp.ec, parentAddr := m.src, waitFU := if two then some y else none,
      dreqAt := if x.dreqAt.isNone then some r.ec else x.dreqAt })
    let d2 := srvSettle n d1
    if two then d2 else syncDone r n y d2

/-- FOLLOW_UP_RX (R132, R133): with the Sync's sequence, and arrived in the window [Sync stamp, Sync stamp + interval), it supplies t1. Across
a step the exchange is discarded as invalid (R140). -/
def followUpRx (r : Root) (n : Nat) (m : PtpRx) (d : Dev) : Dev :=
  let x := d.ptpn n
  if ¬(x.st = 1 ∨ x.st = 2) then d
  else if !m.par then ptpCount n 4 d
  else if pSrc m ≠ ptpParent d n then d
  else match x.waitFU with
    | none => ptpCount n 7 d
    | some y =>
      if pSeq m ≠ y.seq then ptpCount n 7 d
      else
        let d1 := d.setPtp n { x with waitFU := none }
        if y.stamp.ec + pow2s (ptpLog d n 0) ≤ m.stamp.ec ∨ (y.stamp.era = m.stamp.era ∧ m.stamp.ec < y.stamp.ec) then ptpCount n 7 d1
        else syncDone r n { y with t1 := pTime m, corr := y.corr + pCorr m } (ptpCount n 1 d1)

/-- Every exchange in progress is discarded (R132). -/
def ptpDiscard (n : Nat) (d : Dev) : Dev :=
  d.setPtp n { d.ptpn n with waitFU := none, lastSync := none, dreq := none, dreqPrev := none, pd := none, dreqAt := none }

/-- A commit of PTPn.PARENT (R132, R139): a new one ends the exchanges and sends the servo to WAIT. -/
def parentHook (r : Root) (n : Nat) (old new : List Word) (d : Dev) : Dev :=
  if old = new then d
  else
    let d1 := srvWait n (ptpDiscard n d)
    let x := d1.ptpn n
    d1.setPtp n { x with
      st := if x.st = 2 then 1 else x.st, parCyc := r.cyc + 1,
      parOld := if x.parCyc = r.cyc + 1 then x.parOld else identOf (old.getD 0 0) (old.getD 1 0) (old.getD 2 0) }

/-- SYNC_TIMEOUT (R139). -/
def syncTimeout (r : Root) (n : Nat) (d : Dev) : Dev := if syncLate d n r.ec then ptpLost r n (ptpCount n 6 d) else d

/-- Link loss of a port (R139). -/
def ptpLinkLost (r : Root) (p : Nat) (d : Dev) : Dev :=
  (List.range 2).foldl (fun d n => if ptpPort d n = p then ptpLost r n d else d) d

/-! ### End-to-end delay (R134, R141) -/

/-- DELAY_REQ_SEND (R134): due, with a parent, in RECEIVING or LISTENING; the next follows at a random interval. -/
def dreqSend (r : Root) (n : Nat) (d : Dev) : Dev :=
  let x := d.ptpn n
  match x.dreqAt with
  | none => d
  | some t =>
    if (x.st = 1 ∨ x.st = 2) ∧ d.rf (.ptp n) 0x040 7 6 = 0 ∧ ptpParent d n ≠ 0 ∧ t ≤ r.ec ∧ (d.netp (ptpPort d n)).link then
      let gap := d.free % max 1 (2 * pow2s (ptpLog d n 8))
      let m : PtpOut := { eng := n, type := 1, seq := x.dreqSeq, dest := if d.rb (.ptp n) 0x040 11 then x.parentAddr else [] }
      ptpCount n 2 (ptpSend m (d.drew.setPtp n { x with
        dreq := some (x.dreqSeq, none), dreqPrev := x.dreq.map fun q => (q.1, q.2, r.ec), dreqSeq := (x.dreqSeq + 1) % 65536, dreqAt := some (r.ec + gap) }))
    else d

/-- t3 of the Delay_Req that a Delay_Resp answers, once issued: the outstanding one, or the one before it when the answer arrived before the
next was sent (R134). -/
def dreqOf (x : Ptp) (m : PtpRx) : Option (Option Stamp) :=
  let prev := x.dreqPrev.bind fun q => if pSeq m = q.1 ∧ m.stamp.ec < q.2.2 then some q.2.1 else none
  match x.dreq with
  | some (seq, t3) => if pSeq m = seq then some t3 else prev
  | none => prev

/-- The engine without that Delay_Req. -/
def dreqDone (x : Ptp) (m : PtpRx) : Ptp :=
  if (x.dreq.map (·.1)) = some (pSeq m) then { x with dreq := none } else { x with dreqPrev := none }

/-- DELAY_RESP_RX (R134, R140, R141): PTP point 1 makes it unmatched (R363). Every logMessageInterval is adopted as it is, also one outside the range
of R128, of which the spec says nothing more (DESIGN CHOICE, log entry 22). -/
def drespRx (r : Root) (n : Nat) (m : PtpRx) (d : Dev) : Dev :=
  let inj := injects (.ptp n) 1 d
  let d := opportunity r (.ptp n) 1 d
  let x := d.ptpn n
  match dreqOf x m with
  | none => ptpCount n 7 d
  | some t3 =>
    if inj || pReq m != ptpIdent d n 0x054 then ptpCount n 7 d
    else
      let lg := pLog m
      let d1 := ptpCount n 3 (d.setPtp n (dreqDone x m))
      let d2 := if d.rb (.ptp n) 0x040 12 then
          hwSets r (.ptp n) 0x060 (d1.setReg (.ptp n) 0x060 (wd (d.rf (.ptp n) 0x060 31 16 * 65536 + lg * 256 + d.rf (.ptp n) 0x060 7 0)))
        else d1
      match t3, x.lastSync with
      | some s3, some y =>
        if ptpGood d s3 && ptpGood d y.stamp && pSrc m == ptpParent d n then
          let v := d.view n
          let a := v.val y.stamp.ec - y.t1 - rdiv y.corr 256
          let b := pTime m - v.val s3.ec - rdiv (pCorr m) 256
          srvDelay n (rdiv (a + b) 2) d2
        else ptpCount n 8 d2
      | _, _ => ptpCount n 8 d2

/-! ### Peer-to-peer delay (R135) -/

/-- PDELAY_REQ_SEND (R135). -/
def pdreqSend (r : Root) (n : Nat) (d : Dev) : Dev :=
  let x := d.ptpn n
  if ptpRuns d n ∧ d.rf (.ptp n) 0x040 7 6 = 1 ∧ x.pdAt ≤ r.ec ∧ (d.netp (ptpPort d n)).link then
    ptpCount n 2 (ptpSend { eng := n, type := 2, seq := x.pdSeq } (d.setPtp n { x with
      pd := some { seq := x.pdSeq }, pdSeq := (x.pdSeq + 1) % 65536, pdAt := r.ec + pow2s (ptpLog d n 16) }))
  else d

/-- PDELAY_REQ_RX (R135): answered two-step, in both roles; an invalid stamp discards the exchange (R125). -/
def pdreqRx (n : Nat) (m : PtpRx) (d : Dev) : Dev :=
  let x := d.ptpn n
  if !ptpRuns d n then d
  else if ptpGood d m.stamp then
    let resp : PtpOut := { eng := n, type := 3, seq := pSeq m, ts := d.tb.at'.val m.stamp.ec, req := pSrc m }
    ptpCount n 3 (ptpSend resp (d.setPtp n { x with pdAnswers := x.pdAnswers ++ [(pSrc m, pSeq m, pCorr m, none)] }))
  else ptpCount n 8 d

/-- PDELAY_RESP_RX (R135): t2 of the responder and the stamp t4. -/
def pdrespRx (n : Nat) (m : PtpRx) (d : Dev) : Dev :=
  let x := d.ptpn n
  match x.pd with
  | some e =>
    if pReq m = ptpIdent d n 0x054 ∧ pSeq m = e.seq then
      ptpCount n 3 (d.setPtp n { x with pd := some { e with t2 := some (pTime m), t4 := m.stamp, corr := pCorr m, src := pSrc m } })
    else d
  | none => d

/-- PDELAY_RESP_FU_RX (R135): the rate ratio from successive messages, and the mean link delay with the responder's turnaround brought to
this device's time by it (log entry 22): a delay measurement of the servo (R142). -/
def pdfuRx (n : Nat) (m : PtpRx) (d : Dev) : Dev :=
  let x := d.ptpn n
  match x.pd with
  | some e =>
    match e.t1, e.t2 with
    | some s1, some t2 =>
      if pReq m = ptpIdent d n 0x054 ∧ pSeq m = e.seq ∧ pSrc m = e.src then
        if ptpGood d s1 && ptpGood d e.t4 then
          let t3 := pTime m + rdiv (pCorr m) 256
          let nrr := match x.pdPrev with
            | some (p3, s4) =>
              let dl : Int := (e.t4.ec : Int) - s4.ec
              if s4.era = e.t4.era ∧ 0 < dl then rdiv ((t3 - p3 - dl) * 2 ^ 48) dl else x.nrr
            | none => x.nrr
          let turn := t3 - t2 + rdiv e.corr 256
          let local' := rdiv (turn * 2 ^ 48) (2 ^ 48 + nrr)
          srvDelay n (rdiv ((e.t4.ec : Int) - s1.ec - local') 2)
            (d.setPtp n { x with pd := none, pdPrev := some (t3, e.t4), nrr := nrr })
        else ptpCount n 8 (d.setPtp n { x with pd := none })
      else d
    | _, _ => d
  | none => d

/-! ### Sending (R136, R137) -/

/-- SYNC_SEND (R137): in TRANSMITTING, with the link up, in the cycle in which AT reaches a whole multiple of the interval. -/
def syncSend (r : Root) (n : Nat) (d : Dev) : Dev :=
  let x := d.ptpn n
  let iv : Int := pow2s (ptpLog d n 0)
  if x.st = 3 ∧ (d.netp (ptpPort d n)).link ∧ cdiv' (d.tb.at'.val r.ec) iv < cdiv' (d.tb.at'.val (r.ec + 512)) iv then
    let one := d.rb (.ptp n) 0x040 10
    ptpCount n 0 (ptpSend { eng := n, type := 0, seq := x.syncSeq, oneStep := one } (d.setPtp n { x with
      syncSeq := (x.syncSeq + 1) % 65536, syncOut := if one then x.syncOut else x.syncOut ++ [(x.syncSeq, none)] }))
  else d
where
  /-- Number of whole multiples of `iv` below a time. -/
  cdiv' (t iv : Int) : Int := -((-t) / iv)

/-- FOLLOW_UP_SEND (R136): once the launch stamp of the oldest two-step Sync has been issued; an invalid one discards the exchange (R125). -/
def followUpSend (n : Nat) (d : Dev) : Dev :=
  let x := d.ptpn n
  match x.syncOut with
  | (seq, some s) :: q =>
    let d1 := d.setPtp n { x with syncOut := q }
    if ptpGood d s then ptpCount n 1 (ptpSend { eng := n, type := 8, seq := seq, ts := d.tb.at'.val s.ec } d1) else ptpCount n 8 d1
  | _ => d

/-- DELAY_REQ_RX (R137): up to 64 time-receivers are answered. -/
def dreqRx (n : Nat) (m : PtpRx) (d : Dev) : Dev :=
  let x := d.ptpn n
  if x.st ≠ 3 then d
  else if x.served.contains (pSrc m) || decide (x.served.length < 64) then
    d.setPtp n { x with served := if x.served.contains (pSrc m) then x.served else pSrc m :: x.served,
                        answers := x.answers ++ [(pSrc m, pSeq m, m.stamp, pCorr m)] }
  else ptpCount n 5 d

/-- DELAY_RESP_SEND (R136). -/
def drespSend (n : Nat) (d : Dev) : Dev :=
  let x := d.ptpn n
  match x.answers with
  | (req, seq, s, c) :: q =>
    let d1 := d.setPtp n { x with answers := q }
    if ptpGood d s then ptpCount n 2 (ptpSend { eng := n, type := 9, seq := seq, ts := d.tb.at'.val s.ec, corr := c, req := req } d1)
    else ptpCount n 8 d1
  | [] => d

/-- PDELAY_RESP_FU_SEND (R136); an invalid stamp discards the exchange (R125). -/
def pdfuSend (n : Nat) (d : Dev) : Dev :=
  let x := d.ptpn n
  match x.pdAnswers with
  | (req, seq, c, some s) :: q =>
    let d1 := d.setPtp n { x with pdAnswers := q }
    if ptpGood d s then ptpSend { eng := n, type := 10, seq := seq, ts := d.tb.at'.val s.ec, corr := c, req := req } d1 else ptpCount n 8 d1
  | _ => d

/-- The first of a list that satisfies `p`, changed. -/
def mapFirst {α : Type} (p : α → Bool) (f : α → α) : List α → List α
  | [] => []
  | x :: t => if p x then f x :: t else x :: mapFirst p f t

/-- The launch stamp of an engine's event message (R136): messages of a port leave in the order in which they were sent. -/
def ptpStamped (n type seq : Nat) (s : Stamp) (d : Dev) : Dev :=
  let x := d.ptpn n
  match type with
  | 0 => d.setPtp n { x with syncOut := mapFirst (fun y => y.1 == seq && y.2.isNone) (fun y => (y.1, some s)) x.syncOut }
  | 1 => match x.dreq with
    | some (q, none) => if q = seq then d.setPtp n { x with dreq := some (q, some s) } else d
    | _ => d.setPtp n { x with dreqPrev := x.dreqPrev.map fun q => if q.1 = seq ∧ q.2.1 = none then (q.1, some s, q.2.2) else q }
  | 2 => match x.pd with
    | some e => if e.seq = seq then d.setPtp n { x with pd := some { e with t1 := some s } } else d
    | none => d
  | 3 =>
    let l := mapFirst (fun y => y.2.1 == seq && y.2.2.2.isNone) (fun y => (y.1, seq, y.2.2.1, some s)) x.pdAnswers
    d.setPtp n { x with pdAnswers := l }
  | _ => d

/-- The messages that wait for port `p` are dropped: a Sync or Pdelay_Resp among them gets no stamp, and none of its exchange follows. -/
def ptpDrop (p : Nat) (d : Dev) : Dev :=
  let q := (d.netp p).ptpQ
  let lost := fun (type n : Nat) => (q.filter fun m => m.eng == n && m.type == type && !m.oneStep).length
  let cut := fun (d : Dev) n =>
    let x := d.ptpn n
    d.setPtp n { x with syncOut := x.syncOut.take (x.syncOut.length - lost 0 n),
                        pdAnswers := x.pdAnswers.take (x.pdAnswers.length - lost 3 n) }
  (List.range 2).foldl cut (d.setNetp p { d.netp p with ptpQ := [] })

/-! ### Messages for the host (R131) -/

/-- ANNOUNCE_RX (`bit` 8) and SIGNALING_MANAGEMENT_RX (`bit` 9): into the corridor of PTPn.ANN, or dropped and counted. The rule gives
no INFO for the record, so it is a free value (log entry 3). -/
def ptpToCor (r : Root) (n bit : Nat) (m : PtpRx) (d : Dev) : Dev × List MemWr :=
  if ptpRuns d n && d.rb (.ptp n) 0x068 bit then
    let ctx := wd (n * 2 ^ 24 + ptpPort d n * 2 ^ 16 + m.bytes.length)
    let p := produce r (d.rf (.ptp n) 0x068 7 0) 0x03 (d.free % 65536) (m.bytes ++ wordsBytes (stampWords m.stamp ctx)) d.drew
    (if p.1 then p.2.1 else ptpCount n 9 p.2.1, p.2.2)
  else (d, [])

/-- A message of one of these types goes to the host. -/
def ptpTakeMem (r : Root) (types : List Nat) (bit n : Nat) (d : Dev) : Dev × List MemWr :=
  let x := d.ptpn n
  match x.rxQ with
  | m :: q => if types.contains (pType m) then ptpToCor r n bit m (d.setPtp n { x with rxQ := q }) else (d, [])
  | [] => (d, [])

/-! ### Enabling (R138, R139) -/

/-- Reason to refuse an enable: 0 none, 1 DUP_DOMAIN, 2 ONE_STEP_V6, 3 BAD_CONFIG, 4 NO_CORRIDOR (R138). Of several the first in the order of the
codes shows, an engine in REFUSED is not enabled in the sense of DUP_DOMAIN, and a corridor that is not ACTIVE, one still in ADMITTING too, is not
enabled in the sense of NO_CORRIDOR (each DESIGN CHOICE, log entry 22). -/
def ptpRefuse (r : Root) (d : Dev) (n : Nat) : Nat :=
  let c := d.reg (.ptp n) 0x040
  let o := d.reg (.ptp (1 - n)) 0x040
  let key := fun (w : Word) => (fld w 31 28, fld w 23 16, fld w 9 8, fld w 1 1)
  let out := fun (lo : Nat) (max : Int) => let v := ptpLog d n lo; decide (v < -7 ∨ max < v)
  let ann := d.reg (.ptp n) 0x068
  if ptpRuns d (1 - n) && key c == key o then 1
  else if bitOf c 10 && fld c 9 8 == 2 then 2
  else if fld c 9 8 == 3 || fld c 7 6 == 3 || 2 ≤ fld c 5 4 || out 0 4 || out 8 6 || out 16 6 then 3
  else if (bitOf ann 8 || bitOf ann 9) &&
      (owner r d .corridor (fld ann 7 0) != steward r d (.ptp n) || (d.cor (fld ann 7 0)).st != .active) then 4
  else 0

/-- ENA is set (R138, R139): counters cleared, the configuration checked, the engine started or refused. MEAN_DELAY, NRR and ONE_STEP_RX, of which R138
says nothing, are cleared with the counters (DESIGN CHOICE, log entry 22). -/
def ptpStart (r : Root) (n : Nat) (d : Dev) : Dev :=
  let x := d.ptpn n
  let why := ptpRefuse r d n
  let y : Ptp := { dreqSeq := x.dreqSeq, pdSeq := x.pdSeq, syncSeq := x.syncSeq, pdAt := r.ec, parOld := x.parOld, parCyc := x.parCyc,
                   st := if why ≠ 0 then 4 else if d.rf (.ptp n) 0x040 5 4 = 1 then 3 else 1, refuse := why }
  srvSettle n (raiseIf (why != 0) r (102 + n) (d.setPtp n y))

/-- A write of PTPn.CTRL. -/
def ptpCtrlHook (r : Root) (n : Nat) (old new : Word) (d : Dev) : Dev :=
  let x := d.ptpn n
  if bitOf new 0 then (if bitOf old 0 then srvSettle n d else ptpStart r n d)
  else
    let p := ptpPort d n
    let d1 := d.setNetp p { d.netp p with ptpQ := (d.netp p).ptpQ.filter fun m => m.eng != n }
    srvSettle n (d1.setPtp n { x with
      st := 0, refuse := 0, rxQ := [], waitFU := none, lastSync := none, dreq := none, dreqPrev := none, dreqAt := none, pd := none,
      answers := [], pdAnswers := [], syncOut := [] })

/-- PTPn registers that show live state (06). -/
def ptpRead (d : Dev) (n o : Nat) : Word :=
  let x := d.ptpn n
  let c := nget x.cnt
  if o = 0x044 then wd (b2n x.oneStepRx * 2 ^ 10 + b2n (d.netp (ptpPort d n)).link * 2 ^ 9 + x.refuse * 16 + x.st)
  else if o = 0x06C then wd (uns x.meanDelay 32)
  else if o = 0x070 then (rateWords (sgn (uns x.nrr 40) 40)).getD 0 0
  else if o = 0x074 then (rateWords (sgn (uns x.nrr 40) 40)).getD 1 0
  else if o = 0x080 then wd (c 0 * 65536 + c 1)
  else if o = 0x084 then wd (c 2 * 65536 + c 3)
  else if o = 0x088 then wd (c 4 * 65536 + c 5)
  else if o = 0x08C then wd (c 6 * 2 ^ 24 + c 7 * 2 ^ 16 + c 8 * 2 ^ 8 + c 9)
  else d.reg (.ptp n) o

/-! ### Meanings -/

/-- The words of an engine's page that its messages use: CTRL, PARENT, LOCAL, INTERVALS and ASYM, and ANN for those it hands to the host. -/
def ptpWords : List Nat := [0x040, 0x048, 0x04C, 0x050, 0x054, 0x058, 0x05C, 0x060, 0x064]

/-- SYNC_RX. -/
def execSyncRx (n : Fin 2) (s : State) : Host.Outcome State Fault Refusal :=
  onDev (fun r d => ptpTake [0] (syncRx r n) n (pageUse r (.ptp n) ptpWords d)) s

/-- FOLLOW_UP_RX. -/
def execFollowUpRx (n : Fin 2) (s : State) : Host.Outcome State Fault Refusal :=
  onDev (fun r d => ptpTake [8] (followUpRx r n) n (pageUse r (.ptp n) ptpWords d)) s

/-- DELAY_RESP_RX. -/
def execDelayRespRx (n : Fin 2) (s : State) : Host.Outcome State Fault Refusal :=
  onDev (fun r d => ptpTake [9] (drespRx r n) n (pageUse r (.ptp n) ptpWords d)) s

/-- DELAY_REQ_RX. -/
def execDelayReqRx (n : Fin 2) (s : State) : Host.Outcome State Fault Refusal :=
  onDev (fun r d => ptpTake [1] (dreqRx n) n (pageUse r (.ptp n) ptpWords d)) s

/-- DELAY_RESP_SEND. -/
def execDelayRespSend (n : Fin 2) (s : State) : Host.Outcome State Fault Refusal := onDev (fun r d => drespSend n (pageUse r (.ptp n) ptpWords d)) s

/-- PDELAY_REQ_RX. -/
def execPdelayReqRx (n : Fin 2) (s : State) : Host.Outcome State Fault Refusal :=
  onDev (fun r d => ptpTake [2] (pdreqRx n) n (pageUse r (.ptp n) ptpWords d)) s

/-- PDELAY_RESP_FU_SEND. -/
def execPdelayRespFuSend (n : Fin 2) (s : State) : Host.Outcome State Fault Refusal := onDev (fun r d => pdfuSend n (pageUse r (.ptp n) ptpWords d)) s

/-- PDELAY_RESP_RX. -/
def execPdelayRespRx (n : Fin 2) (s : State) : Host.Outcome State Fault Refusal :=
  onDev (fun r d => ptpTake [3] (pdrespRx n) n (pageUse r (.ptp n) ptpWords d)) s

/-- PDELAY_RESP_FU_RX. -/
def execPdelayRespFuRx (n : Fin 2) (s : State) : Host.Outcome State Fault Refusal :=
  onDev (fun r d => ptpTake [10] (pdfuRx n) n (pageUse r (.ptp n) ptpWords d)) s

/-- DELAY_REQ_SEND. -/
def execDelayReqSend (n : Fin 2) (s : State) : Host.Outcome State Fault Refusal := onDev (fun r d => dreqSend r n (pageUse r (.ptp n) ptpWords d)) s

/-- PDELAY_REQ_SEND. -/
def execPdelayReqSend (n : Fin 2) (s : State) : Host.Outcome State Fault Refusal := onDev (fun r d => pdreqSend r n (pageUse r (.ptp n) ptpWords d)) s

/-- SYNC_SEND. -/
def execSyncSend (n : Fin 2) (s : State) : Host.Outcome State Fault Refusal := onDev (fun r d => syncSend r n (pageUse r (.ptp n) ptpWords d)) s

/-- FOLLOW_UP_SEND. -/
def execFollowUpSend (n : Fin 2) (s : State) : Host.Outcome State Fault Refusal := onDev (fun r d => followUpSend n (pageUse r (.ptp n) ptpWords d)) s

/-- ANNOUNCE_RX. -/
def execAnnounceRx (n : Fin 2) (s : State) : Host.Outcome State Fault Refusal :=
  onMem (fun r _ d => ptpTakeMem r [11] 8 n (pageUse r (.ptp n) [0x040, 0x068] d)) s

/-- SIGNALING_MANAGEMENT_RX. -/
def execSignalingManagementRx (n : Fin 2) (s : State) : Host.Outcome State Fault Refusal :=
  onMem (fun r _ d => ptpTakeMem r [12, 13] 9 n (pageUse r (.ptp n) [0x040, 0x068] d)) s

/-- SYNC_TIMEOUT. -/
def execSyncTimeout (n : Fin 2) (s : State) : Host.Outcome State Fault Refusal := onDev (fun r d => syncTimeout r n (pageUse r (.ptp n) ptpWords d)) s

end Sys2Proof.Machine
end

