-- ==== Sys2Proof/Machine/Ref.lean ====
section
/-! DEFINITION. The reference selector (07): qualification, choice, switching, view X, holdover and the temperature table. -/

namespace Sys2Proof.Machine

/-! ### State and settings -/

/-- Change the selector. -/
def Dev.refMap (d : Dev) (f : RefSt → RefSt) : Dev := { d with ref := f d.ref }

/-- An input. -/
def Dev.rin (d : Dev) (i : Nat) : RefIn := sget (fun _ => {}) d.ref.inp i

/-- Set it. -/
def Dev.setRin (d : Dev) (i : Nat) (x : RefIn) : Dev := d.refMap fun s => { s with inp := sset (fun _ => {}) s.inp i x }

/-- INi_CFG.ENA. -/
def refEna (d : Dev) (i : Nat) : Bool := d.rb .ref (0x0A0 + 4 * i) 0
/-- INi_CFG.PHASE_MODE; FREQ for inputs 0 and 1. -/
def refMode (d : Dev) (i : Nat) : Nat := if i < 2 then 0 else d.rf .ref (0x0A0 + 4 * i) 2 1
/-- QUAL_TIME. -/
def qualTime (d : Dev) : Nat := max 1 (d.rf .ref 0x050 7 0)
/-- WTR. -/
def wtrTime (d : Dev) : Nat := max 1 (d.rf .ref 0x050 31 16)
/-- SLEW_LIMIT in ppb. -/
def slewLimit (d : Dev) : Nat := max 1 (d.rf .ref 0x058 15 0)

/-- EC units in a second. -/
def secEC : Nat := 256000000000
/-- EC units in a millisecond. -/
def msEC : Nat := 256000000

/-- Whether |x|, a Rate value, is within `tol` ppb (R10). -/
def withinPpb (x : Int) (tol : Nat) : Bool := decide (x.natAbs * 1000000000 ≤ tol * 2 ^ 48)

/-- `n` ppb as a Rate value. -/
def ppbRate (n : Nat) : Int := rdiv ((n : Int) * 2 ^ 48) 1000000000

/-! ### The temperature table (R171, R172) -/

/-- Rate of point `j` in 0.01 ppb. -/
def ttRate (d : Dev) (j : Nat) : Int := sgn (d.rf .ref (0x120 + 4 * j) 31 8) 24
/-- COUNT of point `j`. -/
def ttCount (d : Dev) (j : Nat) : Nat := d.rf .ref (0x120 + 4 * j) 7 0
/-- Write point `j`. -/
def ttSet (r : Root) (j : Nat) (rate : Int) (cnt : Nat) (d : Dev) : Dev :=
  hwSets r .ref (0x120 + 4 * j) (d.setReg .ref (0x120 + 4 * j) (wd (uns rate 24 * 256 + cnt)))

/-- A temperature `num` ÷ `den` in 1/16 °C, above −40 °C and held to the table's range: numerator over `den`. -/
def ttPos (num : Int) (den : Nat) : Nat := (max 0 (min (2400 * (den : Int)) (num + 640 * den))).toNat

/-- Nearest learned point to a position in units of 1/(16 den) °C above −40 °C. -/
def ttNearest (d : Dev) (pos den : Nat) : Option Nat :=
  ((List.range 16).filter fun j => ttCount d j != 0).foldl (fun best j =>
    match best with
    | none => some j
    | some b => if ((160 * j * den : Nat) - (pos : Int)).natAbs < ((160 * b * den : Nat) - (pos : Int)).natAbs then some j else best) none

/-- Tbl at temperature `num` ÷ `den` in 1/16 °C, as a Rate value (R172). -/
def tblAt (d : Dev) (num : Int) (den : Nat) : Int :=
  let pos := ttPos num den
  let j := min 14 (pos / (160 * den))
  let rate := fun (x : Int) (q : Nat) => rdiv (x * 2 ^ 48) (100000000000 * q)
  match ttCount d j, ttCount d (j + 1) with
  | 0, 0 => match ttNearest d pos den with | some k => rate (ttRate d k) 1 | none => 0
  | 0, _ => rate (ttRate d (j + 1)) 1
  | _, 0 => rate (ttRate d j) 1
  | _, _ => rate (ttRate d j * (160 * den : Nat) + (ttRate d (j + 1) - ttRate d j) * ((pos : Int) - (160 * den * j : Nat))) (160 * den)

/-- Present die temperature. -/
def tempNow (d : Dev) : Int := sgn d.flt.temp 16

/-- A valid record teaches the table (R171): the count of the nearer point increases also where a point was empty. -/
def ttLearn (r : Root) (rate temp : Int) (d : Dev) : Dev :=
  let pos := ttPos temp 1
  let j := min 14 (pos / 160)
  let r01 := rdiv (rate * 100000000000) (2 ^ 48)
  let lo := pos - 160 * j
  let near := if lo ≤ 80 then j else j + 1
  let err := fun (w : Nat) => rdiv ((rate - tblAt d temp 1) * 100000000000 * w) (2 ^ 48 * 160 * 16)
  let d1 :=
    if ttCount d j = 0 ∨ ttCount d (j + 1) = 0 then
      let d1 := if ttCount d j = 0 then ttSet r j r01 1 d else d
      if ttCount d (j + 1) = 0 then ttSet r (j + 1) r01 1 d1 else d1
    else
      ttSet r (j + 1) (ttRate d (j + 1) + err lo) (ttCount d (j + 1)) (ttSet r j (ttRate d j + err (160 - lo)) (ttCount d j) d)
  ttSet r near (ttRate d1 near) (satInc (ttCount d1 near) 255) d1

/-! ### Measurement (R154, R155) -/

/-- Least-squares line over stamped edges: number, denominator and numerator of the slope, and the sums and pairs it came from. -/
structure Fit where
  n : Int
  den : Int
  num : Int
  sk : Int
  ss : Int
  pts : List (Int × Int)

/-- The fit of the edges of the last second, with the one before it where that second holds fewer than two; an edge's index is its distance in
PERIODs (log entry 23). -/
def refFit (r : Root) (d : Dev) (i : Nat) : Option Fit :=
  let es := (d.rin i).edges
  let recent := es.takeWhile fun e => decide ((r.ec : Int) - secEC ≤ e)
  let pts0 := es.take (max 2 recent.length)
  match pts0.getLast? with
  | none => none
  | some base =>
    let pts := pts0.map fun e => (rdiv (e - base) (refPeriod d i * 256 : Nat), e - base)
    let n : Int := pts.length
    let sk := (pts.map (·.1)).sum
    let ss := (pts.map (·.2)).sum
    let den := n * (pts.map fun p => p.1 * p.1).sum - sk * sk
    let num := n * (pts.map fun p => p.1 * p.2).sum - sk * ss
    if den ≤ 0 ∨ num ≤ 0 then none else some ⟨n, den, num, sk, ss, pts⟩

/-- Peak-to-peak residual within `tol` ns. -/
def Fit.jitterOk (f : Fit) (tol : Nat) : Bool :=
  let res := f.pts.map fun p => f.n * f.den * p.2 - f.den * f.ss + f.num * f.sk - f.n * f.num * p.1
  match res with
  | [] => true
  | x :: t => decide (t.foldl max x - t.foldl min x ≤ (tol * 256 : Nat) * (f.n * f.den))

/-- Mean rate of view `v` (3: AT) since the last check. -/
def meanRate (r : Root) (d : Dev) (v : Nat) : Option Int :=
  let a := sget (fun _ => (0, d.ref.accFrom)) (accRate r v d).ref.acc v
  let span : Int := (r.ec : Int) - d.ref.accFrom
  if span ≤ 0 then none else some (rdiv a.1 span)

/-- Input rate and jitter test of an input; none where no rate can be measured. -/
def refMeasure (r : Root) (d : Dev) (i : Nat) : Option (Int × Bool) :=
  let tol := d.rf .ref 0x060 15 0
  if i < 2 then (meanRate r d i).map fun x => (x, decide (nget d.ref.thetaMax i ≤ tol * 256))
  else (refFit r d i).map fun f => (rdiv ((refPeriod d i * 256 : Nat) * f.den * 2 ^ 48) f.num - 2 ^ 48, f.jitterOk tol)

/-- Twice the median of a list. -/
def median2 (l : List Int) : Int :=
  let s := sortBy (fun a b => decide (a ≤ b)) l
  let n := s.length
  s.getD ((n - 1) / 2) 0 + s.getD (n / 2) 0

/-- FAIL bits of an input's check (R155): 1 FREQ, 2 XFREQ, 4 JITTER, 8 SERVO, 16 CONFIG; and whether XFREQ was judged and passed. A measurement
that has not run for a second is not complete, nor is one whose settings have changed in it (R176), and the check fails; it sets FREQ and JITTER then
(DESIGN CHOICE, log entry 23). -/
def refJudge (r : Root) (d : Dev) (i : Nat) : Nat × Bool :=
  let cfg := if refMode d i = 3 then 16 else 0
  let srv := if i < 2 ∧ ((d.srvn i).st ≠ 4 ∨ (d.srvn i).clamped ∨ bget d.ref.srvBad i) then 8 else 0
  match if (d.rin i).since + secEC ≤ r.ec ∧ (d.rin i).cut = false then refMeasure r d i else none with
  | none => (1 + 4 + srv + cfg, false)
  | some (rate, jit) =>
    let others := ((List.range 8).filter fun k => k != i && (d.rin k).st == 2).filterMap fun k => (refMeasure r d k).map (·.1)
    let judged := decide (2 ≤ others.length)
    let xok := decide ((2 * rate - median2 others).natAbs * 1000000000 ≤ 2 * d.rf .ref 0x05C 31 16 * 2 ^ 48)
    let freq := if withinPpb (rate - tblAt d (tempNow d) 1) (d.rf .ref 0x05C 15 0) then 0 else 1
    (freq + (if judged && !xok then 2 else 0) + (if jit then 0 else 4) + srv + cfg, judged && xok)

/-! ### Input states (R157) -/

/-- An input changes state, with its event; leaving QUALIFIED makes it lost, and leaving ABSENT begins its measurement. -/
def refTo (r : Root) (i st timer : Nat) (d : Dev) : Dev :=
  let x := d.rin i
  raise r 129 (d.setRin i { x with st := st, timer := timer, run := 0, lost := x.lost || x.st == 2, changes := satInc x.changes 255,
                                     since := if x.st = 0 then r.ec else x.since })

/-! ### Views and the selector's state (R115, R160, R163, R164) -/

/-- The view of an input: A, B or X. -/
def viewOf (i : Nat) : Nat := if i < 2 then i else 2

/-- The last stamped edge of an input, if it may be judged against a view: one of an earlier era may not (R12). -/
def refLastEdge (d : Dev) (i : Nat) : Option Int := (d.rin i).edges.head?.filter fun e => stampEra d e == d.tb.era

/-- Phase error of the last stamped edge of an input, by PHASE_MODE (R161); 0 without an edge of the present era. -/
def refPhi (d : Dev) (i : Nat) : Int :=
  match refLastEdge d i with
  | none => 0
  | some e =>
    let v := d.tb.x.val e
    match refMode d i with
    | 1 => v - rdiv v secUnits * secUnits
    | 2 =>
      let fs := fsHz d.rte.fs
      let k := periodOf fs v
      if v - bOf fs k ≤ bOf fs (k + 1) - v then v - bOf fs k else v - bOf fs (k + 1)
    | _ => 0

/-- Value of the target's view at the present EC. -/
def targetVal (r : Root) (d : Dev) (i : Nat) : Int := (d.view (viewOf i)).val r.ec

/-- Δ of R163 for a target: its view less its phase error, minus AT (log entry 23). -/
def refDelta (r : Root) (d : Dev) (i : Nat) : Int := targetVal r d i - refPhi d i - d.atNow r

/-- STATUS.STATE changes, with its event and TIME_STATE's change (R117, R163). -/
def refState (r : Root) (n : Nat) (d : Dev) : Dev :=
  if d.ref.st = n then d
  else
    let d1 := raise r 128 (d.refMap fun s => { s with st := n, unlocked := true, switches := if n = 3 then satInc s.switches 0xFFFF else s.switches })
    let t := d.tb.timeState
    if n = 2 ∨ n = 3 then setTimeState r 2 d1
    else if n = 4 then (if t = 2 then setTimeState r 3 d1 else d1)
    else if n = 5 then d1
    else if 2 ≤ t then setTimeState r 1 d1 else d1

/-- AT takes the parameters of view `v` (R165). -/
def adoptView (r : Root) (v : Nat) (d : Dev) : Dev :=
  let d1 := accRate r 3 d
  atJump r d { d1 with tb := { d1.tb with at' := d1.view v, atView := v, switching := false } }

/-- AT is to follow view `v`: at once where it lies within one unit of view X, else by a slew (R160, R165). -/
def towardsView (r : Root) (v : Nat) (d : Dev) : Dev :=
  if d.tb.atView = v ∧ ¬ d.tb.switching then d
  else if ((d.view v).val r.ec - d.atNow r).natAbs ≤ 1 ∧ v = 2 then adoptView r v d
  else { d with tb := { d.tb with switching := true } }

/-- An update of view X while FEED is set is discarded and counted (R113). -/
def discardX (d : Dev) : Dev := d.refMap fun s => { s with discarded := satInc s.discarded 0xFFFF }

/-- A STEP of view X, unless FEED is set (R113, R164). -/
def stepX (r : Root) (x : View) (d : Dev) : Dev := if d.feed 2 then discardX d else stepView r 2 x d

/-- The step of R164 on a turn towards input `i`: in ACQUIRE with TIME_STATE NEVER_SET or FREE, or on the `entry` after ALLOW_STEP. View X and AT
step together; while FEED is set neither does. -/
def refEntryStep (r : Root) (i : Nat) (acquire entry : Bool) (d : Dev) : Dev :=
  let may := (entry && d.ref.allowStep) || (acquire && decide (d.tb.timeState ≤ 1))
  let big := decide ((d.reg .ref 0x068).toNat * 256 < (refDelta r d i).natAbs)
  let d1 := if entry then d.refMap fun s => { s with allowStep := false } else d
  if may && big && d1.feed 2 then discardX d1
  else if may && big then
    let d2 := if d1.tb.atView = 2 ∧ ¬ d1.tb.switching then d1 else adoptView r 2 d1
    let t := d2.view (viewOf i)
    stepX r { anchorEC := r.ec, anchorT := t.val r.ec - refPhi d2 i, rate := t.rate } d2
  else d1

/-- The selector turns to input `i`, into state `st`: ACQUIRE or SWITCHING (R163, R164, R166). -/
def refTurn (r : Root) (i st : Nat) (retarget : Bool) (d : Dev) : Dev :=
  let d1 := d.refMap fun s => { s with sel := i, target := i, passed := false }
  let d2 := if retarget then raise r 130 (d1.refMap fun s => { s with retargets := satInc s.retargets 0xFFFF }) else refState r st d1
  towardsView r (viewOf i) (refEntryStep r i (st == 1) (!retarget) d2)

/-- The records of the history window before the loss instant `tl` (R169). -/
def histWindow (d : Dev) (tl : Nat) : List (Int × Int) :=
  let s := d.ref
  let guard := d.rf .ref 0x050 15 8
  let len := max 1 (d.rf .ref 0x054 9 0)
  (s.hist.zipIdx.filterMap fun p =>
    let sec : Int := (s.checkSec : Int) - 1 - p.2
    if (tl : Int) - guard - len ≤ sec ∧ sec < (tl : Int) - guard then p.1 else none)

/-- Whether a loss at second `tl` finds HO_MIN valid records (R169). -/
def histOk (d : Dev) (tl : Nat) : Bool := decide (max 1 (d.rf .ref 0x054 25 16) ≤ (histWindow d tl).length)

/-- F_hold (R170). -/
def holdRate (d : Dev) : Int := d.ref.hoMean + tblAt d (tempNow d) 1 - tblAt d d.ref.hoTemp.1 d.ref.hoTemp.2

/-- No input is left: HOLDOVER where the history suffices, else FREE; AT follows view X (R160, R163, R170). -/
def refNone (r : Root) (d : Dev) : Dev :=
  let w := histWindow d d.ref.lossSec
  let d1 := towardsView r 2 (d.refMap fun s => { s with sel := 15, target := 15 })
  if histOk d d.ref.lossSec then
    refState r 4 (d1.refMap fun s =>
      { s with hoEC := r.ec, hoMean := rdiv (w.map (·.1)).sum w.length, hoTemp := ((w.map (·.2)).sum, w.length), holdovers := satInc s.holdovers 0xFFFF })
  else refState r 0 d1

/-- The best eligible input (R158). -/
def refBest (d : Dev) : Option Nat :=
  let ok := fun i => decide (i < 8) && (d.rin i).st == 2
  let pref := d.rf .ref 0x048 3 0
  if ok pref then some pref else ((List.range 8).map fun k => d.rf .ref 0x04C (4 * k + 3) (4 * k)).find? ok

/-- The selector's decision (R158, R163). -/
def refDecide (r : Root) (d : Dev) : Dev :=
  let s := d.ref
  let good := decide (s.sel < 8) && (d.rin s.sel).st == 2
  let other := (refBest d).filter fun b => b != s.sel && d.rb .ref 0x040 0
  match s.st with
  | 0 => match refBest d with | some b => refTurn r b 1 false d | none => d
  | 1 =>
    if good then (match other with | some b => refTurn r b 1 true d | none => d)
    else match refBest d with
      | some b => refTurn r b 1 true d
      | none => refState r 0 (towardsView r 2 (d.refMap fun s => { s with sel := 15, target := 15 }))
  | 2 =>
    if good then (match other with | some b => refTurn r b 3 false d | none => d)
    else match refBest d with | some b => refTurn r b 3 false d | none => refNone r d
  | 3 =>
    if good then (match other with | some b => refTurn r b 3 true d | none => d)
    else match refBest d with | some b => refTurn r b 3 true d | none => refNone r d
  | 4 | 5 => match refBest d with | some b => refTurn r b 3 false d | none => d
  | _ => d

/-- An input leaves QUALIFIED, or another state, with the loss instant recorded when it is the one followed (R169). -/
def refLeave (r : Root) (i st timer lossSec : Nat) (d : Dev) : Dev :=
  let d1 := if d.ref.sel = i ∧ (d.rin i).st = 2 then d.refMap fun s => { s with lossSec := lossSec } else d
  refDecide r (refTo r i st timer d1)

/-- The selector enters FREE by command or restart. -/
def refFree (r : Root) (d : Dev) : Dev := refState r 0 (towardsView r 2 (d.refMap fun s => { s with sel := 15, target := 15, faultCause := 0 }))

/-- FAULT: history discarded, AT on view X at its last rate (R163). -/
def refFault (r : Root) (cause : Nat) (d : Dev) : Dev :=
  let d1 := d.refMap fun s => { s with faultCause := cause, okRun := 0, hist := [], sel := 15, target := 15 }
  if d.ref.st = 7 then d1 else refState r 7 (towardsView r 2 d1)

/-! ### The check (R155, R157, R163, R168) -/

/-- Outcome of an input's check on its state and timers (R157); expiries of the timers are commands of their own. -/
def refCount (r : Root) (i fail : Nat) (d : Dev) : Dev :=
  let x := { d.rin i with fail := fail, rate := (refMeasure r d i).map (·.1) }
  let d1 := d.setRin i x
  match x.st, fail with
  | 1, 0 => d1.setRin i { x with timer := x.timer - 1 }
  | 1, _ => d1.setRin i { x with timer := qualTime d }
  | 2, 0 => d1.setRin i { x with run := 0 }
  | 2, _ => d1.setRin i { x with run := x.run + 1, failSec := if x.run = 0 then r.ec / secEC else x.failSec }
  | 3, 0 => d1.setRin i { x with timer := x.timer - 1 }
  | 3, _ => refTo r i 1 (qualTime d) d1
  | 4, 0 => refTo r i 1 (qualTime d) d1
  | _, _ => d1

/-- The servos that are out of LOCKED, or clamped, as a second begins (R155). -/
def srvSeed (d : Dev) : SMap Bool := (List.range 2).foldl (fun m n => bput m n ((d.srvn n).st != 4 || (d.srvn n).clamped)) []

/-- The measurements start anew after a check. -/
def refNextSecond (r : Root) (d : Dev) : Dev :=
  let d1 := (List.range 8).foldl (fun d i =>
    let x := d.rin i
    let recent := x.edges.takeWhile fun e => decide ((r.ec : Int) - secEC ≤ e)
    d.setRin i { x with edges := x.edges.take (recent.length + 1), cut := false }) d
  d1.refMap fun s => { s with acc := [], accFrom := r.ec, unlocked := s.st != 2, thetaCnt := [], thetaMax := [], srvBad := srvSeed d, tempSum := 0, tempCnt := 0,
                              checkSec := r.ec / secEC }

/-- The history's record of the second that ends, valid where the selector was LOCKED throughout (R168). -/
def refRecord (r : Root) (ok : Bool) (d : Dev) : Dev :=
  let t := if d.ref.tempCnt = 0 then tempNow d else rdiv d.ref.tempSum d.ref.tempCnt
  let e := if d.ref.st = 2 ∧ ¬d.ref.unlocked ∧ ok ∧ d.flt.tempValid then (meanRate r d 3).map fun x => (x, t) else none
  let d1 := d.refMap fun s => { s with hist := (e :: s.hist).take 1024 }
  match e with
  | some (x, t) => if d.rb .ref 0x040 16 then ttLearn r x t d1 else d1
  | none => d1

/-- REF_CHECK (R155): every enabled input is checked, the second recorded, the faults judged, and the selector decides. REF point 0 fails
the check of the selected input; which bits it sets is a free value. Inputs that pass the check against each other are those whose XFREQ test is judged,
which takes two others: two inputs alone never make the oscillator suspect (R163; DESIGN CHOICE, log entry 23). -/
def refCheck (r : Root) (d : Dev) : Dev :=
  let sel := d.ref.sel
  let inj := decide (sel < 8) && refEna d sel && injects .ref 0 d
  let d0 := if decide (sel < 8) && refEna d sel then opportunity r .ref 0 d else d
  let res := (List.range 8).map fun i => if refEna d i then some (refJudge r d i) else none
  let failOf := fun i => match res.getD i none with
    | some p => if inj && i == sel && p.1 == 0 then 1 + d0.free % 31 else p.1
    | none => 0
  let d1 := if inj then d0.drew else d0
  let d2 := (List.range 8).foldl (fun d i => if refEna d i then refCount r i (failOf i) d else d) d1
  let selOk := decide (sel < 8) && refEna d sel && failOf sel == 0
  let d3 := refRecord r selOk d2
  let agree := (List.range 8).filter fun i => match res.getD i none with | some p => p.2 | none => false
  let susp := decide (2 ≤ agree.length) && agree.all fun i => failOf i % 2 == 1
  let d4 := d3.refMap fun s => { s with suspect := if susp then s.suspect + 1 else 0, passed := s.passed || (s.st == 1 && selOk) }
  let cause := if !d.flt.tempValid then 1 else if decide (qualTime d ≤ d4.ref.suspect) then 2 else 0
  let d5 :=
    if cause ≠ 0 then refFault r cause d4
    else if d4.ref.st = 7 then
      (if qualTime d ≤ d4.ref.okRun + 1 then
        refState r 0 (d4.refMap fun s => { s with faultCause := 0, okRun := 0 })
      else d4.refMap fun s => { s with okRun := s.okRun + 1 })
    else d4
  let d6 := if d5.ref.st = 1 ∧ d5.ref.passed ∧ refMode d5 d5.ref.sel = 0 ∧ 2 ≤ d5.ref.sel then refState r 2 (d5.refMap fun s => { s with target := 15 }) else d5
  refNextSecond r (refDecide r d6)

/-- QUAL_TIME_EXPIRY (R157). -/
def qualExpiry (r : Root) (i : Nat) (d : Dev) : Dev :=
  let x := d.rin i
  if x.st = 1 ∧ x.timer = 0 then refDecide r (if x.lost then refTo r i 3 (wtrTime d) d else refTo r i 2 0 d)
  else if x.st = 2 ∧ qualTime d ≤ x.run then refLeave r i 4 0 x.failSec d
  else d

/-- WTR_EXPIRY (R157). -/
def wtrExpiry (r : Root) (i : Nat) (d : Dev) : Dev :=
  let x := d.rin i
  if x.st = 3 ∧ x.timer = 0 then refDecide r (refTo r i 2 0 d) else d

/-! ### Loss of signal (R156) -/

/-- Whether an input is in LOS: no edge yet, the window of the last one over, or passed before the edge after it came; for input 6 also a clock
fault that its port has reported since LOS was last judged (R338; log entry 23). -/
def refLos (r : Root) (d : Dev) (i : Nat) : Bool :=
  if i < 2 then (d.ptpn i).st != 2 || (d.srvn i).st == 0 || (d.srvn i).st == 1 || (d.srvn i).st == 5
  else match (d.rin i).last with
    | none => true
    | some e => (d.rin i).late && (d.rin i).st != 0 || (i == 6 && d.ref.sapFault) || decide (2 * e + 3 * refPeriod d i * 256 ≤ 2 * r.ec)

/-- An edge of a SYNCE pad: every DIV-th one of the pad that CTRL.SYNCE_SEL names counts for input 7 (R153); with VIO_C down no edge
comes (R396). -/
def synceEdge (e : SynceEdge) (d : Dev) : Dev :=
  if bankDown d 2 || e.b != d.rb .ref 0x040 4 then d
  else let p := refDiv 7 d; if p.1 then refEdge 7 (e.ec / 512 * 512 : Nat) p.2 else p.2

/-- REF_LOS_DETECT (R156, R157): REF point 1 forces LOS on the selected input. -/
def refLosStep (r : Root) (synce : List SynceEdge) (d : Dev) : Dev :=
  let d0 := synce.foldl (fun d e => synceEdge e d) d
  let sel := d0.ref.sel
  let inj := decide (sel < 8) && injects .ref 1 d0
  let d1 := if decide (sel < 8) then opportunity r .ref 1 d0 else d0
  let d2 := (List.range 8).foldl (fun d i =>
    let x := d.rin i
    let los := refLos r d i || (inj && i == sel)
    if refEna d i && x.st == 0 && !los then refTo r i 1 (qualTime d) d
    else if x.st ≠ 0 ∧ (los || !refEna d i) then
      let good := if x.late then x.gap else x.last.getD r.ec
      refLeave r i 0 0 (good / secEC) d
    else d) d1
  let d3 := d2.refMap fun s => { s with inp := smap {} (fun x => { x with late := false }) s.inp, sapFault := false }
  if d3.flt.tempValid then d3 else refFault r 1 d3

/-! ### Updates each millisecond (R160, R161, R165, R167, R173) -/

/-- A RATE update of view X, unless FEED is set (R113). -/
def rateX (r : Root) (rate : Int) (d : Dev) : Dev := if d.feed 2 then discardX d else let q := rate40 rate d; viewRate r 2 q.1 q.2

/-- VIEW_X_DISCIPLINE (R161). -/
def disciplineX (r : Root) (d : Dev) : Dev :=
  let s := d.ref
  if 1 ≤ s.st ∧ s.st ≤ 3 ∧ 2 ≤ s.sel ∧ s.sel < 8 then
    match (d.rin s.sel).rate with
    | none => d
    | some x =>
      let lim := ppbRate (slewLimit d)
      let corr := rdiv (-(refPhi d s.sel) * 2 ^ 48) (10 * secEC : Nat)
      rateX r (x + max (-lim) (min lim corr)) d
  else d

/-- VIEW_X_SHADOW_UPDATE (R160): the rate that brings view X onto AT in one interval, also while AT slews away from it. -/
def shadowX (r : Root) (d : Dev) : Dev :=
  if 1 ≤ d.ref.st ∧ d.ref.st ≤ 3 ∧ d.ref.sel < 2 ∧ (d.tb.atView ≠ 2 ∨ d.tb.switching) then
    rateX r (d.tb.at'.rate + rdiv ((d.atNow r - d.tb.x.val r.ec) * 2 ^ 48) msEC) d
  else d

/-- AT_SLEW_UPDATE (R163, R165). -/
def slewAt (r : Root) (d : Dev) : Dev :=
  let s := d.ref
  let v := if s.sel < 8 then viewOf s.sel else 2
  let delta := (d.view v).val r.ec - d.atNow r
  let d1 :=
    if d.tb.switching then
      if delta.natAbs ≤ 1 then adoptView r v d
      else
        let mag := min (ppbRate (slewLimit d)) (rdiv (delta.natAbs * 2 ^ 48) msEC)
        let q := rate40 ((d.view v).rate + (if 0 ≤ delta then mag else -mag)) (accRate r 3 d)
        q.2.setAt (d.tb.at'.rerate r.ec q.1)
    else d
  if s.st = 3 ∧ delta.natAbs ≤ 1 then refState r 2 (d1.refMap fun s => { s with target := 15 })
  else if s.st = 1 ∧ (s.sel < 2 ∨ (refMode d s.sel ≠ 0 ∧ (refLastEdge d s.sel).isSome)) ∧ (refDelta r d s.sel).natAbs ≤ d.rf .ref 0x060 31 16 * 256 then
    refState r 2 (d1.refMap fun s => { s with target := 15 })
  else d1

/-- VIEW_DISAGREE_CHECK (R167). -/
def disagree (r : Root) (d : Dev) : Dev :=
  if (d.rin 0).st = 2 ∧ (d.rin 1).st = 2 then
    let x := decide ((d.reg .ref 0x064).toNat * 256 < (d.tb.a.val r.ec - d.tb.b.val r.ec).natAbs)
    raiseIf (x && !d.ref.disagree) r 131 (d.refMap fun s => { s with disagree := x })
  else d

/-- HOLDOVER_RATE_UPDATE (R170). -/
def holdUpdate (r : Root) (d : Dev) : Dev :=
  if d.ref.st = 4 ∨ d.ref.st = 5 then
    let f := holdRate d
    rateX r f (d.refMap fun s => { s with hoRate := f })
  else d

/-- B(t) in ns over the denominator 2 × 10^6 × (EC units in a second)^2 (R173). -/
def holdBound (r : Root) (d : Dev) : Nat :=
  let u := r.ec - d.ref.hoEC
  d.rf .ref 0x06C 15 0 * 2000000 * secEC ^ 2 + d.rf .ref 0x070 23 0 * 2000 * u * secEC + d.rf .ref 0x074 23 0 * u ^ 2

/-- HOLDOVER_BOUND_UPDATE (R173). -/
def boundUpdate (r : Root) (d : Dev) : Dev :=
  if d.ref.st = 4 ∨ d.ref.st = 5 then
    let q := 2000000 * secEC ^ 2
    let b := holdBound r d
    let d1 := d.refMap fun s => { s with hoBound := min 0xFFFFFFFF (cdiv b q) }
    if d.ref.st = 4 ∧ (d.reg .ref 0x078).toNat * q < b then raise r 132 (refState r 5 d1) else d1
  else d

/-! ### Commands (R158, R162 to R164, R168, R171) -/

/-- A write of REF.PREFERRED (R158, R159): an eligible input is taken at once; one that is not eligible changes
nothing at once. -/
def preferredHook (r : Root) (d : Dev) : Dev :=
  let p := d.rf .ref 0x048 3 0
  if p < 8 ∧ (d.rin p).st = 2 ∧ p ≠ d.ref.sel then
    match d.ref.st with
    | 1 => refTurn r p 1 true d
    | 2 => refTurn r p 3 false d
    | 3 => refTurn r p 3 true d
    | _ => refDecide r d
  else d

/-- X_TOD_APPLY (R162): at a PPS_IN edge in FREE or ACQUIRE, view X takes the armed second at the edge. -/
def todApply (r : Root) (d : Dev) : Dev :=
  match d.ref.pps with
  | none => d
  | some e =>
    let d1 := d.refMap fun s => { s with pps := none }
    if d.rb .ref 0x160 0 ∧ d.ref.st ≤ 1 then
      let sec : Int := (d.reg .ref 0x164).toNat + 2 ^ 32 * d.rf .ref 0x168 15 0
      let d2 := d1.setReg .ref 0x160 (d.reg .ref 0x160 &&& ~~~1)
      stepX r { anchorEC := ecOf e, anchorT := sec * secUnits, rate := d.tb.x.rate } d2
    else d1

/-- A commit of REF.X_TOD (R162): only edges after it count. -/
def todHook (d : Dev) : Dev := d.refMap fun s => { s with pps := none }

/-- REF.CMD. -/
def refCmd (r : Root) (w : Word) (d : Dev) : Dev :=
  let d1 := if bitOf w 3 then d.refMap fun s => { s with allowStep := true } else d
  let d2 := if bitOf w 2 then (List.range 16).foldl (fun d j => d.setReg .ref (0x120 + 4 * j) 0) d1 else d1
  let d3 := if bitOf w 1 then d2.refMap fun s => { s with hist := [] } else d2
  if bitOf w 0 then refFree r d3 else d3

/-- A write of INi_CFG or INi_PERIOD (R157, R176): the measurement of an enabled input restarts, so that its next check fails. -/
def refInHook (r : Root) (i : Nat) (cfg : Bool) (old new : Word) (d : Dev) : Dev :=
  let x := d.rin i
  let on := if cfg then bitOf old 0 && bitOf new 0 else refEna d i
  let d1 := if old = new then d else d.setRin i { x with edges := [], since := r.ec, cut := x.cut || on, lost := if cfg && !bitOf old 0 && bitOf new 0 then false else x.lost }
  if cfg && bitOf old 0 && !bitOf new 0 && x.st != 0 then refLeave r i 0 0 (x.last.getD r.ec / secEC) d1 else d1

/-- An input after an EC restart (R175): ABSENT and never lost, which is a change of state; its counter, and what its last check gave, stay. -/
def RefIn.restart (x : RefIn) : RefIn :=
  { fail := x.fail, rate := x.rate, changes := if x.st = 0 then x.changes else satInc x.changes 255 }

/-- The selector after an EC restart (R175): FREE, inputs ABSENT, AT on view X; a cold start empties the table by resetting the page. -/
def refRestart (r : Root) (d : Dev) : Dev :=
  let d1 := raiseIf (d.ref.inp.any fun p => p.2.st != 0) r 129 (raiseIf (d.ref.st != 0) r 128 d)
  d1.refMap fun s => { retargets := s.retargets, holdovers := s.holdovers, switches := s.switches, discarded := s.discarded, hoRate := s.hoRate,
                       inp := smap {} RefIn.restart s.inp, srvBad := srvSeed d }

/-- REF registers that show live state (07). -/
def refRead (r : Root) (d : Dev) (o : Nat) : Word :=
  let s := d.ref
  let hold := s.st == 4 || s.st == 5
  if o = 0x044 then
    wd (s.retargets * 65536 + s.faultCause * 2 ^ 14 + b2n (histOk d (r.ec / secEC)) * 2 ^ 13 + b2n s.disagree * 2 ^ 12 + s.target * 2 ^ 8
      + s.sel * 2 ^ 4 + s.st)
  else if o = 0x07C then wd (if hold then s.hoBound else 0)
  else if o = 0x080 then wd (if hold then (r.ec - s.hoEC) / secEC else 0)
  else if o = 0x084 then (rateWords (sgn (uns s.hoRate 40) 40)).getD 0 0
  else if o = 0x088 then (rateWords (sgn (uns s.hoRate 40) 40)).getD 1 0
  else if o = 0x08C then wd (b2n d.flt.tempValid * 65536 + d.flt.temp % 65536)
  else if 0x0E0 ≤ o ∧ o < 0x100 then
    let x := d.rin ((o - 0x0E0) / 4)
    let t := if x.st = 2 then (if x.run = 0 then 0 else qualTime d - x.run) else x.timer
    wd (x.changes * 2 ^ 24 + t % 65536 * 256 + x.fail * 8 + x.st)
  else if 0x100 ≤ o ∧ o < 0x120 then
    match (d.rin ((o - 0x100) / 4)).rate with
    | some x => wd (uns (rdiv (x * 1000000000000) (2 ^ 48)) 32)
    | none => 0
  else if o = 0x1A0 then wd (s.holdovers * 65536 + s.switches)
  else d.reg .ref o

/-- Level of REF_STATE[2:0], LOCKED and HOLD_VALID (R174). -/
def refPads (d : Dev) : Nat × Bool × Bool := (d.ref.st, d.ref.st == 2, d.ref.st == 2 || d.ref.st == 3 || d.ref.st == 4)

/-! ### Meanings -/

/-- The words of the temperature table. -/
def ttWords : List Nat := (List.range 16).map fun j => 0x120 + 4 * j
/-- The words of the page that a check or judgement uses: settings, inputs and table. -/
def refWords : List Nat := (List.range 72).map (fun k => 0x040 + 4 * k) ++ (List.range 8).map fun i => 0x180 + 4 * i

/-- REF_CHECK. -/
def execRefCheck (s : State) : Host.Outcome State Fault Refusal := onDev (fun r d => refCheck r (pageUse r .ref refWords d)) s
/-- QUAL_TIME_EXPIRY. -/
def execQualTimeExpiry (i : Fin 8) (s : State) : Host.Outcome State Fault Refusal := onDev (fun r d => qualExpiry r i (pageUse r .ref [0x050] d)) s
/-- WTR_EXPIRY. -/
def execWtrExpiry (i : Fin 8) (s : State) : Host.Outcome State Fault Refusal := onDev (fun r d => wtrExpiry r i (pageUse r .ref [0x050] d)) s
/-- REF_LOS_DETECT. -/
def execRefLosDetect (synce : List SynceEdge) (s : State) : Host.Outcome State Fault Refusal :=
  onDev (fun r d => refLosStep r synce (pageUse r .ref refWords d)) s
/-- VIEW_X_DISCIPLINE. -/
def execViewXDiscipline (s : State) : Host.Outcome State Fault Refusal := onDev (fun r d => disciplineX r (pageUse r .ref [0x058] d)) s
/-- VIEW_X_SHADOW_UPDATE. -/
def execViewXShadowUpdate (s : State) : Host.Outcome State Fault Refusal := onDev (fun r d => shadowX r (pageUse r .ref [0x040] d)) s
/-- AT_SLEW_UPDATE. -/
def execAtSlewUpdate (s : State) : Host.Outcome State Fault Refusal := onDev (fun r d => slewAt r (pageUse r .ref [0x058, 0x060] d)) s
/-- VIEW_DISAGREE_CHECK. -/
def execViewDisagreeCheck (s : State) : Host.Outcome State Fault Refusal := onDev (fun r d => disagree r (pageUse r .ref [0x064] d)) s
/-- HOLDOVER_RATE_UPDATE. -/
def execHoldoverRateUpdate (s : State) : Host.Outcome State Fault Refusal := onDev (fun r d => holdUpdate r (pageUse r .ref (0x040 :: ttWords) d)) s
/-- HOLDOVER_BOUND_UPDATE. -/
def execHoldoverBoundUpdate (s : State) : Host.Outcome State Fault Refusal :=
  onDev (fun r d => boundUpdate r (pageUse r .ref [0x06C, 0x070, 0x074, 0x078] d)) s
/-- X_TOD_APPLY. -/
def execXTodApply (s : State) : Host.Outcome State Fault Refusal := onDev (fun r d => todApply r (pageUse r .ref [0x160, 0x164, 0x168] d)) s

end Sys2Proof.Machine
end

