-- ==== Sys2Proof/Machine/Mcs.lean ====
section
/-! DEFINITION. The media clock synthesizers (08): bands, lock, bypass, frequency, ramps, outputs and discipline. -/

namespace Sys2Proof.Machine

/-- A synthesizer. -/
def Dev.mcsn (d : Dev) (n : Nat) : Mcs := sget (fun _ => {}) d.mcs n

/-- Set it. -/
def Dev.setMcs (d : Dev) (n : Nat) (x : Mcs) : Dev := { d with mcs := sset (fun _ => {}) d.mcs n x }

/-- Event `k` of MCSn. -/
def mcsEvt (r : Root) (n k : Nat) (d : Dev) : Dev := raise r (160 + 8 * n + k) d

/-- A refusal: its code and EV_MCSn_REFUSED. -/
def mcsRefuse (r : Root) (n why : Nat) (d : Dev) : Dev := mcsEvt r n 2 (d.setMcs n { d.mcsn n with refuse := why })

/-! ### Frequency and bands (R177 to R179, R185) -/

/-- CTRL.EN as the synthesizer holds it. -/
def mcsEn (d : Dev) (n : Nat) : Bool := d.pf (.mcs n) 0x040 0 0 == 1
/-- DISC_MODE: 0 OFF, 1 FREQ, 2 PHASE; reserved acts as OFF. -/
def mcsMode (d : Dev) (n : Nat) : Nat := let m := d.pf (.mcs n) 0x040 2 1; if m = 3 then 0 else m

/-- INT and FRAC of two FREQ words, in units of 2^-48. -/
def freqOf (lo hi : Word) : Nat := fld hi 22 16 * 2 ^ 48 + fld hi 15 0 * 2 ^ 32 + lo.toNat

/-- The committed frequency. -/
def mcsN (d : Dev) (n : Nat) : Nat := freqOf (d.pwv (.mcs n) 0x048) (d.pwv (.mcs n) 0x04C)

/-- Entry `j` of the band table: F_MIN and F_MAX in kHz, when valid (R178). -/
def bandOf (d : Dev) (n j : Nat) : Option (Nat × Nat) :=
  let lo := d.reg (.mcs n) (0x200 + 8 * j)
  let hi := fld (d.reg (.mcs n) (0x204 + 8 * j)) 22 0
  if bitOf lo 31 && decide (fld lo 22 0 < hi) then some (fld lo 22 0, hi) else none

/-- Spread DEPTH in ppm while SPREAD is selected, and whether it is centred (R186). -/
def mcsDepth (d : Dev) (n : Nat) : Nat × Bool :=
  (if d.pf (.mcs n) 0x040 5 4 = 2 then 10 * min 500 (d.pf (.mcs n) 0x054 8 0) else 0, d.pf (.mcs n) 0x040 6 6 == 1)

/-- Whether a frequency `num` ÷ `den` of 2^-48 × 50 MHz lies in a closed band of kHz. -/
def inBand (b : Nat × Nat) (num den : Nat) : Bool :=
  decide (b.1 * 2 ^ 48 * den ≤ 50000 * num) && decide (50000 * num ≤ b.2 * 2 ^ 48 * den)

/-- The band a start selects for frequency `f`, with its limits: it contains the selection range, its centre nearest, the lower index on a tie (R179). -/
def bandSelect (d : Dev) (n f : Nat) : Option (Nat × Nat × Nat) :=
  let sp := mcsDepth d n
  let dl := if sp.2 then sp.1 / 2 else sp.1
  let dh := if sp.2 then sp.1 / 2 else 0
  let ok := (List.range 64).filterMap fun j => match bandOf d n j with
    | some b => if inBand b (f * (1000000 - 2000 - dl)) 1000000 && inBand b (f * (1000000 + 2000 + dh)) 1000000 then some (j, b) else none
    | none => none
  let dist := fun (b : Nat × Nat) => (((b.1 + b.2) * 2 ^ 48 : Nat) - (100000 * f : Nat) : Int).natAbs
  ok.foldl (fun best x => match best with
    | none => some x
    | some y => if dist x.2 < dist y.2 then some x else best) none

/-! ### Bypass (R182, R183) -/

/-- Enabled outputs, bit per output (R190). -/
def mcsOuts (d : Dev) (n : Nat) : Nat := ((List.range 4).map fun k => d.pf (.mcs n) (0x060 + 8 * k) 31 31 * 2 ^ k).sum

/-- Every enabled output is on bypass while the synthesizer is not LOCKED; entries are counted and raise their event. -/
def bypassAll (r : Root) (n : Nat) (d : Dev) : Dev :=
  let x := d.mcsn n
  let on := mcsOuts d n
  let fresh := ((List.range 4).filter fun k => nbit on k && !nbit x.bypass k).length
  raiseIf (0 < fresh) r (161 + 8 * n) (d.setMcs n { x with bypass := on, bypasses := min 0xFFFF (x.bypasses + fresh) })

/-- Every output returns to the synthesizer. -/
def bypassNone (r : Root) (n : Nat) (d : Dev) : Dev :=
  let x := d.mcsn n
  raiseIf (x.bypass != 0) r (161 + 8 * n) (d.setMcs n { x with bypass := 0 })

/-- Whether the reference is absent, or an injection makes it so in the present MREF_CLK cycle (R181, R363). -/
def Mcs.noRef (r : Root) (x : Mcs) : Bool := x.refLoss || decide (r.ec < x.refInj)

/-- What drives an internal output or a pad. -/
inductive ClockSrc where
  | low
  /-- output `k` of MCS `n` at its own frequency -/
  | synth (n k : Nat)
  /-- MREF_CLK divided -/
  | mref (div : Nat)
  deriving DecidableEq, Repr

/-- Source of output `k` of MCS `n` (R182, R190). -/
def outSource (r : Root) (d : Dev) (n k : Nat) : ClockSrc :=
  let cfg := d.pwv (.mcs n) (0x060 + 8 * k)
  let x := d.mcsn n
  if !bitOf cfg 31 then .low
  else if !nbit x.bypass k then .synth n k
  else
    let b := fld cfg 21 16
    if b < 0x20 then
      (if b / 4 ≠ n ∧ (d.mcsn (b / 4)).st = 3 ∧ d.pf (.mcs (b / 4)) (0x060 + 8 * (b % 4)) 31 31 = 1 then .synth (b / 4) (b % 4) else .low)
    else if b = 0x20 ∧ ¬ x.noRef r then .mref (max 1 (fld cfg 29 24))
    else .low

/-- Source of pad MCLKOp (R193); held low while the core sleeps (R199). -/
def mclkoSource (r : Root) (d : Dev) (p : Nat) : ClockSrc :=
  let s := d.rf (.mcs (p / 2)) (0x400 + 4 * (p % 2)) 5 0
  if r.coreOn && decide (s < 0x20) then outSource r d (s / 4) (s % 4) else .low

/-! ### Ramp and discipline states (R187 to R189, R196) -/

/-- The discipline state follows the ramp (R196). -/
def discSettle (n : Nat) (d : Dev) : Dev :=
  let x := d.mcsn n
  if (x.disc = 1 ∨ x.disc = 2) ∧ x.rampSt ≠ 0 then d.setMcs n { x with disc := 3, inRun := 0 }
  else if x.disc = 3 ∧ x.rampSt = 0 then d.setMcs n { x with disc := 1, inRun := 0 }
  else d

/-- The ramp stops with its offset kept, with EV_MCSn_RAMP_DONE (R189; log entry 24). -/
def rampStop (r : Root) (n : Nat) (d : Dev) : Dev :=
  let x := d.mcsn n
  if x.rampSt = 1 then discSettle n (mcsEvt r n 3 (d.setMcs n { x with rampSt := 2 })) else d

/-- ppb in units of r. -/
def rUnits : Nat := 2 ^ 32

/-- Output `k` fed back by `DISC_CFG.PAD`, when the pad is driven by an enabled output of this MCS (R197). -/
def fbOutput (d : Dev) (n : Nat) : Option Nat :=
  let p := d.rf (.mcs n) 0x084 3 0
  let s := d.rf (.mcs (p / 2)) (0x400 + 4 * (p % 2)) 5 0
  if s < 0x20 ∧ s / 4 = n ∧ d.pf (.mcs n) (0x060 + 8 * (s % 4)) 31 31 = 1 then some (s % 4) else none

/-- Leaving ALIGNED clears every OUT_ALIGNED bit but the fed-back output's (R196). -/
def keepFed (d : Dev) (n : Nat) : Nat := match fbOutput d n with | some k => 2 ^ k | none => 0

/-! ### Starting and stopping (R180) -/

/-- A start from OFF: refused, or STARTING with its band. -/
def mcsStart (r : Root) (n : Nat) (d : Dev) : Dev :=
  let f := mcsN d n
  let int := f / 2 ^ 48
  let go := fun st why => d.setMcs n { d.mcsn n with st := st, refuse := why }
  if (List.range 64).all fun j => (bandOf d n j).isNone then mcsEvt r n 2 (go 5 1)
  else if int < 70 ∨ 90 * 2 ^ 48 < f then mcsEvt r n 2 (go 5 3)
  else match bandSelect d n f with
    | none => mcsEvt r n 2 (go 5 2)
    | some b =>
      let seed := max 1 (d.pwv (.mcs n) 0x050).toNat
      d.drew.setMcs n { d.mcsn n with st := 1, refuse := 0, band := b.1, lim := b.2, sscFrom := d.free, lfsr := seed }

/-- Exit from LOCKED, or from ACQUIRING or STARTING: outputs to bypass, the ramp stopped. -/
def mcsUnlock (r : Root) (n : Nat) (d : Dev) : Dev :=
  let x := d.mcsn n
  if x.st = 3 then
    bypassAll r n (rampStop r n (mcsEvt r n 0 (d.setMcs n { x with st := 2, unlocks := satInc x.unlocks 0xFFFF, inWin := 0, outWin := 0 })))
  else d

/-- Outputs leave bypass when LOCKED and BYP_MANUAL is 0 (R182). -/
def mcsReturnAuto (r : Root) (n : Nat) (d : Dev) : Dev :=
  if (d.mcsn n).st = 3 ∧ d.pf (.mcs n) 0x040 8 8 = 0 then bypassNone r n d else d

/-- A posted write of CTRL takes effect (R180, R182, R194, R196). -/
def mcsCtrlHook (r : Root) (n : Nat) (old new : Word) (d : Dev) : Dev :=
  let x := d.mcsn n
  let d1 :=
    if bitOf new 0 && !bitOf old 0 then
      let d0 := d.setMcs n { x with unlocks := 0, bypasses := 0, fbMissed := 0, updRefused := 0, refuse := 0 }
      if x.st = 0 then mcsStart r n d0 else d0
    else if !bitOf new 0 && bitOf old 0 then
      if x.st = 5 then d.setMcs n { x with st := 0 }
      else if 1 ≤ x.st ∧ x.st ≤ 3 then
        let d0 := raiseIf (x.rampSt == 1) r (163 + 8 * n) <| raiseIf (x.st == 3) r (160 + 8 * n) 
          (d.setMcs n { x with st := 4, rampSt := 0, r := 0, unlocks := if x.st = 3 then satInc x.unlocks 0xFFFF else x.unlocks })
        discSettle n (bypassAll r n d0)
      else d
    else d
  let m := fun (w : Word) => fld w 2 1
  let y := d1.mcsn n
  let d2 :=
    if m new = 2 then (if y.disc = 0 then discSettle n (d1.setMcs n { y with disc := 1, inRun := 0, missRun := 0 }) else d1)
    else d1.setMcs n { y with disc := 0, u := 0, i := 0, inRun := 0, missRun := 0 }
  mcsReturnAuto r n d2

/-- MCS_VCO_SETTLED. -/
def vcoSettled (n : Nat) (d : Dev) : Dev := let x := d.mcsn n; if x.st = 1 then d.setMcs n { x with st := 2, inWin := 0, outWin := 0 } else d

/-- LOCK_WIN in ps; 0 acts as 1. -/
def lockWin (d : Dev) (n : Nat) : Nat := max 1 (d.pf (.mcs n) 0x058 11 0)

/-- Cycles of MREF_CLK are judged: the phase error's magnitude against LOCK_WIN (R10, R181). -/
def Mcs.judge (win : Nat) (x : Mcs) (p : PhaseRun) : Mcs :=
  if p.n = 0 then x
  else if p.ps.natAbs ≤ win then { x with inWin := x.inWin + p.n, outWin := 0 }
  else { x with inWin := 0, outWin := x.outWin + p.n }

/-- A run of MREF_CLK cycles with one phase error (R180): LOCK_CNT cycles in a row inside the window lock a synthesizer that has its reference,
UNLOCK_CNT in a row outside it unlock one. -/
def phaseRun (r : Root) (n : Nat) (d : Dev) (p : PhaseRun) : Dev :=
  let x := (d.mcsn n).judge (lockWin d n) p
  let d1 := d.setMcs n x
  if x.st = 2 ∧ x.noRef r = false ∧ max 1 (d.pf (.mcs n) 0x058 31 16) ≤ x.inWin then mcsReturnAuto r n (mcsEvt r n 0 (d1.setMcs n { x with st := 3 }))
  else if max 1 (d.pf (.mcs n) 0x058 15 12) ≤ x.outWin then mcsUnlock r n d1
  else d1

/-- MCS_LOCK_ACQUIRED (R180): its cycles are judged one run after another. -/
def lockAcquired (r : Root) (n : Nat) (err : List PhaseRun) (d : Dev) : Dev := err.foldl (phaseRun r n) d

/-- MCS_LOCK_LOST (R180): likewise. -/
def lockLost (r : Root) (n : Nat) (err : List PhaseRun) (d : Dev) : Dev := err.foldl (phaseRun r n) d

/-- MCS_STOP_COMPLETE: OFF, or a new start when EN is 1 again. -/
def stopComplete (r : Root) (n : Nat) (d : Dev) : Dev :=
  let x := d.mcsn n
  if x.st = 4 then
    let d1 := d.setMcs n { x with st := 0, bandLimit := false }
    if mcsEn d n then mcsStart r n d1 else d1
  else d

/-- MCS_REF_LOSS (R181). -/
def mcsRef (r : Root) (n : Nat) (absent : Bool) (d : Dev) : Dev :=
  let d1 := d.setMcs n { d.mcsn n with refLoss := absent }
  if absent then mcsUnlock r n d1 else d1

/-! ### Frequency changes (R184, R185, R194) -/

/-- A posted commit of FREQ (R184): refused while running for its step, its band or a busy ramp; a refused one leaves the old value. -/
def mcsFreqHook (r : Root) (n : Nat) (lo hi : Word) (d : Dev) : Dev :=
  let x := d.mcsn n
  let old := mcsN d n
  let new := freqOf lo hi
  let why :=
    if 1 ≤ x.st ∧ x.st ≤ 3 then
      (if old * 200 < ((new : Int) - old).natAbs * 1000000 then 4
      else if !inBand x.lim new 1 then 5
      else if x.rampSt ≠ 0 then 8 else 0)
    else 0
  if why = 0 then (d.setPwv (.mcs n) 0x048 lo).setPwv (.mcs n) 0x04C hi
  else
    let d1 := (d.setReg (.mcs n) 0x048 (d.pwv (.mcs n) 0x048)).setReg (.mcs n) 0x04C (d.pwv (.mcs n) 0x04C)
    mcsRefuse r n why (d1.setMcs n { d1.mcsn n with updRefused := satInc x.updRefused 0xFFFF })

/-- The spread offset in units of 2^-32 ppb (R186): a triangle of RATE Hz from the free start of its phase. -/
def spreadAt (r : Root) (d : Dev) (n : Nat) : Int :=
  let sp := mcsDepth d n
  let rate := max 1000 (d.pf (.mcs n) 0x054 31 16)
  let ph := ((r.ec + (d.mcsn n).sscFrom) * rate) % secEC
  let tri : Int := if 2 * ph ≤ secEC then 2 * ph else 2 * (secEC - ph)
  let span : Int := sp.1 * 1000 * rUnits
  (if sp.2 then span / 2 else 0) - rdiv (span * tri) secEC

/-- The applied frequency before the band limit (R194). -/
def mcsWanted (r : Root) (d : Dev) (n : Nat) : Int :=
  let x := d.mcsn n
  let one : Int := 1000000000 * rUnits
  let f : Int := mcsN d n
  let s := spreadAt r d n
  match mcsMode d n with
  | 0 => rdiv (f * (one + x.r + s)) one
  | m =>
    let u : Int := if m = 2 then x.u else 0
    let q : Int := 1000000000 * 2 ^ 24
    rdiv (f * (2 ^ 48 + x.rho) * (q + u) * (one + x.r) * (one + s)) (2 ^ 48 * q * one * one)

/-- Ramp offset within the running segment (R187). -/
def rampAt (x : Mcs) (t : Nat) : Int :=
  let p := x.prof.getD x.seg (0, 1)
  x.from' + rdiv ((p.1 * rUnits - x.from') * t) p.2

/-- STARTING, ACQUIRING or LOCKED. -/
def Mcs.started (x : Mcs) : Bool := decide (1 ≤ x.st ∧ x.st ≤ 3)

/-- Length of an MREF_CLK cycle in units of EC. -/
def mrefUnits : Nat := 5120

/-- The opportunities of MCSn POINT 1 in the next `k` MREF_CLK cycles of a started synthesizer: the reference is lost for each cycle that injects. -/
def refCycles (r : Root) (n : Nat) : Nat → Dev → Dev
  | 0, d => d
  | k + 1, d =>
    if (d.mcsn n).started && injects (.mcs n) 1 d then
      let d1 := opportunity r (.mcs n) 1 d
      refCycles { r with ec := r.ec + mrefUnits } n k (mcsUnlock r n (d1.setMcs n { d1.mcsn n with refInj := r.ec + mrefUnits }))
    else d

/-- The 50 MREF_CLK cycles of the microsecond that begins (R359, R363): POINT 0 acts in the first in which the synthesizer is LOCKED, POINT 1 in each
while it is started. They are taken together at the update (log entry 24). -/
def mcsPoints (r : Root) (n : Nat) (d : Dev) : Dev :=
  let lost := (d.mcsn n).st == 3 && injects (.mcs n) 0 d
  let d1 := if (d.mcsn n).st = 3 then opportunity r (.mcs n) 0 d else d
  refCycles r n 50 (if lost then mcsUnlock r n d1 else d1)

/-- Where output `k`'s delay stands on its way to `goal` at the present EC, and the part of an output period gone, in 2^-32: it moves one step each
output period (R191). -/
def delayAt (r : Root) (x : Mcs) (k goal div : Nat) : Nat × Nat :=
  let p := sget (fun _ => (0, 0, 0)) x.delay k
  let gone := p.2.2 + (r.ec - p.2.1) * 50000000 * x.applied * 2 ^ 32 / (secEC * 2 ^ 48 * div)
  (if p.1 ≤ goal then min goal (p.1 + gone / 2 ^ 32) else max goal (p.1 - gone / 2 ^ 32), gone % 2 ^ 32)

/-- Divider of output `k`: 0 stands for 1,024. -/
def outDiv (d : Dev) (n k : Nat) : Nat := let v := d.pf (.mcs n) (0x060 + 8 * k) 9 0; if v = 0 then 1024 else v

/-- The delay asked for of output `k`. -/
def delayGoal (d : Dev) (n k : Nat) : Nat := d.pf (.mcs n) (0x064 + 8 * k) 13 0

/-- The delays that are under way as they stand now: they go on from here with the frequency and the divider that follow. -/
def delaysStand (r : Root) (d : Dev) (n : Nat) : SMap (Nat × Nat × Nat) :=
  let x := d.mcsn n
  (List.range 4).foldl (fun m k =>
    if (sget (fun _ => (0, 0, 0)) m k).1 = delayGoal d n k then m
    else let q := delayAt r x k (delayGoal d n k) (outDiv d n k); sput k (q.1, r.ec, q.2) m) x.delay

/-- MCS_FREQ_UPDATE (R184 to R187, R194): the ramp moves on, and one applied frequency is formed, held at the edges of the band in use. With DITHER
the modulator takes it with the next value of the sequence, which is a free value of at most one LSB (log entry 3). The injection points of R363 act
on the MREF_CLK cycles of the update's microsecond. -/
def freqUpdate (r : Root) (n : Nat) (d : Dev) : Dev :=
  let d2 := mcsPoints r n d
  let x := d2.mcsn n
  if 1 ≤ x.st ∧ x.st ≤ 3 then
    let dur := (x.prof.getD x.seg (0, 1)).2
    let t := min dur (x.elapsed + 1)
    let d3 := if x.rampSt = 1 then d2.setMcs n { x with elapsed := t, r := rampAt x t } else d2
    let w := mcsWanted r d3 n
    let y := d3.mcsn n
    let lo : Int := cdiv (y.lim.1 * 2 ^ 48) 50000
    let hi : Int := (y.lim.2 * 2 ^ 48 / 50000 : Nat)
    let a := (max lo (min hi w)).toNat
    let dither := d3.pf (.mcs n) 0x040 5 4 == 1
    let next := if dither then Config.ditherNext y.lfsr % 2 ^ 32 else y.lfsr
    let step : Int := if dither then (Config.ditherOf next % 3 : Nat) - 1 else 0
    d3.setMcs n { y with applied := a, delay := if a = y.applied then y.delay else delaysStand r d3 n, bandLimit := decide (w < lo ∨ hi < w), lfsr := next, driven := ((a : Int) + step).toNat }
  else d2

/-! ### Ramps (R187 to R189) -/

/-- RAMP_START, by a strobe or a trigger (R188). -/
def rampStart (r : Root) (n : Nat) (d : Dev) : Dev :=
  let x := d.mcsn n
  let last := d.rf (.mcs n) 0x0B0 3 0
  let act := d.rf (.mcs n) 0x0B0 9 8
  let prof : List (Int × Nat) := (List.range (last + 1)).map fun s =>
    (sgn (d.reg (.mcs n) (0x100 + 8 * s)).toNat 32, max 1 (d.rf (.mcs n) (0x104 + 8 * s) 23 0))
  let starts := x.r :: prof.map fun p => p.1 * rUnits
  let steep := (starts.zip prof).any fun q => decide (200000 * rUnits * q.2.2 < (q.2.1 * rUnits - q.1).natAbs)
  let ff : Int := if mcsMode d n = 0 then 2 ^ 48 else 2 ^ 48 + x.rho
  let out := prof.any fun p => !inBand x.lim ((mcsN d n : Int) * ff * (1000000000 + p.1)).toNat (2 ^ 48 * 1000000000)
  if x.st ≠ 3 || steep || out || (act == 1 && (prof.getLast?.map (·.1)) != some 0) then mcsRefuse r n 7 d
  else if x.rampSt = 1 then mcsRefuse r n 8 d
  else discSettle n (d.setMcs n { x with rampSt := 1, seg := 0, elapsed := 0, from' := x.r, prof := prof, endAct := act })

/-- RAMP_SEGMENT_END (R187, R189). -/
def segmentEnd (r : Root) (n : Nat) (d : Dev) : Dev :=
  let x := d.mcsn n
  let p := x.prof.getD x.seg (0, 1)
  if x.rampSt = 1 ∧ p.2 ≤ x.elapsed then
    let y := { x with r := p.1 * rUnits }
    if x.seg + 1 < x.prof.length then d.setMcs n { y with seg := x.seg + 1, elapsed := 0, from' := y.r }
    else
      let z := match x.endAct with
        | 1 => { y with r := 0, rampSt := 0 }
        | 2 => { y with seg := 0, elapsed := 0, from' := y.r }
        | _ => { y with rampSt := 2 }
      discSettle n (mcsEvt r n 3 (d.setMcs n z))
  else d

/-! ### Outputs (R190 to R192) -/

/-- A posted write of OUTk_CFG takes effect (R182, R183, R190, R192): an output enabled while LOCKED runs from the synthesizer at once. -/
def outCfgHook (r : Root) (n k : Nat) (old new : Word) (d : Dev) : Dev :=
  let x := d.mcsn n
  if bitOf new 31 && !bitOf old 31 then
    let d1 := d.setMcs n { x with aligned := nset x.aligned k (x.disc == 2), delay := sput k (delayGoal d n k, r.ec, 0) x.delay }
    if x.st = 3 then d1 else bypassAll r n d1
  else if !bitOf new 31 then
    raiseIf (nbit x.bypass k) r (161 + 8 * n) (d.setMcs n { x with aligned := nset x.aligned k false, bypass := nset x.bypass k false })
  else if fld old 9 0 ≠ fld new 9 0 then
    let v := fld old 9 0
    let q := delayAt r x k (delayGoal d n k) (if v = 0 then 1024 else v)
    d.setMcs n { x with aligned := nset x.aligned k false, delay := sput k (q.1, r.ec, q.2) x.delay }
  else d

/-- Delay of output `k` at the present EC: it moves one step each output period (R191). -/
def delayNow (r : Root) (d : Dev) (n k goal : Nat) : Nat := (delayAt r (d.mcsn n) k goal (outDiv d n k)).1

/-- The delays and the spread as an EC restart finds them: on a running output both go on from where they stood at the EC of `r0`; after a wake the
delays stand, and the spread starts with its synthesizer. -/
def delayKeep (r0 : Root) (wake : Bool) (n : Nat) (d : Dev) : Dev :=
  let x := d.mcsn n
  d.setMcs n { x with
    sscFrom := (x.sscFrom + r0.ec) % secEC,
    refInj := 0,
    delay := (List.range 4).foldl (fun m k =>
      let q := delayAt r0 x k (delayGoal d n k) (outDiv d n k)
      sput k (if wake then (delayGoal d n k, 0, 0) else (q.1, 0, q.2)) m) [] }

/-- A posted write of OUTk_DELAY takes effect (R191). -/
def outDelayHook (r : Root) (n k : Nat) (old new : Word) (d : Dev) : Dev :=
  let x := d.mcsn n
  let q := delayAt r x k (fld old 13 0) (outDiv d n k)
  d.setMcs n { x with delay := sput k (if d.pf (.mcs n) (0x060 + 8 * k) 31 31 = 1 then (q.1, r.ec, q.2) else (fld new 13 0, r.ec, 0)) x.delay }

/-- MCSn.CMD (R182, R188, R189, R192). -/
def mcsCmd (r : Root) (n : Nat) (w : Word) (d : Dev) : Dev :=
  let d1 := if bitOf w 0 then rampStart r n d else d
  let d2 := if bitOf w 1 then rampStop r n d1 else d1
  let d3 := if bitOf w 2 && (d2.mcsn n).st == 3 then bypassNone r n d2 else d2
  if bitOf w 3 then
    let x := d3.mcsn n
    if x.disc = 2 then d3.setMcs n { x with aligned := mcsOuts d3 n } else mcsRefuse r n 9 d3
  else d3

/-! ### Discipline (R195 to R198) -/

/-- φ of a stamp: AT less the nearest ideal edge, plus DISC_ADJ, wrapped into half a nominal period either way (R195). -/
def discPhi (d : Dev) (n : Nat) (s : Stamp) : Int :=
  let num : Int := max 1 (d.reg (.mcs n) 0x080).toNat
  let m : Int := max 1 (d.rf (.mcs n) 0x084 31 16) * secUnits
  let t := d.atOf s + sgn (d.reg (.mcs n) 0x094).toNat 32
  rdiv ((t * num + m / 2) % m - m / 2) num

/-- Whether φ lies in a window of ps. -/
def inPs (phi : Int) (win : Nat) : Bool := decide (phi.natAbs * 1000 ≤ win * 256)

/-- One update of the loop (R195), in units of 2^-24 ppb: I, u. -/
def discLoop (d : Dev) (n : Nat) (x : Mcs) (phi : Int) : Mcs :=
  let i' := x.i - (d.rf (.mcs n) 0x088 31 16 : Nat) * phi * 1000
  let u := i' - (d.rf (.mcs n) 0x088 15 0 : Nat) * phi * 1000
  let c : Int := min 100000 (d.rf (.mcs n) 0x08C 23 0) * 2 ^ 24
  if u.natAbs ≤ c.natAbs then { x with i := i', u := u } else { x with u := if 0 ≤ u then c else -c }

/-- MCS_DISC_INTERVAL (R194 to R197): AT's RATE is read; in PHASE mode the first stamp of the millisecond is used, or its lack counted. -/
def discInterval (r : Root) (n : Nat) (d : Dev) : Dev :=
  let d0 := d.setMcs n { d.mcsn n with rho := d.tb.at'.rate }
  let x := d0.mcsn n
  if x.disc = 0 then d0
  else
    let s := sget (fun _ => none) d.fb (d.rf (.mcs n) 0x084 3 0)
    let fresh := match s with
      | some t => decide (r.ec < t.ec + secEC / 500) && x.taken != some t.ec
      | none => false
    match fbOutput d n, (if fresh then s else none) with
    | some _, some t =>
      if t.valid && d.sameEra t then
        let phi := discPhi d n t
        let st := if x.disc = 4 then 1 else x.disc
        let y0 : Mcs := { x with taken := some t.ec, phi := phi, missRun := 0, disc := st }
        let y := if (st = 1 ∨ st = 2) ∧ x.rampSt = 0 then discLoop d n y0 phi else y0
        let inside := inPs phi (d.rf (.mcs n) 0x090 15 0)
        let out := st == 2 && !inPs phi (d.rf (.mcs n) 0x090 31 16)
        let z : Mcs := { y with disc := if out then 1 else st, inRun := if st = 1 && inside then x.inRun + 1 else 0,
                                aligned := if out then y.aligned &&& keepFed d n else y.aligned }
        discSettle n (monTake r 6 n true phi (raiseIf out r (164 + 8 * n) (d0.setMcs n z)))
      else d0.setMcs n { x with taken := some t.ec, inRun := 0, missRun := x.missRun + 1, fbMissed := satInc x.fbMissed 0xFFFF }
    | none, _ => d0.setMcs n { x with refuse := 6, inRun := 0, missRun := x.missRun + 1, fbMissed := satInc x.fbMissed 0xFFFF }
    | some _, none => d0.setMcs n { x with inRun := 0, missRun := x.missRun + 1, fbMissed := satInc x.fbMissed 0xFFFF }

/-- MCS_ALIGN_ACHIEVED (R196). -/
def alignAchieved (r : Root) (n : Nat) (d : Dev) : Dev :=
  let x := d.mcsn n
  if x.disc = 1 ∧ 16 ≤ x.inRun then mcsEvt r n 4 (d.setMcs n { x with disc := 2, inRun := 0, aligned := x.aligned ||| keepFed d n }) else d

/-- MCS_NO_FEEDBACK (R196). -/
def noFeedback (r : Root) (n : Nat) (d : Dev) : Dev :=
  let x := d.mcsn n
  if 1 ≤ x.disc ∧ x.disc ≤ 3 ∧ 16 ≤ x.missRun then
    mcsEvt r n 5 (d.setMcs n { x with disc := 4, inRun := 0 })
  else d

/-- A wake from DOZE (R199): an MCS whose EN is 1 starts by itself; OUT_ALIGNED reads 0. -/
def mcsWake (r : Root) (n : Nat) (d : Dev) : Dev :=
  let x := d.mcsn n
  let d1 := d.setMcs n { x with st := 0, aligned := 0, rampSt := 0, r := 0, refLoss := false, bandLimit := false,
                                inRun := 0, missRun := 0, taken := none, disc := if mcsMode d n = 2 then 1 else 0 }
  bypassAll r n (if mcsEn d n then mcsStart r n d1 else d1)

/-- MCSn registers that show live state (08). -/
def mcsRead (r : Root) (d : Dev) (n o : Nat) : Word :=
  let x := d.mcsn n
  if o = 0x044 then
    wd (x.bypass * 2 ^ 28 + x.aligned % 16 * 2 ^ 24 + x.seg * 2 ^ 20 + x.rampSt * 2 ^ 18 + b2n x.bandLimit * 2 ^ 17 + b2n (x.noRef r) * 2 ^ 16
      + x.disc * 2 ^ 13 + x.band * 2 ^ 7 + x.refuse * 2 ^ 3 + x.st)
  else if o = 0x098 then wd (uns x.phi 32)
  else if o = 0x09C then wd (uns (rdiv (x.u * 1000) (2 ^ 24)) 32)
  else if o = 0x0A0 then wd x.applied
  else if o = 0x0A4 then wd (x.applied / 2 ^ 32)
  else if o = 0x0A8 then wd (x.unlocks * 65536 + x.bypasses)
  else if o = 0x0AC then wd (x.fbMissed * 65536 + x.updRefused)
  else d.reg (.mcs n) o

/-! ### Meanings -/

/-- The words that decide an output's clock. -/
def outWords : List Nat := 0x040 :: (List.range 4).map fun k => 0x060 + 8 * k
/-- The words that a start uses, the band table among them. -/
def startWords : List Nat := [0x040, 0x048, 0x04C, 0x050, 0x054] ++ (List.range 128).map fun i => 0x200 + 4 * i

/-- MCS_VCO_SETTLED. -/
def execMcsVcoSettled (n : Fin 8) (s : State) : Host.Outcome State Fault Refusal := onDev (fun _ d => vcoSettled n d) s
/-- MCS_LOCK_ACQUIRED. -/
def execMcsLockAcquired (seen : PhaseSeen) (s : State) : Host.Outcome State Fault Refusal :=
  onDev (fun r d => lockAcquired r seen.n seen.err (pageUse r (.mcs seen.n) [0x040, 0x058] d)) s
/-- MCS_LOCK_LOST. -/
def execMcsLockLost (seen : PhaseSeen) (s : State) : Host.Outcome State Fault Refusal :=
  onDev (fun r d => lockLost r seen.n seen.err (pageUse r (.mcs seen.n) [0x040, 0x058] d)) s
/-- MCS_REF_LOSS. -/
def execMcsRefLoss (n : Fin 8) (absent : Bool) (s : State) : Host.Outcome State Fault Refusal :=
  onDev (fun r d => mcsRef r n absent (pageUse r (.mcs n) outWords d)) s
/-- MCS_STOP_COMPLETE. -/
def execMcsStopComplete (n : Fin 8) (s : State) : Host.Outcome State Fault Refusal := onDev (fun r d => stopComplete r n (pageUse r (.mcs n) startWords d)) s
/-- MCS_FREQ_UPDATE. -/
def execMcsFreqUpdate (n : Fin 8) (s : State) : Host.Outcome State Fault Refusal := onDev (fun r d => freqUpdate r n (pageUse r (.mcs n) [0x040, 0x048, 0x04C, 0x054] d)) s
/-- RAMP_SEGMENT_END. -/
def execRampSegmentEnd (n : Fin 8) (s : State) : Host.Outcome State Fault Refusal := onDev (fun r d => segmentEnd r n d) s
/-- MCS_DISC_INTERVAL. -/
def execMcsDiscInterval (n : Fin 8) (s : State) : Host.Outcome State Fault Refusal :=
  onDev (fun r d => discInterval r n (pageUse r (.mcs n) [0x040, 0x080, 0x084, 0x088, 0x08C, 0x090, 0x094] d)) s
/-- MCS_ALIGN_ACHIEVED. -/
def execMcsAlignAchieved (n : Fin 8) (s : State) : Host.Outcome State Fault Refusal := onDev (fun r d => alignAchieved r n (pageUse r (.mcs n) [0x084] d)) s
/-- MCS_NO_FEEDBACK. -/
def execMcsNoFeedback (n : Fin 8) (s : State) : Host.Outcome State Fault Refusal := onDev (fun r d => noFeedback r n d) s

end Sys2Proof.Machine
end

