-- ==== Sys2Proof/Machine/Rte.lean ====
section
/-! DEFINITION. The route engine (14, R306 to R319): evaluation, commits, swaps, crossfades and the device sample rate. -/

namespace Sys2Proof.Machine

/-- Change the route engine's state. -/
def Dev.rteMap (d : Dev) (f : RteSt → RteSt) : Dev := { d with rte := f d.rte }

/-! ### Entries (R310) -/

/-- The table of a bank. -/
def bankTbl (b : Nat) : Tbl := if b = 0 then .route0 else .route1

/-- Valid entries of a bank, rising. -/
def bankEntries (d : Dev) (b : Nat) : List Nat :=
  d.regs.filterMap fun p => match place p.1 with
    | .table t e 0 => if t == bankTbl b && bitOf p.2 31 then some e else none
    | _ => none

/-- A valid entry as a contribution at its own gain. -/
def entryContr (d : Dev) (b e : Nat) : Contr :=
  let t := bankTbl b
  { e := e, src := d.tf t e 1 31 16, dst := d.tf t e 0 15 0, fade := min 100 (d.tf t e 1 6 0), ramp := Ramp.fixed (sgn (d.tf t e 2 23 0) 24),
    valid := true }

/-- Same source and destination. -/
def Contr.same (a b : Contr) : Bool := a.src == b.src && a.dst == b.dst

/-- A contribution that stays on record: evaluated, or a valid route at gain 0. -/
def Contr.stays (c : Contr) : Bool := c.valid || c.ramp.runs || c.ramp.g1 != 0

/-- A contribution that is evaluated: its ramp runs, or its gain is not 0 (R314); one outside the ranges of R306 evaluates nothing. -/
def Contr.active (c : Contr) : Bool := (c.ramp.runs || c.ramp.g1 != 0) && isSource c.src && isDest c.dst

/-! ### Live writes (R311) -/

/-- The contributions of entry `e` are those of the live bank as it stands. -/
def liveEntry (e : Nat) (d : Dev) : Dev :=
  let keep := d.rte.con.filter (·.e != e)
  let own := if bitOf (d.tw (bankTbl d.rte.live) e 0) 31 then [entryContr d d.rte.live e] else []
  d.rteMap fun x => { x with con := keep.takeWhile (·.e < e) ++ own ++ keep.dropWhile (·.e < e) }

/-- A commit of entry `e` of bank `b`, over its old words: a staged one has no effect; a live one during a crossfade is held. -/
def routeHook (r : Root) (b e : Nat) (old : List Word) (d : Dev) : Dev :=
  if b ≠ d.rte.live then d
  else
    let n := entryContr d b e
    let valid := bitOf (d.tw (bankTbl b) e 0) 31
    let was := bitOf (old.getD 0 0) 31 && fld (old.getD 0 0) 15 0 == n.dst
    let routes := ((bankEntries d b).filter fun x => d.tf (bankTbl b) x 0 15 0 == n.dst).length
    let d1 := raiseIf (valid && !was && decide (8 < routes)) r 371 d
    if d.rte.fading then d1.rteMap fun x => { x with held := if x.held.contains e then x.held else x.held ++ [e] } else liveEntry e d1

/-! ### Crossfades (R314 to R316) -/

/-- Every ramp has ended: the finished contributions are dropped, the live writes held take effect, EV_RTE_FADE_DONE. -/
def fadeEnd (r : Root) (d : Dev) : Dev :=
  if d.rte.fading && !d.rte.con.any (·.ramp.runs) then
    let d1 := d.rteMap fun x => { x with fading := false, con := x.con.filter (·.stays), held := [] }
    raise r 370 (d.rte.held.foldl (fun d e => liveEntry e d) d1)
  else d

/-- Every ramp ends at once at its end gain, with EV_RTE_FADE_DONE where one ran (R315, R317, R318). -/
def rampsEnd (r : Root) (d : Dev) : Dev :=
  let ends := fun (c : Contr) => { c with ramp := Ramp.fixed c.ramp.g1 }
  let d1 := d.rteMap fun x =>
    { x with fading := false, con := (x.con.map ends).filter (·.stays), prev := (x.prev.map ends).filter (·.active), held := [] }
  raiseIf d.rte.fading r 370 (d.rte.held.foldl (fun d e => liveEntry e d) d1)

/-- Contributions of index `e` from a swap to the staged bank (R314), the present ones being those evaluated in the period before. -/
def swapEntry (d : Dev) (e : Nat) : List Contr :=
  let b := 1 - d.rte.live
  let ps := d.rte.prev.filter (·.e == e)
  if bitOf (d.tw (bankTbl b) e 0) 31 then
    let n := entryContr d b e
    let len := rampLen d n.fade 1000
    let g0 := match ps.find? (·.same n) with | some p => p.ramp.now | none => 0
    { n with ramp := { g0 := g0, g1 := n.ramp.g1, n := len } } ::
      (ps.filter fun p => !p.same n).map fun p => { p with ramp := p.ramp.toGain 0 len, valid := false }
  else ps.map fun p => { p with ramp := p.ramp.toGain 0 (rampLen d p.fade 1000), valid := false }

/-- What is on record from period k_s of a swap now. -/
def swapAll (d : Dev) : List Contr :=
  ((sortNat (d.rte.prev.map (·.e) ++ bankEntries d (1 - d.rte.live)).dedup).flatMap (swapEntry d)).filter (·.stays)

/-- Contributions in period k_s of a swap now: one that would end at gain 0 at once is not among them. -/
def swapCon (d : Dev) : List Contr := (swapAll d).filter fun c => c.ramp.runs || c.ramp.g1 != 0

/-! ### The checks of a swap (R313) -/

/-- Evaluations per period (R31). -/
def capacity (d : Dev) : Nat := 500000000 / fsNow d * 4

/-- SWAP_REFUSE and REFUSE_INFO of a swap now: 0 when every test passes. -/
def swapCheck (d : Dev) : Nat × Nat × Nat :=
  let b := 1 - d.rte.live
  let con := swapCon d
  match (bankEntries d b).find? fun e => let n := entryContr d b e; !(isSource n.src && isDest n.dst) with
  | some e => (3, e, 0xFFFF)
  | none =>
    match con.find? fun c => 8 < (con.filter (·.dst == c.dst)).length with
    | some c => (2, c.e, c.dst)
    | none => (if capacity d < con.length then 1 else 0, d.rte.infoE, d.rte.infoD)

/-- A check: SWAP_REFUSE, REFUSE_INFO and NEED are written. -/
def checkSwap (d : Dev) : Dev :=
  let p := swapCheck d
  let need := (swapCon d).length
  d.rteMap fun x => { x with refuse := p.1, infoE := p.2.1, infoD := p.2.2, need := need }

/-- A refusal (R312, R313). -/
def swapRefused (r : Root) (d : Dev) : Dev := raise r 369 (d.rteMap fun x => { x with refused := satInc x.refused 0xFFFF })

/-- The next period to evaluate: the one after the last, or the present one where the last is older than that. -/
def evalNext (r : Root) (d : Dev) : Int :=
  let c := periodNow r d
  match d.rte.last with
  | some (k, e) => if e = d.tb.run ∧ c - 2 ≤ k then k + 1 else c
  | none => c

/-- A commit whose boundary, in AT, is the first at or after `t`, the time of a trigger or not (R312). -/
def rteCommit (r : Root) (t : Int) (trig : Bool) (d : Dev) : Dev :=
  if d.rte.pending.isSome then swapRefused r (d.rteMap fun x => { x with refuse := 4 })
  else d.rteMap fun x => { x with pending := some (t, trig) }

/-- The boundary of a strobe: the first after the present instant. -/
def nextBoundary (r : Root) (d : Dev) : Int := bNow d (periodNow r d + 1)

/-- ROUTE_SWAP (R313): at the boundary of k_s, before its first evaluation, and after a crossfade whose last ramp has ended. A swap that ends a
crossfade without a new ramp ends its last one (R315). -/
def routeSwap (r : Root) (d : Dev) : Dev :=
  let k := evalNext r d
  match d.rte.pending with
  | none => d
  | some (t, _) =>
    if bNow d k ≤ d.atNow r ∧ t ≤ bNow d k then
      let d0 := fadeEnd r d
      let d1 := (checkSwap d0).rteMap fun x => { x with pending := none }
      if d1.rte.refuse = 0 then
        let con := swapAll d0
        raise r 368 (raiseIf (d0.rte.fading && !con.any (·.ramp.runs)) r 370 (d1.rteMap fun x =>
          { x with live := 1 - x.live, con := con, fading := con.any (·.ramp.runs), held := [], swapPeriod := st32 (bNow d k),
                   swaps := (x.swaps + 1) % 65536 }))
      else swapRefused r d1
    else d

/-! ### Evaluation (R307 to R309) -/

/-- What contributions are in the period about to be evaluated: source and gain. -/
def terms (cs : List Contr) : List (Nat × Int) := cs.map fun c => (c.src, c.ramp.next)

/-- A destination from its contributions and the samples of their sources: its word, its ready time, and whether it was saturated. -/
def mixDest (src : Nat → Samp) (cs : List (Nat × Int)) : (Word × Int) × Bool :=
  let ts := cs.map fun c => (src c.1, c.2)
  let v := rdivAway ((ts.map fun t => rdivAway (audio t.1.w * t.2) (2 ^ 14)).sum) 256
  let side := match ts with
    | [t] => fld t.1.w 7 3 * 8
    | _ => b2n (ts.any fun t => bitOf t.1.w 7) * 128 + b2n (ts.any fun t => isNA t.1.w) * 8
  let rdy : List Int := ts.map fun t => t.1.rdy + (120 * nsUnits : Nat)
  ((sampleWord (sat24 v) side, rdy.foldl max (rdy.headD 0)), sat24 v != v)

/-- The valid routes into a destination, entries rising (R311). -/
def validRoutes (d : Dev) (c : Nat) : List Contr := d.rte.con.filter fun x => x.valid && x.dst == c

/-- The contributions that are summed into a destination: of more than 8 valid routes the 8 lowest-numbered (R311). -/
def summed (d : Dev) (c : Nat) : List Contr :=
  let out := (validRoutes d c).drop 8
  d.rte.con.filter fun x => x.active && x.dst == c && !out.contains x

/-- The word of a destination channel in an evaluated period. -/
def EvalPer.word (x : EvalPer) (c : Nat) : Word := (sget (fun _ => (0, 0)) x.out c).1

/-- LEVEL slots (R345). -/
def levelSlots (d : Dev) : List Nat :=
  d.regs.filterMap fun p => match place p.1 with
    | .table .monslot s 0 => if bitOf p.2 31 && fld p.2 27 24 == 7 then some s else none
    | _ => none

/-- LEVEL slot `s` takes the audio of its channel in an evaluated period (R345). -/
def monPeak (x : EvalPer) (d : Dev) (s : Nat) : Dev :=
  let c := d.tf .monslot s 1 31 16
  let w := if isDest c then x.word c else if isSource c then (sourceSample d c x.k).w else 0
  d.monMap fun m => { m with peak := nput m.peak s (max (nget m.peak s) (audio w).natAbs), periods := nput m.periods s (nget m.periods s + 1) }

/-- Whether the channel of LEVEL slot `s` has its sample of an evaluated period. -/
def levelReady (x : EvalPer) (d : Dev) (s : Nat) : Bool :=
  let c := d.tf .monslot s 1 31 16
  if isDest c then !x.todo.any (·.1 == c) else !isSource c || !awaited d c x.k

/-- The transmit streams and ports whose buffers hold destination channel `c` (R213). -/
def destConsumers (d : Dev) (c : Nat) : List Nat :=
  if c < 0x2000 then (d.tx.filter fun p => (p.2.st == 2 || p.2.st == 3) && 
    decide (fld (p.2.adm.getD 1 0) 31 16 ≤ c ∧ c ≤ fld (p.2.adm.getD 1 0) 31 16 + fld (p.2.adm.getD 0 0) 21 16)).map fun p => consTx p.1
  else if c < 0x2800 then [consSap ((c - 0x2400) / 32)] else []

/-- An evaluated period once more of its sources have supplied their samples (R307): the destinations that wait for none of them any more are mixed, each
once, with what they saturate counted; LEVEL slots take them, and a host-read buffer all of whose channels are there gets its slot (R225). Two
periods after its end a period waits no longer: a channel that has supplied nothing reads zero with V set (DESIGN CHOICE, log entry 26). -/
def settlePer (r : Root) (p : EvalPer) (d : Dev) : Dev × List MemWr :=
  let past := decide (p.k + 3 ≤ periodNow r d)
  let made := p.todo.filter fun t => past || !t.2.any fun c => awaited d c.1 p.k
  let res := made.map fun t => (t.1, mixDest (fun s => sourceSample d s p.k) t.2)
  let q : EvalPer := { p with out := p.out ++ res.map fun x => (x.1, x.2.1), todo := p.todo.filter fun t => !made.contains t }
  let lvl := q.lvl.filter fun s => past || levelReady q d s
  let hb := q.hb.filter fun b => !q.todo.any fun t => decide ((d.hb b).first ≤ t.1 ∧ t.1 < (d.hb b).first + (d.hb b).count)
  let q' : EvalPer := { q with lvl := q.lvl.filter (!lvl.contains ·), hb := q.hb.filter (!hb.contains ·) }
  let d1 := d.rteMap fun x => { x with sat := min 0xFFFF (x.sat + (res.filter (·.2.2)).length), hist := x.hist.map fun y => if y.k = p.k then q' else y }
  let d2 := (res.flatMap fun x => destConsumers d x.1).foldl (fun d c => sampleWrite c 1 d) d1
  hb.foldl (fun (a : Dev × List MemWr) b => let w := hbWriteSlot r p.k q.word b a.1; (w.1, a.2 ++ w.2)) (lvl.foldl (monPeak q) d2, [])

/-- An evaluated period that still waits for a sample. -/
def EvalPer.waits (p : EvalPer) : Bool := p.todo != [] || p.lvl != [] || p.hb != []

/-- Every evaluated period takes the samples that have come, the oldest period first. -/
def settle (r : Root) (d : Dev) : Dev × List MemWr :=
  (d.rte.hist.filter (·.waits)).reverse.foldl (fun (a : Dev × List MemWr) p => let w := settlePer r p a.1; (w.1, a.2 ++ w.2)) (d, [])

/-- The generators that feed a contribution supply their samples of period `k` (R319). -/
def gensSupply (k : Int) (d : Dev) : Dev :=
  ((d.rte.con.map (·.src)).dedup.filter fun c => decide (0x4800 ≤ c)).foldl (fun a c => putChan c (sourceSample d c k) a) d

/-- ROUTE_EVALUATION (R307): the next period is evaluated once it has begun, after the swap that is due at its boundary (R312). Its routes and gains
are settled here; each destination is mixed when its sources have supplied the period. -/
def routeEval (r : Root) (d : Dev) : Dev × List MemWr :=
  let k := evalNext r d
  if d.atNow r < bNow d k then settle r d
  else
    let d0 := routeSwap r (fadeEnd r d)
    let all := sortNat (d0.rte.con.map (·.dst)).dedup
    let per : EvalPer :=
      { k := k, out := [], todo := (all.filter fun c => summed d0 c != []).map fun c => (c, terms (summed d0 c)), lvl := levelSlots d0,
        hb := (List.range 48).filter fun b => (d0.hb b).writes k }
    let drops := (all.map fun c => (validRoutes d0 c).length - 8).sum
    let d1 := d0.rteMap fun x =>
      { x with con := x.con.map fun c => { c with ramp := c.ramp.step },
               prev := (x.con.filter fun c => (summed d0 c.dst).contains c).map fun c => { c with ramp := c.ramp.step },
               last := some (k, d.tb.run), hist := (per :: x.hist.filter fun y => decide (y.k < k)).take 1536, drops := min 0xFFFF (x.drops + drops) }
    let p := settle r (gensSupply k d1)
    (genStep k p.1, p.2)

/-- A destination's sample of period `k` once produced: word and ready time. One whose sources have all supplied the period, or will not, is at hand. -/
def destSample (d : Dev) (c : Nat) (k : Int) : Option (Word × Option Int) :=
  (d.rte.hist.find? fun x => x.k == k).bind fun x =>
    match x.out.find? fun p => p.1 == c with
    | some p => some (p.2.1, some p.2.2)
    | none => match x.todo.find? fun t => t.1 == c with
      | some t => if t.2.any fun s => awaited d s.1 k then none else let m := mixDest (fun s => sourceSample d s k) t.2; some (m.1.1, some m.1.2)
      | none => some (0, none)

/-- HBUF_PERIOD_PUBLISH (R225), after the samples that have come are in their slots. -/
def hbPublish (r : Root) (b : Nat) (d : Dev) : Dev × List MemWr := let p := settle r d; (hbPublished r b p.1, p.2)

/-! ### The device sample rate (R318) and the commands -/

/-- A stream, port or host buffer has ENA set. -/
def anyEnabled (d : Dev) : Bool :=
  (d.regs.any fun p => match place p.1 with
    | .table .txs _ 0 | .table .rxs _ 0 => bitOf p.2 31
    | .reg (.sap _) 0x044 => bitOf p.2 0
    | .reg .lnd o => decide (0x200 ≤ o ∧ o < 0x500 ∧ o % 0x10 = 0) && bitOf p.2 31
    | _ => false)

/-- A write of RTE.RATE (R318). -/
def rateHook (r : Root) (new : Word) (d : Dev) : Dev :=
  let fs := fld new 2 0
  raise r 372 (if 5 < fs then d.rteMap fun x => { x with fsRefuse := 2 }
    else if anyEnabled d then d.rteMap fun x => { x with fsRefuse := 1 }
    else let d1 := (gensRestart (rampsEnd r d)).rteMap fun x => { x with fs := fs, fsRefuse := 0, last := none, hist := [] }
      { d1 with chan := [], tb := { d1.tb with run := d1.tb.run + 1 } })

/-- RTE.CMD. -/
def rteCmd (r : Root) (w : Word) (d : Dev) : Dev :=
  let d1 := if bitOf w 2 then d.rteMap fun x => { x with sat := 0, drops := 0, swaps := 0, refused := 0 } else d
  let d2 := if bitOf w 1 then checkSwap d1 else d1
  if bitOf w 0 then rteCommit r (nextBoundary r d2) false d2 else d2

/-- An EC restart (R317). -/
def rteRestart (r : Root) (d : Dev) : Dev :=
  (rampsEnd r d).rteMap fun x => { x with refuse := if x.pending.isSome then 4 else x.refuse, pending := none, last := none, hist := [] }

/-- RTE registers that show live state (14). -/
def rteRead (d : Dev) (o : Nat) : Word :=
  let x := d.rte
  match o with
  | 0x044 => wd (x.refuse * 4096 + x.fsRefuse * 256 + x.fs * 16 + b2n (x.con.any (·.ramp.runs)) * 4 + b2n x.pending.isSome * 2 + x.live)
  | 0x04C => wd (capacity d * 65536 + x.need)
  | 0x050 => wd (x.infoE * 65536 + x.infoD)
  | 0x054 => wd x.swapPeriod
  | 0x058 => wd (x.swaps * 65536 + x.refused)
  | 0x05C => wd ((x.con.map fun c => c.ramp.n - c.ramp.j).foldl max 0)
  | 0x060 => wd (x.drops * 65536 + x.sat)
  | _ => d.reg .rte o

/-- The engine uses a bank's valid entries (R53). -/
def bankUse (r : Root) (b : Nat) (d : Dev) : Dev :=
  useWords r (fun a => match place a with | .table t e _ => t == bankTbl b && bitOf (d.tw t e 0) 31 | _ => false) d

/-! ### Meanings -/

/-- ROUTE_EVALUATION. -/
def execRouteEvaluation (s : State) : Host.Outcome State Fault Refusal :=
  onRunMem (fun r _ d => routeEval r (bankUse r d.rte.live (pageUse r .rte ((List.range 512).map fun i => 0x400 + 4 * i) d))) s

/-- HBUF_PERIOD_PUBLISH. -/
def execHbufPeriodPublish (b : Fin 48) (s : State) : Host.Outcome State Fault Refusal :=
  onRunMem (fun r _ d => hbPublish r b (pageUse r .lnd [0x200 + 0x10 * b] d)) s

/-- ROUTE_SWAP. -/
def execRouteSwap (s : State) : Host.Outcome State Fault Refusal := onRun (fun r d => routeSwap r (bankUse r (1 - d.rte.live) d)) s

/-- ROUTE_FADE_DONE (R315). -/
def execRouteFadeDone (s : State) : Host.Outcome State Fault Refusal := onRun (fun r d => fadeEnd r d) s

end Sys2Proof.Machine
end

