-- ==== Sys2Proof/Machine/Frames.lean ====
section
/-! DEFINITION. Frames on the wire: Ethernet, IP and UDP, the payload formats of R260 and their samples (R261, R262, R283, R285). -/

namespace Sys2Proof.Machine

/-! ### Payload formats (R260) -/

/-- Bytes per sample. -/
def fmtBytes : Nat → Nat
  | 0 | 3 => 2
  | 1 | 4 | 6 => 3
  | _ => 4

/-- AAF formats. -/
def fmtAaf (f : Nat) : Bool := 3 ≤ f && f ≤ 5
/-- Short-flight formats. -/
def fmtSf (f : Nat) : Bool := 6 ≤ f

/-- Largest SPP of a format at a sample rate. -/
def fmtMaxSpp (fs f : Nat) : Nat := if fmtSf f then 5 else fs * 4 / 1000

/-- Whether a format takes `n` channels and `spp` samples per packet. -/
def fmtOk (fs f n spp : Nat) : Bool := decide (1 ≤ n ∧ n ≤ 64 ∧ 1 ≤ spp ∧ spp ≤ fmtMaxSpp fs f) && (f != 2 || n % 2 == 0)

/-- AAF `format` and `bit_depth` of a FORMAT (R265; IEEE 1722 codes, log entry 28). -/
def aafFormat : Nat → Nat × Nat
  | 3 => (4, 16) | 4 => (3, 24) | _ => (2, 24)

/-- AAF `nsr` of an FS code (IEEE 1722, log entry 28). -/
def aafNsr (fs : Nat) : Nat := match fs with | 0 => 4 | 1 => 5 | 2 => 6 | 3 => 7 | 4 => 8 | _ => 9

/-! ### Samples on the wire (R261, R285) -/

/-- Number of ones in the low `n` bits. -/
def ones (x n : Nat) : Nat := ((List.range n).filter fun i => nbit x i).length

/-- A sample word as a format sends it; `i` is its channel. The AM824 label is 0, 0, B, F, P, C, U, V from its first bit, F marking
subframe 1 (ST 2110-31, log entry 28). -/
def sampleBytes (fmt i : Nat) (w : Word) : List Byte :=
  match fmt with
  | 0 | 3 => beBytes 2 (uns (audio16 w) 16)
  | 1 | 4 | 6 => beBytes 3 (w.toNat / 256)
  | 5 => beBytes 4 (w.toNat / 256 * 256)
  | 2 =>
    let first := i % 2 == 0
    let label := b2n (first && bitOf w 4) * 32 + b2n first * 16 + b2n (bitOf w 5) * 4 + b2n (bitOf w 6) * 2 + b2n (bitOf w 7)
    let parity := (ones (w.toNat / 256) 24 + ones (label % 8) 3) % 2
    beBytes 4 ((label + parity * 8) * 2 ^ 24 + w.toNat / 256)
  | _ => beBytes 4 (w.toNat / 8 * 8)

/-- The sample word of a format's bytes; `i` is the channel. -/
def sampleOf (fmt i : Nat) (l : List Byte) : Word :=
  let v := beNat l
  match fmt with
  | 0 | 3 => wd (v * 65536)
  | 1 | 4 | 6 => wd (v * 256)
  | 5 => wd (v / 256 * 256)
  | 2 =>
    let label := v / 2 ^ 24
    let a := v % 2 ^ 24
    let bad := (ones a 24 + ones (label % 16) 4) % 2 == 1
    wd (a * 256 + b2n (nbit label 0 || bad) * 128 + b2n (nbit label 1) * 64 + b2n (nbit label 2) * 32 + b2n (i % 2 == 0 && nbit label 5) * 16)
  | _ => wd (v / 8 * 8)

/-- The words of a payload, period by period: `n` channels. -/
def payloadWords (fmt n spp : Nat) (l : List Byte) : List (List Word) :=
  let w := fmtBytes fmt
  (List.range spp).map fun q => (List.range n).map fun i => sampleOf fmt i ((l.drop ((q * n + i) * w)).take w)

/-- Channels that a direction carries at most at a sample rate (R29). -/
def chanCap (fs : Nat) : Nat := if fs ≤ 48000 then 4096 else if fs ≤ 96000 then 2048 else 1024

/-! ### Headers -/

/-- An Ethernet frame taken apart: addresses, the tag's TCI, the EtherType after the tag, and what follows it (R244). -/
structure Eth where
  dst : List Byte
  src : List Byte
  tag : Option Nat
  etype : Nat
  pay : List Byte
  deriving DecidableEq, Repr

/-- Take a frame apart; only an outer tag of TPID 0x8100 is one (R244). -/
def parseEth (l : List Byte) : Eth :=
  let t := beNat ((l.drop 12).take 2)
  if t = 0x8100 then
    { dst := l.take 6, src := (l.drop 6).take 6, tag := some (beNat ((l.drop 14).take 2)), etype := beNat ((l.drop 16).take 2), pay := l.drop 18 }
  else { dst := l.take 6, src := (l.drop 6).take 6, tag := none, etype := t, pay := l.drop 14 }

/-- An IP datagram: version, addresses, whether it is a fragment, protocol, payload. -/
structure Ip where
  v6 : Bool
  src : List Byte
  dst : List Byte
  frag : Bool
  proto : Nat
  pay : List Byte
  deriving DecidableEq, Repr

/-- Take a datagram apart: IPv4 with any IHL, or IPv6, whose next header is its protocol (R283). -/
def parseIp (e : Eth) : Option Ip :=
  let b := fun i => (e.pay.getD i 0).toNat
  let be := fun i n => beNat ((e.pay.drop i).take n)
  if e.etype = 0x0800 then
    let ihl := b 0 % 16 * 4
    let len := be 2 2
    if b 0 / 16 = 4 ∧ 20 ≤ ihl ∧ ihl ≤ len ∧ len ≤ e.pay.length then
      some { v6 := false, src := (e.pay.drop 12).take 4, dst := (e.pay.drop 16).take 4, frag := be 6 2 % 0x4000 != 0, proto := b 9,
             pay := (e.pay.take len).drop ihl }
    else none
  else if e.etype = 0x86DD then
    let len := be 4 2
    if b 0 / 16 = 6 ∧ 40 + len ≤ e.pay.length then
      some { v6 := true, src := (e.pay.drop 8).take 16, dst := (e.pay.drop 24).take 16, frag := b 6 == 44, proto := b 6,
             pay := (e.pay.drop 40).take len }
    else none
  else none

/-- A UDP datagram's destination port and payload. -/
def parseUdp (x : Ip) : Option (Nat × List Byte) :=
  let len := beNat ((x.pay.drop 4).take 2)
  if x.proto = 17 ∧ !x.frag ∧ 8 ≤ len ∧ len ≤ x.pay.length then some (beNat ((x.pay.drop 2).take 2), (x.pay.take len).drop 8) else none

/-- One's complement sum of 16-bit words, folded. -/
def sum16 (l : List Byte) : Nat :=
  let rec go : List Byte → Nat → Nat
    | a :: b :: t, s => go t (s + a.toNat * 256 + b.toNat)
    | [a], s => s + a.toNat * 256
    | [], s => s
  let s := go l 0
  let f := s % 65536 + s / 65536
  f % 65536 + f / 65536

/-- IPv4 header of R262. -/
def ip4Header (dscp ttl len src dst : Nat) : List Byte :=
  let h := fun (c : Nat) => List.flatten
    [[0x45, BitVec.ofNat 8 (dscp * 4)], beBytes 2 len, beBytes 2 0, beBytes 2 0x4000, [BitVec.ofNat 8 ttl, 17], beBytes 2 c, beBytes 4 src, beBytes 4 dst]
  h (65535 - sum16 (h 0))

/-- IPv6 header of R262; `len` is the payload length. -/
def ip6Header (dscp ttl len : Nat) (src dst : List Byte) : List Byte :=
  List.flatten [beBytes 4 (6 * 2 ^ 28 + dscp * 4 * 2 ^ 20), beBytes 2 len, [17, BitVec.ofNat 8 ttl], src, dst]

/-- Ethernet header with an optional TCI. -/
def ethHeader (dst src : List Byte) (tag : Option Nat) (etype : Nat) : List Byte :=
  List.flatten [dst, src, (match tag with | some t => beBytes 2 0x8100 ++ beBytes 2 t | none => []), beBytes 2 etype]

/-- Pad a frame without FCS to 60 bytes. -/
def padFrame (l : List Byte) : List Byte := l ++ List.replicate (60 - l.length) 0

/-- Line rate of a port in Mb/s for the flight scheduler: that of the speed it last reported with its link up, or the one R279 gives. -/
def flightMbps (d : Dev) (p : Nat) : Nat :=
  if (d.netp p).hadLink then portMbps d p
  else match d.rf (.net p) 0x040 2 1 with
    | 0 => if d.rb (.net p) 0x040 6 then 10000 else lineMbps (d.rf (.net p) 0x040 5 4)
    | 3 => 10000
    | _ => 1000

/-- USXGMII, whose pipes have their own figures (R271, R291). -/
def isUsx (d : Dev) (p : Nat) : Bool := let m := d.rf (.net p) 0x040 2 1; m == 0 || m == 3

/-- Byte time of a port (R269): EC units of `n` bytes as a ratio. -/
def byteTime (d : Dev) (p n : Nat) : Rat := ((n * 2048000 : Nat) : Rat) / ((flightMbps d p : Nat) : Rat)

/-- PIPE of a port in ns (R271). -/
def txPipe (d : Dev) (p : Nat) : Nat :=
  if isUsx d p then (match flightMbps d p with | 10000 => 260 | 5000 => 330 | 2500 => 470 | _ => 890) else 850

/-- RX_PIPE of a port in ns (R291). -/
def rxPipe (d : Dev) (p : Nat) : Nat :=
  if isUsx d p then (match flightMbps d p with | 10000 => 480 | 5000 => 560 | 2500 => 720 | _ => 1200) else 1160

/-- The ports of a PORTS field. -/
def portsOf (w : Nat) : List Nat := (List.range 2).filter fun p => nbit w p

end Sys2Proof.Machine
end

