-- ==== Sys2Proof/Machine/Rxe.lean ====
section
/-! DEFINITION. Receive streams (13, R283 to R305): parsing, placement, presentation, concealment, non-audio detection and states. -/

namespace Sys2Proof.Machine

/-- A receive stream. -/
def Dev.rxn (d : Dev) (s : Nat) : RxS := sget (fun _ => {}) d.rx s

/-- Set it. -/
def Dev.setRx (d : Dev) (s : Nat) (x : RxS) : Dev := { d with rx := sset (fun _ => {}) d.rx s x }

/-- Change the page's own state. -/
def Dev.rxeMap (d : Dev) (f : RxeSt → RxeSt) : Dev := { d with rxe := f d.rxe }

/-! ### The entry (R286) -/

/-- Bits of word `i` of the entry whose live fields are in force (R303). -/
def RxS.lf (x : RxS) (i hi lo : Nat) : Nat := fld (x.ent.getD i 0) hi lo
/-- FORMAT. -/
def RxS.fmt (x : RxS) : Nat := x.af 0 30 28
/-- Samples per packet. -/
def RxS.spp (x : RxS) : Nat := x.af 0 15 6
/-- DEPTH. -/
def RxS.depth (x : RxS) : Nat := x.af 1 15 0
/-- LINK_OFS. -/
def RxS.link (x : RxS) : Nat := x.af 2 31 16
/-- The ports named. -/
def RxS.ports (x : RxS) : List Nat := portsOf (x.af 0 27 26)

/-- The words of an entry, as committed. -/
def rxWords (d : Dev) (s : Nat) : List Word := (List.range 6).map fun i => d.tw .rxs s i

/-- The structural fields of an entry's words. -/
def rxKey (w : List Word) : Nat × Nat × Nat × Nat :=
  (fld (w.getD 0 0) 30 26 * 65536 + fld (w.getD 0 0) 21 6, (w.getD 1 0).toNat, fld (w.getD 2 0) 31 16, (w.getD 3 0).toNat)

/-! ### Copies (R283, R284) -/

/-- What a copy says: payload type, SSRC, sequence, timestamp when it has one, payload, short-flight words, and AAF fields. -/
structure RxCopy where
  pt : Nat
  ssrc : Nat
  seq : Nat
  ts : Option Nat
  pay : List Byte
  ext : Option (Nat × Nat) := none
  aaf : Option (Nat × Nat × Nat × Nat) := none
  deriving DecidableEq, Repr

/-- Parse RTP: version 2, CSRC entries and extensions skipped, padding removed; the short-flight extension is kept (R266, R283). -/
def parseRtp (l : List Byte) : Option RxCopy :=
  let b := fun i => (l.getD i 0).toNat
  let be := fun i n => beNat ((l.drop i).take n)
  let h := 12 + b 0 % 16 * 4
  let x := nbit (b 0) 4
  let xl := if x then 4 + be (h + 2) 2 * 4 else 0
  let pad := if nbit (b 0) 5 then (l.getLast?.map (·.toNat)).getD 0 else 0
  if b 0 / 64 = 2 ∧ h + xl + pad ≤ l.length then
    some { pt := b 1 % 128, ssrc := be 8 4, seq := be 2 2, ts := some (be 4 4), pay := (l.take (l.length - pad)).drop (h + xl),
           ext := if x ∧ be h 2 = 0x0F17 ∧ be (h + 2) 2 = 2 then some (be (h + 4) 4, be (h + 8) 4) else none }
  else none

/-- Parse AVTP AAF (R265). -/
def parseAaf (l : List Byte) : Option RxCopy :=
  let b := fun i => (l.getD i 0).toNat
  let be := fun i n => beNat ((l.drop i).take n)
  let len := be 20 2
  if 24 + len ≤ l.length then
    some { pt := 0, ssrc := be 8 4, seq := b 2, ts := if nbit (b 1) 0 then some (be 12 4) else none, pay := (l.drop 24).take len,
           aaf := some (b 0, b 16, b 17 / 16 * 256 + b 19, be 17 2 % 1024) }
  else none

/-- Parse a copy for a format. -/
def parseCopy (fmt : Nat) (l : List Byte) : Option RxCopy :=
  let e := parseEth l
  if fmtAaf fmt then (if e.etype = 0x22F0 then parseAaf e.pay else none)
  else (parseIp e).bind fun ip => (parseUdp ip).bind fun u => parseRtp u.2

/-- The checks of R284 on a copy that arrived on port `p`, against one version of the entry (R49, R303). -/
def copyOk (d : Dev) (s p : Nat) (c : RxCopy) : Bool :=
  let x := d.rxn s
  let f := x.fmt
  let live := x.lf
  x.ports.contains p
  && (fmtAaf f || live 0 24 24 == 0 || c.pt == live 2 6 0)
  && (live 0 25 25 == 0 || c.ssrc == live 4 31 0)
  && c.pay.length == x.n * x.spp * fmtBytes f
  && (!fmtAaf f || (c.aaf == some (2, (aafFormat f).1, aafNsr d.rte.fs * 256 + (aafFormat f).2, x.n) && (c.ts.isSome || x.lastM.isSome)))
  && (!fmtSf f || match c.ext with
      | some (e, _) => e / 2 ^ 25 == 8 + x.spp && nbit e 24 == (f == 7) && e / 65536 % 64 == x.n - 1
      | none => false)

/-! ### Placement (R287 to R290) -/

/-- Arrival of a copy of `len` bytes including FCS, in AT (R287), to the nearest unit (R11). -/
def copyArrival (d : Dev) (p len : Nat) (st : Stamp) : Int :=
  d.atOf st + (fld (phyLat d p false (d.netp p).speed) 19 0 * 4 : Nat) + (byteTime d p (len + 1) + 1 / 2).floor

/-- Media period of a copy's first sample (R287). -/
def mediaPeriod (d : Dev) (x : RxS) (a : Int) (c : RxCopy) : Int :=
  let fs := fsNow d
  let ofs : Int := (x.adm.getD 3 0).toNat
  match c.ts with
  | none => (x.lastM.getD 0) + 1
  | some ts =>
    if fmtAaf x.fmt then
      let ns := a / 256
      let t := (ns + sgn (uns (ts - ofs - ns) 32) 32) * 256
      let m := periodOf fs t
      if bOf fs (m + 1) - t ≤ t - bOf fs m then m + 1 else m
    else let c0 := periodOf fs a; c0 + sgn (uns (ts - ofs - c0) 32) 32

/-- Sequence gaps of a port (R290). -/
def rxSeq (x : RxS) (p seq : Nat) : RxS :=
  let m := if fmtAaf x.fmt then 256 else 65536
  let gap := match sget (fun _ => none) x.seq p with
    | some k => let g := (seq + m - k) % m; if 2 ≤ g ∧ g < m / 2 then g - 1 else 0
    | none => 0
  { x with gap := nput x.gap p (min 0xFFFF (nget x.gap p + gap)), seq := sset (fun _ => none) x.seq p (some seq) }

/-- ATTN of a stream. -/
def rxAttn (r : Root) (s : Nat) (d : Dev) : Dev := d.rxeMap fun x => { x with attn := bput x.attn s true, attnCyc := nput x.attnCyc s (r.cyc + 1) }

/-- FLOWING moves, with its event at a change (R294). -/
def rxFlow (r : Root) (s : Nat) (on : Bool) (d : Dev) : Dev :=
  if (d.rxn s).flowing = on then d else raise r 339 (d.setRx s { d.rxn s with flowing := on })

/-! ### Non-audio (R296 to R298) -/

/-- NA_HOLD of a stream; 0 acts as 8,192. -/
def naHold (d : Dev) (s : Nat) : Nat := let v := (d.rxn s).lf 5 31 16; if v = 0 then 8192 else v

/-- Whether the window of pair `j` is open in period `k`. -/
def naWindow (d : Dev) (s j : Nat) (k : Int) : Bool := (lget (d.rxn s).match' j).any fun m => decide (m ≤ k ∧ k < m + naHold d s)

/-- NA_ACTIVE as of the period presented last, with its event at a change (R298). -/
def naEval (r : Root) (s : Nat) (d : Dev) : Dev :=
  let x := d.rxn s
  let k := (x.shown.map (·.1)).getD 0
  let on := x.naWord || (List.range 32).any fun j => naWindow d s j k
  if x.naActive = on then d else raise r 340 (d.setRx s { x with naActive := on })

/-- The matches of a copy's sample periods; `inj` makes the first match on pair 0 (R296, R304). -/
def naMatches (on inj : Bool) (n : Nat) (k : Int) (ws : List (List Word)) (m : SMap (List Int)) : SMap (List Int) :=
  let m0 := if inj then lput m 0 (k :: lget m 0) else m
  if !on then m0
  else ws.zipIdx.foldl (fun m q => (List.range (n / 2)).foldl (fun m j =>
    if fld (q.1.getD (2 * j) 0) 31 16 = 0xF872 ∧ fld (q.1.getD (2 * j + 1) 0) 31 16 = 0x4E1F then lput m j ((k + q.2) :: lget m j) else m) m) m0

/-- Whether a slot is FILLED (R288): to the end of its period. A period stepped over has emptied it, and one that comes again after a backward step finds
no data in the slot presented before (R295). -/
def slotFilled (r : Root) (d : Dev) (x : RxS) (z : RxSlot) : Bool :=
  decide (periodNow r d ≤ z.k) && (!z.used || x.shown == some (z.k, d.tb.run))

/-- A copy is taken (R288 to R290): its slots are filled, and the Landing words they are in rewritten. -/
def rxTake (r : Root) (s p : Nat) (c : RxCopy) (m : Int) (d : Dev) : Dev :=
  let inj := fld (d.reg .rxe 0x060) 9 0 == s && injects .rxe 1 d
  let d0 := if inj then opportunity r .rxe 1 d else d
  let x := d0.rxn s
  let ws := payloadWords x.fmt x.n x.spp c.pay
  let k := m + x.link
  let res := fun (i : Int) => i % (max 1 x.depth : Nat)
  let mine := (List.range x.spp).map fun q => res (k + q)
  let y : RxS :=
    { x with slots := x.slots.filter (fun z => !mine.contains (res z.k)) ++ ws.zipIdx.map fun q => { k := k + q.2, used := false, ws := q.1, cs := x.lf 0 23 23 == 1 && x.fmt == 2 },
             taken := nput x.taken p ((nget x.taken p + 1) % 65536), lastSeq := c.seq, lastM := some (m + x.spp - 1), idle := 0,
             took := some (periodNow r d, d.tb.run),
             match' := naMatches (x.lf 0 22 22 == 1) inj x.n k ws x.match' }
  rxFlow r s true (sampleWrite (consRx s) (x.n * x.spp) (d0.setRx s y))

/-- A copy handed to a stream (R283 to R290, R300, R304): `len` counts its FCS. -/
def rxCopy (r : Root) (s p len : Nat) (l : List Byte) (st : Stamp) (d : Dev) : Dev :=
  let x := d.rxn s
  match (parseCopy x.fmt l).filter (copyOk d s p) with
  | none => raise r 341 (d.setRx s { x with formErr := satInc x.formErr 0xFFFF })
  | some c =>
    let a := copyArrival d p len st
    let m := mediaPeriod d x a c
    let k := m + x.link
    let due := bNow d k
    let same := d.sameEra st
    let filled := x.slots.any fun z => slotFilled r d x z && z.k % (max 1 x.depth : Nat) == k % (max 1 x.depth : Nat)
    let late := decide (due ≤ a)
    let early := decide (a < bNow d (k + x.spp - 1 - x.depth + 1))
    let takes := same && !late && !early && !filled
    if takes && fld (d.reg .rxe 0x060) 9 0 == s && injects .rxe 0 d then opportunity r .rxe 0 d
    else
      let y := rxSeq x p c.seq
      let d1 := match c.ext with
        | some (_, launch) =>
          if fmtSf x.fmt then
            let t := sgn (uns ((st32 (d.atOf st) : Int) - launch) 32) 32
            monTake r 2 (p * 1024 + s) same t (d.setRx s { y with transit := sput p t y.transit })
          else d.setRx s y
        | none => d.setRx s y
      let margin := (due - a) / 256
      let z := d1.rxn s
      let d2 := monTake r 1 (p * 1024 + s) same margin (if same then d1.setRx s { z with margin := sput p (clamp32 margin) z.margin } else d1)
      let w := d2.rxn s
      if !same then raise r 342 (d2.rxeMap fun e => { e with eraDrop := (e.eraDrop + 1) % 2 ^ 32 })
      else if late then
        raise r 337 (rxAttn r s ((d2.setRx s { w with late := satInc w.late 0xFFFF }).rxeMap fun e => { e with late := (e.late + 1) % 2 ^ 32 }))
      else if early then d2.setRx s { w with early := satInc w.early 0xFFFF }
      else if filled then d2.setRx s { w with dup := satInc w.dup 0xFFFF }
      else rxTake r s p c m d2

/-! ### Presentation (R291 to R295, R303) -/

/-- The concealment of a channel's last unconcealed sample, `j` periods into a run (R292). -/
def concealWord (spp j : Nat) (w : Word) : Word :=
  if isNA w then 0x88 else if spp < j then zeroV else withV (scaleWord w (spp + 1 - j : Nat) (spp + 1 : Nat))

/-- Channel-status NA of channel `i` in a filled period (R297): the C bit of the frame after a block start. -/
def csStep (x : RxS) (on : Bool) (ws : List Word) : SMap Bool :=
  if !on then []
  else (List.range x.n).foldl (fun m i => if bget x.csB (i / 2) then bput m i (bitOf (ws.getD i 0) 5) else m) x.csNa

/-- The words of a filled period: Landing errors, NA and the ramp-in (R293, R298). -/
def filledWords (r : Root) (s : Nat) (k : Int) (z : RxSlot) (cs : SMap Bool) (step : Nat) (d : Dev) : List Word × Dev :=
  let rec' := (d.rxn s).lf 2 15 8
  z.ws.zipIdx.foldl (fun (a : List Word × Dev) q =>
    let p := sampleRead r (consRx s) q.1 a.2
    let na := isNA p.1 || naWindow d s (q.2 / 2) k || bget cs q.2
    let w := if na then p.1 ||| 8 else p.1
    let v := if 1 ≤ step ∧ step ≤ rec' ∧ !na then scaleWord w (step : Nat) (rec' + 1 : Nat) else w
    (a.1 ++ [v], p.2)) ([], d)

/-- A presented word in a drain or its return (R303); a concealed one keeps its V (R292). -/
def drainWord (draining concealed : Bool) (g : Rat) (w : Word) : Word :=
  if isNA w then (if !draining then w else if concealed then 0x88 else 0x08) else fadeWord g w

/-- Sample periods that have begun since the one in which a copy was taken last, the present one counted once it has begun (R294). -/
def rxIdleNow (r : Root) (d : Dev) (x : RxS) : Nat :=
  let k := periodNow r d
  x.idle + b2n (newPeriod d x.shown k && x.took != some (k, d.tb.run))

/-- RX_FLOW_STOP (R294): no copy has been taken in DEPTH whole sample periods. -/
def rxFlowStop (r : Root) (s : Nat) (d : Dev) : Dev :=
  let x := d.rxn s
  if x.flowing ∧ x.depth < rxIdleNow r d x then rxFlow r s false d else d

/-- RX_PRESENT (R291 to R295): at P(k) every channel's value of period `k` is fixed. -/
def rxPresent (r : Root) (s : Nat) (d0 : Dev) : Dev :=
  let d := rxFlowStop r s d0
  let x := d.rxn s
  let k := periodNow r d
  let pk := bNow d k + ((x.ports.map fun p => rxPipe d p * nsUnits).foldl max 0 : Nat)
  if !x.carries || !newPeriod d x.shown k || d.atNow r < pk then d
  else
    let z := (x.slots.find? fun z => z.k == k && !z.used).filter fun _ => x.flowing
    let keep := x.slots.filterMap fun y => if y.k < k then none else if y.k = k then some { y with used := true } else some y
    let base : RxS := { x with slots := keep, shown := some (k, d.tb.run), pres := x.pres + 1, idle := rxIdleNow r d x }
    let res : List Word × Dev := match z with
      | some z =>
        let step := if x.spp < x.run then 1 else if x.ramp = 0 then 0 else x.ramp
        let cm := csStep x z.cs z.ws
        let p := filledWords r s k z cm step d
        let y : RxS :=
          { base with run := 0, ramp := if 1 ≤ step ∧ step < x.lf 2 15 8 then step + 1 else 0, good := p.1, csNa := cm,
                      csB := if z.cs then (List.range (x.n / 2)).foldl (fun m j => bput m j (bitOf (z.ws.getD (2 * j) 0) 4)) [] else [],
                      naWord := z.ws.zipIdx.any fun q => isNA q.1 || bget cm q.2 }
        (p.1, p.2.setRx s y)
      | none =>
        let ws := (List.range x.n).map fun i => if x.flowing then concealWord x.spp (x.run + 1) (x.good.getD i 0) else zeroV
        let start := x.flowing && x.run == 0
        let y : RxS := { base with run := x.run + 1, csB := [], naWord := ws.any isNA,
                                   concealed := if x.flowing then satInc x.concealed 0xFFFF else x.concealed,
                                   lost := if start then satInc x.lost 0xFFFF else x.lost }
        let d1 := d.setRx s y
        (ws, if start then raise r 338 (rxAttn r s (d1.rxeMap fun e => { e with lost := (e.lost + 1) % 2 ^ 32 })) else d1)
    let g := x.fade.at x.pres
    let out := res.1.map (drainWord (x.st == 3) z.isNone g)
    naEval r s (out.zipIdx.foldl (fun d q => putChan (x.first + q.2) ⟨k, q.1, pk⟩ d) res.2)

/-- NA_HOLD_EXPIRY (R296): the windows of pair `j` that have closed are dropped. -/
def naExpiry (r : Root) (s j : Nat) (d : Dev) : Dev :=
  let x := d.rxn s
  let k := (x.shown.map (·.1)).getD 0
  naEval r s (d.setRx s { x with match' := lput x.match' j ((lget x.match' j).filter fun m => k < m + naHold d s) })

/-! ### Admission and states (R301, R302) -/

/-- Frames per second of an entry on all its ports. -/
def RxS.frames (d : Dev) (x : RxS) : Rat := ((fsNow d * x.ports.length : Nat) : Rat) / ((max 1 x.spp : Nat) : Rat)

/-- RXE.FRAMES, exact. -/
def rxFrames (d : Dev) : Rat := ((d.rx.filter fun p => p.2.carries).map fun p => p.2.frames d).foldl (· + ·) 0

/-- RXE.SAMPLES. -/
def rxSamples (d : Dev) : Nat := ((d.rx.filter fun p => p.2.carries).map fun p => p.2.n * fsNow d).sum

/-- Channels that the admitted streams carry (R29). -/
def rxChans (d : Dev) : Nat := ((d.rx.filter fun p => p.2.carries).map fun p => p.2.n).sum

/-- An admission starts with the entry as committed. -/
def rxStart (r : Root) (g s : Nat) (d : Dev) : Dev :=
  enqueueAdmit r g (consRx s) (d.setRx s { d.rxn s with st := 1, adm := rxWords d s, ent := rxWords d s, g := g, readmit := false, quit := false })

/-- To IDLE: treads to zeroing; with a readmission due the stream is admitted afresh (R302). -/
def rxIdle (r : Root) (s : Nat) (d : Dev) : Dev :=
  let d1 := rxFlow r s false (giveUp r (consRx s) d)
  let x := d1.rxn s
  let d2 := naEval r s (raise r 336 (d1.setRx s { x with st := 0, readmit := false, slots := [], match' := [], naWord := false }))
  if x.readmit && d.tf .rxs s 0 31 31 == 1 then rxStart r x.g s d2 else d2

/-- REASON of an admission; 0 passes (R301). -/
def rxReason (r : Root) (s : Nat) (d : Dev) : Nat :=
  let x := d.rxn s
  let busy := d.rx.any fun p => p.1 != s && p.2.st != 0 && p.2.st != 4 && decide (p.2.first < x.first + x.n ∧ x.first < p.2.first + p.2.n)
  let q : LndReq := { treads := cdiv (x.n * x.depth * 4) 512, formed := true,
                      owned := (List.range x.n).all fun i => chanOwner r d (x.first + i) == some x.g, align := none }
  if !(fmtOk (fsNow d) x.fmt x.n x.spp && x.ports != [] && decide (x.first + x.n - 1 ≤ 0x0FFF ∧ x.spp + 1 ≤ x.link ∧ x.link + x.spp ≤ x.depth)) then 1
  else if busy then 2
  else if 12000000 < rxFrames d + x.frames d then 3
  else if 196608000 < rxSamples d + x.n * fsNow d ∨ chanCap (fsNow d) < rxChans d + x.n then 4
  else if lndCheck d x.g q ≠ 0 then 5 else 0

/-- The end of a stream's admission. -/
def rxAdmitted (r : Root) (s : Nat) (d : Dev) : Dev :=
  let x := d.rxn s
  let q : LndReq := { treads := cdiv (x.n * x.depth * 4) 512, formed := true,
                      owned := (List.range x.n).all fun i => chanOwner r d (x.first + i) == some x.g, align := none }
  let why := rxReason r s d
  if why ≠ 0 then
    let d1 := (d.setRx s { x with st := 4, reason := why }).rxeMap fun e => { e with lastS := s, lastG := x.g, lastR := why }
    raise r 336 (rxAttn r s (if why = 5 then lndRefuse r x.g (consRx s) (lndCheck d x.g q) d1 else d1))
  else
    let y : RxS := { st := 2, adm := x.adm, ent := x.ent, g := x.g, lastSeq := x.lastSeq, transit := x.transit, shown := some (periodNow r d, d.tb.run) }
    let d1 := (lndCommit r x.g (consRx s) q d).setRx s y
    if d.tf .rxs s 0 31 31 = 1 ∧ !x.quit then raise r 336 d1 else rxIdle r s d1

/-- The live fields of a commit with the structural fields of the admission come into force (R303). -/
def RxS.relive (x : RxS) (w : List Word) : RxS := if 1 ≤ x.st ∧ x.st ≤ 3 ∧ rxKey w == rxKey x.adm then { x with ent := w } else x

/-- A commit of entry `s` by gallery `g` (R302). -/
def rxHook (r : Root) (g s : Nat) (d0 : Dev) : Dev :=
  let x := (d0.rxn s).relive (rxWords d0 s)
  let d := d0.setRx s x
  let ena := d.tf .rxs s 0 31 31 == 1
  let same := rxKey (rxWords d s) == rxKey x.adm
  let k : Int := x.pres
  match x.st, ena with
  | 0, true | 4, true => rxStart r g s d
  | 1, false => d.setRx s { x with quit := true }
  | 2, false => d.setRx s { x with st := 3, fade := x.fade.down k (d.tf .rxs s 5 15 0) }
  | 2, true => if same then d else d.setRx s { x with st := 3, readmit := true, g := g, fade := x.fade.down k 0 }
  | 3, true => if same then d.setRx s { x with st := 2, readmit := false, fade := x.fade.up k } else d.setRx s { x with readmit := true, g := g }
  | 3, false => d.setRx s { x with readmit := false }
  | _, _ => d

/-- RX_DRAIN_COMPLETE (R302): the gain has reached 0. -/
def rxDrained (r : Root) (s : Nat) (d : Dev) : Dev :=
  let x := d.rxn s
  let k : Int := x.pres - 1
  if x.st = 3 ∧ x.fade.k ≤ k ∧ x.fade.at k = 0 then rxIdle r s (rxAttn r s d) else d

/-- An EC restart (R302). -/
def rxRestart (r : Root) (d : Dev) : Dev :=
  d.rx.foldl (fun a p => if p.2.st = 0 then a else rxIdle r p.1 (a.setRx p.1 { a.rxn p.1 with readmit := true })) d

/-! ### Registers -/

/-- RXE.CMD by gallery `g` (R305). -/
def rxeCmd (r : Root) (g : Nat) (w : Word) (d : Dev) : Dev :=
  let s := fld w 9 0
  if bitOf w 31 && owner r d .rxStream (s / 16) == g then
    d.setRx s { d.rxn s with transit := [], taken := [], gap := [], late := 0, early := 0, lost := 0, dup := 0, formErr := 0, concealed := 0, margin := [] }
  else d

/-- Status word `i`, 6 to 15, of entry `s` (R286). -/
def rxStatus (d : Dev) (s i : Nat) : Word :=
  let x := d.rxn s
  let two := fun (a b : Nat) => wd (a * 65536 + b)
  let int := fun (m : SMap Int) p => wd (uns (sget (fun _ => (0 : Int)) m p) 32)
  match i with
  | 6 => if fmtSf x.fmt then int x.transit 0 else 0
  | 7 => if fmtSf x.fmt then int x.transit 1 else 0
  | 8 => wd (x.st * 2 ^ 29 + b2n x.naActive * 2 ^ 28 + b2n x.flowing * 2 ^ 27 + x.reason * 2 ^ 24 + x.lastSeq)
  | 9 => two (nget x.taken 0) (nget x.taken 1)
  | 10 => two (nget x.gap 0) (nget x.gap 1)
  | 11 => two x.late x.early
  | 12 => two x.lost x.dup
  | 13 => two x.formErr x.concealed
  | 14 => int x.margin 0
  | _ => int x.margin 1

/-- RXE registers (13). -/
def rxeRead (d : Dev) (o : Nat) : Word :=
  let cnt := fun st => (d.rx.filter fun p => p.2.st == st).length
  let bits := fun (f : Nat → Bool) => wd (((List.range 32).map fun i => b2n (f (32 * (o % 128 / 4) + i)) * 2 ^ i).sum)
  match o with
  | 0x040 => wd (cnt 2 * 65536 + cnt 3)
  | 0x044 => wd (rxSamples d)
  | 0x04C => wd (d.rxe.lastS * 65536 + d.rxe.lastG * 4096 + d.rxe.lastR)
  | 0x050 => wd (rxFrames d).floor.toNat
  | 0x054 => wd d.rxe.late
  | 0x058 => wd d.rxe.lost
  | 0x05C => wd d.rxe.eraDrop
  | _ => if 0x180 ≤ o ∧ o < 0x200 then bits fun s => (d.rxn s).naActive
         else if 0x100 ≤ o ∧ o < 0x180 then bits fun s => bget d.rxe.attn s
         else d.reg .rxe o

/-! ### Meanings -/

/-- RX_PRESENT. -/
def execRxPresent (sn : Fin 1024) (s : State) : Host.Outcome State Fault Refusal :=
  onRun (fun r d => rxPresent r sn (entryUse r .rxs sn d)) s

/-- RX_FLOW_STOP. -/
def execRxFlowStop (sn : Fin 1024) (s : State) : Host.Outcome State Fault Refusal := onRun (fun r d => rxFlowStop r sn d) s

/-- NA_HOLD_EXPIRY. -/
def execNaHoldExpiry (sn : Fin 1024) (pair : Fin 32) (s : State) : Host.Outcome State Fault Refusal := onRun (fun r d => naExpiry r sn pair d) s

/-- RX_DRAIN_COMPLETE. -/
def execRxDrainComplete (sn : Fin 1024) (s : State) : Host.Outcome State Fault Refusal := onRun (fun r d => rxDrained r sn d) s

end Sys2Proof.Machine
end

