-- ==== Sys2Proof/Machine/Sap.lean ====
section
/-! DEFINITION. Serial audio ports and start groups (15, R320 to R342). -/

namespace Sys2Proof.Machine

/-- Change the groups' state. -/
def Dev.sapgMap (d : Dev) (f : SapgSt → SapgSt) : Dev := { d with sapg := f d.sapg }

/-! ### Layout (R321 to R324) -/

/-- CTRL bits: 0 ENA, 1 IN_EN, 2 OUT_EN, 3 CONV, 4 GRP_EN. -/
def sapCtl (d : Dev) (n i : Nat) : Bool := d.rb (.sap n) 0x044 i
/-- CTRL.GROUP. -/
def sapGroup (d : Dev) (n : Nat) : Nat := d.rf (.sap n) 0x044 7 5
/-- FMT.FORMAT: 0 TDM, 1 I2S, 2 LJ; the reserved 3 on a running port acts as LJ (log entry 27). -/
def sapFormat (fmt : Word) : Nat := fld fmt 31 30
/-- Slot width; a reserved code on a running port acts as 24 (log entry 27). -/
def sapWidth (fmt : Word) : Nat := match fld fmt 17 16 with | 0 => 16 | 2 => 32 | _ => 24
/-- OFFSET + DELAY. -/
def sapOfs (fmt : Word) : Nat := fld fmt 24 20 + fld fmt 27 27
/-- TDM, not I2S or LJ. -/
def sapTdm (fmt : Word) : Bool := sapFormat fmt == 0
/-- Whether a level of FS is the active one: low for I2S, high for TDM and LJ, inverted by FS_INV (R321). -/
def fsActive (fmt : Word) (fs : Bool) : Bool := fs != ((sapFormat fmt == 1) != bitOf fmt 28)
/-- Whether the port samples FS and DI on this edge of BCLK; on the other it changes DO (R320). -/
def sapSamples (fmt : Word) (rising : Bool) : Bool := rising != bitOf fmt 29

/-- Index of the first bit of slot `s` of a frame of `len` with `slots` slots (R322). -/
def slotIndex (fmt : Word) (len slots s : Nat) : Nat :=
  let w := sapWidth fmt
  if sapTdm fmt || decide (s < slots / 2) then sapOfs fmt + s * w else len / 2 + sapOfs fmt + (s - slots / 2) * w

/-- A sample word from a slot's bits (R324). -/
def slotIn (fmt : Word) (x : Nat) : Word :=
  match sapWidth fmt with
  | 16 => wd (x % 65536 * 65536)
  | 32 => if bitOf fmt 26 then wd (x / 8 * 8) else wd (x / 256 * 256)
  | _ => wd (x % 2 ^ 24 * 256)

/-- A slot's bits from a sample word (R324). -/
def slotOut (fmt : Word) (x : Word) : Nat :=
  match sapWidth fmt with
  | 16 => uns (audio16 x) 16
  | 32 => if bitOf fmt 26 then x.toNat / 8 * 8 else x.toNat / 256 * 256
  | _ => x.toNat / 256

/-- The checks of R323, and the ranges of FRAME_LEN and BUF_LOG. -/
def sapConfigOk (d : Dev) (n : Nat) : Bool :=
  let s := (d.sapn n).slots
  let fmt := d.reg (.sap n) 0x040
  let len := d.rf (.sap n) 0x048 10 0
  let w := sapWidth fmt
  decide (1 ≤ s ∧ s ≤ 32 ∧ 16 ≤ len ∧ len ≤ 1056 ∧ sapFormat fmt ≠ 3 ∧ fld fmt 17 16 ≠ 3 ∧ sapOfs fmt ≤ 32
    ∧ len * fsNow d ≤ 50000000 ∧ (d.sapn n).bufLog ≤ 6)
  && (if sapTdm fmt then decide (s * w ≤ len) else decide (s % 2 = 0 ∧ len % 2 = 0 ∧ s / 2 * w ≤ len / 2))

/-! ### Faults and gains (R333, R335) -/

/-- EV_SAPn_DATAFAULT with its cause. -/
def sapData (r : Root) (n cause : Nat) (d : Dev) : Dev := raise r (384 + 2 * n) (d.setSap n { d.sapn n with cause := cause })

/-- Length of a ramp in periods (R333). -/
def sapFade (d : Dev) (n : Nat) : Nat := rampLen d (d.rf (.sap n) 0x050 15 0) 1000000

/-- The gains go to 1.0 where their direction is enabled, and to 0 where it is not. -/
def sapIn (d : Dev) (n : Nat) (x : SapS) : SapS :=
  { x with inG := x.inG.head (if sapCtl d n 1 then unity else 0) (sapFade d n),
           outG := x.outG.head (if sapCtl d n 2 then unity else 0) (sapFade d n) }

/-- Both gains go to 0 over FADE_LEN. -/
def sapOut (d : Dev) (n : Nat) (x : SapS) : SapS := { x with inG := x.inG.head 0 (sapFade d n), outG := x.outG.head 0 (sapFade d n) }

/-- Both gains are 0 at once. -/
def SapS.mute (x : SapS) : SapS := { x with inG := Ramp.fixed 0, outG := Ramp.fixed 0 }

/-- Whether both gains have reached 0. -/
def SapS.silent (x : SapS) : Bool := x.inG.now == 0 && !x.inG.runs && x.outG.now == 0 && !x.outG.runs

/-- The gains move on to period `k` (R333, R337). -/
def SapS.advance (x : SapS) (k : Int) : SapS :=
  let m := match x.gk with | some g => (k - g).toNat | none => 1
  { x with inG := x.inG.steps m, outG := x.outG.steps m, gk := some (match x.gk with | some g => max g k | none => k) }

/-- STATUS.CLK moves: counted as a fault unless it returns to GOOD, with its event at a change (R336). A fault of the port whose frame clock is reference
input 6 is reported to the selector (R338). -/
def sapClk (r : Root) (n c : Nat) (d : Dev) : Dev :=
  let x := d.sapn n
  if x.clk = c then d
  else
    let d1 := d.setSap n { x with clk := c, clkFaults := if c = 0 then x.clkFaults else satInc x.clkFaults 255 }
    raise r (385 + 2 * n) (if c ≠ 0 ∧ d.rf .ref 0x040 12 8 = n then { d1 with ref := { d1.ref with sapFault := true } } else d1)

/-- PREROLL and GOOD_FRAMES as the present frame has them; 0 acts as 1. -/
def SapS.preroll (x : SapS) : Nat := max 1 (fld x.roll 31 24)
/-- GOOD_FRAMES. -/
def SapS.goodFrames (x : SapS) : Nat := max 1 (fld x.roll 15 8)
/-- 4T to the nearest unit of EC (R11, R336). -/
def sap4T (d : Dev) : Nat := (rdiv (4 * secUnits) (fsNow d)).toNat

/-- STOP (R336): DO low at once, inputs zero with V set, gains 0; no frame runs. -/
def sapStop (r : Root) (n : Nat) (d : Dev) : Dev :=
  sapClk r n 1 (d.setSap n { (d.sapn n).mute with faultI := true, faultO := true, good := 0, outTol := 0, inTol := 0, lastK := none,
                                                  needPre := true, sent := [], dout := [], cur := none, tail := none })

/-! ### Admission and states (R329) -/

/-- An admission starts: the admission fields are sampled. -/
def sapStart (r : Root) (n : Nat) (d : Dev) : Dev :=
  enqueueAdmit r (owner r d .sap n) (consSap n) (d.setSap n
    { d.sapn n with st := 1, slots := d.rf (.sap n) 0x040 5 0, bufLog := max 1 (d.rf (.sap n) 0x048 27 24),
                    gate := d.rb (.sap n) 0x054 31, pad := d.rf (.sap n) 0x054 27 24, readmit := false, quit := false, byGroup := false, stopAt := none })

/-- To IDLE: treads to zeroing; with a readmission due the port is admitted afresh. -/
def sapIdle (r : Root) (n : Nat) (d : Dev) : Dev :=
  let x := d.sapn n
  let still := fun (f : SapRun) => { f with live := false }
  let d1 := (giveUp r (consSap n) d).setSap n
    { x.mute with st := 0, faultI := false, faultO := false, dout := [], byGroup := false, stopAt := none, k0 := none, readmit := false, quit := false,
                  gk := none, cur := x.cur.map still, tail := none }
  if x.readmit && sapCtl d n 0 then sapStart r n d1 else d1

/-- A refusal: 1 BAD_CONFIG, 2 MCLK_OWNER, 3 LANDING. -/
def sapRefuse (r : Root) (n why : Nat) (d : Dev) : Dev := sapData r n 5 (d.setSap n { (d.sapn n).mute with st := 7, refuse := why })

/-- The end of a port's admission. -/
def sapAdmitted (r : Root) (g n : Nat) (d : Dev) : Dev :=
  let x := d.sapn n
  let q : LndReq := { treads := 2 * cdiv (x.slots * 2 ^ x.bufLog * 4) 512, formed := true, owned := owner r d .sap n == g, align := none }
  let code := lndCheck d g q
  if !sapConfigOk d n then sapRefuse r n 1 d
  else if x.gate && steward r d (.sap n) != steward r d (.mcs (x.pad / 2)) then sapRefuse r n 2 d
  else if code ≠ 0 then sapRefuse r n 3 (lndRefuse r g (consSap n) code d)
  else
    let k := periodNow r d + 1
    let lead := if x.gate then (d.rf (.sap n) 0x054 15 0 : Int) else 0
    let grp := sapCtl d n 4
    let y : SapS := { x.mute with st := if grp then 2 else 3, refuse := 0, underruns := 0, overruns := 0, clkFaults := 0, notReady := 0,
                                  phi0 := none, lastK := none, good := 0, faultI := false, faultO := false, needPre := false, k0 := if grp then none else some (k + lead),
                                  leadK := k + lead, sent := [], gk := none, readmit := false }
    let d1 := (lndCommit r g (consSap n) q d).setSap n y
    if sapCtl d n 0 && !x.quit then d1 else sapIdle r n d1

/-- A group stop that is due at a boundary now passed (R332). -/
def sapTurn (r : Root) (n : Nat) (d : Dev) : Dev :=
  let x := d.sapn n
  match x.stopAt with
  | some k =>
    if k ≤ periodNow r d then
      d.setSap n (if x.st = 4 then { sapOut d n x with st := 5, byGroup := true, stopAt := none } else { x with stopAt := none })
    else d
  | none => d

/-- The same on every port. -/
def sapTurnAll (r : Root) (d : Dev) : Dev := (List.range 32).foldl (fun d n => sapTurn r n d) d

/-- Whether an admission field differs from its sampled value. -/
def sapChanged (d : Dev) (n : Nat) : Bool :=
  let x := d.sapn n
  x.slots != d.rf (.sap n) 0x040 5 0 || x.bufLog != max 1 (d.rf (.sap n) 0x048 27 24) || x.gate != d.rb (.sap n) 0x054 31
    || x.pad != d.rf (.sap n) 0x054 27 24

/-- A write of SAPn.CTRL: `set` says whether it wrote ENA, and with which value (R329, R341). -/
def sapCtrlHook (r : Root) (n : Nat) (set : Option Bool) (d : Dev) : Dev :=
  let d0 := sapTurn r n d
  let x := d0.sapn n
  let d1 := match set, x.st with
    | some true, 0 | some true, 7 => sapStart r n d0
    | some true, 5 | some true, 6 =>
      if sapChanged d0 n then d0.setSap n { x with readmit := true }
      else if x.clk = 0 ∧ (x.needPre = false ∨ x.preroll ≤ x.good) then
        d0.setSap n { sapIn d0 n x with st := 4, byGroup := false, readmit := false, faultI := false, faultO := false, needPre := false }
      else d0.setSap n { x with st := 4, byGroup := false, readmit := false, faultI := true, faultO := true }
    | some false, 1 => d0.setSap n { x with quit := true }
    | some false, 2 | some false, 3 => sapIdle r n d0
    | some false, 4 => d0.setSap n { sapOut d0 n x with st := 5, byGroup := false }
    | _, _ => d0
  let y := d1.sapn n
  if y.st = 4 then
    let goal := fun (i : Nat) => if sapCtl d1 n i then unity else 0
    d1.setSap n { y with inG := if y.faultI then y.inG else y.inG.head (goal 1) (sapFade d1 n),
                         outG := if y.faultO then y.outG else y.outG.head (goal 2) (sapFade d1 n) }
  else d1

/-- A port that may present data in period `c` goes RUNNING, with the gains ramping in (R329, R330). -/
def sapRun (n : Nat) (c : Int) (d : Dev) : Dev :=
  let x := d.sapn n
  match x.k0 with
  | some k =>
    if x.st = 3 ∧ k ≤ c ∧ x.leadK ≤ c ∧ x.preroll ≤ x.good ∧ x.clk = 0 then
      d.setSap n { sapIn d n x with st := 4, faultI := false, faultO := false, needPre := false, gk := none }
    else d
  | none => d

/-- SAP_RUN_START (R330). -/
def sapRunStart (r : Root) (n : Nat) (d : Dev) : Dev := sapRun n (periodNow r d) d

/-- SAP_STOP_FADE_DONE (R329): the gains fall in periods of AT, also without frames (R337); the periods that have passed whole have run. -/
def sapFadeDone (r : Root) (n : Nat) (d : Dev) : Dev :=
  let d0 := sapTurn r n d
  let x := if (d0.sapn n).st = 5 then (d0.sapn n).advance (periodNow r d - 1) else d0.sapn n
  d0.setSap n (if x.st = 5 ∧ x.silent then { x with st := 6, rollK := periodNow r d, gk := none } else x)

/-- SAP_POSTROLL_END (R329). -/
def sapRollEnd (r : Root) (n : Nat) (d : Dev) : Dev :=
  let x := d.sapn n
  if x.st = 6 ∧ x.rollK + (fld x.roll 23 16 : Nat) ≤ periodNow r d then
    (if sapCtl d n 0 && x.byGroup && !x.readmit then d.setSap n { x with st := 2, byGroup := false, k0 := none } else sapIdle r n d)
  else d

/-- SAP_CLOCK_STOP (R336): no edge in [last edge, last edge + 4T). -/
def sapClockStop (r : Root) (n : Nat) (d : Dev) : Dev :=
  if (d.sapn n).lastEdge + sap4T d ≤ r.ec then sapStop r n d else d

/-! ### Groups (R331, R332) -/

/-- Members of a group in a state. -/
def groupMembers (d : Dev) (g st : Nat) : List Nat :=
  (List.range 32).filter fun n => sapCtl d n 4 && sapGroup d n == g && (d.sapn n).st == st

/-- A frame of a port as its state and gains have it: whether it carries slots, takes input and sends. -/
def SapRun.opened (f : SapRun) (x : SapS) (outEn : Bool) : SapRun :=
  let live := decide (4 ≤ x.st ∧ x.st ≤ 5)
  let open' := fun (g : Ramp) => g.runs || g.g1 != 0
  { f with live := live, inp := live && open' x.inG, out := !x.faultO, drives := live && (outEn || open' x.outG), gin := x.inG.now, gout := x.outG.now }

/-- A group's start period is known: its members that still wait for it take it as k_0, and GRPg_PERIOD shows it. -/
def groupPeriod (g : Nat) (ms : List Nat) (k : Int) (d : Dev) : Dev :=
  let take := fun (d : Dev) n => let x := d.sapn n; if x.st = 3 ∧ x.k0 = none then d.setSap n { x with k0 := some k } else d
  (ms.foldl take d).sapgMap fun x => { x with period := nput x.period g (st32 (bNow d k)) }

/-- A member whose frame of its start period has begun presents data in it (R331). -/
def memberOpen (d : Dev) (n : Nat) : Dev :=
  match (d.sapn n).cur.bind fun f => f.k with
  | some c =>
    let d1 := sapRun n c d
    let y := (d1.sapn n).advance c
    if (d.sapn n).st = 3 ∧ y.st = 4 then d1.setSap n { y with cur := y.cur.map fun f => f.opened y (sapCtl d n 2) } else d
  | none => d

/-- A start of group `g` (R331): its waiting members go to STARTING; k_g is the period of the next frame edge of the lowest of them that
has counted a good frame, or else the next period. Starts that wait for an edge do not supplant one another. -/
def groupStart (r : Root) (g : Nat) (d : Dev) : Dev :=
  let ms := groupMembers d g 2
  if ms = [] then d
  else
    let d1 := ms.foldl (fun d n => d.setSap n { d.sapn n with st := 3, k0 := none }) d
    let d2 := d1.sapgMap fun x => { x with started := nset x.started g true }
    match ms.find? fun n => (d.sapn n).phi0.isSome with
    | some n => d2.sapgMap fun x => { x with starting := lput x.starting g (lget x.starting g ++ [{ lead := n, ec := r.ec, ms := ms }]) }
    | none => groupPeriod g ms (periodNow r d + 1) d2

/-- A stop of group `g` (R332): its RUNNING members stop at the next period boundary. -/
def groupStop (r : Root) (g : Nat) (d : Dev) : Dev :=
  (groupMembers d g 4).foldl (fun d n => d.setSap n { d.sapn n with stopAt := some (periodNow r d + 1) }) d

/-- The bits of a SAPG strobe. -/
def sapgCmd (r : Root) (stop : Bool) (w : Word) (d : Dev) : Dev :=
  (List.range 8).foldl (fun d g => if bitOf w g then (if stop then groupStop r g d else groupStart r g d) else d) (sapTurnAll r d)

/-- A frame edge of port `n` maps to `k`: the group starts that wait for it, from a CORE_CLK cycle before the edge's, take `k` (R331). -/
def groupEdge (n edge : Nat) (k : Int) (d : Dev) : Dev :=
  (List.range 8).foldl (fun d g =>
    let here := fun (w : SapStart) => w.lead == n && decide (w.ec / 512 < edge / 512)
    let l := lget d.sapg.starting g
    if l.any here then (l.filter here).foldl (fun d w => w.ms.foldl memberOpen (groupPeriod g w.ms k d)) (d.sapgMap fun x => { x with starting := lput x.starting g (l.filter (!here ·)) })
    else d) d

/-! ### Frames (R320, R326 to R328, R335, R336) -/

/-- Clock measurement of the frame `f` up to the frame edge at EC `next`: its BCLK periods, and its period in CORE_CLK cycles of 2 ns, converted
through AT's rate; and whether that lies within T × (1 ± FS_TOL) (R10, R336; which cycles count is read in log entry 27). -/
def sapMeasure (d : Dev) (n next : Nat) (f : SapRun) : SapS × Bool :=
  let x := d.sapn n
  let p : Int := ((next / 512 : Nat) - (f.edge / 512 : Nat) : Int) * 512
  let t := p + rdiv (p * d.tb.at'.rate) (2 ^ 48)
  let err := t * fsNow d - secUnits
  ({ x with period := uns (rdiv t 512 * 2) 16, bclk := (f.i + 1) % 2048, injRate := x.injRate - 1 },
    decide (x.injRate = 0 ∧ err.natAbs * 1000000 ≤ x.tol * secUnits.natAbs))

/-- The input that a frame has given is void: its channels read zero with V set in its period (R336). -/
def sapVoid (n : Nat) (f : SapRun) (d : Dev) : Dev :=
  match f.k with
  | some k => if f.inp then
      (List.range f.slots).foldl (fun d s =>
        let c := 0x2000 + 32 * n + s
        if (lget d.chan c).any fun y => y.k == k then putChan c ⟨k, zeroV, bNow d k⟩ d else d) d
    else d
  | none => d

/-- GLITCH in the frame `f` (R336): its input is void, DO low to its end, gains 0. -/
def sapGlitch (r : Root) (n : Nat) (f : SapRun) (d : Dev) : Dev :=
  let d1 := sapVoid n f d
  sapClk r n 2 (d1.setSap n { (d1.sapn n).mute with faultI := true, faultO := true, good := 0, inTol := 0, outTol := 0, lastK := none,
                                                    needPre := false, dout := [], cur := some { f with ok := false } })

/-- The clock conditions after a correct frame, inside the tolerance or not (R336). -/
def sapJudge (r : Root) (n : Nat) (inTol : Bool) (d : Dev) : Dev :=
  let x := d.sapn n
  let y : SapS := { x with good := if x.clk = 3 then 0 else x.good + 1, inTol := if inTol then x.inTol + 1 else 0,
                           outTol := if inTol then 0 else x.outTol + 1 }
  let d1 := d.setSap n y
  match x.clk with
  | 0 => if 8 ≤ y.outTol then
      sapClk r n 3 (d1.setSap n { sapOut d n y with faultI := true, faultO := true, good := 0, lastK := none, needPre := false }) else d1
  | 2 => if x.goodFrames ≤ y.good then sapClk r n 0 (d1.setSap n { y with good := 0 }) else d1
  | 3 => if 8 ≤ y.inTol then sapClk r n 0 d1 else d1
  | _ => d1

/-- The period of a frame edge (R326): by the first good frame's phase, or by Φ0. -/
def sapPeriodOf (d : Dev) (x : SapS) (e : Int) : Int :=
  match x.phi0 with
  | none => periodOf (fsNow d) e
  | some p => (periodOf (2 * fsNow d) (e - p) + 1) / 2

/-- A data fault starts (R335): a slip or an underrun fades both directions to 0, an overrun alone the input. -/
def sapFault (r : Root) (n cause under over' : Nat) (d : Dev) : Dev :=
  let x := d.sapn n
  let y : SapS := { x with underruns := min 255 (x.underruns + under), overruns := min 255 (x.overruns + over') }
  sapData r n cause (d.setSap n (if x.st ≠ 4 then y
    else if cause = 2 then { y with inG := y.inG.head 0 (sapFade d n), faultI := true }
    else { sapOut d n y with faultI := true, faultO := true }))

/-- A gain returns once it has reached 0 and no fault remains (R335, R336). -/
def sapRecover (n : Nat) (d : Dev) : Dev :=
  let x := d.sapn n
  if x.st = 4 ∧ x.clk = 0 ∧ (x.needPre = false ∨ x.preroll ≤ x.good) then
    let y := sapIn d n x
    let i := x.faultI && x.inG.now == 0 && !x.inG.runs
    let o := x.faultO && x.outG.now == 0 && !x.outG.runs
    d.setSap n { x with inG := if i then y.inG else x.inG, outG := if o then y.outG else x.outG,
                        faultI := x.faultI && !i, faultO := x.faultO && !o, needPre := false }
  else d

/-- The frame in progress ends at the frame edge at EC `ec` (R336, R342): it is measured and judged, and while slots of it run on it stays (R322).
The first good frame after the admission gives Φ0 (R326). -/
def sapEnd (r : Root) (n ec : Nat) (d : Dev) : Dev :=
  match (d.sapn n).cur with
  | none => d
  | some f =>
    let admitted := decide (2 ≤ (d.sapn n).st ∧ (d.sapn n).st ≤ 6)
    let glitch := !f.ok || f.i + 1 != (d.sapn n).len || (admitted && injects (.sap n) 1 d)
    let rate := admitted && injects (.sap n) 2 d
    let d1 := if admitted then opportunity r (.sap n) 2 (opportunity r (.sap n) 1 d) else d
    let d2 := if rate then d1.setSap n { d1.sapn n with injRate := 8 } else d1
    let m := sapMeasure d2 n ec f
    let d3 := d2.setSap n m.1
    if glitch then
      let d4 := if f.ok then sapGlitch r n f d3 else d3.setSap n { d3.sapn n with good := 0 }
      d4.setSap n { d4.sapn n with tail := none, cur := none }
    else
      let d4 := sapJudge r n m.2 d3
      let x := d4.sapn n
      d4.setSap n { x with tail := some f, cur := none,
                           phi0 := if x.phi0.isNone && admitted && x.clk == 0 && f.k.isSome then some f.phi else x.phi0 }

/-- The sample period of a frame that begins: its number and phase are shown, and a slip is found, of a fast clock or a slow one (R326, R327, R337). A frame
edge of another era is in no window (R12). -/
def sapMap (r : Root) (n ec : Nat) (admitted : Bool) (d : Dev) : Dev × Option Int × Int × Bool × Bool :=
  let x := d.sapn n
  if stampEra d ec ≠ d.tb.era then (d.setSap n { x with lastK := none }, none, 0, false, false)
  else
    let e := d.tb.at'.val ec
    let k := sapPeriodOf d x e
    let phi := e - bNow d k
    let fast := admitted && x.clk == 0 && x.lastK == some k
    let slip := fast || (admitted && x.clk == 0 && x.lastK == some (k - 2))
    let d1 := d.setSap n { x with phi := phi, pos := k, phi0 := if slip then some phi else x.phi0, lastK := if x.clk = 0 then some k else none }
    (if slip then sapFault r n 3 1 1 d1 else d1, some k, phi, slip, fast)

/-- The frame edge at EC `ec` (R341): the layout takes effect, and the edge is stamped for captures and for reference input 6 (R153, R208). -/
def sapEdge (r : Root) (n ec : Nat) (d : Dev) : Dev :=
  let cyc := ec / 512 * 512
  let d0 := capInternal { r with ec := cyc } (0x40 + n) d
  let p := refDiv 6 d0
  let d1 := if d0.rf .ref 0x040 12 8 ≠ n then d0 else if p.1 then refEdge 6 cyc p.2 else p.2
  d1.setSap n { d1.sapn n with fmt := d.reg (.sap n) 0x040, len := d.rf (.sap n) 0x048 10 0, roll := d.reg (.sap n) 0x04C,
                               tol := max 1 (d.rf (.sap n) 0x050 31 16) }

/-- The frame that begins at the frame edge at EC `ec`, of period `k` and phase `phi`: `inp` and `out` say whether its input is taken and its output is
fresh. The gains move on to its period (R333). -/
def sapEnter (n ec : Nat) (k : Option Int) (phi : Int) (inp out : Bool) (d : Dev) : Dev :=
  let x := d.sapn n
  let y := match k with | some k => if 4 ≤ x.st ∧ x.st ≤ 5 then x.advance k else x | none => x
  let f0 : SapRun := { edge := ec, k := k, phi := phi, conv := sapCtl d n 3, fmt := y.fmt, len := y.len, slots := y.slots }
  let f := f0.opened y (sapCtl d n 2)
  d.setSap n { y with cur := some { f with inp := f.inp && inp, out := f.out && out }, dout := if f.drives then y.dout else [] }

/-- What POINT 3 and POINT 4 make of a frame that begins (R342): an underrun of the output, an overrun of the input. They act on a frame whose clock is
good, that sends or takes samples, and in which no slip makes the fault; `sound` says the last. -/
def sapStarve (r : Root) (n : Nat) (sound : Bool) (d : Dev) : (Bool × Bool) × Dev :=
  let x := d.sapn n
  let runs := sound && decide (4 ≤ x.st ∧ x.st ≤ 5) && x.clk == 0
  let sends := runs && (x.outG.runs || x.outG.g1 != 0)
  let takes := runs && (x.inG.runs || x.inG.g1 != 0)
  let starve := sends && injects (.sap n) 3 d
  let surplus := takes && injects (.sap n) 4 d
  let d1 := if sends then opportunity r (.sap n) 3 d else d
  let d2 := if takes then opportunity r (.sap n) 4 d1 else d1
  let d3 := if starve then sapFault r n 1 1 0 d2 else d2
  ((starve, surplus), if surplus then sapFault r n 2 0 1 d3 else d3)

/-- The frame edge at EC `ec` of a port whose clock POINT 0 does not stop: the frame maps to its period, group starts that wait for it take the period, and a
port that may present data in it goes RUNNING (R326, R330, R331). -/
def sapFresh (r : Root) (n ec : Nat) (admitted : Bool) (d : Dev) : Dev :=
  let m := sapMap r n ec admitted (if admitted then opportunity r (.sap n) 0 d else d)
  let d1 := match m.2.1 with | some k => sapRun n k (groupEdge n ec k m.1) | none => m.1
  let p := sapStarve r n (m.2.1.isSome && !m.2.2.2.1) d1
  sapRecover n (sapEnter n ec m.2.1 m.2.2.1 (!m.2.2.2.2 && !p.1.2) (!m.2.2.2.2 && !p.1.1) p.2)

/-- A frame begins at the frame edge at EC `ec` (R320, R326, R335, R342). -/
def sapBegin (r : Root) (n ec : Nat) (d : Dev) : Dev :=
  let d2 := sapEdge r n ec d
  let admitted := decide (2 ≤ (d2.sapn n).st ∧ (d2.sapn n).st ≤ 6)
  if admitted && injects (.sap n) 0 d2 then
    let d3 := opportunity r (.sap n) 0 d2
    sapStop r n (d3.setSap n { d3.sapn n with injStop := ec + sap4T d3 })
  else sapFresh r n ec admitted d2

/-- One output slot of a frame begins: the destination sample of the period before the frame's if it was ready 40 ns before the slot's first bit
left DO, else the slot's previous sample with V set (R326, R328); a starved or fading frame sends the previous one again (R327, R335). -/
def sapSlotOut (r : Root) (n s : Nat) (f : SapRun) (d : Dev) : Dev × Bool :=
  let x := d.sapn n
  let old := wget x.sent s
  let at' := d.tb.at'.val x.drv - (40 * nsUnits : Nat)
  let p : (Word × Bool) × Dev :=
    if !f.out then ((old, true), d)
    else match f.k with
      | none => ((old, true), d)
      | some k => match destSample d (0x2400 + 32 * n + s) (k - 1) with
        | some (w, t) => if (t.map fun t => decide (t ≤ at')).getD true then (let q := sampleRead r (consSap n) w d; ((q.1, true), q.2))
            else ((withV old, false), d)
        | none => ((withV old, false), d)
  let w := p.1.1
  let bits := slotOut f.fmt (if f.conv && isNA w then 0 else if f.gout = unity then w else scaleWord w f.gout unity)
  let y := p.2.sapn n
  let d1 := p.2.setSap n { y with sent := wput y.sent s w, dout := nput y.dout s bits, notReady := if p.1.2 then y.notReady else min 255 (y.notReady + 1) }
  if p.1.2 then (d1, f.late) else (if f.late then d1 else sapData r n 4 d1, true)

/-- One input slot of a frame ends at EC `ec`: its channel has the sample of the frame's period, ready 40 ns later (R23, R270, R322, R325), as the port's
buffer gives it (R221). -/
def sapSlotIn (r : Root) (n s ec : Nat) (f : SapRun) (d : Dev) : Dev :=
  match f.k with
  | none => d
  | some k =>
    if !f.inp then d
    else
      let p := sampleRead r (consSap n) (slotIn f.fmt ((List.range (sapWidth f.fmt)).map fun j => b2n (f.bits.getD (j + 1) false) * 2 ^ j).sum) (sampleWrite (consSap n) 1 d)
      putChan (0x2000 + 32 * n + s) ⟨k, if f.gin = unity then p.1 else scaleWord p.1 f.gin unity, d.tb.at'.val ec + (40 * nsUnits : Nat)⟩ p.2

/-- The slots of the frame `f` that begin, or have ended, at its index `f.i`; and whether a sample was not ready. -/
def sapSlots (r : Root) (n ec : Nat) (f : SapRun) (d : Dev) : Dev × Bool :=
  if !f.ok || !f.live then (d, f.late)
  else (List.range f.slots).foldl (fun (a : Dev × Bool) s =>
    let i := slotIndex f.fmt f.len f.slots s
    if i + sapWidth f.fmt = f.i then (sapSlotIn r n s ec f a.1, a.2)
    else if i = f.i ∧ f.drives then sapSlotOut r n s { f with late := a.2 } a.1 else a) (d, f.late)

/-- A sampling edge within a frame that is no frame edge (R321, R336): the opposite FS edge of I2S and LJ is due at FRAME_LEN ÷ 2 and the next frame
edge at FRAME_LEN; more than 1 BCLK early or late is a glitch. -/
def sapWatch (r : Root) (n : Nat) (act : Bool) (d : Dev) : Dev :=
  let x := d.sapn n
  match x.cur with
  | none => d
  | some f =>
    let i := f.i + 1
    let opp := x.fsOn && !act
    let mid := !sapTdm x.fmt
    let f1 := { f with second := f.second || opp }
    let early := mid && opp && !f.second && decide (i + 1 < x.len / 2)
    let late := mid && !f1.second && decide (x.len / 2 + 1 ≤ i)
    if f.ok && (early || late || decide (x.len + 1 ≤ i)) then sapGlitch r n f1 d else d.setSap n { x with cur := some f1 }

/-- A frame takes the bit of a sampling edge. -/
def SapRun.take (f : SapRun) (di : Bool) (first : Bool) : SapRun := { f with i := if first then 0 else f.i + 1, bits := (di :: f.bits).take 33 }

/-- A sampling edge of BCLK at EC `ec` (R320, R322): a frame edge where FS is first at its active level. -/
def sapSample (r : Root) (n ec : Nat) (fs di : Bool) (d : Dev) : Dev :=
  let x := d.sapn n
  let act := fsActive x.fmt fs
  let start := act && !x.fsOn
  let d1 := if start then sapBegin r n ec (sapEnd r n ec (sapTurn { r with ec := ec } n d)) else sapWatch r n act d
  let y := d1.sapn n
  let cur := y.cur.map (·.take di start)
  let tail := y.tail.map (·.take di false)
  let d2 := d1.setSap n { y with fsOn := act, cur := cur, tail := none }
  let d3 := match tail with
    | none => d2
    | some f =>
      let p := sapSlots r n ec f d2
      if f.i < f.len + 32 then p.1.setSap n { p.1.sapn n with tail := some { f with late := p.2 } } else p.1
  match cur with
  | none => d3
  | some f =>
    let p := sapSlots r n ec f d3
    p.1.setSap n { p.1.sapn n with cur := some { f with late := p.2 } }

/-- An edge of BCLK (R320, R336, R342). One that comes 4T after the last or later finds the clock stopped; with the clock stopped it is the first to arrive
again; while POINT 0 holds it stopped it is not seen. -/
def sapBck (r : Root) (n : Nat) (d : Dev) (e : BckEdge) : Dev :=
  let x := d.sapn n
  if e.ec < x.lastEdge ∨ r.ec < e.ec ∨ e.ec < x.injStop then d
  else
    let d0 := if x.lastEdge + sap4T d ≤ e.ec then sapStop r n d else d
    let d1 := if (d0.sapn n).clk = 1 then sapClk r n 0 d0 else d0
    let d2 := d1.setSap n { d1.sapn n with lastEdge := e.ec }
    if sapSamples x.fmt e.rising then sapSample r n e.ec e.fs e.di d2 else d2.setSap n { d2.sapn n with drv := e.ec }

/-- SAP_FRAME: the next edges of the port's clock. -/
def sapFrame (r : Root) (n : Nat) (bck : List BckEdge) (d : Dev) : Dev := bck.foldl (sapBck r n) d

/-! ### Pads, restarts and registers -/

/-- What drives pad MCLKOp: low while ports gate it and none of them wants it (R334). -/
def mclkoPad (r : Root) (d : Dev) (p : Nat) : ClockSrc :=
  let gates := d.sap.filter fun x => x.2.gate && x.2.pad == p
  if gates ≠ [] ∧ ¬ gates.any fun x => decide (2 ≤ x.2.st ∧ x.2.st ≤ 6) then .low else mclkoSource r d p

/-- A port with its clock unseen: no frame, no edge and no bit on DO from before. -/
def SapS.blank (x : SapS) : SapS := { x with cur := none, tail := none, sent := [], dout := [], lastEdge := 0, drv := 0, injStop := 0, phi0 := none, lastK := none }

/-- An EC restart (R329): every port but an idle one is admitted again if its ENA is 1; no edge of before it is known (R1). -/
def sapRestart (r : Root) (d : Dev) : Dev :=
  let d1 := (List.range 32).foldl (fun d n =>
    let x := (d.sapn n).blank
    if x.st = 0 then d.setSap n x else sapIdle r n (d.setSap n { x with readmit := true })) d
  d1.sapgMap fun x => { x with starting := [] }

/-- SAPn.CMD. -/
def sapCmd (n : Nat) (w : Word) (d : Dev) : Dev :=
  if bitOf w 0 then d.setSap n { d.sapn n with underruns := 0, overruns := 0, clkFaults := 0, notReady := 0 } else d

/-- SAPn registers that show live state (15). -/
def sapRead (r : Root) (d : Dev) (n o : Nat) : Word :=
  let x := (sapTurn r n d).sapn n
  match o with
  | 0x058 => wd (x.refuse * 2 ^ 28 + x.clk * 2 ^ 24 + x.cause * 65536 + b2n (x.inG.runs || x.outG.runs) * 64 + x.st)
  | 0x05C => wd (uns (x.outG.now / 128) 16 * 65536 + uns (x.inG.now / 128) 16)
  | 0x060 => wd (uns x.phi 32)
  | 0x064 => wd (x.period * 65536 + x.bclk)
  | 0x068 => wd (x.underruns * 2 ^ 24 + x.overruns * 65536 + x.clkFaults * 256 + x.notReady)
  | 0x06C => wd (uns x.pos 32)
  | _ => d.reg (.sap n) o

/-- SAPG registers. -/
def sapgRead (r : Root) (d0 : Dev) (o : Nat) : Word :=
  let d := sapTurnAll r d0
  let byGroup := fun (p : Nat → Bool) => ((List.range 8).map fun g => b2n (p g) * 2 ^ g).sum
  if o = 0x048 then
    wd (byGroup (fun g => nbit d.sapg.started g && ([0, 1, 3, 4, 5, 6, 7].any fun st => groupMembers d g st != [])) * 256
      + byGroup fun g => groupMembers d g 2 != [])
  else if o = 0x04C then wd (((List.range 32).map fun n => b2n ((d.sapn n).st == 4) * 2 ^ n).sum)
  else if 0x080 ≤ o then wd (nget d.sapg.period ((o - 0x080) / 4))
  else 0

/-! ### Meanings -/

/-- SAP_FRAME. With its bank down (VIO_A for ports 0 to 15, VIO_B above) a port sees no edge (R396). -/
def execSapFrame (n : Fin 32) (before : List BckEdge) (ec : Nat) (rising fs di : Bool) (s : State) : Host.Outcome State Fault Refusal :=
  onRun (fun r d => if bankDown d (n.val / 16) then d
    else sapFrame r n (before ++ [⟨ec, rising, fs, di⟩]) (pageUse r (.sap n) [0x040, 0x044, 0x048, 0x04C, 0x050] (pageUse r .ref [0x040, 0x0B8, 0x198] d))) s

/-- SAP_CLOCK_STOP. -/
def execSapClockStop (n : Fin 32) (s : State) : Host.Outcome State Fault Refusal := onRun (fun r d => sapClockStop r n d) s

/-- SAP_RUN_START. -/
def execSapRunStart (n : Fin 32) (s : State) : Host.Outcome State Fault Refusal := onRun (fun r d => sapRunStart r n (pageUse r (.sap n) [0x044, 0x050] d)) s

/-- SAP_STOP_FADE_DONE. -/
def execSapStopFadeDone (n : Fin 32) (s : State) : Host.Outcome State Fault Refusal := onRun (fun r d => sapFadeDone r n (pageUse r (.sap n) [0x050] d)) s

/-- SAP_POSTROLL_END. -/
def execSapPostrollEnd (n : Fin 32) (s : State) : Host.Outcome State Fault Refusal := onRun (fun r d => sapRollEnd r n (pageUse r (.sap n) [0x044] d)) s

end Sys2Proof.Machine
end

