-- ==== Sys2Proof/Machine/Txe.lean ====
section
/-! DEFINITION. Transmit streams and the flight scheduler (12, R260 to R282), and the reservation they count against (R256, R278, R279). -/

namespace Sys2Proof.Machine

/-- A transmit stream. -/
def Dev.txn (d : Dev) (s : Nat) : TxS := sget (fun _ => {}) d.tx s

/-- Set it. -/
def Dev.setTx (d : Dev) (s : Nat) (x : TxS) : Dev := { d with tx := sset (fun _ => {}) d.tx s x }

/-- Change the page's own state. -/
def Dev.txeMap (d : Dev) (f : TxeSt → TxeSt) : Dev := { d with txe := f d.txe }

/-! ### The entry (R267) -/

/-- Bits of word `i` of the entry in force. -/
def TxS.af (x : TxS) (i hi lo : Nat) : Nat := fld (x.adm.getD i 0) hi lo
/-- FORMAT. -/
def TxS.fmt (x : TxS) : Nat := x.af 0 30 28
/-- Channels. -/
def TxS.n (x : TxS) : Nat := x.af 0 21 16 + 1
/-- Samples per packet. -/
def TxS.spp (x : TxS) : Nat := x.af 0 15 6
/-- FIRST_CH. -/
def TxS.first (x : TxS) : Nat := x.af 1 31 16
/-- The ports named. -/
def TxS.ports (x : TxS) : List Nat := portsOf (x.af 0 27 26)
/-- IPv6; ignored for AAF. -/
def TxS.v6 (x : TxS) : Bool := x.af 0 25 25 == 1 && !fmtAaf x.fmt
/-- VLAN. -/
def TxS.vlan (x : TxS) : Bool := x.af 0 24 24 == 1
/-- AUTO. -/
def TxS.auto (x : TxS) : Bool := x.af 0 23 23 == 1
/-- RUNNING or DRAINING. -/
def TxS.carries (x : TxS) : Bool := x.st == 2 || x.st == 3

/-- The words of an entry, as committed. -/
def txWords (d : Dev) (s : Nat) : List Word := (List.range 12).map fun i => d.tw .txs s i

/-- The structural fields of an entry's words. -/
def txKey (w : List Word) : Nat × Nat := (fld (w.getD 0 0) 30 23 * 65536 + fld (w.getD 0 0) 21 6, fld (w.getD 1 0) 31 16)

/-- Header bytes H, FCS included (R264). -/
def TxS.hdr (x : TxS) : Nat :=
  (if fmtAaf x.fmt then 46 else (if fmtSf x.fmt then 74 else 62) + (if x.v6 then 24 else 0)) - (if x.vlan then 0 else 4)

/-- Bytes of the samples of a frame. -/
def TxS.dataLen (x : TxS) : Nat := x.n * x.spp * fmtBytes x.fmt

/-- Frame length, FCS included (R264). -/
def TxS.frameLen (x : TxS) : Nat := max 64 (x.hdr + x.dataLen)

/-- Byte of the frame at which channel `i` of position `q` starts (R271). -/
def TxS.byteAt (x : TxS) (q i : Nat) : Nat := x.hdr - 4 + (q * x.n + i) * fmtBytes x.fmt

/-- MARGIN in EC units. -/
def TxS.margin (x : TxS) : Nat := (let m := x.af 4 31 24; if m = 0 then 50 else m) * 4 * nsUnits

/-- The next frame of port `p`. -/
def TxS.nextOf (x : TxS) (p : Nat) : Int := sget (fun _ => x.f0) x.next p

/-- The stream as frame `f` has it: a frame once built keeps its entry and phases (R276, R281). -/
def TxS.asOf (x : TxS) (f : Int) : TxS :=
  match x.built.find? fun b => b.f == f with
  | some b => { x with adm := b.adm, phase := b.phase }
  | none => x

/-- The frame after the last built on any port. -/
def TxS.newest (x : TxS) : Int := (x.ports.map x.nextOf).foldl max x.f0

/-- Phase used on port `p` (R272). -/
def TxS.phaseOf (x : TxS) (p : Nat) : Int := if x.auto then sget (fun _ => (0 : Int)) x.phase p else sgn (x.adm.getD 2 0).toNat 32

/-! ### Ready times and the required phase (R270 to R272) -/

/-- Y(i, k) − B(k) of a source channel in EC units; none where its SAP or its receive stream does not run. -/
def readyOfs (d : Dev) (c : Nat) : Option Rat :=
  if c < 0x1000 then
    (d.rx.find? fun p => p.2.st == 2 && decide (p.2.first ≤ c ∧ c < p.2.first + p.2.n)).map fun p =>
      ((((p.2.ports.map (rxPipe d)).foldl max 0 + 120) * nsUnits : Nat) : Rat)
  else if c < 0x2800 then
    let n := (c - 0x2000) / 32
    let x := d.sapn n
    let last := slotIndex x.fmt x.len x.slots (c % 32) + sapWidth x.fmt
    if x.st = 4 then some ((x.phi : Rat) + ((last * 256000000000 : Nat) : Rat) / ((fsNow d * max 1 x.len : Nat) : Rat) + ((160 * nsUnits : Nat) : Rat))
    else none
  else some ((120 * nsUnits : Nat) : Rat)

/-- The sources evaluated into a destination channel. -/
def feeds (d : Dev) (c : Nat) : List Nat := (summed d c).map (·.src)

/-- The required phase on a port from the sources that run, none where no channel sets a requirement; and whether some channel had no running source
(R267, R272). -/
def requiredPhase (d : Dev) (x : TxS) (p : Nat) : Option Rat × Bool :=
  let t : Rat := (256000000000 : Rat) / (fsNow d : Rat)
  (List.range x.n).foldl (fun (a : Option Rat × Bool) i =>
    let cs := feeds d (x.first + i)
    let ys := cs.filterMap (readyOfs d)
    (ys.foldl (fun (a : Option Rat) y =>
      let at' := fun (q : Nat) => y - ((x.spp - q : Nat) : Rat) * t + ((x.margin + txPipe d p * nsUnits : Nat) : Rat) - byteTime d p (x.byteAt q i + 1)
      (List.range x.spp).foldl (fun (m : Option Rat) q => match m with | none => some (at' q) | some v => some (max v (at' q))) a) a.1,
      a.2 || (cs != [] && ys.isEmpty))) (none, false)

/-- AUTO phases of a stream's ports from ready times as they are (R272); with no requirement the phase is a free value. -/
def autoPhases (s : Nat) (ps : List Nat) (d : Dev) : Dev :=
  ps.foldl (fun d p =>
    let x := d.txn s
    let q := requiredPhase d x p
    let part := nset x.part p q.2
    match q.1 with
    | some v => d.setTx s { x with phase := sput p (v - 2048 / 5).floor x.phase, part := part }
    | none => d.drew.setTx s { x with phase := sput p (sgn d.free 32) x.phase, part := part }) d

/-- The schedule of a stream has moved in the present cycle: a frame whose launch lies behind by that, its window still open, starts now. -/
def txMoved (r : Root) (s : Nat) (d : Dev) : Dev := d.setTx s { d.txn s with moved := r.ec }

/-- Recompute the phases of a stream with AUTO set. -/
def txRetime (r : Root) (s : Nat) (d : Dev) : Dev :=
  let x := d.txn s
  if x.carries && x.auto then txMoved r s (autoPhases s x.ports d) else d

/-- Port `p` changed speed: AUTO phases on it are computed anew (R272). -/
def txSpeed (r : Root) (p : Nat) (d : Dev) : Dev :=
  d.tx.foldl (fun d q => if q.2.carries && q.2.auto && q.2.ports.contains p then txMoved r q.1 (autoPhases q.1 [p] d) else d) d

/-! ### Budgets (R256, R278, R279) -/

/-- Wire rate of a stream on one port, bit/s. -/
def TxS.wire (d : Dev) (x : TxS) : Rat := (((x.frameLen + 20) * 8 * fsNow d : Nat) : Rat) / ((max 1 x.spp : Nat) : Rat)

/-- Admitted audio wire rate on a port, bit/s. -/
def admittedRate (d : Dev) (p : Nat) : Rat := ((d.tx.filter fun q => q.2.carries && q.2.ports.contains p).map fun q => q.2.wire d).foldl (· + ·) 0

/-- Reservation of a port, bit/s: RES % of the line rate of R279. -/
def reservation (d : Dev) (p : Nat) : Rat :=
  let mbps := if d.rf (.net p) 0x040 2 1 = 3 ∧ !(d.netp p).hadLink then 0 else flightMbps d p
  ((mbps * 10000 * min 90 (d.rf .shp (shpOfs p 0) 7 0) : Nat) : Rat)

/-- Frames per second of a stream on all its ports. -/
def TxS.frames (d : Dev) (x : TxS) : Rat := ((fsNow d * x.ports.length : Nat) : Rat) / ((max 1 x.spp : Nat) : Rat)

/-- SHP.FRAMES, exact. -/
def txFrames (d : Dev) : Rat := ((d.tx.filter fun p => p.2.carries).map fun p => p.2.frames d).foldl (· + ·) 0

/-- TXE.SAMPLES. -/
def txSamples (d : Dev) : Nat := ((d.tx.filter fun p => p.2.carries).map fun p => p.2.n * fsNow d).sum

/-- Channels that the admitted streams carry (R29); one that two streams carry counts twice (DESIGN CHOICE, log entry 32). -/
def txChans (d : Dev) : Nat := ((d.tx.filter fun p => p.2.carries).map fun p => p.2.n).sum

/-- OVERCOMMIT of a port (R256): it clears when ADMITTED fits, and is set, with its event each time, at a speed change that leaves ADMITTED above. -/
def overcommit (r : Root) (p : Nat) (speed : Bool) (d : Dev) : Dev :=
  let x := d.netp p
  if admittedRate d p ≤ reservation d p then (if x.overcommit then d.setNetp p { x with overcommit := false } else d)
  else if speed then raise r 89 (d.setNetp p { x with overcommit := true })
  else d

/-! ### Admission and states (R278, R280) -/

/-- ATTN of a stream. -/
def txAttn (r : Root) (s : Nat) (d : Dev) : Dev := d.txeMap fun x => { x with attn := bput x.attn s true, attnCyc := nput x.attnCyc s (r.cyc + 1) }

/-- The ports of a stream whose phase leaves out a channel with no running source (R272). -/
def partPorts (d : Dev) (x : TxS) : Nat := x.ports.foldl (fun m p => nset m p (requiredPhase d x p).2) 0

/-- An admission starts with the entry as committed. -/
def txStart (r : Root) (g s : Nat) (d : Dev) : Dev :=
  enqueueAdmit r g (consTx s) (d.setTx s { d.txn s with st := 1, adm := txWords d s, g := g, readmit := false, quit := false })

/-- To IDLE: treads to zeroing, budgets released; with a readmission due the stream is admitted afresh. -/
def txIdle (r : Root) (s : Nat) (d : Dev) : Dev :=
  let x := d.txn s
  let d1 := raise r 304 ((giveUp r (consTx s) d).setTx s { x with st := 0, readmit := false, built := [], prev := [] })
  let d2 := overcommit r 1 false (overcommit r 0 false d1)
  if x.readmit && d.tf .txs s 0 31 31 == 1 then txStart r x.g s d2 else d2

/-- NETn.CTRL.MAX_LEN as it acts. -/
def maxLen (d : Dev) (p : Nat) : Nat := max 64 (min 9216 (d.rf (.net p) 0x040 29 16))

/-- The Landing request of a stream (R278). -/
def txReq (r : Root) (d : Dev) (x : TxS) : LndReq :=
  { treads := cdiv (2 * x.spp * x.n * 4) 512, formed := true, owned := (List.range x.n).all fun i => chanOwner r d (x.first + i) == some x.g,
    align := none }

/-- Whether PHASE with AUTO clear lies earlier than the required phase of a named port. -/
def tooEarly (d : Dev) (x : TxS) : Bool :=
  !x.auto && x.ports.any fun p => match (requiredPhase d x p).1 with | some v => decide (((x.phaseOf p : Int) : Rat) < v) | none => false

/-- REASON of an admission; 0 passes (R278). -/
def txReason (r : Root) (d : Dev) (x : TxS) : Nat :=
  let wide := fun p => x.ports.contains p && decide (reservation d p < admittedRate d p + x.wire d)
  if !(fmtOk (fsNow d) x.fmt x.n x.spp && x.ports != [] && decide (0x1000 ≤ x.first ∧ x.first + x.n - 1 ≤ 0x1FFF)
      && x.ports.all fun p => decide (x.frameLen ≤ maxLen d p)) then 1
  else if tooEarly d x then 2
  else if wide 0 then 3
  else if wide 1 then 4
  else if 12000000 < txFrames d + x.frames d then 5
  else if 196608000 < txSamples d + x.n * fsNow d ∨ chanCap (fsNow d) < txChans d + x.n then 6
  else if lndCheck d x.g (txReq r d x) ≠ 0 then 7 else 0

/-- First frame whose first sample period begins after the period in progress (R280). -/
def firstFrame (r : Root) (d : Dev) (spp : Nat) : Int := -((-(periodNow r d + 1)) / (max 1 spp : Nat))

/-- A refusal; after TOO_EARLY words 13 and 14 show the required phases, rounded up (R272). -/
def txRefuse (r : Root) (s why : Nat) (d : Dev) : Dev :=
  let x := d.txn s
  let y : TxS := if why = 2 then
      { x with phase := (x.ports.map fun p => (p, match (requiredPhase d x p).1 with | some v => v.ceil | none => 0)),
               part := partPorts d x }
    else x
  let d1 := (d.setTx s { y with st := 4, reason := why }).txeMap fun e => { e with lastS := s, lastG := x.g, lastR := why }
  let q := txReq r d x
  raise r 304 (txAttn r s (if why = 7 then lndRefuse r x.g (consTx s) (lndCheck d x.g q) d1 else d1))

/-- The end of a stream's admission. -/
def txAdmitted (r : Root) (s : Nat) (d : Dev) : Dev :=
  let x := d.txn s
  let why := txReason r d x
  if why ≠ 0 then txRefuse r s why d
  else
    let y : TxS := { st := 2, adm := x.adm, g := x.g, f0 := firstFrame r d x.spp, part := partPorts d x, moved := r.ec }
    let d1 := txRetime r s ((lndCommit r x.g (consTx s) (txReq r d x) d).setTx s y)
    if d.tf .txs s 0 31 31 = 1 ∧ !x.quit then raise r 304 d1 else txIdle r s d1

/-- No frame since the admission has been built or left behind: SEQ_INIT is still to be used (R268). -/
def TxS.unsent (x : TxS) : Bool := x.st == 1 || (decide (x.newest = x.f0) && x.built.isEmpty)

/-- The entry in force takes the live fields of a commit with the same structural fields; SEQ_INIT counts for the first frame after the admission, and stays
once that is built (R268, R281). -/
def txLive (r : Root) (d : Dev) (s : Nat) (x : TxS) : TxS :=
  let w := txWords d s
  let v := if x.unsent then w else w.take 1 ++ wd (fld (w.getD 1 0) 31 16 * 65536 + x.af 1 15 0) :: w.drop 2
  if txKey w = txKey x.adm then { x with adm := v, moved := if x.adm.getD 2 0 = v.getD 2 0 then x.moved else r.ec } else x

/-- A commit of entry `s` by gallery `g` (R280, R281). -/
def txHook (r : Root) (g s : Nat) (d : Dev) : Dev :=
  let ena := d.tf .txs s 0 31 31 == 1
  let x0 := d.txn s
  let same := txKey (txWords d s) == txKey x0.adm
  let x := if x0.carries || x0.st == 1 then txLive r d s x0 else x0
  let k := x.newest * (x.spp : Int)
  match x.st, ena with
  | 0, true | 4, true => txStart r g s d
  | 2, false => d.setTx s { x with st := 3, fade := x.fade.down k (x.af 4 15 0) }
  | 2, true => d.setTx s (if same then x else { x with st := 3, readmit := true, g := g, fade := x.fade.down k 0 })
  | 3, true => d.setTx s (if same then { x with st := 2, readmit := false, fade := x.fade.up k } else { x with readmit := true, g := g })
  | 3, false => d.setTx s { x with readmit := false }
  | 1, _ => d.setTx s { x with quit := x.quit || !ena }
  | _, _ => d

/-- In DRAINING the frame that holds the first sample at gain 0 is behind on port `p`: no frame follows it (R281). -/
def TxS.faded (x : TxS) (p : Nat) : Bool :=
  let k := x.nextOf p * (x.spp : Int) - 1
  x.st == 3 && decide (x.fade.k ≤ k) && decide (x.fade.at k = 0)

/-- TX_DRAIN_COMPLETE (R280, R281): on every port that frame is behind, and the last one sent is off the wire. -/
def txDrained (r : Root) (s : Nat) (d : Dev) : Dev :=
  let x := d.txn s
  if x.st = 3 ∧ x.ports.all x.faded ∧ x.offWire ≤ r.ec then txIdle r s (txAttn r s d) else d

/-- An EC restart (R280). -/
def txRestart (r : Root) (d : Dev) : Dev :=
  d.tx.foldl (fun a p => if p.2.st = 0 then a else txIdle r p.1 (a.setTx p.1 { a.txn p.1 with readmit := true })) d

/-! ### The schedule (R268, R269, R275) -/

/-- L(f) of a stream on a port. -/
def launchAt (d : Dev) (x : TxS) (p : Nat) (f : Int) : Int := bNow d ((f + 1) * x.spp) + (x.asOf f).phaseOf p

/-- Whether AT value `t` lies before the close L(f) + SPP ÷ fs of the window of frame `f`, to the unit of EC (R11, R275). -/
def beforeClose (d : Dev) (x : TxS) (p : Nat) (f t : Int) : Bool :=
  decide (t < launchAt d x p f + rdiv (secUnits * (x.spp : Int)) (fsNow d))

/-- 1.6 ns in EC units, up. -/
def halfNetClk : Int := 410

/-- TIME_GATE holds a stream's frames back (R277). -/
def timeGated (d : Dev) (x : TxS) : Bool := x.af 0 22 22 == 1 && decide (d.tb.timeState ≤ 1)

/-- Whether the frame that is next on port `p` can start at EC `start`, other streams apart (R269, R274, R275, R277): within 1.6 ns of its launch; at the first
NET_CLK edge after the frames that have held the line since; or, its launch left behind by a move of the schedule, at the first edge after that. A
start of another era is in no window (R12). -/
def startable (d : Dev) (p : Nat) (x : TxS) (start : Nat) : Bool :=
  let f := x.nextOf p
  let l := launchAt d x p f
  let t := d.tb.at'.val start
  let edge := fun (e : Nat) => decide (l < d.tb.at'.val e ∧ e ≤ start ∧ start ≤ e + 820)
  let busy := (d.netp p).busyTo
  decide (d.tb.eraEC ≤ start) && !timeGated d x && decide (l - halfNetClk ≤ t) && beforeClose d x p f t && decide (busy ≤ start)
  && (decide (t ≤ l + halfNetClk) || edge busy || edge x.moved)

/-- A stream whose frame can start on the port now, with an earlier launch than that of stream `s` at `l` or the same and a lower number (R274). -/
def otherFirst (d : Dev) (p s start : Nat) (l : Int) : Bool :=
  d.tx.any fun q =>
    let y := q.2
    let lo := launchAt d y p (y.nextOf p)
    q.1 != s && y.carries && y.ports.contains p && !y.faded p && decide (lo < l ∨ (lo = l ∧ q.1 < s)) && startable d p y start

/-- Whether the frame of stream `s` can start on port `p` at EC `start` (R269, R274, R275). -/
def mayLaunch (d : Dev) (p s start : Nat) : Bool :=
  let x := d.txn s
  startable d p x start && !otherFirst d p s start (launchAt d x p (x.nextOf p))

/-! ### The frame (R261 to R266) -/

/-- Offset of a register of source-address entry `x` of TXE. -/
def srcOfs (x o : Nat) : Nat := 0x400 + 0x80 * x + o

/-- Octets of `n` address registers from an offset on. -/
def addrBytes (d : Dev) (o n : Nat) : List Byte := (List.range n).flatMap fun i => beBytes 4 (d.reg .txe (o + 4 * i)).toNat

/-- Octets of the destination address of a stream's copy on port `p`. -/
def dstBytes (d : Dev) (x : TxS) (p : Nat) : List Byte :=
  let last := beBytes 4 (x.adm.getD (10 + p) 0).toNat
  if x.v6 then addrBytes d (srcOfs (x.af 9 2 0) (0x30 + 0x10 * p)) 3 ++ last else last

/-- Destination MAC address (R262). -/
def dstMac (d : Dev) (x : TxS) (p : Nat) : List Byte :=
  let a := dstBytes d x p
  let o := (a.getD 0 0).toNat
  if fmtAaf x.fmt then beBytes 2 (x.af 7 31 16) ++ beBytes 4 (x.adm.getD 6 0).toNat
  else if x.v6 then (if o = 255 then [0x33, 0x33] ++ a.drop 12 else beBytes 2 (x.af 7 31 16) ++ beBytes 4 (x.adm.getD 6 0).toNat)
  else if 224 ≤ o ∧ o < 240 then [0x01, 0x00, 0x5E] ++ beBytes 3 (beNat a % 2 ^ 23)
  else beBytes 2 (x.af 7 31 16) ++ beBytes 4 (x.adm.getD 6 0).toNat

/-- Sequence number of frame `f` (R268). -/
def seqOf (x : TxS) (f : Int) : Nat := uns (x.af 1 15 0 + (f - x.f0)) 16

/-- RTP header with the short-flight extension (R262, R266). -/
def rtpHeader (d : Dev) (x : TxS) (p s : Nat) (f : Int) : List Byte :=
  let sf := fmtSf x.fmt
  let ext := 0x10000000 + x.spp * 2 ^ 25 + b2n (x.fmt == 7) * 2 ^ 24 + b2n (x.ports.length == 2) * 2 ^ 23 + p * 2 ^ 22 + (x.n - 1) * 65536 + s
  List.flatten [beBytes 1 (128 + b2n x.v6 * 32 + b2n sf * 16), beBytes 1 (x.af 4 22 16), beBytes 2 (seqOf x f),
    beBytes 4 (uns (f * x.spp + (x.adm.getD 3 0).toNat) 32), beBytes 4 (x.adm.getD 5 0).toNat,
    if sf then List.flatten [beBytes 2 0x0F17, beBytes 2 2, beBytes 4 ext, beBytes 4 (st32 (launchAt d x p f))] else []]

/-- AVTP header (R265). -/
def avtpHeader (r : Root) (d : Dev) (x : TxS) (p : Nat) (f : Int) : List Byte :=
  let ff := aafFormat x.fmt
  List.flatten [[0x02, 0x81], beBytes 1 (seqOf x f % 256), [0], macAddr r d p, beBytes 2 (x.af 8 15 0),
    beBytes 4 (st32 (bNow d (f * x.spp)) + (x.adm.getD 3 0).toNat), beBytes 1 ff.1, beBytes 2 (aafNsr d.rte.fs * 4096 + x.n), beBytes 1 ff.2,
    beBytes 2 x.dataLen, [0, 0]]

/-- UDP over IPv6 (R263): the checksum that left is `ck`, and the trailer's first bytes make it right. -/
def udp6 (src dst : List Byte) (x : TxS) (ck : Nat) (body : List Byte) : List Byte :=
  let len := 12 + body.length
  let udp := List.flatten [beBytes 2 (x.af 8 15 0), beBytes 2 (x.af 8 31 16), beBytes 2 len, beBytes 2 ck, body]
  let v := 65535 - sum16 (List.flatten [src, dst, beBytes 4 len, beBytes 4 17, udp, [0, 0, 0, 4]])
  udp ++ (if body.length % 2 = 0 then beBytes 2 v ++ [0, 4] else leBytes 2 v ++ [0, 4])

/-- Bytes of a frame from its destination address on, without FCS. A UDP checksum over IPv6 that leaves before the payload is known is a
free value, never 0. -/
def txBytes (r : Root) (p s : Nat) (f : Int) (pay : List Byte) (d : Dev) : List Byte × Dev :=
  let x := (d.txn s).asOf f
  let e := srcOfs (x.af 9 2 0)
  let tag := if x.vlan then some (x.af 7 15 13 * 8192 + x.af 7 11 0) else none
  let eth := ethHeader (dstMac d x p) (macAddr r d p) tag
  if fmtAaf x.fmt then (padFrame (List.flatten [eth 0x22F0, avtpHeader r d x p f, pay]), d)
  else
    let body := rtpHeader d x p s f ++ pay
    if x.v6 then
      let src := addrBytes d (e (0x10 + 0x10 * p)) 4
      let dst := dstBytes d x p
      let u := udp6 src dst x (d.free % 65535 + 1) body
      (padFrame (List.flatten [eth 0x86DD, ip6Header (x.af 9 31 26) (x.af 9 23 16) u.length src dst, u]), d.drew)
    else
      let len := 28 + body.length
      let udp := List.flatten [beBytes 2 (x.af 8 15 0), beBytes 2 (x.af 8 31 16), beBytes 2 (8 + body.length), [0, 0]]
      (padFrame (List.flatten [eth 0x0800, ip4Header (x.af 9 31 26) (x.af 9 23 16) len (d.reg .txe (e (4 * p))).toNat (beNat (dstBytes d x p)), udp, body]), d)

/-! ### The fill (R270, R273) -/

/-- The sample of channel `i`, position `q`, as the fill reads it: its word before the fade, and whether it was ready. -/
def fillSample (r : Root) (p s start : Nat) (f : Int) (q i : Nat) (d : Dev) : (Word × Bool) × Dev :=
  let x := d.txn s
  let k := f * x.spp + q
  let mine := i == 0 && d.rf .txe 0x058 9 0 == s
  let inj := mine && injects .txe 0 d
  let d0 := if mine then opportunity r .txe 0 d else d
  let fill : Int := (start : Int) + (byteTime d p (x.byteAt q i + 1)).floor - (txPipe d p * nsUnits : Nat)
  let ready := (destSample d0 (x.first + i) k).filter fun z => !inj && (match z.2 with | some y => decide (y ≤ d.tb.at'.val fill) | none => true)
  match ready with
  | some z => let w := sampleRead r (consTx s) z.1 d0; ((w.1, true), w.2)
  | none => ((withV (x.prev.getD i 0), false), d0)

/-- The samples of position `q`: bytes sent, and how many were not ready. -/
def fillRow (r : Root) (p s start : Nat) (f : Int) (q : Nat) (d : Dev) : (List Byte × Nat) × Dev :=
  let x := d.txn s
  let res := (List.range x.n).foldl (fun (a : (List Word × Nat) × Dev) i =>
    let w := fillSample r p s start f q i a.2
    ((a.1.1 ++ [w.1.1], a.1.2 + b2n !w.1.2), w.2)) (([], 0), d)
  let g := x.fade.at (f * x.spp + q)
  ((res.1.1.zipIdx.flatMap fun w => sampleBytes x.fmt w.2 (fadeWord g w.1), res.1.2), res.2.setTx s { res.2.txn s with prev := res.1.1 })

/-- The payload of frame `f`: filled for its first copy, the same for its second (R276); samples not ready are counted (R273). -/
def fillFrame (r : Root) (p s start : Nat) (f : Int) (d : Dev) : List Byte × Dev :=
  let x := d.txn s
  match x.built.find? fun b => b.f == f with
  | some b => (b.pay, d)
  | none =>
    let res := (List.range x.spp).foldl (fun (a : (List Byte × Nat) × Dev) q =>
      let w := fillRow r p s start f q a.2
      ((a.1.1 ++ w.1.1, a.1.2 + w.1.2), w.2)) (([], 0), d)
    let n := res.1.2
    let y := res.2.txn s
    let d1 := res.2.setTx s { y with built := y.built ++ [{ f := f, pay := res.1.1, adm := y.adm, phase := y.phase }], notReady := min 0xFFFF (y.notReady + n) }
    (res.1.1, if n = 0 then d1 else raise r 305 (txAttn r s (d1.txeMap fun e => { e with notReady := (e.notReady + n) % 2 ^ 32 })))

/-! ### Launches and skips -/

/-- The next frame of port `p` is behind; a frame behind on every port is done with. -/
def txAdvance (p s : Nat) (d : Dev) : Dev :=
  let x := d.txn s
  let y : TxS := { x with next := sput p (x.nextOf p + 1) x.next }
  d.setTx s { y with built := y.built.filter fun b => y.ports.any fun q => decide (y.nextOf q ≤ b.f) }

/-- A copy due on a port whose link is down (R276). -/
def txLinkSkip (r : Root) (p s : Nat) (d : Dev) : Dev :=
  raise r 307 ((txAdvance p s d).txeMap fun e => { e with linkSkip := nput e.linkSkip p (satInc (nget e.linkSkip p) 0xFFFF) })

/-- A frame skipped under R275 or R277. -/
def txSkipped (r : Root) (p s : Nat) (d : Dev) : Dev :=
  let d1 := txAdvance p s d
  let x := d1.txn s
  raise r 306 (txAttn r s ((d1.setTx s { x with skipped := satInc x.skipped 0xFFFF }).txeMap fun e => { e with skipped := (e.skipped + 1) % 2 ^ 32 }))

/-- Whether stream `s` has a frame due on port `p` by AT value `t`. -/
def txDue (d : Dev) (p s : Nat) (t : Int) : Bool :=
  let x := d.txn s
  x.carries && x.ports.contains p && !x.faded p && decide (launchAt d x p (x.nextOf p) - halfNetClk ≤ t)

/-- TX_FRAME_LAUNCH (R269 to R276): the frame that started at EC `start` has left the port. -/
def txLaunch (r : Root) (p s start : Nat) (d : Dev) : Dev :=
  let x := d.txn s
  let f := x.nextOf p
  if !txDue d p s (d.tb.at'.val start) || decide (r.ec < start) then d
  else if !portUp d p then txLinkSkip r p s d
  else if !mayLaunch d p s start then d
  else
    let l := launchAt d x p f
    let a := fillFrame r p s start f d
    let b := txBytes r p s f a.1 a.2
    let d1 := netSent r p b.1 true x.frameLen (txAdvance p s b.2)
    let y := d1.netp p
    let z := d1.txn s
    (d1.setTx s { z with offWire := max z.offWire (start + (byteTime d p (x.frameLen + 1)).ceil.toNat) }).setNetp p
      { y with busyTo := start + (byteTime d p (x.frameLen + 20)).ceil.toNat, awaitTx := y.awaitTx ++ [.audio s l] }

/-- TX_FRAME_SKIP (R275 to R277). -/
def txSkip (r : Root) (p s : Nat) (d : Dev) : Dev :=
  let x := d.txn s
  let t := d.atNow r
  if !txDue d p s t then d
  else if !portUp d p then txLinkSkip r p s d
  else if timeGated d x || !beforeClose d x p (x.nextOf p) t then txSkipped r p s d
  else d

/-! ### Registers -/

/-- TXE.CMD by gallery `g`: streams of other owners are left alone. -/
def txeCmd (r : Root) (g : Nat) (w : Word) (d : Dev) : Dev :=
  let s := fld w 9 0
  if owner r d .txStream (s / 16) ≠ g then d
  else
    let d1 := if bitOf w 30 then d.setTx s { d.txn s with notReady := 0, skipped := 0 } else d
    if bitOf w 31 then txRetime r s d1 else d1

/-- Status word `i`, 12 to 15, of entry `s` (R267). -/
def txStatus (d : Dev) (s i : Nat) : Word :=
  let x := d.txn s
  let phase := fun p => wd (uns (if x.carries && x.ports.contains p then x.phaseOf p else sget (fun _ => (0 : Int)) x.phase p) 32)
  match i with
  | 12 => wd (x.st * 2 ^ 29 + b2n (x.part != 0) * 2 ^ 28 + x.reason * 2 ^ 24 + (if x.adm = [] then 0 else seqOf x x.newest))
  | 13 => phase 0
  | 14 => phase 1
  | _ => wd (x.notReady * 65536 + x.skipped)

/-- TXE registers (12). -/
def txeRead (d : Dev) (o : Nat) : Word :=
  let cnt := fun st => (d.tx.filter fun p => p.2.st == st).length
  match o with
  | 0x040 => wd (cnt 2 * 65536 + cnt 3)
  | 0x044 => wd (txSamples d)
  | 0x04C => wd (d.txe.lastS * 65536 + d.txe.lastG * 4096 + d.txe.lastR)
  | 0x050 => wd d.txe.notReady
  | 0x054 => wd d.txe.skipped
  | 0x05C => wd (nget d.txe.linkSkip 1 * 65536 + nget d.txe.linkSkip 0)
  | _ => if 0x100 ≤ o ∧ o < 0x180 then wd (((List.range 32).map fun i => b2n (bget d.txe.attn (32 * ((o - 0x100) / 4) + i)) * 2 ^ i).sum)
         else d.reg .txe o

/-! ### Meanings -/

/-- The registers that a frame is made of: INJ_STREAM and the source-address table. -/
def txWordsUsed : List Nat := 0x058 :: (List.range 256).map fun i => 0x400 + 4 * i

/-- TX_FRAME_LAUNCH. -/
def execTxFrameLaunch (p : Port) (sn : Fin 1024) (start : Nat) (s : State) : Host.Outcome State Fault Refusal :=
  onRun (fun r d => txLaunch r p sn start (entryUse r .txs sn (pageUse r .txe txWordsUsed d))) s

/-- TX_FRAME_SKIP. -/
def execTxFrameSkip (p : Port) (sn : Fin 1024) (s : State) : Host.Outcome State Fault Refusal := onRun (fun r d => txSkip r p sn d) s

/-- TX_DRAIN_COMPLETE. -/
def execTxDrainComplete (sn : Fin 1024) (s : State) : Host.Outcome State Fault Refusal := onRun (fun r d => txDrained r sn d) s

end Sys2Proof.Machine
end

