-- ==== Sys2Proof/Machine/NetTx.lean ====
section
/-! DEFINITION. Gallery and PTP frames on their way out (11, R248 to R256): OUT corridors, queues, gates, credit, the balustrade, preemption,
and the links. -/

namespace Sys2Proof.Machine

/-! ### OUT corridors (R232, R248) -/

/-- The record at the head of an OUT corridor. -/
def Dev.head (d : Dev) (c : Nat) : Option OutHead := sget (fun _ => none) d.net.head c

/-- Set it. -/
def Dev.setHead (d : Dev) (c : Nat) (x : Option OutHead) : Dev := d.netMap fun n => { n with head := sset (fun _ => none) n.head c x }

/-- CLS.VIFv_CFG. -/
def vifCfg (d : Dev) (v : Nat) : Word := d.reg .cls (0x100 + 4 * v)

/-- The interface that consumes a corridor: the lowest enabled one that names it (R248). -/
def vifOf (d : Dev) (c : Nat) : Option Nat := (List.range 8).find? fun v => bitOf (vifCfg d v) 31 && fld (vifCfg d v) 7 0 == c

/-- RD and REL pass a record, with the owner's notification (R232, R233). -/
def corPass (r : Root) (c n : Nat) (d : Dev) : Dev :=
  let x := d.cor c
  let v := (x.rd + n) % 2 ^ 32
  let g := owner r d .corridor c
  raiseIf (bitOf x.cfg 29 && decide (g < 6)) r (42 + g) (d.setCor c { x with rd := v, rel := v, mark := v })

/-- The cause to discard an eligible head record for: 1 ECC, 2 LENGTH, 3 PORT, none 0. -/
def headCause (d : Dev) (h : OutHead) : Nat :=
  let n := h.frame.length
  if h.ecc then 1
  else if n < 14 ∨ (portsOf h.ports).any (fun p => decide (maxLen d p < n + 4)) then 2
  else if (portsOf h.ports).any (fun p => !nbit (fld (vifCfg d h.vif) 29 28) p) then 3
  else 0

/-! ### Credit (R253) -/

/-- Queue of a frame on a port. -/
def queueOf (d : Dev) (p : Nat) (l : List Byte) : Nat :=
  match (parseEth l).tag with
  | some t => shp d p 0x08 (3 * (t / 8192) + 2) (3 * (t / 8192))
  | none => shp d p 0x08 26 24

/-- The final fragment of the frame of corridor `c` is on the line of the port, so that the frame no longer waits. -/
def leaving (d : Dev) (p c : Nat) : Bool := match (d.netp p).cur with | some t => t.cor == c && t.data == t.left | none => false

/-- Head frames waiting for a port: corridor and record, eligible and not discarded. -/
def waiting (r : Root) (d : Dev) (p : Nat) : List (Nat × OutHead) :=
  d.net.head.filterMap fun q => match q.2 with
    | some h => if !h.held && decide (h.elig ≤ r.ec) && nbit h.ports p && headCause d h == 0 && (d.cor q.1).st == .active && !leaving d p q.1 then some (q.1, h)
      else none
    | none => none

/-- idleSlope of a queue in kb/s, at most the line rate. -/
def idleSlope (d : Dev) (p q : Nat) : Nat := min (shp d p (0x40 + 4 * q) 23 0) (portMbps d p * 1000)

/-- Credit of the queues is brought up to the present EC, the gates and the waiting frames having been as they are since it was last: it grows while a
frame waits, and up to 0 when none does; a closed gate holds it. A frame waits from the EC at which it became eligible. -/
def reckon (r : Root) (p : Nat) (d : Dev) : Dev :=
  let x := d.netp p
  let ws := (waiting r d p).map fun w => (queueOf d p w.2.frame, w.2.elig)
  let step := fun (m : SMap (Int × Nat)) q =>
    if shp d p (0x40 + 4 * q) 31 31 = 0 then sdel q m
    else match m.find? fun e => e.1 == q with
      | none => sput q (0, r.ec) m
      | some (_, c, e) =>
        if r.ec ≤ e then m
        else
          let grow := fun (n : Nat) (c : Int) => if nbit x.gateOpen q then c + (idleSlope d p q : Int) * (n : Int) else c
          let from' := max e ((((ws.filter fun w => w.1 == q).map (·.2)).min?).getD r.ec)
          let c1 := if e < from' then min 0 (grow (from' - e) c) else c
          sput q (grow (r.ec - from') c1, r.ec) m
  d.setNetp p { x with credit := (List.range 8).foldl step x.credit }

/-- Both ports'. -/
def reckonAll (r : Root) (d : Dev) : Dev := reckon r 1 (reckon r 0 d)

/-- Whether a queue's credit lets it send. -/
def creditOk (d : Dev) (p q : Nat) : Bool :=
  shp d p (0x40 + 4 * q) 31 31 == 0 || decide (0 ≤ (sget (fun _ => ((0 : Int), 0)) (d.netp p).credit q).1)

/-- A frame or fragment of `units` EC units is charged to its queue until it ends. -/
def charge (r : Root) (p q units : Nat) (d : Dev) : Dev :=
  if shp d p (0x40 + 4 * q) 31 31 = 0 then d
  else
    let x := d.netp p
    let c := (sget (fun _ => ((0 : Int), 0)) x.credit q).1
    d.setNetp p { x with credit := sput q (c + ((idleSlope d p q : Int) - (portMbps d p * 1000 : Nat)) * units, r.ec + units) x.credit }

/-- A fragment charged to its queue ends `units` EC units early. -/
def uncharge (p q units : Nat) (d : Dev) : Dev :=
  if shp d p (0x40 + 4 * q) 31 31 = 0 then d
  else
    let x := d.netp p
    let c := sget (fun _ => ((0 : Int), 0)) x.credit q
    d.setNetp p { x with credit := sput q (c.1 - ((idleSlope d p q : Int) - (portMbps d p * 1000 : Nat)) * units, c.2 - units) x.credit }

/-! ### Completion (R248) -/

/-- A record's completion: STATUS, and the cause of a discard in INFO, are written into its header; the corridor moves past it. -/
def outFinish (r : Root) (m : List Host.Cell) (c pos len status cause : Nat) (d : Dev) : Dev × List MemWr :=
  let h := headWord m d c pos
  let info := if status = 0x81 then cause * 4096 + h % 4096 else h % 65536
  let w := lndWrite r (consCor c) pos (recHeader len status (h / 2 ^ 32 % 256) (h / 65536) info) d
  (corPass r c (recSize len) w.1, w.2)

/-- Ports a head record names: its own, or its interface's (R248). -/
def headPorts (d : Dev) (info v : Nat) : Nat := let p := info / 256 % 4; if p = 0 then fld (vifCfg d v) 29 28 else p

/-- The launch stamps stand for every port the frame left on. -/
def OutHead.stamped (h : OutHead) : Bool := !h.stamp || ((!nbit h.sent 0 || h.stA.isSome) && (!nbit h.sent 1 || h.stB.isSome))

/-- The slot writes of the launch stamps; the rule gives no CONTEXT for them, so it is a free value (log entry 3). -/
def stampSlots (r : Root) (c : Nat) (h : OutHead) (d : Dev) : Dev × List MemWr :=
  let put := fun (i : Nat) (s : Option Stamp) (a : Dev × List MemWr) =>
    match s with
    | some s => let w := lndWrite r (consCor c) (h.pos + 8 + 16 * i) (wordsBytes (stampWords s (wd a.1.free))) a.1.drew; (w.1, a.2 ++ w.2)
    | none => a
  if h.stamp then put 1 h.stB (put 0 h.stA (d, [])) else (d, [])

/-- The head record completes once no port is left: DONE with its stamps written first, or DISCARDED with LINK_DOWN (R248). -/
def tryComplete (r : Root) (m : List Host.Cell) (c : Nat) (d : Dev) : Dev × List MemWr :=
  match d.head c with
  | none => (d, [])
  | some h =>
    if h.ports ≠ 0 then (d, [])
    else if h.sent = 0 then outFinish r m c h.pos h.len 0x81 4 (d.setHead c none)
    else if h.stamped then
      let a := stampSlots r c h d
      let b := outFinish r m c h.pos h.len 0x80 0 (a.1.setHead c none)
      (b.1, a.2 ++ b.2)
    else (d, [])

/-- A copy of a head frame leaves the ports still to send on; `sent` says whether it left the port. -/
def headLess (c p : Nat) (sent : Bool) (d : Dev) : Dev :=
  match d.head c with
  | some h => d.setHead c (some { h with ports := nset h.ports p false, sent := if sent then nset h.sent p true else h.sent })
  | none => d

/-- A copy that finds its link down (R248). -/
def copyDown (p c : Nat) (d : Dev) : Dev := netCount p 12 1 (headLess c p false d)

/-- A frame of the corridor is in transmission on port `p`. -/
def onLine (d : Dev) (p c : Nat) : Bool := match (d.netp p).cur with | some t => t.cor == c | none => false

/-- A frame of the corridor is in transmission on some port. -/
def inFlight (d : Dev) (c : Nat) : Bool := (List.range 2).any fun p => onLine d p c

/-- No copy of the head record starts any more: of its ports those stay that are sending it. -/
def lastCopies (c : Nat) (d : Dev) : Dev :=
  match d.head c with
  | some h => d.setHead c (some { h with ports := (((List.range 2).filter fun p => onLine d p c && nbit h.ports p).map fun p => 2 ^ p).sum })
  | none => d

/-- An eligible head record is judged: discarded with its cause, or its copies for ports whose link is down are dropped. One of which a copy has left
or is leaving is no longer discarded (R248). -/
def headJudge (r : Root) (m : List Host.Cell) (c : Nat) (d : Dev) : Dev × List MemWr :=
  match d.head c with
  | none => (d, [])
  | some h =>
    if h.held then (d, [])
    else if headCause d h ≠ 0 then
      (if h.sent ≠ 0 ∨ inFlight d c then tryComplete r m c (lastCopies c d) else outFinish r m c h.pos h.len 0x81 (headCause d h) (d.setHead c none))
    else tryComplete r m c ((portsOf h.ports).foldl (fun d p => if (d.netp p).link then d else copyDown p c d) d)

/-- The frame of a record as it leaves: octets 6 to 11 are the interface's address (R246). -/
def outFrame (r : Root) (d : Dev) (v : Nat) (l : List Byte) : List Byte := if l.length < 14 then l else l.take 6 ++ macAddr r d v ++ l.drop 12

/-- The header at a ring offset of an OUT corridor as the device reads it: an error in its word is reported (R219, R221). -/
def headRead (r : Root) (m : List Host.Cell) (c pos : Nat) (d : Dev) : Nat × Dev := (headWord m d c pos, (lndRead r m (consCor c) pos 8 d).2)

/-- OUT_RECORD_CONSUME (R232, R248, R249): past a WRAP, the record at RD becomes the head; a record with HOLD waits for its release. -/
def outConsume (r : Root) (m : List Host.Cell) (c : Nat) (d' : Dev) : Dev × List MemWr :=
  let d0 := reckonAll r d'
  let x0 := d0.cor c
  if x0.st ≠ .active ∨ !x0.out then (d0, [])
  else if (d0.head c).isSome then headJudge r m c d0
  else match vifOf d0 c with
    | none => (d0, [])
    | some v =>
      let h0 := headRead r m c (x0.rd % x0.len) d0
      let h1 := if h0.1 / 2 ^ 48 = 0xFFFF then let rd := (x0.rd + x0.len - x0.rd % x0.len) % 2 ^ 32; headRead r m c (rd % x0.len) (h0.2.setCor c { x0 with rd := rd })
        else h0
      let d := h1.2
      let pos := (d.cor c).rd % x0.len
      let h := h1.1
      let len := h / 2 ^ 48
      if len = 0 ∨ len = 0xFFFF then (d, [])
      else
        let ecc := (wordsOf d (consCor c) pos (recSize len)).any (wordBad d)
        let b := lndRead r m (consCor c) (pos + 8) len d
        let stamp := nbit h 1
        let held := nbit h 0
        let o : OutHead :=
          { pos := pos, len := len, vif := v, stamp := stamp, ecc := ecc, frame := outFrame r d v (if stamp then b.1.drop 32 else b.1),
            held := held, elig := r.ec, ports := headPorts d (h % 65536) v }
        headJudge r m c (b.2.setHead c (some o))

/-- COR_RELEASE of a trigger (R249): the held head frame becomes eligible in the next CORE_CLK cycle. -/
def corRelease (r : Root) (c : Nat) (d0 : Dev) : Dev :=
  let d := reckonAll r d0
  match d.head c with
  | some h =>
    if h.held then d.setHead c (some { h with held := false, elig := r.ec + 512 })
    else d.netMap fun n => { n with relEmpty := satInc n.relEmpty 127 }
  | none => d.netMap fun n => { n with relEmpty := satInc n.relEmpty 127 }

/-- The remaining records of a corridor in CLOSING are discarded with cause CLOSING (R255). -/
def discardRest (r : Root) (m : List Host.Cell) (c : Nat) : Nat → Dev × List MemWr → Dev × List MemWr
  | 0, a => a
  | n + 1, a =>
    let x := a.1.cor c
    let pos := x.rd % x.len
    let h := headRead r m c pos a.1
    let len := h.1 / 2 ^ 48
    if len = 0 then (h.2, a.2)
    else if len = 0xFFFF then
      (if pos = 0 then (h.2, a.2) else discardRest r m c n (h.2.setCor c { x with rd := (x.rd + x.len - pos) % 2 ^ 32 }, a.2))
    else
      let b := outFinish r m c pos len 0x81 6 h.2
      discardRest r m c n (b.1, a.2 ++ b.2)

/-- CORRIDOR_CLOSE_COMPLETE (R234, R255): once no frame of the corridor is in transmission. A record of which a copy has left completes, with its
stamps once they stand (R248); the others are discarded. -/
def closeComplete (r : Root) (m : List Host.Cell) (c : Nat) (d0 : Dev) : Dev × List MemWr :=
  let d := reckonAll r d0
  let x := d.cor c
  if x.st ≠ .closing ∨ inFlight d c then (d, [])
  else if x.out then
    let b := match d.head c with
      | some h => if h.sent ≠ 0 then tryComplete r m c (lastCopies c d) else (d.setHead c none, [])
      | none => (d, [])
    if (b.1.head c).isSome then b
    else
      let a := discardRest r m c (x.len / 16 + 1) b
      (corClose r c a.1, a.2)
  else (corClose r c d, [])

/-! ### Gates (R254) -/

/-- The windows of one cycle: entry, gates, start and end from the cycle's start. The last entry runs on to the end of the cycle, and the
cycle cuts a longer list short. -/
def gateWindows (d : Dev) (p : Nat) : List (Nat × Nat × Int × Int) :=
  let cyc := gateCycle d p
  let es := (List.range (shp d p 0x0C 4 0 + 1)).map fun e => (e, shp d p (0x80 + 4 * e) 31 24, ((shp d p (0x80 + 4 * e) 23 0 * 256 : Nat) : Int))
  let used := es.filter fun e => e.2.2 != 0
  let run := if used = [] then es.drop (es.length - 1) else used
  let ws := (run.foldl (fun (a : List (Nat × Nat × Int × Int) × Int) e => (a.1 ++ [(e.1, e.2.1, a.2, a.2 + e.2.2)], a.2 + e.2.2)) ([], 0)).1
  let cut := (ws.filter fun w => w.2.2.1 < cyc).map fun w => (w.1, w.2.1, w.2.2.1, min cyc w.2.2.2)
  match cut.getLast? with
  | some w => cut.dropLast ++ [(w.1, w.2.1, w.2.2.1, cyc)]
  | none => []

/-- Entry and gates at AT value `t`, and the end of their window; before the first cycle every queue is open, with no end. -/
def gateAt (d : Dev) (p : Nat) (t : Int) : Nat × Nat × Option Int :=
  match (d.netp p).gateFrom with
  | none => (0, 0xFF, none)
  | some b =>
    if !gatesOn d p then (0, 0xFF, none)
    else if t < b then (0, 0xFF, some b)
    else
      let off := (t - b) % gateCycle d p
      match (gateWindows d p).find? fun w => decide (w.2.2.1 ≤ off ∧ off < w.2.2.2) with
      | some w => (w.1, w.2.1, some (t - off + w.2.2.2))
      | none => (0, 0xFF, none)

/-- When the gate of queue `q`, open at `t`, closes: none within a cycle and a list. -/
def gateClose (d : Dev) (p q : Nat) : Nat → Int → Option Int
  | 0, _ => none
  | n + 1, t =>
    let w := gateAt d p t
    if !nbit w.2.1 q then some t else match w.2.2 with | some e => gateClose d p q n e | none => none

/-- A write of Pp_GATE_CFG: the first cycle is the first that begins at or after the enable. -/
def gateHook (r : Root) (p : Nat) (old : Word) (d0 : Dev) : Dev :=
  let d := reckon r p d0
  let x := d.netp p
  if !gatesOn d p then d.setNetp p { x with gateFrom := none, gateEntry := 0, gateOpen := 0xFF }
  else if bitOf old 31 then d
  else
    d.setNetp p { x with gateFrom := some (gateFirst d p (d.atNow r)) }

/-- GATE_ENTRY_ADVANCE: the entry in force and the gates are those of the present AT. -/
def gateAdvance (r : Root) (p : Nat) (d : Dev) : Dev :=
  let w := gateAt d p (d.atNow r)
  d.setNetp p { d.netp p with gateEntry := w.1, gateOpen := w.2.1 }

/-! ### The balustrade (R251, R252) -/

/-- The next audio launch on a port: of each stream, its first frame whose window has not closed; in QUIET there is none (R374). -/
def nextAudio (r : Root) (d : Dev) (p : Nat) : Option Int :=
  let now := d.atNow r
  if !r.running then none else
  ((d.tx.filter fun q => q.2.carries && q.2.ports.contains p).map fun q =>
    let x := q.2
    let f := max (x.nextOf p) ((now - x.phaseOf p) * (fsNow d : Int) / (256000000000 * (max 1 x.spp : Nat)) - 1)
    launchAt d x p (if beforeClose d x p f now then f else f + 1)).min?

/-- Whether `bytes` on the wire from now on end by the next audio launch and by AT value `close`. -/
def endsBy (r : Root) (d : Dev) (p bytes : Nat) (close : Option Int) : Bool :=
  let e := d.atNow r + (byteUnits d p bytes : Nat)
  (match nextAudio r d p with | some l => decide (e ≤ l) | none => true) && (match close with | some c => decide (e ≤ c) | none => true)

/-- Smallest data of a non-final fragment of a frame that starts now (R252). -/
def minFrag (d : Dev) (p : Nat) : Nat := 64 * (1 + d.rf (.net p) 0x040 11 10)

/-- Data of the frame or fragment that may start now with `left` bytes to go and fragments of at least `mf`: all of it, or while preemption is
ACTIVE the largest fragment within the limits; none may start. -/
def mayStart (r : Root) (d : Dev) (p left mf : Nat) (close : Option Int) : Option Nat :=
  if endsBy r d p (left + 20) close then some left
  else if (d.netp p).preempt ≠ 2 ∨ left < mf + 64 then none
  else
    let top := (left - 64) / 8
    let lo := mf / 8
    (((List.range (top + 1)).drop lo).reverse.find? fun k => endsBy r d p (8 * k + 24) close).map (8 * ·)

/-- A fragment of `n` bytes of the frame in `t` starts. -/
def startFrag (r : Root) (p n : Nat) (t : TxCur) (d : Dev) : Dev :=
  let wire := byteUnits d p (n + (if n = t.left then 20 else 24))
  let d1 := charge r p t.q wire d
  d1.setNetp p { d1.netp p with cur := some { t with start := r.ec, data := n, done := r.ec + wire }, busyTo := r.ec + wire }

/-- The fragment on the line has ended: what is left of the frame waits to be resumed. -/
def fragEnded (r : Root) (p : Nat) (d : Dev) : Dev :=
  let x := d.netp p
  match x.cur with
  | some t =>
    if t.data ≠ 0 ∧ t.data ≠ t.left ∧ t.done ≤ r.ec then
      netCount p 10 1 (d.setNetp p { x with cur := some { t with left := t.left - t.data, data := 0 } })
    else d
  | none => d

/-- A PTP frame that waits makes the MAC end the fragment on the line at a boundary that R252 allows, its gap over by now; its queue is charged for
what was sent. -/
def cutFrag (r : Root) (p : Nat) (d : Dev) : Dev :=
  let x := d.netp p
  match x.cur with
  | some t =>
    let fits := fun k => decide (t.start + byteUnits d p (8 * k + 24) ≤ r.ec) && decide (t.mf ≤ 8 * k) && decide (8 * k + 64 ≤ t.left) && decide (8 * k < t.data)
    if x.preempt = 2 ∧ x.ptpQ ≠ [] ∧ r.ec < t.done then
      match (List.range (t.data / 8 + 1)).reverse.find? fits with
      | some k =>
        let early := t.done - (t.start + byteUnits d p (8 * k + 24))
        let d1 := uncharge p t.q early d
        reckon r p (netCount p 10 1 (d1.setNetp p { d1.netp p with cur := some { t with left := t.left - 8 * k, data := 0 }, busyTo := r.ec }))
      | none => d
    else d
  | none => d

/-! ### PTP frames (R128, R136, R246; the octets PRESUMED, log entry 22) -/

/-- The correctionField of a message: with the part of its timestamp below a nanosecond, which a receipt time has taken off. -/
def ptpCorr (m : PtpOut) : Int :=
  let f := m.ts % 256 * 256
  if m.type = 0 ∨ m.type = 8 ∨ m.type = 10 then m.corr + f else if m.type = 3 ∨ m.type = 9 then m.corr - f else m.corr

/-- A message from its common header on: majorSdoId, domainNumber and sourcePortIdentity are the engine's. -/
def ptpMsg (d : Dev) (m : PtpOut) : List Byte :=
  let n := m.eng
  let peer := m.type = 2 || m.type = 3 || m.type = 10
  let body : List Byte :=
    if m.type = 2 then List.replicate 20 0
    else List.flatten [beBytes 6 (m.ts / secUnits).toNat, beBytes 4 (m.ts % secUnits / 256).toNat,
      if peer || m.type = 9 then beBytes 10 m.req else []]
  let two := (m.type = 0 && !m.oneStep) || m.type = 3
  let lg := if m.type = 0 ∨ m.type = 8 then d.rf (.ptp n) 0x060 7 0 else if m.type = 9 then d.rf (.ptp n) 0x060 15 8 else 0x7F
  let control := match m.type with | 0 => 0 | 1 => 1 | 8 => 2 | 9 => 3 | _ => 5
  List.flatten [beBytes 1 (d.rf (.ptp n) 0x040 31 28 * 16 + m.type), [0x12], beBytes 2 (34 + body.length), beBytes 1 (d.rf (.ptp n) 0x040 23 16), [0],
    beBytes 1 (b2n two * 2 + b2n (m.dest != []) * 4), [0], beBytes 8 (uns (ptpCorr m) 64), beBytes 4 0, beBytes 10 (ptpIdent d n 0x054), beBytes 2 m.seq,
    beBytes 1 control, beBytes 1 lg, body]

/-- Destination MAC and IP address: the unicast one, or the multicast one of the transport; peer messages, and all of IEEE 802.1AS, go to the
address that no bridge forwards. -/
def ptpDest (d : Dev) (m : PtpOut) : List Byte × List Byte :=
  let peer := m.type = 2 || m.type = 3 || m.type = 10
  if m.dest ≠ [] then (m.dest.take 6, m.dest.drop 6)
  else match d.rf (.ptp m.eng) 0x040 9 8 with
    | 1 => if peer then ([0x01, 0x00, 0x5E, 0, 0, 107], [224, 0, 0, 107]) else ([0x01, 0x00, 0x5E, 0, 1, 129], [224, 0, 1, 129])
    | 2 =>
      let lo : Byte := if peer then 0x6B else 0x81
      let mid : Byte := if peer then 0 else 1
      ([0x33, 0x33, 0, 0, mid, lo], List.flatten [[0xFF, if peer then 0x02 else 0x0E], List.replicate 12 0, [mid, lo]])
    | _ => (if peer || d.rf (.ptp m.eng) 0x040 31 28 = 1 then [0x01, 0x80, 0xC2, 0, 0, 0x0E] else [0x01, 0x1B, 0x19, 0, 0, 0], [])

/-- A UDP datagram with the checksum `ck` in place. -/
def ptpUdp (port ck : Nat) (l : List Byte) : List Byte := List.flatten [beBytes 2 port, beBytes 2 port, beBytes 2 (8 + l.length), beBytes 2 ck, l]

/-- A message as the frame that leaves port `p`, without FCS: EtherType 0x88F7, or UDP ports 319 and 320 (R128), from the port's own address (R246). The
checksum of a one-step Sync over IPv4 is zero (R136). -/
def ptpBytes (r : Root) (d : Dev) (p : Nat) (m : PtpOut) : List Byte :=
  let l := ptpMsg d m
  let dst := ptpDest d m
  let eth := ethHeader dst.1 (macAddr r d p) none
  let ip := fun (i : Nat) => Config.ptpIp (3 * m.eng + i)
  let port := if m.type < 4 then 319 else 320
  let n := 8 + l.length
  let sum := fun (src : List Byte) =>
    let c := 65535 - sum16 (List.flatten [src, dst.2, beBytes 4 n, beBytes 4 17, ptpUdp port 0 l])
    if c = 0 then 65535 else c
  padFrame (match d.rf (.ptp m.eng) 0x040 9 8 with
    | 1 =>
      let src := ip 0 % 2 ^ 32
      List.flatten [eth 0x0800, ip4Header (ip 1 % 64) (ip 2 % 256) (20 + n) src (beNat dst.2), ptpUdp port (if m.oneStep then 0 else sum (beBytes 4 src)) l]
    | 2 =>
      let src := beBytes 16 (ip 0)
      List.flatten [eth 0x86DD, ip6Header (ip 1 % 64) (ip 2 % 256) n src dst.2, ptpUdp port (sum src) l]
    | _ => eth 0x88F7 ++ l)

/-- Frame length of a PTP message on the wire, FCS included. -/
def ptpWire (r : Root) (d : Dev) (p : Nat) (m : PtpOut) : Nat := (ptpBytes r d p m).length + 4

/-- A PTP frame starts (R250): a one-step Sync takes the time of its launch cycle, converted as a boundary stamp (R123, R136). -/
def startPtp (r : Root) (p : Nat) (m : PtpOut) (rest : List PtpOut) (d : Dev) : Dev :=
  let x := d.netp p
  let m1 := if m.oneStep then { m with ts := d.tb.at'.val (boundaryStamp d p true x.speed (runningEC r)) } else m
  let f := ptpBytes r d p m1
  let event := m.type = 0 || m.type = 1 || m.type = 2 || m.type = 3
  netSent r p f true (f.length + 4)
    (d.setNetp p { x with ptpQ := rest, busyTo := r.ec + byteUnits d p (f.length + 24),
                          awaitTx := if event then x.awaitTx ++ [.ptp m.eng m.type m.seq] else x.awaitTx })

/-- The head frame that the port serves next: the highest queue whose gate is open and whose credit allows, the lowest interface in it. -/
def nextHead (r : Root) (d : Dev) (p : Nat) : Option (Nat × OutHead × Nat) :=
  let open' := (gateAt d p (d.atNow r)).2.1
  let ws := ((waiting r d p).map fun w => (w.1, w.2, queueOf d p w.2.frame)).filter fun w => nbit open' w.2.2 && creditOk d p w.2.2
  ws.foldl (fun (best : Option (Nat × OutHead × Nat)) w =>
    match best with
    | none => some w
    | some b => if b.2.2 < w.2.2 ∨ (b.2.2 = w.2.2 ∧ w.2.1.vif < b.2.1.vif) then some w else best) none

/-- On a free line (R250 to R252) a PTP frame, the rest of a preempted frame, or the next head frame starts if its
unbreakable length ends in time. -/
def frameBegin (r : Root) (p : Nat) (d0 : Dev) : Dev :=
  let d := cutFrag r p (fragEnded r p (reckon r p d0))
  let x := d.netp p
  let ena := d.rb (.net p) 0x040 0
  let idle := match x.cur with | some t => t.data == 0 | none => true
  let resume := fun (d : Dev) => match x.cur with
    | some t => match mayStart r d p t.left t.mf (gateClose d p t.q 70 (d.atNow r)) with
      | some n => startFrag r p n t d
      | none => d
    | none =>
      if !ena then d else match nextHead r d p with
      | some (c, h, q) =>
        let t : TxCur := { cor := c, q := q, left := max 64 (h.frame.length + 4), start := r.ec, data := 0, done := r.ec, mf := minFrag d p }
        (match mayStart r d p t.left t.mf (gateClose d p q 70 (d.atNow r)) with
         | some n => let y := startFrag r p n t d; y.setNetp p { y.netp p with awaitTx := (y.netp p).awaitTx ++ [.gallery c] }
         | none => d)
      | none => d
  if !x.link || decide (r.ec < x.busyTo) || !idle then d
  else match x.ptpQ with
    | m :: t => if ena && endsBy r d p (ptpWire r d p m + 20) none then startPtp r p m t d else resume d
    | [] => resume d

/-! ### Links (R237, R238) -/

/-- Speed code of a PHY's speed. -/
def speedCode : PhySpeed → Option Nat
  | .g1 => some 0 | .g2h => some 1 | .g5 => some 2 | .g10 => some 3 | .other => none

/-- Speed of a port whose PHY reports `sp`, by MODE and AN_EN (R237); none is unsupported. -/
def modeSpeed (d : Dev) (p : Nat) (sp : PhySpeed) : Option Nat :=
  let an := d.rb (.net p) 0x040 6
  match d.rf (.net p) 0x040 2 1 with
  | 0 => if an then speedCode sp else some (d.rf (.net p) 0x040 5 4)
  | 1 => some 0
  | _ => if an && sp != .g1 then none else some 0

/-- The link of a port falls: its event, preemption, the PTP engine, and every copy that waits for the port or is on its way (R238, R248, R252). -/
def portDown (r : Root) (m : List Host.Cell) (p : Nat) (d : Dev) : Dev × List MemWr :=
  let x := d.netp p
  if !x.link then (d, [])
  else
    let d0 := ptpDrop p (reckonAll r d)
    let x := d0.netp p
    let d1 := ptpLinkLost r p (preemptEval r p (raise r (64 + p) (d0.setNetp p { x with link := false, cur := none })))
    let cs := d1.net.head.filterMap fun q => match q.2 with | some h => if nbit h.ports p && !h.held then some q.1 else none | none => none
    cs.foldl (fun (a : Dev × List MemWr) c => let b := tryComplete r m c (copyDown p c a.1); (b.1, a.2 ++ b.2)) (d1, [])

/-- The port's speed is `v`: TBE.PHYLATn of that speed serves, AUTO phases and the reservation are judged anew (R238, R256, R272). -/
def takeSpeed (r : Root) (p v : Nat) (d0 : Dev) : Dev :=
  let d := reckon r p d0
  let was := flightMbps d p
  let x := d.netp p
  let d1 := d.setNetp p { x with speed := v, hadLink := true, speedUnsup := false }
  if flightMbps d1 p = was then d1 else overcommit r p true (txSpeed r p d1)

/-- LINK_UP (R238). -/
def linkUp (r : Root) (p : Nat) (sp : PhySpeed) (d : Dev) : Dev :=
  let x := d.netp p
  if !d.rb (.net p) 0x040 0 || d.rf (.net p) 0x040 2 1 == 3 || x.link then d
  else
    let y := { x with pcsLock := true, anDone := d.rb (.net p) 0x040 6, localFault := false, remoteFault := false }
    match modeSpeed d p sp with
    | none => d.setNetp p { y with speedUnsup := true }
    | some v => preemptEval r p (raise r (64 + p) (takeSpeed r p v (d.setNetp p { y with link := true })))

/-- A port with ENA cleared goes down once the frame in transmission has left (R259). -/
def enaSettle (r : Root) (m : List Host.Cell) (p : Nat) (d : Dev) : Dev × List MemWr :=
  let x := d.netp p
  if d.rb (.net p) 0x040 0 ∨ !x.pcsLock && !x.speedUnsup ∨ x.link ∧ (x.cur.isSome ∨ r.ec < x.busyTo) then (d, [])
  else portDown r m p (d.setNetp p { x with pcsLock := false, anDone := false, speedUnsup := false })

/-- What a command of the port does, after a port with ENA cleared has gone down. -/
def afterEna (r : Root) (m : List Host.Cell) (p : Nat) (f : Dev → Dev × List MemWr) (d : Dev) : Dev × List MemWr :=
  let a := enaSettle r m p d
  let b := f a.1
  (b.1, a.2 ++ b.2)

/-- GALLERY_FRAME_START (R250 to R252, R259). -/
def frameStart (r : Root) (m : List Host.Cell) (p : Nat) (d : Dev) : Dev × List MemWr := afterEna r m p (fun d => (frameBegin r p d, [])) d

/-- The link falls for a cause of R238; with AN_EN 0 the end of an auto-negotiation is none. -/
def linkLost (r : Root) (m : List Host.Cell) (p : Nat) (why : LinkLoss) (d : Dev) : Dev × List MemWr :=
  let x := d.netp p
  if !x.pcsLock || (why == .autoNeg && !d.rb (.net p) 0x040 6) then (d, [])
  else
    let y := match why with
      | .lock => { x with pcsLock := false, anDone := false }
      | .autoNeg => { x with anDone := false }
      | .localFault => { x with localFault := true }
      | .remoteFault => { x with remoteFault := true }
    portDown r m p (d.setNetp p y)

/-- LINK_DOWN (R238). -/
def linkDown (r : Root) (m : List Host.Cell) (p : Nat) (why : LinkLoss) (d : Dev) : Dev × List MemWr := afterEna r m p (linkLost r m p why) d

/-- The PHY reports another speed (R238): an unsupported one holds the link down. -/
def speedTurn (r : Root) (m : List Host.Cell) (p : Nat) (sp : PhySpeed) (d : Dev) : Dev × List MemWr :=
  if !(d.netp p).link then (d, [])
  else match modeSpeed d p sp with
    | some v => (takeSpeed r p v d, [])
    | none => portDown r m p (d.setNetp p { d.netp p with speedUnsup := true })

/-- LINK_SPEED_CHANGE. -/
def linkSpeed (r : Root) (m : List Host.Cell) (p : Nat) (sp : PhySpeed) (d : Dev) : Dev × List MemWr := afterEna r m p (speedTurn r m p sp) d

/-- A write of NETn.CTRL over `old`: PREEMPT_EN is judged; before the port's first link the fields give the line rate of R279, whose change is a change of
speed; clearing ENA lets the frame in transmission finish, then takes the link down (R252, R256, R259). -/
def netCtrlHook (r : Root) (m : List Host.Cell) (p : Nat) (old : Word) (d : Dev) : Dev × List MemWr :=
  let was := d.setReg (.net p) 0x040 old
  let d1 := preemptEval r p d
  enaSettle r m p (if flightMbps was p = flightMbps d p ∧ reservation was p = reservation d p then d1 else overcommit r p true (txSpeed r p d1))

/-! ### Ends of frames -/

/-- GALLERY_FRAME_DONE (R248): the final fragment and its gap have left; a port with ENA cleared goes down after it (R259). -/
def frameDone (r : Root) (m : List Host.Cell) (p : Nat) (d0 : Dev) : Dev × List MemWr :=
  let d := reckonAll r d0
  let x := d.netp p
  match x.cur with
  | none => (d, [])
  | some t =>
    if t.data ≠ t.left ∨ r.ec < t.done then (d, [])
    else
      let frame := match d.head t.cor with | some h => padFrame h.frame | none => []
      let y := netSent r p frame false (frame.length + 4) d
      let d1 := y.setNetp p { y.netp p with cur := none, qcnt := nput x.qcnt t.q ((nget x.qcnt t.q + 1) % 2 ^ 32) }
      let a := tryComplete r m t.cor (headLess t.cor p true d1)
      let b := enaSettle r m p a.1
      (b.1, a.2 ++ b.2)

/-- GALLERY_FRAME_STALL (R255): the head frame is discarded; a copy that has left, or is leaving, on the other port still completes it. -/
def frameStall (r : Root) (m : List Host.Cell) (p c : Nat) (d0 : Dev) : Dev × List MemWr :=
  let d := reckonAll r d0
  let lim := shp d p 0x00 31 16
  let x := d.netp p
  match d.head c with
  | none => (d, [])
  | some h =>
    if lim = 0 ∨ h.held ∨ !nbit h.ports p ∨ onLine d p c ∨ r.ec < h.elig + lim * 256000000 then (d, [])
    else
      let d1 := raise r 88 (d.setNetp p { x with stalls := satInc x.stalls 255 })
      if h.sent ≠ 0 ∨ inFlight d c then tryComplete r m c (headLess c p false d1)
      else outFinish r m c h.pos h.len 0x81 5 (d1.setHead c none)

/-- SFD_PAIRING of a port and direction: a launch stamp goes to what waits for it (R123, R136, R248, R269); that of a first fragment received is kept for
its frame (R241). -/
def sfdStamp (r : Root) (m : List Host.Cell) (p : Nat) (tx : Bool) (boundary : Nat) (frag yields : Bool) (d : Dev) : Dev × List MemWr :=
  let q := sfdPair r p tx boundary yields d
  let x := q.2.netp p
  match q.1, tx, x.awaitTx with
  | some s, true, w :: rest =>
    let d1 := q.2.setNetp p { x with awaitTx := rest }
    match w with
    | .ptp n type seq => (ptpStamped n type seq s d1, [])
    | .audio st due => (monTake r 4 (p * 1024 + st) (d1.sameEra s) (d1.atOf s - due) d1, [])
    | .gallery c => match d1.head c with
      | some h => tryComplete r m c (d1.setHead c (some (if p = 0 then { h with stA := some s } else { h with stB := some s })))
      | none => (d1, [])
  | some s, false, _ => (if frag then q.2.setNetp p { x with fragRx := s } else q.2, [])
  | _, _, _ => (q.2, [])

/-- SHP registers that show live state (11). -/
def shpRead (d : Dev) (o : Nat) : Word :=
  if o = 0x040 then wd (txFrames d).floor.toNat
  else if o < 0x100 then d.reg .shp o
  else
    let p := (o - 0x100) / 0x200
    let x := d.netp p
    let i := (o - 0x100) % 0x200
    if i = 0x04 then wd (b2n x.overcommit * 2 ^ 31 + (if p = 0 then d.net.relEmpty else 0) * 2 ^ 24 + x.stalls * 65536 + ((admittedRate d p) / 1000000).floor.toNat)
    else if i = 0x24 then wd (x.gateEntry * 256 + x.gateOpen)
    else if 0x60 ≤ i ∧ i < 0x80 then wd (nget x.qcnt ((i - 0x60) / 4))
    else d.reg .shp o

/-! ### Meanings -/

/-- The registers of a port's SHP block that the choice of a frame uses: PCP_MAP, the gates and the shapers. -/
def shpWords (p : Nat) : List Nat :=
  ([0x08, 0x0C, 0x10, 0x14, 0x18, 0x1C, 0x20] ++ ((List.range 8).map fun q => 0x40 + 4 * q) ++ ((List.range 32).map fun e => 0x80 + 4 * e)).map (shpOfs p)

/-- CLS.VIFv_CFG of every interface. -/
def vifWords : List Nat := (List.range 8).map fun v => 0x100 + 4 * v

/-- OUT_RECORD_CONSUME. -/
def execOutRecordConsume (c : Fin 256) (s : State) : Host.Outcome State Fault Refusal := onMem (fun r m d => outConsume r m c (pageUse r .cls vifWords d)) s

/-- GALLERY_FRAME_START. -/
def execGalleryFrameStart (p : Port) (s : State) : Host.Outcome State Fault Refusal :=
  onMem (fun r m d => frameStart r m p (pageUse r .shp (shpWords p) (pageUse r (.net p) [0x040] d))) s

/-- GALLERY_FRAME_DONE. -/
def execGalleryFrameDone (p : Port) (s : State) : Host.Outcome State Fault Refusal := onMem (fun r m d => frameDone r m p d) s

/-- GALLERY_FRAME_STALL. -/
def execGalleryFrameStall (p : Port) (c : Fin 256) (s : State) : Host.Outcome State Fault Refusal :=
  onMem (fun r m d => frameStall r m p c (pageUse r .shp [shpOfs p 0] d)) s

/-- GATE_ENTRY_ADVANCE. -/
def execGateEntryAdvance (p : Port) (s : State) : Host.Outcome State Fault Refusal :=
  onDev (fun r d => gateAdvance r p (reckon r p (pageUse r .shp (shpWords p) d))) s

/-- CORRIDOR_CLOSE_COMPLETE. -/
def execCorridorCloseComplete (c : Fin 256) (s : State) : Host.Outcome State Fault Refusal := onMem (fun r m d => closeComplete r m c d) s

/-- LINK_UP. -/
def execLinkUp (p : Port) (sp : PhySpeed) (s : State) : Host.Outcome State Fault Refusal :=
  onDev (fun r d => linkUp r p sp (pageUse r (.net p) [0x040] d)) s

/-- LINK_DOWN. -/
def execLinkDown (p : Port) (why : LinkLoss) (s : State) : Host.Outcome State Fault Refusal :=
  onMem (fun r m d => linkDown r m p why (pageUse r (.net p) [0x040] d)) s

/-- LINK_SPEED_CHANGE. -/
def execLinkSpeedChange (p : Port) (sp : PhySpeed) (s : State) : Host.Outcome State Fault Refusal :=
  onMem (fun r m d => linkSpeed r m p sp (pageUse r (.net p) [0x040] d)) s

/-- The registers that a network stamp uses: SFD_CFG, PIN_EN and PHYLATn of the port. -/
def sfdWords (p : Nat) : List Nat := [0x040, 0x078] ++ (List.range 8).map fun i => 0x300 + 4 * (8 * p + i)

/-- The SFD_PAIRING commands that wait. -/
def sfdWaiting (l : List Instr) : List (Nat × Bool × Nat) :=
  l.filterMap fun i => match i with | .sfdPairing p tx b => some (p.val, tx, b.ec) | _ => none

/-- SFD_PAIRING. Judgements of one cycle wait together. -/
def execSfdPairing (p : Port) (tx : Bool) (boundary : Crossing) (s : State) : Host.Outcome State Fault Refusal :=
  onMem (fun r m d => sfdStamp r m p tx boundary.ec boundary.frag (sfdYields d p tx boundary.ec (sfdWaiting s.pending)) (pageUse r .tbe (sfdWords p) d)) s

end Sys2Proof.Machine
end

