-- ==== Sys2Proof/Machine/NetRx.lean ====
section
/-! DEFINITION. Frames received (11, R241 to R247, R130): the MAC's checks, the classifier and the destinations. -/

namespace Sys2Proof.Machine

/-! ### The MAC (R241) -/

/-- A frame discarded: counted at `k`, with the event at the first since the counters were cleared or 1 ms after the last event. -/
def rxDiscard (r : Root) (p k : Nat) (d : Dev) : Dev :=
  let d1 := netCount p k 1 d
  let x := d1.netp p
  let due := match x.rxErr with | some e => decide (e + 256000000 ≤ r.ec) | none => true
  if due then raise r (66 + p) (d1.setNetp p { x with rxErr := some r.ec }) else d1

/-- The counter of the first check a frame fails; none passes. `len` counts the FCS. -/
def macFail (d : Dev) (p len : Nat) (l : List Byte) (pcsOk fcsOk fragOk : Bool) : Option Nat :=
  if !pcsOk then some 4
  else if !fragOk then some 6
  else if !fcsOk then some 1
  else if len < 64 then some 2
  else if maxLen d p < len then some 3
  else if beNat ((l.drop 12).take 2) = 0x8808 then some 5
  else none

/-! ### PTP messages (R130) -/

/-- The PTP message a frame carries: transport code, bytes from the common header on, source addresses, MAC first. R130 says nothing of tags: a frame
with one 802.1Q tag is taken as one without (DESIGN CHOICE, log entry 22). -/
def ptpFrame (l : List Byte) : Option (Nat × List Byte × List Byte) :=
  let e := parseEth l
  if e.etype = 0x88F7 then some (0, e.pay, e.src)
  else (parseIp e).bind fun ip => ((parseUdp ip).filter fun u => u.1 == 319 || u.1 == 320).map fun u => (if ip.v6 then 2 else 1, u.2, e.src ++ ip.src)

/-- An enabled engine's transport, domainNumber and majorSdoId match the message. -/
def engineTakes (d : Dev) (n : Nat) (m : Nat × List Byte × List Byte) : Bool :=
  let c := d.reg (.ptp n) 0x040
  ptpRuns d n && fld c 9 8 == m.1 && decide (34 ≤ m.2.1.length) && fld c 23 16 == pb m.2.1 4 && fld c 31 28 == pb m.2.1 0 / 16

/-- The message joins the engine's received messages, judged against the PARENT in force (R132); a reserved messageType has no effect. -/
def engineGive (r : Root) (n : Nat) (m : Nat × List Byte × List Byte) (s : Stamp) (d : Dev) : Dev :=
  let x := d.ptpn n
  let y : PtpRx := { bytes := m.2.1.take (max 34 (pbe m.2.1 2 2)), stamp := s, src := m.2.2, par := false }
  let par := parentNow r d n
  if [0, 1, 2, 3, 8, 9, 10, 11, 12, 13].contains (pType y) then d.setPtp n { x with rxQ := x.rxQ ++ [{ y with par := par != 0 && pSrc y == par }] } else d

/-! ### The flow table (R243, R244) -/

/-- The tag's PCP agrees with a PCP_EN and PCP field in bits [3:0]. -/
def pcpOk (e : Eth) (w : Word) : Bool := !bitOf w 3 || (match e.tag with | some t => t / 8192 == fld w 2 0 | none => false)

/-- Of a UDP datagram that is no fragment: whether it is IPv6, its source and destination address and its destination port. The table's fields alone
are read, where IHL places them; no length and no checksum is judged (R244). -/
def udpPort (e : Eth) : Option (Bool × List Byte × List Byte × Nat) :=
  let b := fun i => (e.pay.getD i 0).toNat
  let be := fun i n => beNat ((e.pay.drop i).take n)
  let ihl := b 0 % 16 * 4
  if e.etype = 0x0800 ∧ b 0 / 16 = 4 ∧ b 9 = 17 ∧ be 6 2 % 0x4000 = 0 ∧ ihl + 4 ≤ e.pay.length then
    some (false, (e.pay.drop 12).take 4, (e.pay.drop 16).take 4, be (ihl + 2) 2)
  else if e.etype = 0x86DD ∧ b 0 / 16 = 6 ∧ b 6 = 17 ∧ 44 ≤ e.pay.length then some (true, (e.pay.drop 8).take 16, (e.pay.drop 24).take 16, be 42 2)
  else none

/-- Whether flow entry `i` matches a frame on port `p`. -/
def flowMatch (d : Dev) (p : Nat) (e : Eth) (i : Nat) : Bool :=
  let w := fun j => d.tw .flow i j
  let o := fun j => d.tw .flow (i + 1) j
  let on := fun (x : Word) => bitOf x 31 && nbit (fld x 27 26) p
  let vid := !bitOf (w 0) 13 || (match e.tag with | some t => t % 4096 == fld (w 0) 11 0 | none => false)
  let u := udpPort e
  on (w 0) && vid && match fld (w 0) 30 28 with
    | 0 => e.dst == beBytes 2 (fld (w 2) 31 16) ++ beBytes 4 (w 1).toNat && (fld (w 2) 15 0 == 0 || fld (w 2) 15 0 == e.etype) && pcpOk e (w 3)
    | 1 => (match u with
        | some (v6, src, dst, port) => !v6 && beNat dst == (w 1).toNat && port == fld (w 2) 31 16 && ((w 3) == 0 || beNat src == (w 3).toNat)
        | none => false) && pcpOk e (w 2)
    | 2 => i % 2 == 0 && on (o 0) && fld (o 0) 30 28 == 3 && (match u with
        | some (v6, _, dst, port) => v6 && dst == [o 1, w 1, w 2, w 3].flatMap (fun x => beBytes 4 x.toNat) && port == fld (o 2) 31 16
        | none => false) && pcpOk e (o 2)
    | _ => false

/-- The lowest entry that matches. -/
def flowFind (d : Dev) (p : Nat) (e : Eth) : Option Nat :=
  (d.regs.filterMap fun q => match place q.1 with | .table .flow i 0 => if bitOf q.2 31 then some i else none | _ => none).find? (flowMatch d p e)

/-! ### Destinations (R245 to R247) -/

/-- Dropped without a target. -/
def noTarget (r : Root) (d : Dev) : Dev := raise r 80 (clsCount 5 d)

/-- A received-frame record into an IN corridor (R247); for an OUT corridor the frame is dropped without a target (R234, R245). -/
def frameRecord (r : Root) (p c info : Nat) (l : List Byte) (s : Stamp) (d : Dev) : Dev × List MemWr :=
  if (d.cor c).out then (noTarget r d, [])
  else (produce r c 0x01 info (wordsBytes (stampWords s (wd (p * 65536 + l.length))) ++ l) d).2

/-- A frame claimed by flow entry `i`. In QUIET receive streams take no copies (R374). -/
def flowDest (r : Root) (p i : Nat) (l : List Byte) (s : Stamp) (d : Dev) : Dev × List MemWr :=
  let w := d.tw .flow i 0
  let t := fld w 23 14
  match fld w 25 24 with
  | 0 =>
    if !(d.rxn t).carries then (noTarget r d, [])
    else if r.running then (rxCopy r t p (l.length + 4) l s (entryUse r .rxs t d), [])
    else (d, [])
  | 1 => match (ptpFrame l).filter (engineTakes d t) with
    | some m => (engineGive r t m s d, [])
    | none => (noTarget r d, [])
  | 2 => frameRecord r p t i l s d
  | _ => (clsCount 6 d, [])

/-- The enabled interfaces on port `p` whose address a unicast frame names, or that take its group (R242). -/
def vifTakes (r : Root) (d : Dev) (p : Nat) (e : Eth) (group : Bool) : List Nat :=
  let bc := e.dst == List.replicate 6 0xFF
  (List.range 8).filter fun v =>
    let c := vifCfg d v
    bitOf c 31 && nbit (fld c 29 28) p &&
      (if group then nbit (e.dst.getD 0 0).toNat 0 && (if bc then bitOf c 27 else bitOf c 26) else e.dst == macAddr r d v)

/-- A copy of the frame for each interface. -/
def vifDest (r : Root) (p claim : Nat) (vs : List Nat) (l : List Byte) (s : Stamp) (d : Dev) : Dev × List MemWr :=
  vs.foldl (fun (a : Dev × List MemWr) v => let b := frameRecord r p (fld (vifCfg a.1 v) 15 8) (claim * 16384 + v) l s a.1; (b.1, a.2 ++ b.2)) (d, [])

/-- The classifier (R242): the first step that claims the frame decides. -/
def classify (r : Root) (p : Nat) (l : List Byte) (s : Stamp) (d : Dev) : Dev × List MemWr :=
  let e := parseEth l
  let eng := (ptpFrame l).bind fun m => ((List.range 2).find? fun n => ptpPort d n == p && engineTakes d n m).map fun n => (n, m)
  match eng with
  | some (n, m) => (engineGive r n m s (clsCount 0 d), [])
  | none =>
  match flowFind d p e with
  | some i => flowDest r p i l s (clsCount 1 (entryUse r .flow (i + 1) (entryUse r .flow i d)))
  | none =>
  let uni := vifTakes r d p e false
  let grp := vifTakes r d p e true
  if uni ≠ [] then vifDest r p 1 uni l s (clsCount 2 d)
  else if grp ≠ [] then vifDest r p 2 grp l s (clsCount 2 d)
  else if d.rb .cls 0x040 (8 + 16 * p) then frameRecord r p (d.rf .cls 0x040 (7 + 16 * p) (16 * p)) 0xC000 l s (clsCount 3 d)
  else (raise r 81 (clsCount 4 d), [])

/-- A frame arrives (R241): its receive stamp is the one issued last at the port's receive point, that of a preempted frame the one of its first
fragment. A frame that the partner preempted is received in every preemption state but DISABLED (R252). NETn point 1, and point 0 of an engine on the port for
a PTP frame, make its FCS wrong (R363). -/
def frameArrive (r : Root) (p : Nat) (l : List Byte) (pcsOk fcsOk fragOk preempted : Bool) (d : Dev) : Dev × List MemWr :=
  let x := d.netp p
  if !x.link || (preempted && x.preempt == 0) then (d, [])
  else
    let es := (List.range 2).filter fun n => ptpPort d n == p && (ptpFrame l).isSome
    let inj := injects (.net p) 1 d || es.any fun n => injects (.ptp n) 0 d
    let d1 := es.foldl (fun d n => opportunity r (.ptp n) 0 d) (opportunity r (.net p) 1 d)
    let len := l.length + 4
    match macFail d1 p len l pcsOk (fcsOk && !inj) fragOk with
    | some k => (rxDiscard r p k d1, [])
    | none => classify r p l (if preempted then x.fragRx else sget (fun _ => {}) d1.tb.issued (2 * p + 1)) (netCount p 7 len (netCount p 0 1 d1))

/-- FRAME_RECEIVE (R241, R259). -/
def frameReceive (r : Root) (m : List Host.Cell) (p : Nat) (l : List Byte) (pcsOk fcsOk fragOk preempted : Bool) (d : Dev) : Dev × List MemWr :=
  afterEna r m p (frameArrive r p l pcsOk fcsOk fragOk preempted) d

/-! ### Meanings -/

/-- FRAME_RECEIVE. -/
def execFrameReceive (p : Port) (bytes : List Byte) (pcsOk fcsOk fragOk preempted : Bool) (s : State) : Host.Outcome State Fault Refusal :=
  onMem (fun r m d => frameReceive r m p bytes pcsOk fcsOk fragOk preempted (pageUse r .cls (0x040 :: vifWords) (pageUse r (.net p) [0x040] d))) s

end Sys2Proof.Machine
end

