-- ==== Sys2Proof/Machine/TrigFire.lean ====
section
/-! DEFINITION. Firing of a time trigger (09, R201 to R207) and the end of a Landing admission (10, R216), which act on every block. -/

namespace Sys2Proof.Machine

/-! ### Actions (R206, R207) -/

/-- A pulse on pad `p`, high from EC `up` to EC `down`. The pad is high while any pulse is, so that of pulses that overlap the later end counts. -/
def trigPulse (r : Root) (p up down : Nat) (d : Dev) : Dev :=
  d.trgMap fun t => { t with pulse := lput t.pulse p (((lget t.pulse p).filter fun w => decide (r.ec < w.2)) ++ [(up, down)]) }

/-- A level action of trigger `n` whose edge leaves pad `p` at EC `edge`. -/
def trigLevel (r : Root) (n p edge : Nat) (high : Bool) (d : Dev) : Dev :=
  let l := lget d.trg.level p
  d.trgMap fun t => { t with level := lput t.level p ((levNow r l).toList ++ (l.filter fun a => decide (r.ec < a.edge)) ++
    [{ edge := edge, cyc := r.ec / 512, n := n, high := high }]) }

/-- AT of the boundary that a ROUTE_SWAP waits from: T on time, the next boundary when late (R206, R312). -/
def swapFrom (r : Root) (n : Nat) (t v : Int) (late : Bool) (d : Dev) : Int :=
  if late then nextBoundary r d else if trigBase d n = 0 then t else d.atNow r + (t - v)

/-- What a host asked of a block that QUIET gates acts. -/
def payOwed (r : Root) (d : Dev) (x : Owed) : Dev :=
  match x with
  | .sap n set => sapCtrlHook r n set d
  | .group stop w => sapgCmd r stop w d
  | .tx g s => txHook r g s d
  | .rx g s => rxHook r g s d
  | .hb b => hbCfgHook r b (hbCfg d b) d

/-- It acts at once, and in QUIET waits for the return to RUN (R374). -/
def gatedAct (r : Root) (x : Owed) (d : Dev) : Dev :=
  if r.power ≠ .quiet then payOwed r d x
  else { d with owed := if x.once && d.owed.contains x then d.owed else d.owed ++ [x] }

/-- Everything that waits acts, in the order in which it was asked for. -/
def payAll (r : Root) (d : Dev) : Dev := d.owed.foldl (payOwed r) { d with owed := [] }

/-- The action of trigger `n`; `t` is its compare time, `v` the timescale in the fire cycle. The edge of a pad leaves 40 ns after the compare
time, or after a late fire's cycle (R206). -/
def trigAct (r : Root) (n : Nat) (t v : Int) (late : Bool) (d : Dev) : Dev :=
  let a := trigArg d n
  let edge := r.ec + 40 * nsUnits + (if late then 0 else (t - v).toNat)
  match trigAction d n with
  | 1 => trigPulse r a edge (edge + trigWidth d n * nsUnits) d
  | 2 => trigLevel r n a edge true d
  | 3 => trigLevel r n a edge false d
  | 4 => gatedAct r (.group false (wd (2 ^ a))) d
  | 5 => rteCommit r (swapFrom r n t v late d) (!late) d
  | 6 => corRelease r a d
  | 7 => rampStart r a d
  | _ => d

/-! ### Occurrences (R202, R203) -/

/-- The first occurrence after `k` that does not lie before `v`; a one-shot has none. -/
def nextOccur (d : Dev) (n k : Nat) (v : Int) : Nat :=
  let est := ((v - trigTime d n 0) * (trigDen d n : Int) / (max 1 (trigNum d n) * secUnits)).toNat
  let from' := max (k + 1) (est - 1)
  (((List.range 4).map (from' + ·)).find? fun j => v ≤ trigTime d n j).getD (from' + 4)

/-- DROP_LATE. -/
def trigDrop (d : Dev) (n : Nat) : Bool := trigF d n 0x10 8 8 == 1

/-- The trigger after an occurrence is handled: 1 FIRED, 2 FIRED_LATE, 3 DROPPED; the occurrences in the past, of which there are REPEAT at most,
are consumed with it. -/
def trigHandled (d : Dev) (n : Nat) (v : Int) (outcome : Nat) (late : Option Nat) : Trig :=
  let x := d.trig n
  let rep := trigRepeat d n
  let next := if trigPeriodic d n ∧ late.isSome then nextOccur d n x.k v else x.k + 1
  let k := if rep = 0 then next else max (x.k + 1) (min next rep)
  let ends := !trigPeriodic d n || (rep != 0 && decide (rep ≤ k))
  { st := if ends then .idle else .armed, outcome := outcome, refuse := x.refuse, k := k,
    late := late.getD x.late }

/-- TRIGGER_FIRE: the compare of trigger `n` in the present CORE_CLK cycle. -/
def trigFire (r : Root) (n : Nat) (d : Dev) : Dev :=
  let x := d.trig n
  let tb := timebase d (trigBase d n)
  let v := tb.val r.ec
  let t := trigTime d n x.k
  if x.st ≠ .armed ∨ tb.val (r.ec + 512) ≤ t then d
  else
    let late := decide (t < v)
    let ns := min 0xFFFFFFFF ((v - t + 255) / 256).toNat
    let lat := if late then some ns else none
    if late && trigDrop d n then evTrg r n (d.setTrig n (trigHandled d n v 3 lat))
    else
      let d1 := d.setTrig n (trigHandled d n v (if late then 2 else 1) lat)
      let d2 := capInternal r n (trigAct r n t v late d1)
      if trigEvt d n || trigAction d n == 0 then evTrg r n d2 else d2

/-! ### Admissions (R216) -/

/-- What a queued admission asks of the Landing. -/
def admitReq (r : Root) (d : Dev) (e : Admit) : LndReq :=
  let c := e.cons
  if c < 0x400 then txReq r d (d.txn c)
  else if c < 0x800 then
    let x := d.rxn (c - 0x400)
    { treads := cdiv (x.n * x.depth * 4) 512, formed := true, owned := true, align := none }
  else if c < 0x900 then corReq r d e.g (c - 0x800)
  else if c < 0xA00 then hbReq r d (c - 0x900)
  else
    let x := d.sapn (c - 0xA00)
    { treads := 2 * cdiv (x.slots * 2 ^ x.bufLog * 4) 512, formed := true, owned := true, align := none }

/-- The consumer's own end of its admission. -/
def admitDone (r : Root) (e : Admit) (d : Dev) : Dev :=
  let c := e.cons
  if c < 0x400 then txAdmitted r c d
  else if c < 0x800 then rxAdmitted r (c - 0x400) d
  else if c < 0x900 then corAdmitted r e.g (c - 0x800) d
  else if c < 0xA00 then hbAdmitted r (c - 0x900) d
  else sapAdmitted r e.g (c - 0xA00) d

/-- ADMISSION_COMPLETE: the first admission of the queue ends; in QUIET, the first of a block that runs (R374). It waits while the treads
it needs are still being zeroed (R214). -/
def admissionEnd (r : Root) (d : Dev) : Dev :=
  let may := fun (e : Admit) => r.running || (decide (0x800 ≤ e.cons ∧ e.cons < 0x900))
  match d.lnd.admitQ.find? may with
  | none => d
  | some e =>
    let q := admitReq r d e
    if freeCount d < q.treads ∧ q.treads ≤ freeCount d + d.lnd.zeroing.length then d
    else admitDone r e (d.lndMap fun l => { l with admitQ := l.admitQ.eraseP may })

/-! ### Meanings -/

/-- TRIGGER_FIRE. -/
def execTriggerFire (n : Fin 64) (s : State) : Host.Outcome State Fault Refusal := onDev (fun r d => trigFire r n (pageUse r .trg ((List.range 7).map fun i => 0x100 + 0x20 * n + 4 * i) d)) s

/-- ADMISSION_COMPLETE. -/
def execAdmissionComplete (s : State) : Host.Outcome State Fault Refusal := onDev (fun r d => admissionEnd r d) s

end Sys2Proof.Machine
end

