-- ==== Sys2Proof/Machine/Power.lean ====
section
/-! DEFINITION. Power states, resets, bring-up and EC restarts (18, R103 to R107, R114, R368 to R398). -/

namespace Sys2Proof.Machine

/-- Change the power state. -/
def Dev.pwrMap (d : Dev) (f : PwrSt → PwrSt) : Dev := { d with pwr := f d.pwr }

/-- Change the oscillator's state. -/
def Dev.clkMap (d : Dev) (f : ClkSt → ClkSt) : Dev := { d with clk := f d.clk }

/-- A command that changes what stands outside the core. -/
def onRoot (f : State → State) (s : State) : Host.Outcome State Fault Refusal := .next (f s)

/-! ### EC restarts (R109, R110, R114, R117, R175, R205, R317, R329) -/

/-- What a restart of the EC does to every block. Cause bit `c` 1 is a wake from DOZE, 5 a wrap; `r` has the EC at zero, `r0` at its last value.
Other EC instants that a block keeps start anew with it. -/
def ecRestart (r0 r : Root) (c : Nat) (d : Dev) : Dev :=
  let d1 := { d with
    evc := { d.evc with src := smap {} (fun x => { x with cyc := 0, setCyc := 0, mergeCyc := 0, dispEC := 0 }) d.evc.src },
    page := smap {} (fun x => { x with setCyc := 0, sets := [] }) d.page, lines := smap {} (fun x => { x with fell := 0 }) d.lines, hwSet := [],
    mon := { d.mon with late := [] }, log := { d.log with occCyc := 0 },
    txe := { d.txe with attnCyc := [] }, rxe := { d.rxe with attnCyc := [] } }
  let d2 := raise r 96 { d1 with tb := { d1.tb with
    prevEra := d1.tb.era, era := eraNext d1.tb.era, changes := satInc d1.tb.changes 255, cause := 2 ^ c, eraEC := 0, lastEdge := [] } }
  let d3 := trgRestart r (raise r 97 (setTimeState r 0 (restartViews false d2)))
  let d4 := (List.range 8).foldl (fun d n => delayKeep r0 (c == 1) n d) <| refRestart r d3
  let d5 := rteRestart r { d4 with
    chan := [], fb := [], mcs := smap {} (fun x => { x with taken := none }) d4.mcs,
    sap := smap {} (fun x => { x with lastEdge := 0, injStop := 0 }) d4.sap,
    ptp := smap {} (fun x => { x with syncEC := 0, dreqAt := none, dreqPrev := none, pdAt := 0, parCyc := 0 }) d4.ptp,
    gal := { d4.gal with claimCyc := 0, acted := [], granted := [], waiting := [] },
    lnd := { d4.lnd with admitQ := (d4.lnd.admitQ.filter fun e => decide (0x800 ≤ e.cons ∧ e.cons < 0xA00)).map fun e => { e with cyc := 0 } } }
  let d6 := sapRestart r (rxRestart r (txRestart r d5))
  let d7 := d6.netMap fun n => { n with
    port := smap {} (fun x => { x with busyTo := 0, cur := x.cur.map fun t => { t with start := 0, done := 0 }, credit := [], rxErr := none }) n.port,
    head := smap none (fun x => x.map fun h => { h with elig := 0 }) n.head }
  (List.range 2).foldl (fun d p => gateHook r p 0 d) d7

/-- EC_WRAP (R108, R109): the EC returns to zero under the next era. -/
def ecWrapped (s : State) : State :=
  if s.root.coreOn then let r := { s.root with ec := 0 }; { s with root := r, dev := ecRestart s.root r 5 s.dev } else s

/-- One CORE_CLK cycle with no command waiting: the EC of a running core advances by 2 ns, and past 64 bits it wraps (R108; log entry 2). -/
def idleStep (s : State) : Host.Outcome State Fault Refusal :=
  if !s.root.coreOn then .next s
  else if s.root.ec + 512 < ecMod then .next { s with root := { s.root with ec := s.root.ec + 512 } }
  else .next (ecWrapped { s with root := { s.root with ec := s.root.ec + 512 } })

/-! ### OTP (R386, R387) -/

/-- One bit of the reflected CRC-32 of IEEE 802.3. -/
def crcBit (c : Nat) : Nat := if c % 2 = 1 then (c / 2) ^^^ 0xEDB88320 else c / 2

/-- One byte of it. -/
def crcByte (c : Nat) (b : Byte) : Nat := (List.range 8).foldl (fun c _ => crcBit c) (c ^^^ b.toNat)

/-- CRC-32 of bytes. -/
def crc32 (l : List Byte) : Nat := (l.foldl crcByte 0xFFFFFFFF) ^^^ 0xFFFFFFFF

/-- OTP.STATUS.REGION_OK in bits 1 to 5: each region's CRC word against its words. -/
def otpCheck (otp : SMap Word) : Nat :=
  (otpRegions.map fun q =>
    b2n (crc32 ((List.range (q.2.2.1 - q.2.1)).flatMap fun i => wordBytes (wget otp (q.2.1 + i))) == (wget otp q.2.2.2).toNat) * 2 ^ q.1).sum

/-! ### Resets and bring-up (R381 to R385) -/

/-- Whether an address is one of the Foyer's watch entries. -/
def isWatch (a : Nat) : Bool := decide (0xA100 ≤ a ∧ a < 0xA140)

/-- The device with everything at its reset value but the pads' present levels, and the Foyer's watch set and host wakes where they are kept. -/
def freshDev (keepWatch keepWake : Bool) (d : Dev) : Dev :=
  let keep := fun (m : SMap Word) => if keepWatch then m.filter fun p => isWatch p.1 else []
  { regs := keep d.regs, eff := keep d.eff,
    hif := { perst := d.hif.perst, wokenFn := if keepWake then d.hif.wokenFn else 0, wokenQspi := if keepWake then d.hif.wokenQspi else 0 },
    pwr := { vinWarn := d.pwr.vinWarn, latched := if keepWatch then d.pwr.latched else 0 },
    rails := d.rails, phyPads := d.phyPads, freeCtr := d.freeCtr }

/-- Identity of engine `n` from its port's OTP address (R246; EUI-64 form PRESUMED, log entry 22). -/
def ptpLocal (r : Root) (n : Nat) (d : Dev) : Dev :=
  let m := macAddr r d n
  (d.setReg (.ptp n) 0x058 (wd (beNat (0xFE :: m.drop 3)))).setReg (.ptp n) 0x05C (wd (beNat (m.take 3 ++ [0xFF])))

/-- Bring-up to RUN (R381, R382, R384): the oscillator (XO_IN shows no edge with VIO_C down, R396), the OTP, the straps, the EC from zero under a random era, which is an era change and a
change of TIME_STATE (R109, R110, R117). EV_OTP_ERROR has been sampled by step 7, so that its source is PENDING (R387). -/
def bringUp (keepWatch keepWake : Bool) (st : Straps) (s : State) : State :=
  let otpOk := otpCheck s.root.otp
  let edge := st.xoEdge && !bankDown s.dev 2
  let d0 := { freshDev keepWatch keepWake s.dev with
    rails := s.dev.rails / 8 * 8, otpOk := otpOk, tb := { era := s.dev.free % 65535 + 1 },
    clk := { xoSrc := st.xoSel3 && edge, xoFail := st.xoSel3 && !edge } }
  let r : Root := { s.root with ec := 0, power := .run, step := 7, quietReq := none, houseSel := st.houseSel, xoSel := st.xoSel6,
                                qspiMode := st.qspiMode, mismatch := st.xoSel3 != st.xoSel6 }
  let d1 := (List.range 2).foldl (fun d n => ptpLocal r n d) d0.drew
  let d2 := if otpOk != 0x3E then eventEdge r 19 (raise r 19 d1) else d1
  { s with root := r, mem := [], dev := raise r 97 (raise r 96 d2) }

/-- RST_N reads 0: all logic but the supervisor, the comparator and the oscillator stops (R384, R396). -/
def holdReset (s : State) : State :=
  { s with root := { s.root with ec := 0, power := .rstHeld, step := 3, quietReq := none }, mem := [], dev := freshDev false false s.dev }

/-- Whether the RST_N pad reads 0: it is held low, or VIO_D is down (R384, R396). -/
def rstReads0 (s : State) : Bool := s.root.rstLow || bankDown s.dev 3

/-- Bring-up from step 2 on, held where RST_N reads 0 (R384). -/
def startUp (keepWatch keepWake : Bool) (st : Straps) (s : State) : State :=
  if rstReads0 s then holdReset s else bringUp keepWatch keepWake st s

/-- POWER_UP: from off, with EN high. -/
def powerUp (st : Straps) (s : State) : State :=
  match s.root.power with
  | .off => startUp false false st { s with root := { s.root with en := true } }
  | _ => s

/-- VIN_LOSS: a power-down in any state. -/
def vinLost (s : State) : State :=
  { s with root := { s.root with ec := 0, power := .off, step := 0, quietReq := none }, mem := [],
           dev := { freshDev false false s.dev with pwr := {}, rails := s.dev.rails / 8 * 8 } }

/-- EN_LOW: SHELF at once, with no commit; from power-down the pad alone moves. The Foyer keeps its watch set, and an asserted host wake stays
until R106 releases it. -/
def enLow (s : State) : State :=
  match s.root.power with
  | .off => { s with root := { s.root with en := false } }
  | _ => { s with root := { s.root with ec := 0, power := .shelf, step := 0, quietReq := none, en := false }, mem := [],
                  dev := ({ freshDev true true s.dev with rails := s.dev.rails / 8 * 8 }).pwrMap fun p => { p with latched := 0 } }

/-- The lowest watch entry of a set; 0x1F none. -/
def lowestEntry (w : Nat) : Nat := ((List.range 16).find? fun i => nbit w i).getD 0x1F

/-- SLEEP_STATUS and WAKE_SET of a wake from state `src`, with EV_FOYER_WAKE (R379). -/
def wakeReport (r : Root) (src cause ms : Nat) (d : Dev) : Dev :=
  raise r 16 (d.pwrMap fun p => { p with result := 1, refuse := 0, fromSt := src, cause := cause, wakeSet := p.latched, latched := 0, dozeMs := ms })

/-- EN_RISE: a wake from SHELF. -/
def enRise (st : Straps) (s : State) : State :=
  let s1 := { s with root := { s.root with en := true } }
  match s.root.power with
  | .shelf =>
    let s2 := startUp true true st s1
    if s2.root.power = .run then { s2 with dev := wakeReport s2.root 3 0x10 0 s2.dev } else s2
  | _ => s1

/-- RST_N reads 0: a device whose logic is powered is held in reset. In SHELF nothing runs that it could stop but the Foyer's latches, which stay
(R371, log entry 11). -/
def rstFalls (s : State) : State :=
  match s.root.power with
  | .off | .shelf | .rstHeld => s
  | _ => holdReset s

/-- RST_N_ASSERT: the pad is held low from outside, in any state. -/
def rstAssert (s : State) : State := rstFalls { s with root := { s.root with rstLow := true } }

/-- RST_N_RELEASE: bring-up steps 4 to 7; while VIO_D is down the pad still reads 0. -/
def rstRelease (st : Straps) (s : State) : State :=
  let s1 := { s with root := { s.root with rstLow := false } }
  match s.root.power with
  | .rstHeld => if bankDown s.dev 3 then s1 else bringUp false false st s1
  | _ => s1

/-! ### Oscillator, rails, banks and the VIN comparator (R370, R372, R388, R396) -/

/-- XO_IN_LOSS: with XO_FALLBACK the SYS PLL moves to the TCXO and stays locked. -/
def xoLoss (r : Root) (d : Dev) : Dev :=
  if !d.clk.xoSrc then d
  else
    let back := d.pf .clk 0x044 0 0 == 1
    raise r 20 (d.clkMap fun c => { c with xoFail := true, xoSrc := !back, switches := if back then satInc c.switches 0xFFFF else c.switches })

/-- SYS_PLL_UNLOCK. -/
def pllUnlock (r : Root) (d : Dev) : Dev :=
  raise r 20 (d.clkMap fun c => { c with sysLock := false, unlocks := satInc c.unlocks 0xFFFF })

/-- Bit of a rail in `Dev.rails`. -/
def railBit : Rail → Nat
  | .analogue => 0 | .core => 1 | .v33 => 2

/-- The condition of a rail or a bank changes. -/
def setRail (i : Nat) (b : Bool) (s : State) : State := { s with dev := { s.dev with rails := nset s.dev.rails i b } }

/-- VIO_UNDERVOLTAGE: loss of VIO_D during operation resets the device (R396). -/
def vioUnder (b : Nat) (s : State) : State :=
  let s1 := setRail (3 + b) true s
  if b = 3 then rstFalls s1 else s1

/-- VIN_WARN_TRIP and VIN_WARN_CLEAR: the comparator works in every state in which VIN is there. -/
def vinWarn (b : Bool) (s : State) : State :=
  match s.root.power with
  | .off => s
  | _ =>
    let d := s.dev.pwrMap fun p => { p with vinWarn := b }
    { s with dev := raiseIf (b && !s.dev.pwr.vinWarn && s.root.coreOn) s.root 18 d }

/-! ### The commit of a sleep command (R375 to R378) -/

/-- Codes of pads whose edge EDGE selects (R103). -/
def watchEdged (c : Nat) : Bool := (0x200 ≤ c && c ≤ 0x203) || c == 0x218 || c == 0x219 || (0x220 ≤ c && c ≤ 0x227)

/-- Whether a watch entry acts in DOZE and SHELF: enabled, of a pad or supply code, and its EDGE not reserved where EDGE counts (R103). -/
def watchActs (w : Word) : Bool :=
  let c := fld w 9 0
  bitOf w 31 && ((watchEdged c && fld w 30 29 != 3) || c == 0x208 || c == 0x210 || c == 0x211 || c == 0x230 || c == 0x231)

/-- Whether a watch entry fires on a rising or a falling edge of its source: where EDGE counts, it selects the edge; every other code has one
edge (R103). -/
def watchFires (w : Word) (rising : Bool) : Bool :=
  let e := fld w 30 29
  watchActs w && (!watchEdged (fld w 9 0) || e == 2 || (if rising then e == 0 else e == 1))

/-- SLEEP_STATUS after a refusal: FROM has no stated value for a reserved TARGET, so it is a free value there. -/
def sleepRefuse (t why : Nat) (d : Dev) : Dev :=
  if t < 4 then d.pwrMap fun p => { p with result := 3, refuse := why, fromSt := t, cause := 0x1F }
  else d.drew.pwrMap fun p => { p with result := 3, refuse := why, fromSt := d.free % 8, cause := 0x1F }

/-- Entry to a sleep state is aborted by the entries latched since acceptance (R376, R107). -/
def sleepAbort (r : Root) (t fired : Nat) (d : Dev) : Dev :=
  raise r 17 (d.pwrMap fun p => { p with result := 2, refuse := 0, fromSt := t, cause := lowestEntry fired, wakeSet := fired })

/-- The pads at a commit to DOZE or SHELF: trigger levels clear, and no slot drives DO (R377, R207). -/
def padsDown (d : Dev) : Dev :=
  let d1 := d.trgMap fun t => { t with level := [], pulse := [] }
  { d1 with sap := smap {} (fun x => { x with dout := [] }) d1.sap }

/-- The commit of a posted SLEEP_CMD, delayed while another page is BUSY: refused, aborted, or committed (R375, R376). -/
def sleepCommit (s : State) : State :=
  let d := s.dev
  match d.post .pwr with
  | none => s
  | some post =>
    if post.off ≠ 0x040 ∨ (d.posted.any fun p => p.1 != Blk.pwr.page && p.2.isSome) then s
    else
      let w := post.ws.headD 0
      let t := fld w 2 0
      let fired := d.pwr.latched
      let d1 := ((d.setPost .pwr none).setPwv .pwr 0x040 w).pwrMap fun p => { p with latched := 0 }
      let quiet := !s.root.running
      if 4 ≤ t then { s with dev := sleepRefuse t 2 d1 }
      else if 2 ≤ t ∧ ¬ (List.range 16).any (fun i => watchActs (watchOf d i)) then { s with dev := sleepRefuse t 1 d1 }
      else if t = 0 then { s with dev := d1, root := { s.root with quietReq := if quiet then some false else s.root.quietReq } }
      else if t = 1 ∧ quiet then { s with dev := d1 }
      else if fired ≠ 0 then { s with dev := sleepAbort s.root t fired d1 }
      else if t = 1 then { s with dev := d1, root := { s.root with quietReq := some true } }
      else { s with dev := padsDown d1, root := { s.root with power := .entering (t == 2), quietReq := none } }

/-- QUIET_ENTER (R374, R378, R340): at its boundary the datapath clocks are gated and every serial port stops. -/
def quietEnter (s : State) : State :=
  if s.root.running && s.root.quietReq == some true then
    { s with root := { s.root with power := .quiet, quietReq := none },
             dev := (List.range 32).foldl (fun d n => sapStop s.root n d) s.dev }
  else s

/-- QUIET_EXIT (R378): what hosts asked of the gated blocks acts (R374). -/
def quietExit (s : State) : State :=
  if s.root.power == .quiet && s.root.quietReq == some false then
    let r := { s.root with power := .run, quietReq := none }
    { s with root := r, dev := payAll r s.dev }
  else s

/-- The host wakes of every entry in a set (R104). -/
def wakeFor (fired : Nat) (d : Dev) : Dev :=
  (List.range 16).foldl (fun d i => if nbit fired i then wakeGals false (watchOf d i) d else d) d

/-- POWER_DOWN_COMPLETE (R377): the core rail is off and the PCIe link has stopped (R373); an entry latched since the commit wakes the device at
once. -/
def powerDown (s : State) : State :=
  match s.root.power with
  | .entering doze =>
    let fired := s.dev.pwr.latched
    let d := if doze then (s.dev.pwrMap fun p => { p with dozeMs := 0 }).hifMap fun h => { h with linkUp := false, speed := 0, width := 0, l1 := false }
      else { freshDev true true s.dev with rails := s.dev.rails / 8 * 8 }
    let p : Power := if fired ≠ 0 then .waking doze else if doze then .doze else .shelf
    { s with root := { s.root with ec := 0, power := p, step := if doze then s.root.step else 0 }, mem := [], dev := wakeFor fired d }
  | _ => s

/-! ### Watch entries (R103 to R107) -/

/-- Whether the edge behind a source code cannot come, since its pad stands on an unpowered bank and reads 0 (R396): a rising one. The loss of the
bank itself makes a falling edge of a pad that was high, as every block behind it sees; the codes of Q4_CS_N and Q5_CS_N have that edge alone. -/
def watchDead (d : Dev) (c : Nat) (rising : Bool) : Bool :=
  (c == 0x208 || (rising && c != 0x210 && c != 0x211))
    && ((decide (0x200 ≤ c ∧ c < 0x220) && bankDown d 3) || (decide (0x220 ≤ c ∧ c < 0x228) && bankDown d 2))

/-- Entry `i` is latched. -/
def latchEntry (i : Nat) (d : Dev) : Dev := d.pwrMap fun p => { p with latched := nset p.latched i true }

/-- WATCH_ENTRY_FIRE: entry `i` sees an edge of its source. While the core runs its sleeping galleries are woken; after a commit it is latched; in
DOZE and SHELF it wakes the core (R104, R105, R376, R377); how far a bring-up from SHELF has come while it lasts is a free value (R383). An entry on an event source fires in
the cycle of its source's change itself, once for each episode (foyerSource), and not again here. -/
def watchEntry (i : Nat) (rising : Bool) (s : State) : State :=
  let d := s.dev
  let w := watchOf d i
  let c := fld w 9 0
  let upd := fun (d : Dev) => { s with dev := d }
  if !bitOf w 31 || watchDead d c rising then s
  else match s.root.power with
    | .run | .quiet =>
      let d1 := pageUse s.root .gal [0x05C] (pageUse s.root .pwr [0x100 + 4 * i] d)
      upd (if watchFires w rising then watchFire i d1 else d1)
    | .entering _ => if watchFires w rising then upd (latchEntry i d) else s
    | .waking _ => if watchFires w rising then upd (wakeGals false w (latchEntry i d)) else s
    | .doze =>
      if watchFires w rising then
        { s with root := { s.root with power := .waking true },
                 dev := (wakeGals false w (latchEntry i d)).drew.pwrMap fun p => { p with dozeMs := d.free % 2 ^ 32 } }
      else s
    | .shelf =>
      if watchFires w rising && s.root.en then
        { s with root := { s.root with power := .waking false, step := d.free % 6 + 1 }, dev := (wakeGals false w (latchEntry i d)).drew }
      else s
    | .off | .rstHeld => s

/-- DOZE_WAKE: the same in DOZE, with the coarse counter's reading `ms` (R379). -/
def dozeWake (i : Nat) (rising : Bool) (ms : Nat) (s : State) : State :=
  let w := watchOf s.dev i
  if s.root.power == .doze && watchFires w rising && !watchDead s.dev (fld w 9 0) rising then
    { s with root := { s.root with power := .waking true },
             dev := (wakeGals false w (latchEntry i s.dev)).pwrMap fun p => { p with dozeMs := min ms 0xFFFFFFFF } }
  else s

/-- A source after DOZE: what was with a host returns as PENDING (R86). -/
def srcAfterDoze (r : Root) (d : Dev) (n : Nat) : Dev :=
  match (d.src n).st with
  | .dispatched | .active | .activePending => toPending r n false d
  | _ => d

/-- The Landing after DOZE (R214, R385): all treads zeroed and free but the quarantined ones, no consumer, no error; the quarantine gains the
treads that were marked for it. -/
def lndAfterDoze (l : LndSt) : LndSt :=
  let q := (l.quar ++ l.bad).dedup
  { l with free := q.foldl (fun f t => f.flatMap fun (run : Nat × Nat) =>
              if run.1 ≤ t ∧ t < run.1 + run.2 then [(run.1, t - run.1), (t + 1, run.1 + run.2 - t - 1)].filter fun x => 0 < x.2 else [run]) [(0, 65536)],
           zeroing := [], quar := q, bad := q, ext := [], admitQ := [], ce := [], ue := [], mapCe := [], mapUe := [], scrubWord := 0,
           hbuf := smap {} (fun x => { x with st := .idle, reason := 0, closing := false, last := none, from' := none, wrote := none }) l.hbuf,
           cor := smap {} (fun x => { x with st := .idle, reason := 0, run := false }) l.cor }

/-- A port after DOZE: no link, nothing on its way; its counters are kept. -/
def portAfterDoze (x : NetP) : NetP :=
  { speed := x.speed, hadLink := x.hadLink, rdata := x.rdata, drops := x.drops, cnt := x.cnt, stalls := x.stalls,
    overcommit := x.overcommit, qcnt := x.qcnt, lastTx := x.lastTx }

/-- The blocks as they stand restored after DOZE, before the EC restarts (R380, R385, R86). R86 does not name the number of the target a source was
last dispatched to (R88): the retention array captures every register (R377), and the model keeps it (DESIGN CHOICE, log entry 18). -/
def afterDoze (r : Root) (d : Dev) : Dev :=
  let d1 := (listed d fun _ => true).foldl (srcAfterDoze r) d
  let d2 := { d1 with
    evc := { d1.evc with src := smap {} (fun x => { x with pulses := 0, cyc := 0, cov := 0, com := none }) d1.evc.src, tgt := [] },
    lnd := lndAfterDoze d1.lnd,
    hif := { d1.hif with linkUp := false, speed := 0, width := 0, l1 := false },
    net := { d1.net with port := smap {} portAfterDoze d1.net.port, head := [] },
    trg := { d1.trg with capt := smap {} (fun x => { x with queue := [] }) d1.trg.capt },
    clk := { d1.clk with sysLock := true },
    rails := d1.rails / 8 * 8 }
  let d3 := (List.range 2).foldl (fun d n => ptpDiscard n (d.setPtp n { d.ptpn n with rxQ := [], answers := [], pdAnswers := [], syncOut := [] })) d2
  (List.range 2).foldl (fun d p => ptpLinkLost r p d) d3

/-- WAKE_COMPLETE (R379, R380): registers restored, galleries 0 to 3 reset, the EC from zero under the next era; after SHELF a power-up that
keeps the watch set, held where RST_N reads 0. What hosts asked of gated blocks in a QUIET before the DOZE acts now (R374). -/
def wakeComplete (st : Straps) (s : State) : State :=
  let cause := lowestEntry s.dev.pwr.latched
  match s.root.power with
  | .waking true =>
    let r : Root := { s.root with ec := 0, power := .run, step := 7, quietReq := none }
    let d1 := pcieReset r (afterDoze r s.dev)
    let d2 := ecRestart r r 1 d1
    let d3 := (List.range 8).foldl (fun d n => mcsWake r n d) d2
    { s with root := r, mem := [], dev := wakeReport r 2 cause s.dev.pwr.dozeMs (payAll r d3) }
  | .waking false =>
    let s2 := startUp true true st s
    if s2.root.power = .run then { s2 with dev := wakeReport s2.root 3 cause 0 s2.dev } else s2
  | _ => s

/-! ### Registers -/

/-- PWR registers that show live state (18). -/
def pwrRead (r : Root) (d : Dev) (o : Nat) : Word :=
  let p := d.pwr
  match o with
  | 0x044 => wd (b2n p.vinWarn * 256 + b2n (sleepPending d) * 16 + (match r.power with | .quiet => 1 | _ => 0))
  | 0x048 => wd (p.result * 2 ^ 28 + p.refuse * 2 ^ 24 + p.fromSt * 2 ^ 16 + p.cause)
  | 0x04C => wd p.wakeSet
  | 0x050 => wd p.dozeMs
  | _ => d.reg .pwr o

/-- CLK registers that show live state (18). -/
def clkRead (d : Dev) (o : Nat) : Word :=
  let c := d.clk
  match o with
  | 0x040 => wd (b2n c.tcxoOk * 8 + b2n c.xoFail * 4 + b2n c.xoSrc * 2 + b2n c.sysLock)
  | 0x048 => wd (c.switches * 65536 + c.unlocks)
  | _ => d.reg .clk o

/-! ### Output pads (R70, R106, R174, R193, R207, R370, R371, R377, R394 to R396) -/

/-- What a pad shows: driven low or high, driven by a running transfer bit by bit, or not driven. -/
inductive PadLevel where
  | low | high | shifting | float
  deriving DecidableEq, Repr

/-- A driven level. -/
def PadLevel.of (b : Bool) : PadLevel := if b then .high else .low

/-- An output pad on bank `b` (0 A to 3 D): not driven while its bank is down, in SHELF and while off; at its reset level until step 7. -/
def outPad (s : State) (b : Nat) (rst live asleep' : PadLevel) : PadLevel :=
  if bankDown s.dev b then .float
  else match s.root.power with
    | .run | .quiet => live
    | .entering _ | .doze | .waking true => asleep'
    | .rstHeld | .waking false => rst
    | .off | .shelf => .float

/-- TRIG_OUT`p`: push-pull, or open-drain by OUT_CFG OD. -/
def trigPad (s : State) (p : Nat) : PadLevel :=
  let hi := trigOut s.root s.dev p
  let l := if hi && bitOf (s.dev.reg .trg 0x040) (4 * p + 1) then PadLevel.float else .of hi
  outPad s 2 .low l l

/-- REF_STATE2 to REF_STATE0, LOCKED and HOLD_VALID. -/
def refPadLevels (s : State) : List PadLevel :=
  let q := refPads s.dev
  let live := [nbit q.1 2, nbit q.1 1, nbit q.1 0, q.2.1, q.2.2]
  live.map fun b => outPad s 3 .low (.of b) .low

/-- IRQgA (`b` false) or IRQgB of QSPI gallery `g`, at the polarity and drive of its CFG (R70). -/
def irqPadLevel (s : State) (g : Nat) (b : Bool) : PadLevel :=
  let w := s.dev.reg .hif (0x050 + 4 * (g - 4))
  let k := if b then 10 else 8
  let lvl := fun (a : Bool) => let hi := a == bitOf w k; if bitOf w (k + 1) && hi then PadLevel.float else .of hi
  outPad s 3 .high (lvl (irqPad s.dev g b)) (lvl false)

/-- SAPn_DO, as the last sampling edge of BCLK found it (R322, R324): the bit of the slot at its frame's index, most significant first; low elsewhere, and
where no frame sends. -/
def SapS.do' (x : SapS) : Bool :=
  let bit := fun (f : SapRun) => f.ok && f.live && f.drives && (List.range f.slots).any fun s =>
    let i := slotIndex f.fmt f.len f.slots s
    decide (i ≤ f.i ∧ f.i < i + sapWidth f.fmt) && nbit (nget x.dout s) (sapWidth f.fmt - 1 - (f.i - i))
  (x.cur.map bit).getD false || (x.tail.map bit).getD false

/-- SAPn_DO, on VIO_A or VIO_B. -/
def sapDoPad (s : State) (n : Nat) : PadLevel := outPad s (n / 16) .low (.of (s.dev.sapn n).do') .low

/-- What an MCLKO pad shows: a clock, or nothing driven. -/
inductive ClockPad where
  | drives (c : ClockSrc)
  | float
  deriving DecidableEq, Repr

/-- MCLKOp (R193, R334, R377, R394): low while the core sleeps and at reset. -/
def mclkoLevel (s : State) (p : Nat) : ClockPad :=
  match outPad s 2 .low .shifting .low with
  | .shifting => .drives (mclkoPad s.root s.dev p)
  | .float => .float
  | _ => .drives .low

/-- NA_MDC or NB_MDC: it runs while an operation does (R239). -/
def mdcPad (s : State) (p : Nat) : PadLevel := outPad s 3 .low (if (s.dev.netp p).mdio.isSome then .shifting else .low) .low

/-- NA_MDIO or NB_MDIO: bidirectional, not driven but by an operation's frames. -/
def mdioPad (s : State) (p : Nat) : PadLevel := outPad s 3 .float (if (s.dev.netp p).mdio.isSome then .shifting else .float) .float

/-- Qg_IO0 to Qg_IO3: driven within a frame alone, and a frame is one command. -/
def qspiIoPad (s : State) : PadLevel := outPad s 3 .float .float .float

/-- TDO: no command moves TCK, TMS, TDI or TRST_N, whose pull-down keeps the TAP in reset (R394; log entry 11). -/
def tdoPad (s : State) : PadLevel := outPad s 3 .float .float .float

/-- WAKE_OUT: driven in all states. -/
def wakeOut (s : State) : PadLevel := if bankDown s.dev 3 then .float else .of (s.dev.hif.wokenQspi != 0)

/-- PE_WAKE_N: open-drain, low while a function's host wake stands. -/
def peWake (s : State) : PadLevel := if s.dev.hif.wokenFn != 0 && !bankDown s.dev 3 then .low else .float

/-- PGOOD: open-drain, released in RUN and QUIET while every rail is in regulation. -/
def pgoodPad (s : State) : PadLevel := if pgood s.root s.dev then .float else .low

/-! ### Meanings -/

/-- POWER_UP. -/
def execPowerUp (st : Straps) (s : State) : Host.Outcome State Fault Refusal := onRoot (powerUp st) s
/-- VIN_LOSS. -/
def execVinLoss (s : State) : Host.Outcome State Fault Refusal := onRoot vinLost s
/-- EN_LOW. -/
def execEnLow (s : State) : Host.Outcome State Fault Refusal := onRoot enLow s
/-- EN_RISE. -/
def execEnRise (st : Straps) (s : State) : Host.Outcome State Fault Refusal := onRoot (enRise st) s
/-- RST_N_ASSERT. -/
def execRstAssert (s : State) : Host.Outcome State Fault Refusal := onRoot rstAssert s
/-- RST_N_RELEASE. -/
def execRstRelease (st : Straps) (s : State) : Host.Outcome State Fault Refusal := onRoot (rstRelease st) s
/-- XO_IN_LOSS. -/
def execXoInLoss (s : State) : Host.Outcome State Fault Refusal := onDev (fun r d => xoLoss r d) s
/-- SYS_PLL_UNLOCK. -/
def execSysPllUnlock (s : State) : Host.Outcome State Fault Refusal := onDev (fun r d => pllUnlock r d) s
/-- RAIL_OUT_OF_REGULATION. -/
def execRailOut (rail : Rail) (s : State) : Host.Outcome State Fault Refusal := onRoot (setRail (railBit rail) true) s
/-- RAIL_IN_REGULATION. -/
def execRailInRegulation (rail : Rail) (s : State) : Host.Outcome State Fault Refusal := onRoot (setRail (railBit rail) false) s
/-- VIO_UNDERVOLTAGE. -/
def execVioUnder (bank : Fin 4) (s : State) : Host.Outcome State Fault Refusal := onRoot (vioUnder bank) s
/-- BANK_SUPPLY_RESTORED. -/
def execBankSupplyRestored (bank : Fin 4) (s : State) : Host.Outcome State Fault Refusal := onRoot (setRail (3 + bank) false) s
/-- VIN_WARN_TRIP. -/
def execVinWarnTrip (s : State) : Host.Outcome State Fault Refusal := onRoot (vinWarn true) s
/-- VIN_WARN_CLEAR. -/
def execVinWarnClear (s : State) : Host.Outcome State Fault Refusal := onRoot (vinWarn false) s
/-- SLEEP_COMMIT. -/
def execSleepCommit (s : State) : Host.Outcome State Fault Refusal := onRoot (fun s => if s.root.coreOn then sleepCommit s else s) s
/-- POWER_DOWN_COMPLETE. -/
def execPowerDownComplete (s : State) : Host.Outcome State Fault Refusal := onRoot powerDown s
/-- QUIET_ENTER. -/
def execQuietEnter (s : State) : Host.Outcome State Fault Refusal := onRoot quietEnter s
/-- QUIET_EXIT. -/
def execQuietExit (s : State) : Host.Outcome State Fault Refusal := onRoot quietExit s
/-- DOZE_WAKE. -/
def execDozeWake (e : WatchEdge) (ms : Nat) (s : State) : Host.Outcome State Fault Refusal := onRoot (dozeWake e.n e.rising ms) s
/-- WAKE_COMPLETE. -/
def execWakeComplete (st : Straps) (s : State) : Host.Outcome State Fault Refusal := onRoot (wakeComplete st) s
/-- WATCH_ENTRY_FIRE. -/
def execWatchEntryFire (e : WatchEdge) (s : State) : Host.Outcome State Fault Refusal := onRoot (watchEntry e.n e.rising) s
/-- EC_WRAP. -/
def execEcWrap (s : State) : Host.Outcome State Fault Refusal := onRoot ecWrapped s

end Sys2Proof.Machine
end

