-- ==== Sys2Proof/Machine/Access.lean ====
section
/-! DEFINITION. Reads and writes of the 2 MiB map (02, R33 to R56; rights of R73, R75, R235): the five checks, register types, shadows,
table entries, posted writes, and what a write does in its block. -/

namespace Sys2Proof.Machine

/-! ### What a register shows -/

/-- The common header (R38, R41, R52). -/
def headerRead (r : Root) (d : Dev) (b : Blk) (o : Nat) : Word :=
  match o with
  | 0x000 => wd (b.code.1 * 2 ^ 24 + b.code.2 * 2 ^ 16 + 0x0100)
  | 0x004 => wd (b2n b.hasLw * 2 ^ 25 + b2n b.hasPw * 2 ^ 24 + b.injPoints * 2 ^ 16 + b.regEnd)
  | 0x008 => wd ((match b.cls' with | .claimed _ => 512 | _ => 0) + b2n d.sealed * 256 + steward r d b)
  | 0x00C => wd (b2n (d.armed b) * 256 + (d.pg b).bits + b2n (d.busy b))
  | 0x010 => (d.pg b).cap
  | 0x020 => bitsWord fun i => match b.events[i]? with | some n => lineOf r d n | none => false
  | _ => d.reg b o

/-- A register of a page as gallery `g` would read it, before its type is considered. -/
def liveReg (r : Root) (d : Dev) (g : Nat) (b : Blk) (o : Nat) : Word :=
  if o < 0x040 then headerRead r d b o
  else match b with
    | .dev => devRead r o
    | .gal => galRead r d g o
    | .hif => hifRead d g o
    | .evc => evcRead r d o
    | .evt e => evtRead r d e o
    | .pwr => pwrRead r d o
    | .clk => clkRead d o
    | .otp => otpRead r d g o
    | .lnd => if 0x200 ≤ o then hbRead d o else if o = 0x040 then d.reg .lnd o else lndRegRead d g o
    | .cor => corRead d g o
    | .net p => netRead d p o
    | .cls => if 0x080 ≤ o ∧ o < 0x100 then wd (nget d.net.clsCnt ((o - 0x080) / 4)) else d.reg .cls o
    | .shp => shpRead d o
    | .tbe => tbeRead r d o
    | .ptp n => ptpRead d n o
    | .srv n => srvRead d n o
    | .trg => trgRead r d o
    | .ref => refRead r d o
    | .mcs n => mcsRead r d n o
    | .txe => txeRead d o
    | .rxe => rxeRead d o
    | .rte => rteRead d o
    | .sapg => sapgRead r d o
    | .sap n => sapRead r d n o
    | .mon => monRead d g o
    | .log => logRead d o
    | .flt => fltRead d o

/-- A word of a table entry as it stands; the stream tables' status words are live (R267, R286). -/
def liveTable (d : Dev) (t : Tbl) (e i : Nat) : Word :=
  match t with
  | .txs => if 12 ≤ i then txStatus d e i else d.tw t e i
  | .rxs => if 6 ≤ i then rxStatus d e i else d.tw t e i
  | _ => d.tw t e i

/-! ### Reads (R35, R43, R47) -/

/-- A gallery's read shadow of the group or entry at address `a`. -/
def Dev.rsh (d : Dev) (g a : Nat) : List Word := lget d.rshadow (galKey g a)

/-- Latch the higher words of a group. -/
def latch (g a : Nat) (ws : List Word) (d : Dev) : Dev := { d with rshadow := lput d.rshadow (galKey g a) ws }

/-- Side effects of a register read: EVTg.CLAIMt by its own gallery (R95), CAPc_REC word 0 (R209), OTP.DATA (18). -/
def readEffect (r : Root) (g : Nat) (b : Blk) (o : Nat) (w : Word) (d : Dev) : Word × Dev :=
  match b with
  | .evt e => if 0x0C0 ≤ o ∧ o < 0x0E0 then (if g = e then claim r (8 * e + (o - 0x0C0) / 4) d else (0x3FF, d)) else (w, d)
  | .trg => if 0xA08 ≤ o ∧ o % 0x40 = 8 then (w, capRecHook ((o - 0xA00) / 0x40) d) else (w, d)
  | .otp => if o = 0x048 then (w, d.setOwn .otp 0x044 g (wd ((fld (d.own .otp 0x044 g) 10 0 + 1) % 2048))) else (w, d)
  | _ => (w, d)

/-- A read of the word at address `a` by gallery `g`: the word and the device after it. -/
def readWord (r : Root) (g a : Nat) (d : Dev) : Word × Dev :=
  match place a with
  | .reserved => (0, d)
  | .table t e i =>
    if t.size = 4 then (d.tw t e 0, d)
    else if i = 0 then (liveTable d t e 0, latch g a ((List.range (t.size / 4 - 1)).map fun j => liveTable d t e (j + 1)) d)
    else ((d.rsh g (t.addr e 0)).getD (i - 1) 0, d)
  | .reg b o =>
    match b.reg o with
    | none => (0, d)
    | some x =>
      match x.ty with
      | .wo => (0, d)
      | .mc => (wd (fld (liveReg r d g b o) 15 0), d)
      | .shRo i | .shRw i | .shPw i => ((d.rsh g (a - 4 * i)).getD (i - 1) 0, d)
      | .lwRo n | .lwRw n | .lwPw n =>
        readEffect r g b o (liveReg r d g b o) (latch g a ((List.range (n - 1)).map fun j => liveReg r d g b (o + 4 * (j + 1))) d)
      | _ => readEffect r g b o (liveReg r d g b o) d

/-! ### Check 3: stewardship and partition (R37, R72, R73, R75, R235, R246) -/

/-- What check 3 finds. -/
inductive Right where
  | ok | notSteward | outside
  /-- ignored without report (R60) -/
  | ignored
  deriving DecidableEq, Repr

/-- The page's steward alone; with no steward the house gallery writes PAGE_STATUS (R41). -/
def pageRight (r : Root) (d : Dev) (g : Nat) (b : Blk) (o : Nat) : Right :=
  let st := steward r d b
  if st = g ∨ (st = 7 ∧ o = 0x00C ∧ g = r.house) then .ok else .notSteward

/-- The owner of a partition element alone. -/
def elemRight (r : Root) (d : Dev) (g : Nat) (x : Res) (i : Nat) : Right := if owner r d x i = g then .ok else .outside

/-- Types of which no write changes anything. -/
def readOnly (ty : RegTy) : Bool := match ty with | .ro | .lwRo _ | .shRo _ => true | _ => false

/-- Check 3 for a write of `w` to an implemented register. -/
def regRight (r : Root) (d : Dev) (g : Nat) (b : Blk) (o : Nat) (w : Word) : Right :=
  let page := pageRight r d g b o
  if o < 0x040 then page
  else match b with
    | .gal => if o = 0x040 ∨ o = 0x05C then .ok else page
    | .hif =>
      if 0xC00 ≤ o then .ignored
      else if 0x800 ≤ o then (if g < 4 then .ok else if page = .ok then .ignored else page)
      else page
    | .evt _ =>
      if page = .ok ∧ (o = 0x04C ∨ (0x050 ≤ o ∧ o < 0x05C)) then elemRight r d g .evtSource (srcSel d g) else page
    | .trg =>
      if 0x048 ≤ o ∧ o < 0x058 then .ok
      else if 0x100 ≤ o ∧ o < 0x900 then elemRight r d g .trgSlot ((o - 0x100) / 0x20)
      else if 0x900 ≤ o ∧ o < 0xA00 then elemRight r d g .trgSlot ((o - 0x900) / 4)
      else if 0xA00 ≤ o then elemRight r d g .trgSlot (64 + (o - 0xA00) / 0x40)
      else page
    | .lnd =>
      if o = 0x0A0 ∨ o = 0x0A8 ∨ o = 0x0B0 then .ok
      else if 0x200 ≤ o then (let n := if 0x500 ≤ o then (o - 0x500) / 4 else (o - 0x200) / 0x10; if n / 8 = g then .ok else .notSteward)
      else page
    | .cor => if o = 0x040 then .ok else elemRight r d g .corridor (if 0x800 ≤ o then (o - 0x800) / 8 else fld (d.own .cor 0x040 g) 7 0)
    | .otp => if o = 0x044 then .ok else page
    | .cls =>
      if 0x100 ≤ o then
        (if owner r d .vif ((o - 0x100) / 4) ≠ g then .outside
         else if owner r d .corridor (fld w 15 8) ≠ g ∨ owner r d .corridor (fld w 7 0) ≠ g then .outside else .ok)
      else page
    | .txe => if o = 0x048 ∨ (0x100 ≤ o ∧ o < 0x180) then .ok else page
    | .rxe => if o = 0x048 ∨ (0x100 ≤ o ∧ o < 0x180) then .ok else page
    | .rte => if 0x400 ≤ o then elemRight r d g .generator ((o - 0x400) / 8 / 16) else page
    | .mon => if o = 0x040 then .ok else page
    | .log =>
      if o = 0x050 ∨ 0x100 ≤ o then .ok
      else if 0x060 ≤ o ∧ o < 0x078 then (if (o - 0x060) / 4 = g then .ok else .notSteward)
      else page
    | .flt => if o = 0x044 ∧ g = r.house then .ok else page
    | _ => page

/-- Check 3 with its exception: a page's steward writes a read-only register of an element it does not own without effect or report (R37). -/
def writeRight (r : Root) (d : Dev) (g : Nat) (b : Blk) (o : Nat) (ty : RegTy) (w : Word) : Right :=
  if readOnly ty && steward r d b == g then .ignored else regRight r d g b o w

/-- The element that covers a table entry (R72). A write of a read-only table is ignored for the steward of its page; another gallery holds no
right there, so that check 3 fails (R37; the kind is DEDUCED, log entry 15). -/
def tableRight (r : Root) (d : Dev) (g : Nat) (t : Tbl) (e : Nat) : Right :=
  match t with
  | .route0 | .route1 => elemRight r d g .route (e / 128)
  | .txs => elemRight r d g .txStream (e / 16)
  | .rxs => elemRight r d g .rxStream (e / 16)
  | .flow => elemRight r d g .flow (e / 64)
  | .monslot => elemRight r d g .monSlot (e / 8)
  | .hist | .alarm => if steward r d t.blk = g then .ignored else .outside

/-- Whether a channel an entry names is the writer's; one outside the ranges of R306 is not judged (R73). -/
def chanMine (r : Root) (d : Dev) (g c : Nat) : Bool := match chanOwner r d c with | some o => o == g | none => true

/-- Whether what the entry's words name lies in the writer's partition (R73, R245, R345): a route with VALID 0 is never judged (R310) and the
TARGET of DROP is not (R245); every other entry is judged, enabled or not. -/
def contentOk (r : Root) (d : Dev) (g : Nat) (t : Tbl) (ws : List Word) : Bool :=
  let w := fun i => ws.getD i 0
  match t with
    | .route0 | .route1 => !bitOf (w 0) 31 || (chanMine r d g (fld (w 1) 31 16) && chanMine r d g (fld (w 0) 15 0))
    | .txs | .rxs => (List.range (fld (w 0) 21 16 + 1)).all fun i => chanMine r d g (fld (w 1) 31 16 + i)
    | .flow =>
      let n := fld (w 0) 23 14
      fld (w 0) 30 28 == 3 || (match fld (w 0) 25 24 with
        | 0 => owner r d .rxStream (n / 16) == g
        | 1 => decide (n < 2) && steward r d (.ptp n) == g
        | 2 => decide (n < 256) && owner r d .corridor n == g
        | _ => true)
    | .monslot =>
      let n := fld (w 1) 31 16
      (match fld (w 0) 27 24 with
        | 1 | 2 => owner r d .rxStream (n % 1024 / 16) == g
        | 4 => owner r d .txStream (n % 1024 / 16) == g
        | 7 => chanMine r d g n
        | 8 => decide (48 ≤ n) || n / 8 == g
        | 9 => decide (256 ≤ n) || owner r d .corridor n == g
        | _ => true)
    | .hist | .alarm => true

/-! ### Effects of a write in its block -/

/-- Device and Landing writes. -/
abbrev Eff := Dev × List MemWr

/-- No write of the Landing. -/
def eff (d : Dev) : Eff := (d, [])

/-- Clear the ATTN bits of the streams of word `k` that gallery `g` owns (R305); one set in the same CFG_CLK cycle stays (R44). -/
def attnClear (r : Root) (d : Dev) (g k : Nat) (x : Res) (w : Word) (cyc : SMap Nat) (m : SMap Bool) : SMap Bool :=
  (List.range 32).foldl (fun m i =>
    let n := 32 * k + i
    if bitOf w i && owner r d x (n / 16) == g && nget cyc n != r.cyc + 1 then bput m n false else m) m

/-- LOG.CLASSk: the fields of the sources that gallery `g` owns; sources 448 to 479 have none (R350). -/
def classWrite (r : Root) (d : Dev) (g k : Nat) (w old : Word) : Word :=
  wd (((List.range 16).map fun i =>
    let n := 16 * k + i
    let own := owner r d .evtSource n == g && !(decide (448 ≤ n ∧ n ≤ 479))
    fld (if own then w else old) (2 * i + 1) (2 * i) * 4 ^ i).sum)

/-- A strobe of a WO register, or of a W1C one (R43). -/
def strobe (r : Root) (g : Nat) (b : Blk) (o : Nat) (w : Word) (d : Dev) : Eff :=
  match b with
  | .dev => eff (if bitOf w 0 then { d with sealed := true } else d)
  | .gal =>
    if o = 0x040 then eff (claimCmd r g w d)
    else eff ((List.range 6).foldl (fun d i => if bitOf w i then galReset r 3 i d else d) d)
  | .evt e => eff (evtWrite r e o w d)
  | .lnd => eff (lndCmd w d)
  | .cor =>
    let c := fld (d.own .cor 0x040 g) 7 0
    let d1 := if bitOf w 1 then d.setCor c { d.cor c with overflow := 0, ptrErr := 0 } else d
    eff (if bitOf w 0 then corPtr r c .rewind d1 else d1)
  | .net p => eff (if o = 0x04C then mdioCmd p w d else netCmd r p w d)
  | .cls => eff (clsCmd w d)
  | .srv n => eff (if bitOf w 0 then srvRestart n d else d)
  | .trg =>
    let k := (o - 0x048) / 4
    eff (if o < 0x050 then trigBits r g k w (trigArm r) d else trigBits r g (k - 2) w (trigStop r 6) d)
  | .ref => eff (refCmd r w d)
  | .mcs n => eff (mcsCmd r n w d)
  | .txe => eff (if o = 0x048 then txeCmd r g w d else d.txeMap fun x => { x with attn := attnClear r d g ((o - 0x100) / 4) .txStream w x.attnCyc x.attn })
  | .rxe => eff (if o = 0x048 then rxeCmd r g w d else d.rxeMap fun x => { x with attn := attnClear r d g ((o - 0x100) / 4) .rxStream w x.attnCyc x.attn })
  | .rte => eff (rteCmd r w d)
  | .sapg => eff (gatedAct r (.group (o == 0x044) w) d)
  | .sap n => eff (sapCmd n w d)
  | .mon => eff (monSnap r g w d)
  | .log => eff (alarmClear r g w d)
  | .flt => eff (fltCmd w (steward r d b == g) d)
  | _ => eff d

/-- A write of a register that its block keeps in state of its own. -/
def blockWrite (r : Root) (g : Nat) (b : Blk) (o : Nat) (w : Word) (d : Dev) : Eff :=
  match b with
  | .gal => eff (partWrite r w d)
  | .hif => eff (d.hifMap fun h => { h with msix := sset (fun k => if k % 4 = 3 then 1 else 0) h.msix (32 * g + (o - 0x800) / 4) w })
  | .evc => eff (evcWrite r o w d)
  | .evt e => eff (evtWrite r e o w d)
  | .otp => eff (d.setOwn .otp o g w)
  | .lnd => eff (if 0x200 ≤ o then hbPtrHook r ((o - 0x200) / 0x10) w d else d.setOwn .lnd o g w)
  | .cor =>
    if o = 0x040 then eff (d.setOwn .cor 0x040 g w)
    else if 0x800 ≤ o then
      let c := (o - 0x800) / 8
      if o % 8 = 0 then eff (corPtr r c (.rd w.toNat) d) else flushPending r (corPtr r c (.rel w.toNat) d)
    else
      let c := fld (d.own .cor 0x040 g) 7 0
      if o = 0x044 then eff (corCfg r g c w d) else eff (corPtr r c (.mark w.toNat) d)
  | _ => eff d

/-- What follows when a stored register or group has taken its new words; `old` and `new` are its words before and after, `raw` the word
written. -/
def afterWrite (r : Root) (m : List Host.Cell) (b : Blk) (o : Nat) (old new : List Word) (raw : Word) (d : Dev) : Eff :=
  let o0 := old.headD 0
  let n0 := new.headD 0
  match b with
  | .hif => eff (if o = 0x050 ∨ o = 0x054 then d.hifMap fun h => { h with cfgWritten := bput h.cfgWritten ((o - 0x050) / 4) true } else d)
  | .evt e => eff (if o = 0x040 then withdrawLost r (d.setReg (.evt e) 0x040 o0) d
      else if 0x080 ≤ o ∧ o < 0x0A0 then decide' r (8 * e + (o - 0x080) / 4) d else d)
  | .lnd => eff (if 0x200 ≤ o ∧ o % 0x10 = 0 then gatedAct r (.hb ((o - 0x200) / 0x10)) d else d)
  | .net p => if o = 0x040 then netCtrlHook r m p o0 d else eff d
  | .shp =>
    let p := (o - 0x100) / 0x200
    if o % 0x200 = 0x100 then eff (overcommit r p false d)
    else if o % 0x200 = 0x10C then eff (gateHook r p o0 d)
    else eff (reckon r p d)
  | .tbe => eff (if 0x120 ≤ o ∧ o < 0x300 then viewSetHook r ((o - 0x120) / 0x80) d else d)
  | .ptp n => eff (if o = 0x040 then ptpCtrlHook r n o0 n0 d else if o = 0x048 then parentHook r n old new d else d)
  | .srv n => eff (if o = 0x040 then srvCtrlHook n o0 n0 d else d)
  | .trg => eff (if 0xA00 ≤ o then capCfgHook ((o - 0xA00) / 0x40) o0 n0 d else d)
  | .ref =>
    if o = 0x048 then eff (preferredHook r d)
    else if 0x0A0 ≤ o ∧ o < 0x0C0 then eff (refInHook r ((o - 0x0A0) / 4) true o0 n0 d)
    else if 0x0C0 ≤ o ∧ o < 0x0E0 then eff (refInHook r ((o - 0x0C0) / 4) false o0 n0 d)
    else if o = 0x160 then eff (todHook d)
    else eff d
  | .rte => eff (if o = 0x040 then rateHook r n0 d
      else if 0x400 ≤ o then
        let g := (o - 0x400) / 8
        if o % 8 = 0 then genHook r g o0 (d.reg .rte (0x404 + 8 * g)) d else genHook r g (d.reg .rte (0x400 + 8 * g)) o0 d
      else d)
  | .sap n => eff (if o = 0x044 then gatedAct r (.sap n (if bitOf raw 16 then some (bitOf raw 0) else none)) d else d)
  | _ => eff d

/-- What follows a commit of entry `e` of a table region by gallery `g`, over its old words (R55). -/
def afterEntry (r : Root) (g : Nat) (t : Tbl) (e : Nat) (old new : List Word) (d : Dev) : Dev :=
  match t with
  | .route0 => routeHook r 0 e old d
  | .route1 => routeHook r 1 e old d
  | .txs => gatedAct r (.tx g e) d
  | .rxs => gatedAct r (.rx g e) d
  | .monslot => monCommit e old new d
  | .flow | .hist | .alarm => d

/-! ### Writes (R37, R43, R45, R48, R49, R51) -/

/-- A gallery's write shadow of a group. -/
def Dev.wsh (d : Dev) (g a : Nat) : SMap Word := sget (fun _ => []) d.wshadow (galKey g a)

/-- Set it. -/
def Dev.setWsh (d : Dev) (g a : Nat) (m : SMap Word) : Dev := { d with wshadow := sset (fun _ => []) d.wshadow (galKey g a) m }

/-- Store the words of a group from an offset up. -/
def storeWords (b : Blk) (o : Nat) (ws : List Word) (d : Dev) : Dev :=
  (ws.foldl (fun (a : Nat × Dev) w => (a.1 + 4, a.2.setReg b a.1 w)) (o, d)).2

/-- The words of a register or group as they are stored. -/
def regWords (d : Dev) (b : Blk) (o n : Nat) : List Word := (List.range n).map fun i => d.reg b (o + 4 * i)

/-- LT values are stored with their NS carried and their other bits zero (R118): TRGn.TIME, the gate base, and the time of
VIEWv_SET, whose RATE is stored with its sign extended (R120). -/
def ltStored (b : Blk) (o : Nat) (ws : List Word) : List Word :=
  match b with
  | .trg => if o < 0x900 then ltNorm ws else ws
  | .shp => ltNorm ws
  | .tbe => if 0x120 ≤ o ∧ ws.length = 9 then ws.take 3 ++ ltNorm ((ws.drop 3).take 4) ++ rateWords (rateOf (ws.getD 7 0) (ws.getD 8 0)) else ws
  | _ => ws

/-- The words an LW write commits: its own, the held SH words, and the present ones (R48). -/
def groupWords (d : Dev) (g : Nat) (b : Blk) (o n : Nat) (w : Word) : List Word :=
  let held := d.wsh g (b.addr o)
  ltStored b o (w :: (List.range (n - 1)).map fun j => sget (fun _ => d.reg b (o + 4 * (j + 1))) held (j + 1))

/-- The bits of a plain register that the device sets as well: a point of the temperature table (R171), and LOG_DREQ (R134). -/
def hwMask (b : Blk) (o : Nat) : Word :=
  match b with
  | .ref => if 0x120 ≤ o ∧ o < 0x160 then ~~~0 else 0
  | .ptp _ => if o = 0x060 then 0xFF00 else 0
  | _ => 0

/-- The words of a stored register after a masked write (R43). -/
def maskedWord (old w : Word) : Word :=
  wd (((List.range 16).map fun i => b2n (if bitOf w (16 + i) then bitOf w i else bitOf old i) * 2 ^ i).sum)

/-- The other registers of its page that a block consults when a write of the register at offset `o` acts (R53). -/
def actUses (b : Blk) (o : Nat) : List Nat :=
  match b with
  | .gal => if o = 0x050 then [0x04C] else []
  | .evt _ => if 0x04C ≤ o ∧ o < 0x05C then [0x048] else if 0x0C0 ≤ o then [] else [0x040]
  | .pwr => if o = 0x040 then watchWords else []
  | .lnd => if 0x200 ≤ o ∧ o < 0x500 then [o / 0x10 * 0x10, o / 0x10 * 0x10 + 4] else []
  | .net _ => if o = 0x04C then [0x048, 0x050] else if o = 0x040 then [] else [0x040]
  | .shp => [o / 0x200 * 0x200 + 0x100]
  | .tbe => if 0x120 ≤ o ∧ o < 0x300 then [0x040] else []
  | .ptp _ => if o = 0x040 then [0x048, 0x04C, 0x050, 0x054, 0x060, 0x064] else [0x040]
  | .srv _ => if o = 0x07C then [0x040] else []
  | .trg => if o < 0x050 then (List.range 64).flatMap fun n => [0x110 + 0x20 * n, 0x100 + 0x20 * n] else []
  | .ref => if o = 0x090 then [0x040, 0x044] else if o = 0x048 then [0x040] else []
  | .mcs _ => if o = 0x05C then [0x0B0] ++ (List.range 64).flatMap (fun i => [0x200 + 8 * i, 0x204 + 8 * i])
      else if o = 0x040 then [0x048, 0x04C] ++ (List.range 16).flatMap (fun j => [0x100 + 8 * j, 0x104 + 8 * j]) else [0x040]
  | .rte => if o = 0x048 then [0x040] else []
  | .sap _ => if o = 0x044 then [0x040, 0x048, 0x04C, 0x050, 0x054] else []
  | .flt => if o = 0x044 then [] else [0x040]
  | _ => []

/-- A register or group takes new words, and its block acts on them. Credit is reckoned up to now before a shaper's words change (R253). -/
def storeAct (r : Root) (m : List Host.Cell) (b : Blk) (o : Nat) (new : List Word) (raw : Word) (d' : Dev) : Eff :=
  let d := if b = .shp then reckon r ((o - 0x100) / 0x200) d' else d'
  let old := regWords d b o new.length
  afterWrite r m b o old new raw (pageUse r b (actUses b o) (storeWords b o new d))

/-- A write of a header register (R40, R41). -/
def headerWrite (r : Root) (g : Nat) (b : Blk) (o : Nat) (w : Word) (d : Dev) : Dev :=
  match o with
  | 0x00C => clearFaults r g b w d
  | 0x014 => d.setReg b o (maskedWord (d.reg b o) w)
  | 0x018 => armRule b (d.setReg b o w)
  | 0x01C => armRule b (d.setReg b o (maskedWord (d.reg b o) w))
  | _ => d

/-- Whether a register is LO: GAL.PART_DATA, and a strobe of DEV.SEAL (R74). -/
def isLo (b : Blk) (x : Reg) (w : Word) : Bool := x.ty == .lo || x.ty == .lohk || (b == .dev && x.ty == .wo && bitOf w 0)

/-- Whether a write of the register is posted (R51). -/
def isPw (x : Reg) : Bool := match x.ty with | .pw | .lwPw _ => true | _ => false

/-- A write that passed every check of R37, by the register's type. Parity is kept by BAR0 address: of a register with a copy for each gallery, function
or corridor, a write of any copy makes the one parity right (DESIGN CHOICE, log entry 12). -/
def regWrite (r : Root) (m : List Host.Cell) (g : Nat) (b : Blk) (o : Nat) (x : Reg) (w : Word) (d : Dev) : Eff :=
  if o < 0x040 then eff (headerWrite r g b o w d)
  else match x.ty with
    | .ro | .lwRo _ | .shRo _ => eff d
    | .wo | .w1c => strobe r g b o w (pageUse r b (actUses b o) d)
    | .rw | .lo => if b = .log ∧ 0x100 ≤ o then storeAct r m b o [classWrite r d g ((o - 0x100) / 4) w (d.reg b o)] w d
      else storeAct r m b o [hostFirst r b o (hwMask b o) (d.reg b o) w d] w d
    | .mc => if b = .gal then eff (hostSleep g w d) else storeAct r m b o [maskedWord (d.reg b o) w] w d
    | .hk | .lohk => blockWrite r g b o w (pageUse r b (actUses b o) { d with parityBad := d.parityBad.filter (· != b.addr o) })
    | .pw =>
      let d1 := (d.setReg b o w).setPost b (some { off := o, ws := [w] })
      eff (if b = .pwr ∧ o = 0x040 then d1.pwrMap fun p => { p with latched := 0 } else d1)
    | .lwPw n =>
      let ws := groupWords d g b o n w
      eff (((storeWords b o ws d).setPost b (some { off := o, ws := ws })).setWsh g (b.addr o) [])
    | .lwRw n =>
      let d1 := d.setWsh g (b.addr o) []
      if b = .tbe ∧ viewSetRefused d ((o - 0x120) / 0x80) w then eff (viewRefuse ((o - 0x120) / 0x80) d1)
      else storeAct r m b o (groupWords d g b o n w) w d1
    | .shRw i | .shPw i => eff (d.setWsh g (b.addr o - 4 * i) (sput i w (d.wsh g (b.addr o - 4 * i))))

/-- Words of an entry that no write reaches (R267, R286, R344). -/
def statusWord (t : Tbl) (i : Nat) : Bool :=
  match t with
  | .txs => decide (12 ≤ i)
  | .rxs => decide (6 ≤ i)
  | .monslot => decide (6 ≤ i)
  | _ => false

/-- A gallery's write shadow of a table region, by word address. -/
def Dev.tsh (d : Dev) (g : Nat) (t : Tbl) : SMap Word := sget (fun _ => []) d.tshadow (g * 8 + t.num)

/-- Set it. -/
def Dev.setTsh (d : Dev) (g : Nat) (t : Tbl) (m : SMap Word) : Dev := { d with tshadow := sset (fun _ => []) d.tshadow (g * 8 + t.num) m }

/-- The words of an entry as they stand. -/
def entryWords (d : Dev) (t : Tbl) (e : Nat) : List Word := (List.range (t.size / 4)).map fun i => d.tw t e i

/-- The bits of word `i` of an entry with word 0 `w0` that its table lists; the others are zero on read and ignored on write (R243, R267, R286, R310,
R344). -/
def listedBits (t : Tbl) (w0 : Word) (i : Nat) : Word :=
  match t, i with
  | .route0, 0 | .route1, 0 => 0x8000FFFF
  | .route0, 1 | .route1, 1 => 0xFFFF007F
  | .route0, 2 | .route1, 2 => 0x00FFFFFF
  | .route0, 3 | .route1, 3 => 0
  | .txs, 0 => 0xFFFFFFC0
  | .txs, 4 => 0xFF7FFFFF
  | .txs, 7 => 0xFFFFEFFF
  | .txs, 9 => 0xFCFF0007
  | .rxs, 0 => 0xFFFFFFC0
  | .rxs, 2 => 0xFFFFFF7F
  | .flow, 0 => 0xFFFFEFFF
  | .flow, _ =>
    match fld w0 30 28, i with
    | 0, 3 => 0x0000000F
    | 1, 2 | 3, 2 => 0xFFFF000F
    | 3, 3 => 0
    | k, _ => if k < 4 then 0xFFFFFFFF else 0
  | .monslot, 0 => 0xEFFF0000
  | _, _ => 0xFFFFFFFF

/-- The words a write of word 0 commits: its own, the held ones of the entry, and the present ones (R49). -/
def commitWords (d : Dev) (g : Nat) (t : Tbl) (e : Nat) (w : Word) : List Word :=
  (allWords d g t e w).zipIdx.map fun p => p.1 &&& listedBits t w p.2
where
  /-- The words before the bits that no table lists are dropped. -/
  allWords (d : Dev) (g : Nat) (t : Tbl) (e : Nat) (w : Word) : List Word :=
  w :: (List.range (t.size / 4 - 1)).map fun j => sget (fun _ => d.tw t e (j + 1)) (d.tsh g t) (t.addr e (j + 1))

/-- Entries other than `e` of which the shadow holds words. -/
def tornEntries (d : Dev) (g : Nat) (t : Tbl) (e : Nat) : List Nat :=
  (((d.tsh g t).map fun p => (p.1 - t.base) / t.size).filter (· != e)).dedup

/-- Commit an entry: words held of another are discarded as torn, and the entry takes its words at once (R49). -/
def entryCommit (r : Root) (g : Nat) (t : Tbl) (e : Nat) (w : Word) (d : Dev) : Dev :=
  let new := commitWords d g t e w
  let old := entryWords d t e
  let d1 := (tornEntries d g t e).foldl (fun d f => fault r t.blk .tableTorn g (t.addr f 0) d) d
  let d2 := (new.foldl (fun (a : Nat × Dev) x => (a.1 + 1, a.2.setTw t e a.1 x)) (0, d1.setTsh g t [])).2
  afterEntry r g t e old new d2

/-- A write of word `w` to address `a` by gallery `g`, `narrow` when it is less than 32 bits: whether it passed R37, and its effect. -/
def writeWord (r : Root) (m : List Host.Cell) (g a : Nat) (w : Word) (narrow : Bool) (d : Dev) : Bool × Eff :=
  let refuse := fun b k => (false, eff (fault r b k g a d))
  if narrow then refuse (ownerBlk a) .accessSize
  else match place a with
    | .reserved => refuse .dev .reservedPage
    | .table t e i =>
      match tableRight r d g t e with
      | .notSteward => refuse t.blk .notSteward
      | .outside => refuse t.blk .outOfPartition
      | .ignored => (true, eff d)
      | .ok =>
        if statusWord t i then (true, eff d)
        else if i ≠ 0 then (true, eff (d.setTsh g t (sput a w (d.tsh g t))))
        else if contentOk r d g t (commitWords d g t e w) then (true, eff (entryCommit r g t e w d))
        else refuse t.blk .outOfPartition
    | .reg b o =>
      match b.reg o with
      | none => if pageRight r d g b o = .ok then (true, eff d) else refuse b .notSteward
      | some x =>
        match writeRight r d g b o x.ty w with
        | .notSteward => refuse b .notSteward
        | .outside => refuse b .outOfPartition
        | .ignored => (true, eff d)
        | .ok =>
          if d.sealed && isLo b x w then refuse b .lockViol
          else if isPw x && d.busy b then refuse b .postDrop
          else (true, regWrite r m g b o x w d)

/-! ### Completion of a posted write (R51) -/

/-- The posted value of a page takes effect in its clock domain; that of PWR.SLEEP_CMD is the Foyer's commit. -/
def pwDone (r : Root) (b : Blk) (p : Posted) (d0 : Dev) : Dev :=
  let d := d0.setPost b none
  let w := p.ws.headD 0
  let old := d.pwv b p.off
  let store := fun (d : Dev) => (p.ws.foldl (fun (a : Nat × Dev) x => (a.1 + 4, a.2.setPwv b a.1 x)) (p.off, d)).2
  match b with
  | .mcs n =>
    if p.off = 0x048 then mcsFreqHook r n w (p.ws.getD 1 0) d
    else
      let d1 := pageUse r b (actUses b p.off) (store d)
      if p.off = 0x040 then mcsCtrlHook r n old w d1
      else if p.off = 0x050 then d1.setMcs n { d1.mcsn n with lfsr := max 1 w.toNat }
      else if 0x060 ≤ p.off ∧ p.off < 0x080 then
        let k := (p.off - 0x060) / 8
        if p.off % 8 = 0 then outCfgHook r n k old w d1 else outDelayHook r n k old w d1
      else d1
  | _ => store d

/-- PW_COMPLETE of a page. -/
def pwComplete (b : Blk) (s : State) : State :=
  match s.dev.post b with
  | none => s
  | some p => if b = .pwr ∧ p.off = 0x040 then sleepCommit s else { s with dev := pwDone s.root b p s.dev }

/-! ### Commands that are accesses -/

/-- Whether gallery `g` can reach the device: 0 to 3 only over an established PCIe link (R58, R381). -/
def hostOn (d : Dev) (g : Nat) : Bool := decide (4 ≤ g) || d.hif.linkUp

/-- A register write as a command: galleries 0 to 3 reach the device only over an established link (R381). -/
def onWrite (g a : Nat) (w : Word) (narrow : Bool) (s : State) : Host.Outcome State Fault Refusal :=
  onMem (fun r m d => if hostOn d g then (writeWord r m g a w narrow d).2 else eff d) s

/-- A write of 64 bits: two accesses, the one at the lower address first (R36). -/
def onWrite64 (g a : Nat) (lo hi : Word) (s : State) : Host.Outcome State Fault Refusal :=
  onMem (fun r m d =>
    if hostOn d g then
      let x := (writeWord r m g a lo false d).2
      let y := (writeWord r (memWrites m x.2) g (a + 4) hi false x.1).2
      (y.1, x.2 ++ y.2)
    else eff d) s

/-- The words of `n` consecutive 32-bit reads from the aligned address `a` up, in ascending order (R36, R59). -/
def readWords (r : Root) (g a : Nat) : Nat → Dev → List Word × Dev
  | 0, d => ([], d)
  | n + 1, d => let p := readWord r g a d; let q := readWords r g (a + 4) n p.2; (p.1 :: q.1, q.2)

/-- A register read of `n` bytes from address `a` as a command: the aligned words it touches are read in ascending order, and the bytes asked
for are returned (R36, R59); they stand in the host links' state. -/
def onRead (g a n : Nat) (s : State) : Host.Outcome State Fault Refusal :=
  onDev (fun r d =>
    if hostOn d g ∧ 0 < n then
      let p := readWords r g (a / 4 * 4) ((a + n - 1) / 4 - a / 4 + 1) d
      p.2.hifMap fun h => { h with readData := wput h.readData g (p.1.headD 0),
                                   readBytes := lput h.readBytes g (((p.1.flatMap wordBytes).drop (a % 4)).take n) }
    else d) s

end Sys2Proof.Machine
end

