-- ==== Sys2Proof/Machine/Qspi.lean ====
section
/-! DEFINITION. Aperture accesses (R78, R79) and the Velgelet host link (R62 to R69, R82, R383): frames, CRC-8, statuses and bursts. -/

namespace Sys2Proof.Machine

/-! ### Apertures -/

/-- Runs of bytes of an aperture access, from its first byte: consumer and offset behind a run (none where nothing is mapped), and length. -/
def aptSegs (d : Dev) (g : Nat) : Nat → Nat → List (Option (Nat × Nat) × Nat)
  | _, 0 => []
  | off, n + 1 =>
    let h := aptResolve d g off
    match aptSegs d g (off + 1) n with
    | [] => [(h, 1)]
    | (x, k) :: t =>
      if h.map (fun p => (p.1, p.2 + 1)) = x then (h, k + 1) :: t else (h, 1) :: (x, k) :: t

/-- An access that touches an unmapped byte is counted once and raises EV_APT_FAULT once. -/
def aptFault (r : Root) (g : Nat) (segs : List (Option (Nat × Nat) × Nat)) (d : Dev) : Dev :=
  if segs.any fun p => p.1.isNone then
    raise r 13 (d.galMap fun x => { x with aptFaults := nput x.aptFaults g (satInc (nget x.aptFaults g) 0xFFFF) })
  else d

/-- Read `n` bytes at offset `off` of gallery `g`'s aperture. -/
def aptRead (r : Root) (m : List Host.Cell) (g off n : Nat) (d : Dev) : List Byte × Dev :=
  let segs := aptSegs d g off n
  segs.foldl (fun (a : List Byte × Dev) p =>
    match p.1 with
    | none => (a.1 ++ List.replicate p.2 0, a.2)
    | some q => let b := lndRead r m q.1 q.2 p.2 a.2; (a.1 ++ b.1, b.2)) ([], aptFault r g segs d)

/-- Whether a read of the aperture meets an uncorrectable word (R221). -/
def aptBad (d : Dev) (g off n : Nat) : Bool :=
  (aptSegs d g off n).any fun p => match p.1 with | some q => (wordsOf d q.1 q.2 p.2).any (wordBad d) | none => false

/-- Write bytes at offset `off` of gallery `g`'s aperture. -/
def aptWrite (r : Root) (g off : Nat) (bytes : List Byte) (d : Dev) : Eff :=
  let segs := aptSegs d g off bytes.length
  (segs.foldl (fun (a : List Byte × Eff) p =>
    (a.1.drop p.2, match p.1 with
      | none => a.2
      | some q => let b := lndWrite r q.1 q.2 (a.1.take p.2) a.2.1; (b.1, a.2.2 ++ b.2))) (bytes, eff (aptFault r g segs d))).2

/-! ### CRC-8 (R64) -/

/-- One byte of the CRC-8. -/
def crc8Byte (c : Nat) (b : Byte) : Nat :=
  (List.range 8).foldl (fun c _ => if 128 ≤ c then (2 * c % 256) ^^^ 7 else 2 * c) (c ^^^ b.toNat)

/-- CRC-8 of bytes. -/
def crc8 (l : List Byte) : Nat := l.foldl crc8Byte 0

/-! ### Frames -/

/-- Opcodes of R65. -/
inductive Vop where
  | wr | rd | rdLink | echo | other (n : Nat)
  deriving DecidableEq, Repr

/-- Opcode number. -/
def Vop.num : Vop → Nat
  | .wr => 1 | .rd => 2 | .rdLink => 3 | .echo => 4 | .other n => n

/-- Opcodes after which read data bytes follow the status (R63). -/
def Vop.reads : Vop → Bool
  | .rd | .rdLink | .echo => true
  | _ => false

/-- Status codes of R67. -/
inductive Vst where
  | ok | crcErr | badCmd | notReady | denied | asleep | badAddr
  deriving DecidableEq, Repr

/-- Status byte. -/
def Vst.byte (x : Vst) : Byte :=
  BitVec.ofNat 8 (0xA0 + match x with | .ok => 0 | .crcErr => 1 | .badCmd => 2 | .notReady => 3 | .denied => 4 | .asleep => 5 | .badAddr => 6)

/-- A frame as the host sent it: opcode, LEN, address, words, CRC, and the SCK period in ps. -/
structure Frame where
  op : Vop
  len : Nat
  addr : Nat
  data : List Word
  crc : Byte
  sck : Nat

/-- Command and address bytes. -/
def Frame.head (f : Frame) : List Byte := BitVec.ofNat 8 (f.op.num * 16 + f.len) :: beBytes 4 f.addr

/-- Whether the host CRC is right. -/
def Frame.crcOk (f : Frame) : Bool := crc8 (f.head ++ f.data.flatMap wordBytes) == f.crc.toNat

/-- BAD_CMD. -/
def Frame.badCmd (f : Frame) : Bool :=
  match f.op with
  | .other _ => true
  | .rdLink => f.len != 0 || f.addr != 0
  | .echo => f.len != 0
  | _ => false

/-- The burst lies in the aperture window (R66). -/
def Frame.inApt (f : Frame) : Bool := decide (0x1000000 ≤ f.addr ∧ f.addr + 4 * (f.len + 1) ≤ 0x2000000)

/-- BAD_ADDR: of WR and RD only. -/
def Frame.badAddr (f : Frame) : Bool :=
  match f.op with
  | .wr | .rd => f.addr % 4 != 0 || !(decide (f.addr + 4 * (f.len + 1) ≤ 0x200000) || f.inApt)
  | _ => false

/-- The wait phase was shorter than the access needed (R69). -/
def Frame.notReady (d : Dev) (q : Nat) (f : Frame) : Bool :=
  match f.op with
  | .wr | .rd => decide (d.rf .hif (0x050 + 4 * q) 4 0 * f.sck < 250000)
  | _ => false

/-- The link status word of a port's gallery (R383). -/
def linkStatus (r : Root) (d : Dev) (q : Nat) : Word :=
  let st := match r.power with | .run => 0 | .quiet => 1 | .doze => 2 | _ => 3
  wd (0x40960000 + r.step % 16 * 256 + b2n d.sealed * 128 + b2n (r.house == 4 + q) * 8 + st)

/-- The bytes a port drives: status, read data (zeros unless the status is OK), CRC (R63, R67). -/
def replyBytes (f : Frame) (st : Vst) (data : List Byte) : List Byte :=
  let body := if !f.op.reads then [] else if st = .ok then data else List.replicate (4 * (f.len + 1)) 0
  st.byte :: body ++ [BitVec.ofNat 8 (crc8 (f.head ++ st.byte :: body))]

/-- Store what port `q` drove. -/
def drive (q : Nat) (l : List Byte) (d : Dev) : Dev := d.hifMap fun h => { h with reply := lput h.reply q l }

/-- A frame refused before it performs anything. -/
def velRefuse (f : Frame) (q : Nat) (st : Vst) (d : Dev) : Dev := drive q (replyBytes f st []) d

/-- A write burst: each word an access of its own; true when every word passed R37 (R67). -/
def writeBurst (r : Root) (g : Nat) (f : Frame) (m : List Host.Cell) (d : Dev) : Bool × Eff :=
  let step := fun (a : Nat × Bool × List Host.Cell × Eff) w =>
    let x : Bool × Eff := if f.inApt then (true, aptWrite r g (a.1 - 0x1000000) (wordBytes w) a.2.2.2.1) else writeWord r a.2.2.1 g a.1 w false a.2.2.2.1
    (a.1 + 4, a.2.1 && x.1, memWrites a.2.2.1 x.2.2, (x.2.1, a.2.2.2.2 ++ x.2.2))
  let z := f.data.foldl step (f.addr, true, m, eff d)
  (z.2.1, z.2.2.2)

/-- A read burst: the bytes read. -/
def readBurst (r : Root) (g : Nat) (f : Frame) (m : List Host.Cell) (d : Dev) : List Byte × Dev :=
  (List.range (f.len + 1)).foldl (fun (a : List Byte × Dev) i =>
    let x := f.addr + 4 * i
    if f.inApt then (let b := aptRead r m g (x - 0x1000000) 4 a.2; (a.1 ++ b.1, b.2))
    else (let b := readWord r g x a.2; (a.1 ++ wordBytes b.1, b.2))) ([], d)

/-- A frame on port `q` while the core runs (R67, R68): HIF points 0 and 1 treat its CRC as wrong (R363). -/
def velFrame (r : Root) (q : Nat) (f : Frame) (m : List Host.Cell) (d0 : Dev) : Eff :=
  let inj := injects .hif q d0
  let d := opportunity r .hif q (pageUse r .hif [0x050 + 4 * q] d0)
  if inj || !f.crcOk then
    eff (velRefuse f q .crcErr (raise r (10 + q) (d.hifMap fun h => { h with crcErrs := nput h.crcErrs (4 + q) (satInc (nget h.crcErrs (4 + q)) 0xFFFF) })))
  else if f.badCmd then eff (velRefuse f q .badCmd d)
  else if f.badAddr then eff (velRefuse f q .badAddr d)
  else
    let late := Frame.notReady d q f
    match f.op with
    | .wr =>
      let x := writeBurst r (4 + q) f m d
      (velRefuse f q (if late then .notReady else if x.1 then .ok else .denied) x.2.1, x.2.2)
    | .rd =>
      let x := readBurst r (4 + q) f m d
      eff (drive q (replyBytes f (if late then .notReady else .ok) x.1) x.2)
    | .rdLink => eff (drive q (replyBytes f .ok (wordBytes (linkStatus r d q))) d)
    | _ => eff (drive q (replyBytes f .ok (wordBytes (wd f.addr))) d)

/-- A frame while the core sleeps or is on its way to or from DOZE (R82): only RD_LINK is answered. -/
def velAsleep (r : Root) (q : Nat) (f : Frame) (d : Dev) : Dev :=
  if !f.crcOk then velRefuse f q .crcErr d
  else if f.badCmd then velRefuse f q .badCmd d
  else if f.op = .rdLink then drive q (replyBytes f .ok (wordBytes (linkStatus r d q))) d
  else velRefuse f q .asleep d

/-- A frame on port `q`, in any power state: where the port has no power or its logic is held, or VIO_D is down, nothing is driven. Before bring-up step 7
RD_LINK alone is answered (R383). -/
def onFrame (q : Nat) (f : Frame) (s : State) : Host.Outcome State Fault Refusal :=
  if bankDown s.dev 3 then .next { s with dev := drive q [] s.dev }
  else match s.root.power with
    | .run | .quiet => onMem (fun r m d => velFrame r q f m d) s
    | .entering _ | .doze | .waking true => .next { s with dev := velAsleep s.root q f s.dev }
    | .waking false => .next { s with dev := if f.op = .rdLink then velAsleep s.root q f s.dev else drive q [] s.dev }
    | .off | .rstHeld | .shelf => .next { s with dev := drive q [] s.dev }

/-! ### Meanings -/

/-- APERTURE_READ: one memory request. The completion of a PCIe read that met an uncorrectable word is marked poisoned (R221). -/
def execApertureRead (g : Gal) (off : Nat) (len : Nat) (s : State) : Host.Outcome State Fault Refusal :=
  onDevMem (fun r m d =>
    if hostOn d g then
      let x := aptRead r m g off len d
      x.2.hifMap fun h => { h with aptData := lput h.aptData g x.1, aptPoison := bput h.aptPoison g (decide (g.val < 4) && aptBad d g off len) }
    else d) s

/-- APERTURE_WRITE: one memory request. -/
def execApertureWrite (g : Gal) (off : Nat) (data : List Byte) (s : State) : Host.Outcome State Fault Refusal :=
  onMem (fun r _ d => if hostOn d g then aptWrite r g off data d else eff d) s

/-- QSPI_WR: a burst has 1 to 16 words. -/
def execQspiWr (q : Fin 2) (addr : Word) (data : List Word) (crc : Byte) (sck : Nat) (s : State) : Host.Outcome State Fault Refusal :=
  if data.length = 0 ∨ 16 < data.length then .next s
  else onFrame q { op := .wr, len := data.length - 1, addr := addr.toNat, data := data, crc := crc, sck := sck } s

/-- QSPI_RD. -/
def execQspiRd (q : Fin 2) (addr : Word) (len : Fin 16) (crc : Byte) (sck : Nat) (s : State) : Host.Outcome State Fault Refusal :=
  onFrame q { op := .rd, len := len, addr := addr.toNat, data := [], crc := crc, sck := sck } s

/-- QSPI_RD_LINK. -/
def execQspiRdLink (q : Fin 2) (addr : Word) (len : Fin 16) (crc : Byte) (s : State) : Host.Outcome State Fault Refusal :=
  onFrame q { op := .rdLink, len := len, addr := addr.toNat, data := [], crc := crc, sck := 0 } s

/-- QSPI_ECHO. -/
def execQspiEcho (q : Fin 2) (addr : Word) (len : Fin 16) (crc : Byte) (s : State) : Host.Outcome State Fault Refusal :=
  onFrame q { op := .echo, len := len, addr := addr.toNat, data := [], crc := crc, sck := 0 } s

/-- QSPI_RESERVED_OPCODE: an opcode of R65 is no reserved one. -/
def execQspiReservedOpcode (q : Fin 2) (op : Fin 16) (len : Fin 16) (addr : Word) (crc : Byte) (s : State) : Host.Outcome State Fault Refusal :=
  if 1 ≤ op.val ∧ op.val ≤ 4 then .next s
  else onFrame q { op := .other op, len := len, addr := addr.toNat, data := [], crc := crc, sck := 0 } s

/-- QSPI_FRAME_ABORT (R68): nothing is performed, the frame is counted. -/
def execQspiFrameAbort (q : Fin 2) (s : State) : Host.Outcome State Fault Refusal :=
  onDev (fun _ d => d.hifMap fun h => { h with aborts := nput h.aborts (4 + q) (satInc (nget h.aborts (4 + q)) 0xFFFF) }) s

end Sys2Proof.Machine
end

