-- ==== Sys2Proof/Machine/Writes.lean ====
section
/-! DEFINITION. The commands that are reads or writes of one register: each is an access of its gallery at that register's address
(02, R37 to R51), and what the write does there is the block's (Machine/Access.lean). -/

namespace Sys2Proof.Machine

/-! ### Words and addresses -/

/-- The word with bit `i` set to `v`. -/
def setBit (w : Word) (i : Nat) (v : Bool) : Word := if bitOf w i = v then w else if v then wd (w.toNat + 2 ^ i) else wd (w.toNat - 2 ^ i)

/-- The word with bits 31 and 30 set to `op` (NETn.MDIO_CMD.OP, R239). -/
def mdioWord (op : Nat) (w : Word) : Word := setBit (setBit w 31 (nbit op 1)) 30 (nbit op 0)

/-- A write of a 32-bit word to a register of a block. -/
def onReg (g : Nat) (b : Blk) (o : Nat) (w : Word) (s : State) : Host.Outcome State Fault Refusal := onWrite g (b.addr o) w false s

/-- A write of word 0 of a table entry. -/
def onEntry (g : Nat) (t : Tbl) (e : Nat) (w : Word) (s : State) : Host.Outcome State Fault Refusal := onWrite g (t.addr e 0) w false s

/-- The block of a word EVC.PENDk or MASKk (none), or of EVTe (R99, R100). -/
def lineBlk : Option Gal → Blk
  | none => .evc
  | some e => .evt e

/-! ### Posted writes that take effect (R51) -/

/-- The completion of a posted write, while the core runs. -/
def onPost (b : Blk) (s : State) : Host.Outcome State Fault Refusal := onRoot (fun s => if s.root.coreOn then pwComplete b s else s) s

/-- Whether the posted write of MCS`n` waits at offset `o`, with the old and new words in the relation the command names. -/
def mcsPosts (n o : Nat) (rel : Word → Word → Bool) (s : State) : Bool :=
  match s.dev.post (.mcs n) with
  | none => false
  | some p => p.off == o && rel (s.dev.pwv (.mcs n) o) (p.ws.headD 0)

/-- The completion of the posted write of MCS`n` that a command names; with no such write waiting the command changes nothing. -/
def onMcsPost (n o : Nat) (rel : Word → Word → Bool) (s : State) : Host.Outcome State Fault Refusal :=
  if mcsPosts n o rel s then onPost (.mcs n) s else .next s

/-! ### The Foyer (R375) -/

/-- SLEEP_CMD_RUN: a write of PWR.SLEEP_CMD with TARGET 0. -/
def execSleepCmdRun (g : Gal) (s : State) : Host.Outcome State Fault Refusal :=
  onReg g .pwr 0x040 0 s

/-- SLEEP_CMD_QUIET: a write of PWR.SLEEP_CMD with TARGET 1. -/
def execSleepCmdQuiet (g : Gal) (s : State) : Host.Outcome State Fault Refusal :=
  onReg g .pwr 0x040 1 s

/-- SLEEP_CMD_DOZE: a write of PWR.SLEEP_CMD with TARGET 2. -/
def execSleepCmdDoze (g : Gal) (s : State) : Host.Outcome State Fault Refusal :=
  onReg g .pwr 0x040 2 s

/-- SLEEP_CMD_SHELF: a write of PWR.SLEEP_CMD with TARGET 3. -/
def execSleepCmdShelf (g : Gal) (s : State) : Host.Outcome State Fault Refusal :=
  onReg g .pwr 0x040 3 s

/-- SLEEP_CMD_RESERVED: TARGET 4 to 7. -/
def execSleepCmdReserved (g : Gal) (t : Fin 4) (s : State) : Host.Outcome State Fault Refusal :=
  onReg g .pwr 0x040 (wd (4 + t)) s

/-! ### Register access (R35 to R53) -/

/-- REGISTER_WRITE: any address, any width up to 64 bits. -/
def execRegisterWrite (g : Gal) (addr : Nat) (w : WriteData) (narrow : Bool) (s : State) : Host.Outcome State Fault Refusal :=
  match w.hi with
  | none => onWrite g addr w.w narrow s
  | some h => onWrite64 g addr w.w h s

/-- PAGE_STATUS_CLEAR. -/
def execPageStatusClear (g : Gal) (page : Fin 128) (w : Word) (s : State) : Host.Outcome State Fault Refusal :=
  onWrite g (page * 0x1000 + 0x00C) w false s

/-- LW_READ: the LW word of a group latches the higher ones. -/
def execLwRead (g : Gal) (span : ReadSpan) (s : State) : Host.Outcome State Fault Refusal :=
  onRead g span.addr span.len s

/-- SH_WRITE. -/
def execShWrite (g : Gal) (addr : Nat) (w : Word) (s : State) : Host.Outcome State Fault Refusal :=
  onWrite g addr w false s

/-- LW_COMMIT. -/
def execLwCommit (g : Gal) (addr : Nat) (w : Word) (s : State) : Host.Outcome State Fault Refusal :=
  onWrite g addr w false s

/-- TABLE_ENTRY_COMMIT. -/
def execTableEntryCommit (g : Gal) (addr : Nat) (w : Word) (s : State) : Host.Outcome State Fault Refusal :=
  onWrite g addr w false s

/-- PW_WRITE. -/
def execPwWrite (g : Gal) (addr : Nat) (w : Word) (s : State) : Host.Outcome State Fault Refusal :=
  onWrite g addr w false s

/-- PW_COMPLETE: the posted write of the page, if one waits. -/
def execPwComplete (page : Fin 128) (s : State) : Host.Outcome State Fault Refusal :=
  match Blk.ofPage page with
  | none => .next s
  | some b => onPost b s

/-- INJ_SEL_WRITE: PAGE_INJ_SEL. -/
def execInjSelWrite (g : Gal) (page : Fin 128) (w : Word) (s : State) : Host.Outcome State Fault Refusal :=
  onWrite g (page * 0x1000 + 0x018) w false s

/-- INJ_CTRL_WRITE: PAGE_INJ_CTRL. -/
def execInjCtrlWrite (g : Gal) (page : Fin 128) (w : Word) (s : State) : Host.Outcome State Fault Refusal :=
  onWrite g (page * 0x1000 + 0x01C) w false s

/-! ### Galleries and events (03, 04) -/

/-- GAL_RESET. -/
def execGalReset (g : Gal) (w : Word) (s : State) : Host.Outcome State Fault Refusal :=
  onReg g .gal 0x054 w s

/-- GAL_CLAIM: GAL.CLAIM with OP 0. -/
def execGalClaim (g : Gal) (p : Fin 4) (s : State) : Host.Outcome State Fault Refusal :=
  onReg g .gal 0x040 (wd (0 * 0x100 + p)) s

/-- GAL_RELEASE: GAL.CLAIM with OP 1. -/
def execGalRelease (g : Gal) (p : Fin 4) (s : State) : Host.Outcome State Fault Refusal :=
  onReg g .gal 0x040 (wd (1 * 0x100 + p)) s

/-- GAL_FORCE: GAL.CLAIM with OP 2. -/
def execGalForce (g : Gal) (p : Fin 4) (s : State) : Host.Outcome State Fault Refusal :=
  onReg g .gal 0x040 (wd (2 * 0x100 + p)) s

/-- GAL_CLAIM_RESERVED_OP: OP 3. -/
def execGalClaimReservedOp (g : Gal) (p : Fin 4) (s : State) : Host.Outcome State Fault Refusal :=
  onReg g .gal 0x040 (wd (0x300 + p)) s

/-- PART_DATA_WRITE. -/
def execPartDataWrite (g : Gal) (w : Word) (s : State) : Host.Outcome State Fault Refusal :=
  onReg g .gal 0x050 w s

/-- DEV_SEAL. -/
def execDevSeal (g : Gal) (s : State) : Host.Outcome State Fault Refusal :=
  onReg g .dev 0x044 1 s

/-- HOST_SLEEP_WRITE. -/
def execHostSleepWrite (g : Gal) (w : Word) (s : State) : Host.Outcome State Fault Refusal :=
  onReg g .gal 0x05C w s

/-- EVT_CLAIM: a read of CLAIMt. -/
def execEvtClaim (g : Gal) (e : Gal) (t : Fin 8) (s : State) : Host.Outcome State Fault Refusal :=
  onRead g ((Blk.evt e).addr (0x0C0 + 4 * t)) 4 s

/-- EVT_COMPLETE. -/
def execEvtComplete (g : Gal) (e : Gal) (t : Fin 8) (w : Word) (s : State) : Host.Outcome State Fault Refusal :=
  onReg g (.evt e) (0x0E0 + 4 * t) w s

/-- PEND_WORD_WRITE. -/
def execPendWordWrite (g : Gal) (e : Option Gal) (k : Fin 16) (w : Word) (s : State) : Host.Outcome State Fault Refusal :=
  onReg g (lineBlk e) (0x100 + 4 * k) w s

/-- MASK_WORD_WRITE. -/
def execMaskWordWrite (g : Gal) (e : Option Gal) (k : Fin 16) (w : Word) (s : State) : Host.Outcome State Fault Refusal :=
  onReg g (lineBlk e) (0x140 + 4 * k) w s

/-- SRC_CTRL_WRITE. -/
def execSrcCtrlWrite (g : Gal) (e : Gal) (w : Word) (s : State) : Host.Outcome State Fault Refusal :=
  onReg g (.evt e) 0x04C w s

/-- SRC_TGT_WRITE. -/
def execSrcTgtWrite (g : Gal) (e : Gal) (k : Fin 3) (w : Word) (s : State) : Host.Outcome State Fault Refusal :=
  onReg g (.evt e) (0x050 + 4 * k) w s

/-- TGT_ENA_WRITE. -/
def execTgtEnaWrite (g : Gal) (e : Gal) (w : Word) (s : State) : Host.Outcome State Fault Refusal :=
  onReg g (.evt e) 0x040 w s

/-! ### Time (05 to 07) -/

/-- VIEW_SET_STEP: the commit of VIEWv_SET with KIND 0, over the words held. -/
def execViewSetStep (g : Gal) (v : Fin 3) (s : State) : Host.Outcome State Fault Refusal :=
  onReg g .tbe (0x120 + 0x80 * v) 0 s

/-- VIEW_SET_RATE: KIND 1. -/
def execViewSetRate (g : Gal) (v : Fin 3) (s : State) : Host.Outcome State Fault Refusal :=
  onReg g .tbe (0x120 + 0x80 * v) 1 s

/-- VIEW_SET_RESERVED_KIND: KIND `k`. -/
def execViewSetReservedKind (g : Gal) (v : Fin 3) (k : Fin 4) (s : State) : Host.Outcome State Fault Refusal :=
  onReg g .tbe (0x120 + 0x80 * v) (wd k) s

/-- TBE_SNAP_READ. -/
def execTbeSnapRead (g : Gal) (s : State) : Host.Outcome State Fault Refusal :=
  onRead g (Blk.addr .tbe 0x080) 4 s

/-- PTP_ENABLE: CTRL with ENA 1. -/
def execPtpEnable (g : Gal) (n : Fin 2) (w : Word) (s : State) : Host.Outcome State Fault Refusal :=
  onReg g (.ptp n) 0x040 (setBit w 0 true) s

/-- PTP_DISABLE: CTRL with ENA 0. -/
def execPtpDisable (g : Gal) (n : Fin 2) (w : Word) (s : State) : Host.Outcome State Fault Refusal :=
  onReg g (.ptp n) 0x040 (setBit w 0 false) s

/-- SERVO_ENABLE: CTRL with ENA 1. -/
def execServoEnable (g : Gal) (n : Fin 2) (w : Word) (s : State) : Host.Outcome State Fault Refusal :=
  onReg g (.srv n) 0x040 (setBit w 0 true) s

/-- SERVO_DISABLE: CTRL with ENA 0. -/
def execServoDisable (g : Gal) (n : Fin 2) (w : Word) (s : State) : Host.Outcome State Fault Refusal :=
  onReg g (.srv n) 0x040 (setBit w 0 false) s

/-- PARENT_COMMIT. -/
def execParentCommit (g : Gal) (n : Fin 2) (w : Word) (s : State) : Host.Outcome State Fault Refusal :=
  onReg g (.ptp n) 0x048 w s

/-- SERVO_RESTART: strobe of CMD.RESTART. -/
def execServoRestart (g : Gal) (n : Fin 2) (s : State) : Host.Outcome State Fault Refusal :=
  onReg g (.srv n) 0x07C 1 s

/-- REF_PREFERRED_WRITE. -/
def execRefPreferredWrite (g : Gal) (w : Word) (s : State) : Host.Outcome State Fault Refusal :=
  onReg g .ref 0x048 w s

/-- X_TOD_ARM. -/
def execXTodArm (g : Gal) (w : Word) (s : State) : Host.Outcome State Fault Refusal :=
  onReg g .ref 0x160 w s

/-- Strobe of bit 0 of REF.CMD. -/
def execRefForceFree (g : Gal) (s : State) : Host.Outcome State Fault Refusal :=
  onReg g .ref 0x090 1 s

/-- Strobe of bit 1 of REF.CMD. -/
def execRefClearHist (g : Gal) (s : State) : Host.Outcome State Fault Refusal :=
  onReg g .ref 0x090 2 s

/-- Strobe of bit 2 of REF.CMD. -/
def execRefClearTable (g : Gal) (s : State) : Host.Outcome State Fault Refusal :=
  onReg g .ref 0x090 4 s

/-- Strobe of bit 3 of REF.CMD. -/
def execRefAllowStep (g : Gal) (s : State) : Host.Outcome State Fault Refusal :=
  onReg g .ref 0x090 8 s

/-! ### Media clocks (08) -/

/-- MCS_ENABLE: the posted write of CTRL has EN 1. -/
def execMcsEnable (n : Fin 8) (s : State) : Host.Outcome State Fault Refusal :=
  onMcsPost n 0x040 (fun _ w => bitOf w 0) s

/-- MCS_DISABLE: it has EN 0. -/
def execMcsDisable (n : Fin 8) (s : State) : Host.Outcome State Fault Refusal :=
  onMcsPost n 0x040 (fun _ w => !bitOf w 0) s

/-- MCS_DISC_MODE_SET: it changes DISC_MODE. -/
def execMcsDiscModeSet (n : Fin 8) (s : State) : Host.Outcome State Fault Refusal :=
  onMcsPost n 0x040 (fun o w => fld o 2 1 != fld w 2 1) s

/-- MCS_FREQ_COMMIT. -/
def execMcsFreqCommit (n : Fin 8) (s : State) : Host.Outcome State Fault Refusal :=
  onMcsPost n 0x048 (fun _ _ => true) s

/-- MCS_RAMP_START: strobe of bit 0 of MCSn.CMD. -/
def execMcsRampStart (g : Gal) (n : Fin 8) (s : State) : Host.Outcome State Fault Refusal :=
  onReg g (.mcs n) 0x05C 1 s

/-- MCS_RAMP_STOP: strobe of bit 1 of MCSn.CMD. -/
def execMcsRampStop (g : Gal) (n : Fin 8) (s : State) : Host.Outcome State Fault Refusal :=
  onReg g (.mcs n) 0x05C 2 s

/-- MCS_RETURN: strobe of bit 2 of MCSn.CMD. -/
def execMcsReturn (g : Gal) (n : Fin 8) (s : State) : Host.Outcome State Fault Refusal :=
  onReg g (.mcs n) 0x05C 4 s

/-- MCS_REALIGN: strobe of bit 3 of MCSn.CMD. -/
def execMcsRealign (g : Gal) (n : Fin 8) (s : State) : Host.Outcome State Fault Refusal :=
  onReg g (.mcs n) 0x05C 8 s

/-- MCS_OUTPUT_ENABLE: the posted write of OUTk_CFG has EN 1. -/
def execMcsOutputEnable (n : Fin 8) (k : Fin 4) (s : State) : Host.Outcome State Fault Refusal :=
  onMcsPost n (0x060 + 8 * k) (fun _ w => bitOf w 31) s

/-- MCS_OUTPUT_DISABLE: it has EN 0. -/
def execMcsOutputDisable (n : Fin 8) (k : Fin 4) (s : State) : Host.Outcome State Fault Refusal :=
  onMcsPost n (0x060 + 8 * k) (fun _ w => !bitOf w 31) s

/-- MCS_OUTPUT_DIV_CHANGE: it changes DIV. -/
def execMcsOutputDivChange (n : Fin 8) (k : Fin 4) (s : State) : Host.Outcome State Fault Refusal :=
  onMcsPost n (0x060 + 8 * k) (fun o w => fld o 9 0 != fld w 9 0) s

/-- MCS_OUTPUT_DELAY_CHANGE: that of OUTk_DELAY. -/
def execMcsOutputDelayChange (n : Fin 8) (k : Fin 4) (s : State) : Host.Outcome State Fault Refusal :=
  onMcsPost n (0x064 + 8 * k) (fun _ _ => true) s

/-- MCLKO_SEL_WRITE. -/
def execMclkoSelWrite (g : Gal) (n : Fin 8) (k : Fin 2) (w : Word) (s : State) : Host.Outcome State Fault Refusal :=
  onReg g (.mcs n) (0x400 + 4 * k) w s

/-! ### Triggers, the Landing and corridors (09, 10) -/

/-- TRIGGER_ARM. -/
def execTriggerArm (g : Gal) (k : Fin 2) (w : Word) (s : State) : Host.Outcome State Fault Refusal :=
  onReg g .trg (0x048 + 4 * k) w s

/-- TRIGGER_DISARM. -/
def execTriggerDisarm (g : Gal) (k : Fin 2) (w : Word) (s : State) : Host.Outcome State Fault Refusal :=
  onReg g .trg (0x050 + 4 * k) w s

/-- CAPTURE_REC_READ. -/
def execCaptureRecRead (g : Gal) (c : Fin 16) (s : State) : Host.Outcome State Fault Refusal :=
  onRead g (Blk.addr .trg (0xA08 + 0x40 * c)) 4 s

/-- LND_CLEAR_CE: bit 0 of LND.CMD. -/
def execLndClearCe (g : Gal) (s : State) : Host.Outcome State Fault Refusal :=
  onReg g .lnd 0x084 1 s

/-- LND_CLEAR_UE: bit 1. -/
def execLndClearUe (g : Gal) (s : State) : Host.Outcome State Fault Refusal :=
  onReg g .lnd 0x084 2 s

/-- HBUF_ENABLE: HBUFb_CFG with ENA 1. -/
def execHbufEnable (g : Gal) (b : Fin 48) (w : Word) (s : State) : Host.Outcome State Fault Refusal :=
  onReg g .lnd (0x200 + 0x10 * b) (setBit w 31 true) s

/-- HBUF_DISABLE: with ENA 0. -/
def execHbufDisable (g : Gal) (b : Fin 48) (w : Word) (s : State) : Host.Outcome State Fault Refusal :=
  onReg g .lnd (0x200 + 0x10 * b) (setBit w 31 false) s

/-- HBUF_PTR_WRITE. -/
def execHbufPtrWrite (g : Gal) (b : Fin 48) (w : Word) (s : State) : Host.Outcome State Fault Refusal :=
  onReg g .lnd (0x20C + 0x10 * b) w s

/-- CORRIDOR_ENABLE: COR.CFG with ENA 1. -/
def execCorridorEnable (g : Gal) (w : Word) (s : State) : Host.Outcome State Fault Refusal :=
  onReg g .cor 0x044 (setBit w 31 true) s

/-- CORRIDOR_DISABLE: with ENA 0. -/
def execCorridorDisable (g : Gal) (w : Word) (s : State) : Host.Outcome State Fault Refusal :=
  onReg g .cor 0x044 (setBit w 31 false) s

/-- CORRIDOR_RECORD_COMMIT: a hardware producer of corridor `c` offers a record (R230). -/
def execCorridorRecordCommit (c : Fin 256) (type : Byte) (info : Fin 65536) (payload : List Byte) (s : State) : Host.Outcome State Fault Refusal :=
  onMem (fun r _ d => (produce r c type.toNat info payload d).2) s

/-- COR_RD_WRITE. -/
def execCorRdWrite (g : Gal) (c : Fin 256) (w : Word) (s : State) : Host.Outcome State Fault Refusal :=
  onReg g .cor (0x800 + 8 * c) w s

/-- COR_REL_WRITE. -/
def execCorRelWrite (g : Gal) (c : Fin 256) (w : Word) (s : State) : Host.Outcome State Fault Refusal :=
  onReg g .cor (0x804 + 8 * c) w s

/-- COR_MARK_WRITE. -/
def execCorMarkWrite (g : Gal) (w : Word) (s : State) : Host.Outcome State Fault Refusal :=
  onReg g .cor 0x054 w s

/-- COR_REWIND: bit 0 of COR.CMD. -/
def execCorRewind (g : Gal) (s : State) : Host.Outcome State Fault Refusal :=
  onReg g .cor 0x058 1 s

/-- COR_CLEAR_CNT: bit 1. -/
def execCorClearCnt (g : Gal) (s : State) : Host.Outcome State Fault Refusal :=
  onReg g .cor 0x058 2 s

/-! ### Network ports and streams (11 to 13) -/

/-- NET_ENABLE: CTRL with ENA 1. -/
def execNetEnable (g : Gal) (p : Port) (w : Word) (s : State) : Host.Outcome State Fault Refusal :=
  onReg g (.net p) 0x040 (setBit w 0 true) s

/-- NET_DISABLE: with ENA 0. -/
def execNetDisable (g : Gal) (p : Port) (w : Word) (s : State) : Host.Outcome State Fault Refusal :=
  onReg g (.net p) 0x040 (setBit w 0 false) s

/-- MDIO_WRITE: MDIO_CMD with OP 0. -/
def execMdioWrite (g : Gal) (p : Port) (w : Word) (s : State) : Host.Outcome State Fault Refusal :=
  onReg g (.net p) 0x04C (mdioWord 0 w) s

/-- MDIO_READ: MDIO_CMD with OP 1. -/
def execMdioRead (g : Gal) (p : Port) (w : Word) (s : State) : Host.Outcome State Fault Refusal :=
  onReg g (.net p) 0x04C (mdioWord 1 w) s

/-- MDIO_READ_INC: MDIO_CMD with OP 2. -/
def execMdioReadInc (g : Gal) (p : Port) (w : Word) (s : State) : Host.Outcome State Fault Refusal :=
  onReg g (.net p) 0x04C (mdioWord 2 w) s

/-- MDIO_RESERVED_OP: MDIO_CMD with OP 3. -/
def execMdioReservedOp (g : Gal) (p : Port) (w : Word) (s : State) : Host.Outcome State Fault Refusal :=
  onReg g (.net p) 0x04C (mdioWord 3 w) s

/-- NET_CLEAR_CNT: bit 0 of NETn.CMD. -/
def execNetClearCnt (g : Gal) (p : Port) (s : State) : Host.Outcome State Fault Refusal :=
  onReg g (.net p) 0x058 1 s

/-- NET_REVERIFY: bit 1. -/
def execNetReverify (g : Gal) (p : Port) (s : State) : Host.Outcome State Fault Refusal :=
  onReg g (.net p) 0x058 2 s

/-- CLS_CLEAR_CNT. -/
def execClsClearCnt (g : Gal) (s : State) : Host.Outcome State Fault Refusal :=
  onReg g .cls 0x044 1 s

/-- TX_STREAM_ENABLE: word 0 with ENA 1. -/
def execTxStreamEnable (g : Gal) (sn : Fin 1024) (w : Word) (s : State) : Host.Outcome State Fault Refusal :=
  onEntry g .txs sn (setBit w 31 true) s

/-- TX_STREAM_DISABLE: word 0 with ENA 0. -/
def execTxStreamDisable (g : Gal) (sn : Fin 1024) (w : Word) (s : State) : Host.Outcome State Fault Refusal :=
  onEntry g .txs sn (setBit w 31 false) s

/-- TX_STREAM_RESTRUCTURE: word 0 with ENA 1, which commits the changed structural fields. -/
def execTxStreamRestructure (g : Gal) (sn : Fin 1024) (w : Word) (s : State) : Host.Outcome State Fault Refusal :=
  onEntry g .txs sn (setBit w 31 true) s

/-- RX_STREAM_ENABLE: word 0 with ENA 1. -/
def execRxStreamEnable (g : Gal) (sn : Fin 1024) (w : Word) (s : State) : Host.Outcome State Fault Refusal :=
  onEntry g .rxs sn (setBit w 31 true) s

/-- RX_STREAM_DISABLE: word 0 with ENA 0. -/
def execRxStreamDisable (g : Gal) (sn : Fin 1024) (w : Word) (s : State) : Host.Outcome State Fault Refusal :=
  onEntry g .rxs sn (setBit w 31 false) s

/-- RX_STREAM_RESTRUCTURE: word 0 with ENA 1, which commits the changed structural fields. -/
def execRxStreamRestructure (g : Gal) (sn : Fin 1024) (w : Word) (s : State) : Host.Outcome State Fault Refusal :=
  onEntry g .rxs sn (setBit w 31 true) s

/-- TXE_RETIME: bit 31 of TXE.CMD with the stream. -/
def execTxeRetime (g : Gal) (sn : Fin 1024) (s : State) : Host.Outcome State Fault Refusal :=
  onReg g .txe 0x048 (wd (2 ^ 31 + sn)) s

/-- TXE_CLEAR_CNT: bit 30. -/
def execTxeClearCnt (g : Gal) (sn : Fin 1024) (s : State) : Host.Outcome State Fault Refusal :=
  onReg g .txe 0x048 (wd (2 ^ 30 + sn)) s

/-- RXE_CLEAR_CNT: bit 31 of RXE.CMD. -/
def execRxeClearCnt (g : Gal) (sn : Fin 1024) (s : State) : Host.Outcome State Fault Refusal :=
  onReg g .rxe 0x048 (wd (2 ^ 31 + sn)) s

/-! ### Routes and serial ports (14, 15) -/

/-- ROUTE_COMMIT: bit 0 of RTE.CMD. -/
def execRouteCommit (g : Gal) (s : State) : Host.Outcome State Fault Refusal :=
  onReg g .rte 0x048 1 s

/-- ROUTE_CHECK: bit 1 of RTE.CMD. -/
def execRouteCheck (g : Gal) (s : State) : Host.Outcome State Fault Refusal :=
  onReg g .rte 0x048 2 s

/-- RTE_CLEAR_CNT: bit 2 of RTE.CMD. -/
def execRteClearCnt (g : Gal) (s : State) : Host.Outcome State Fault Refusal :=
  onReg g .rte 0x048 4 s

/-- RTE_RATE_WRITE. -/
def execRteRateWrite (g : Gal) (w : Word) (s : State) : Host.Outcome State Fault Refusal :=
  onReg g .rte 0x040 w s

/-- SAP_ENABLE: SAPn.CTRL, its mask bit set, with ENA 1. -/
def execSapEnable (g : Gal) (n : Fin 32) (w : Word) (s : State) : Host.Outcome State Fault Refusal :=
  onReg g (.sap n) 0x044 (setBit (setBit w 16 true) 0 true) s

/-- SAP_DISABLE: with ENA 0. -/
def execSapDisable (g : Gal) (n : Fin 32) (w : Word) (s : State) : Host.Outcome State Fault Refusal :=
  onReg g (.sap n) 0x044 (setBit (setBit w 16 true) 0 false) s

/-- SAP_GROUP_START. -/
def execSapGroupStart (g : Gal) (w : Word) (s : State) : Host.Outcome State Fault Refusal :=
  onReg g .sapg 0x040 w s

/-- SAP_GROUP_STOP. -/
def execSapGroupStop (g : Gal) (w : Word) (s : State) : Host.Outcome State Fault Refusal :=
  onReg g .sapg 0x044 w s

/-- SAP_CLEAR_CNT. -/
def execSapClearCnt (g : Gal) (n : Fin 32) (s : State) : Host.Outcome State Fault Refusal :=
  onReg g (.sap n) 0x070 1 s

/-! ### Monitors, faults and OTP (16 to 18) -/

/-- MONITOR_SNAP. -/
def execMonitorSnap (g : Gal) (w : Word) (s : State) : Host.Outcome State Fault Refusal :=
  onReg g .mon 0x040 w s

/-- ALARM_CLEAR. -/
def execAlarmClear (g : Gal) (w : Word) (s : State) : Host.Outcome State Fault Refusal :=
  onReg g .log 0x050 w s

/-- LOG_CLASS_WRITE. -/
def execLogClassWrite (g : Gal) (k : Fin 32) (w : Word) (s : State) : Host.Outcome State Fault Refusal :=
  onReg g .log (0x100 + 4 * k) w s

/-- FLT_DISARM_ALL: bit 0 of FLT.CMD. -/
def execFltDisarmAll (g : Gal) (s : State) : Host.Outcome State Fault Refusal :=
  onReg g .flt 0x044 1 s

/-- FLT_CLEAR_CNT: bit 1. -/
def execFltClearCnt (g : Gal) (s : State) : Host.Outcome State Fault Refusal :=
  onReg g .flt 0x044 2 s

/-- OTP_DATA_READ. -/
def execOtpDataRead (g : Gal) (s : State) : Host.Outcome State Fault Refusal :=
  onRead g (Blk.addr .otp 0x048) 4 s

end Sys2Proof.Machine
end

