-- ==== Sys2Proof/Machine/Dispatch.lean ====
section
/-! DEFINITION. The dispatcher: one arm for each command, a direct call of its meaning. -/

namespace Sys2Proof.Machine

/-- The effect of a command on everything but the queue. -/
def exec (i : Instr) (s : State) : Host.Outcome State Fault Refusal :=
  match i with
  | .powerUp st => Sys2Proof.Machine.execPowerUp st s
  | .vinLoss => Sys2Proof.Machine.execVinLoss s
  | .enLow => Sys2Proof.Machine.execEnLow s
  | .enRise st => Sys2Proof.Machine.execEnRise st s
  | .rstAssert => Sys2Proof.Machine.execRstAssert s
  | .rstRelease st => Sys2Proof.Machine.execRstRelease st s
  | .xoInLoss => Sys2Proof.Machine.execXoInLoss s
  | .sysPllUnlock => Sys2Proof.Machine.execSysPllUnlock s
  | .railOut rail => Sys2Proof.Machine.execRailOut rail s
  | .vioUnder bank => Sys2Proof.Machine.execVioUnder bank s
  | .vinWarnTrip => Sys2Proof.Machine.execVinWarnTrip s
  | .vinWarnClear => Sys2Proof.Machine.execVinWarnClear s
  | .sleepCmdRun g => Sys2Proof.Machine.execSleepCmdRun g s
  | .sleepCmdQuiet g => Sys2Proof.Machine.execSleepCmdQuiet g s
  | .sleepCmdDoze g => Sys2Proof.Machine.execSleepCmdDoze g s
  | .sleepCmdShelf g => Sys2Proof.Machine.execSleepCmdShelf g s
  | .sleepCmdReserved g t => Sys2Proof.Machine.execSleepCmdReserved g t s
  | .sleepCommit => Sys2Proof.Machine.execSleepCommit s
  | .powerDownComplete => Sys2Proof.Machine.execPowerDownComplete s
  | .quietEnter => Sys2Proof.Machine.execQuietEnter s
  | .quietExit => Sys2Proof.Machine.execQuietExit s
  | .dozeWake e ms => Sys2Proof.Machine.execDozeWake e ms s
  | .wakeComplete st => Sys2Proof.Machine.execWakeComplete st s
  | .watchEntryFire e => Sys2Proof.Machine.execWatchEntryFire e s
  | .registerWrite g addr w narrow => Sys2Proof.Machine.execRegisterWrite g addr w narrow s
  | .pageStatusClear g page w => Sys2Proof.Machine.execPageStatusClear g page w s
  | .lwRead g span => Sys2Proof.Machine.execLwRead g span s
  | .shWrite g addr w => Sys2Proof.Machine.execShWrite g addr w s
  | .lwCommit g addr w => Sys2Proof.Machine.execLwCommit g addr w s
  | .tableEntryCommit g addr w => Sys2Proof.Machine.execTableEntryCommit g addr w s
  | .pwWrite g addr w => Sys2Proof.Machine.execPwWrite g addr w s
  | .pwComplete page => Sys2Proof.Machine.execPwComplete page s
  | .parityScrub => Sys2Proof.Machine.execParityScrub s
  | .injSelWrite g page w => Sys2Proof.Machine.execInjSelWrite g page w s
  | .injCtrlWrite g page w => Sys2Proof.Machine.execInjCtrlWrite g page w s
  | .pcieLinkUp speed width => Sys2Proof.Machine.execPcieLinkUp speed width s
  | .pcieLinkLoss => Sys2Proof.Machine.execPcieLinkLoss s
  | .pePerstAssert => Sys2Proof.Machine.execPePerstAssert s
  | .pePerstDeassert => Sys2Proof.Machine.execPePerstDeassert s
  | .functionLevelReset f => Sys2Proof.Machine.execFunctionLevelReset f s
  | .galReset g w => Sys2Proof.Machine.execGalReset g w s
  | .d3hotEntry f => Sys2Proof.Machine.execD3hotEntry f s
  | .d0Entry f => Sys2Proof.Machine.execD0Entry f s
  | .msixMaskChange f c => Sys2Proof.Machine.execMsixMaskChange f c s
  | .qspiWr q addr data crc sck => Sys2Proof.Machine.execQspiWr q addr data crc sck s
  | .qspiRd q addr len crc sck => Sys2Proof.Machine.execQspiRd q addr len crc sck s
  | .qspiRdLink q addr len crc => Sys2Proof.Machine.execQspiRdLink q addr len crc s
  | .qspiEcho q addr len crc => Sys2Proof.Machine.execQspiEcho q addr len crc s
  | .qspiReservedOpcode q op len addr crc => Sys2Proof.Machine.execQspiReservedOpcode q op len addr crc s
  | .qspiFrameAbort q => Sys2Proof.Machine.execQspiFrameAbort q s
  | .apertureRead g off len => Sys2Proof.Machine.execApertureRead g off len s
  | .apertureWrite g off data => Sys2Proof.Machine.execApertureWrite g off data s
  | .galClaim g p => Sys2Proof.Machine.execGalClaim g p s
  | .galRelease g p => Sys2Proof.Machine.execGalRelease g p s
  | .galForce g p => Sys2Proof.Machine.execGalForce g p s
  | .galClaimReservedOp g p => Sys2Proof.Machine.execGalClaimReservedOp g p s
  | .partDataWrite g w => Sys2Proof.Machine.execPartDataWrite g w s
  | .devSeal g => Sys2Proof.Machine.execDevSeal g s
  | .hostSleepWrite g w => Sys2Proof.Machine.execHostSleepWrite g w s
  | .eventEdge n => Sys2Proof.Machine.execEventEdge n s
  | .sourceDispatch => Sys2Proof.Machine.execSourceDispatch s
  | .coalTimeExpiry t => Sys2Proof.Machine.execCoalTimeExpiry t s
  | .deliveryCommit t => Sys2Proof.Machine.execDeliveryCommit t s
  | .evtClaim g e t => Sys2Proof.Machine.execEvtClaim g e t s
  | .evtComplete g e t w => Sys2Proof.Machine.execEvtComplete g e t w s
  | .pendWordWrite g e k w => Sys2Proof.Machine.execPendWordWrite g e k w s
  | .maskWordWrite g e k w => Sys2Proof.Machine.execMaskWordWrite g e k w s
  | .srcCtrlWrite g e w => Sys2Proof.Machine.execSrcCtrlWrite g e w s
  | .srcTgtWrite g e k w => Sys2Proof.Machine.execSrcTgtWrite g e k w s
  | .tgtEnaWrite g e w => Sys2Proof.Machine.execTgtEnaWrite g e w s
  | .ecWrap => Sys2Proof.Machine.execEcWrap s
  | .viewSetStep g v => Sys2Proof.Machine.execViewSetStep g v s
  | .viewSetRate g v => Sys2Proof.Machine.execViewSetRate g v s
  | .viewSetReservedKind g v k => Sys2Proof.Machine.execViewSetReservedKind g v k s
  | .tdcStamp ch tap rising => Sys2Proof.Machine.execTdcStamp ch tap rising s
  | .tdcTapMeasure taps => Sys2Proof.Machine.execTdcTapMeasure taps s
  | .sfdPairing p tx boundary => Sys2Proof.Machine.execSfdPairing p tx boundary s
  | .tbeSnapRead g => Sys2Proof.Machine.execTbeSnapRead g s
  | .ptpEnable g n w => Sys2Proof.Machine.execPtpEnable g n w s
  | .ptpDisable g n w => Sys2Proof.Machine.execPtpDisable g n w s
  | .parentCommit g n w => Sys2Proof.Machine.execParentCommit g n w s
  | .syncRx n => Sys2Proof.Machine.execSyncRx n s
  | .followUpRx n => Sys2Proof.Machine.execFollowUpRx n s
  | .delayRespRx n => Sys2Proof.Machine.execDelayRespRx n s
  | .delayReqRx n => Sys2Proof.Machine.execDelayReqRx n s
  | .delayRespSend n => Sys2Proof.Machine.execDelayRespSend n s
  | .pdelayReqRx n => Sys2Proof.Machine.execPdelayReqRx n s
  | .pdelayRespFuSend n => Sys2Proof.Machine.execPdelayRespFuSend n s
  | .pdelayRespRx n => Sys2Proof.Machine.execPdelayRespRx n s
  | .pdelayRespFuRx n => Sys2Proof.Machine.execPdelayRespFuRx n s
  | .delayReqSend n => Sys2Proof.Machine.execDelayReqSend n s
  | .pdelayReqSend n => Sys2Proof.Machine.execPdelayReqSend n s
  | .syncSend n => Sys2Proof.Machine.execSyncSend n s
  | .followUpSend n => Sys2Proof.Machine.execFollowUpSend n s
  | .announceRx n => Sys2Proof.Machine.execAnnounceRx n s
  | .signalingManagementRx n => Sys2Proof.Machine.execSignalingManagementRx n s
  | .syncTimeout n => Sys2Proof.Machine.execSyncTimeout n s
  | .servoStep n => Sys2Proof.Machine.execServoStep n s
  | .servoLock n => Sys2Proof.Machine.execServoLock n s
  | .gainNarrow n => Sys2Proof.Machine.execGainNarrow n s
  | .servoEnable g n w => Sys2Proof.Machine.execServoEnable g n w s
  | .servoDisable g n w => Sys2Proof.Machine.execServoDisable g n w s
  | .servoRestart g n => Sys2Proof.Machine.execServoRestart g n s
  | .refCheck => Sys2Proof.Machine.execRefCheck s
  | .qualTimeExpiry n => Sys2Proof.Machine.execQualTimeExpiry n s
  | .wtrExpiry n => Sys2Proof.Machine.execWtrExpiry n s
  | .refLosDetect synce => Sys2Proof.Machine.execRefLosDetect synce s
  | .viewXDiscipline => Sys2Proof.Machine.execViewXDiscipline s
  | .viewXShadowUpdate => Sys2Proof.Machine.execViewXShadowUpdate s
  | .atSlewUpdate => Sys2Proof.Machine.execAtSlewUpdate s
  | .viewDisagreeCheck => Sys2Proof.Machine.execViewDisagreeCheck s
  | .holdoverRateUpdate => Sys2Proof.Machine.execHoldoverRateUpdate s
  | .holdoverBoundUpdate => Sys2Proof.Machine.execHoldoverBoundUpdate s
  | .refPreferredWrite g w => Sys2Proof.Machine.execRefPreferredWrite g w s
  | .xTodArm g w => Sys2Proof.Machine.execXTodArm g w s
  | .xTodApply => Sys2Proof.Machine.execXTodApply s
  | .refForceFree g => Sys2Proof.Machine.execRefForceFree g s
  | .refClearHist g => Sys2Proof.Machine.execRefClearHist g s
  | .refClearTable g => Sys2Proof.Machine.execRefClearTable g s
  | .refAllowStep g => Sys2Proof.Machine.execRefAllowStep g s
  | .mcsEnable n => Sys2Proof.Machine.execMcsEnable n s
  | .mcsDisable n => Sys2Proof.Machine.execMcsDisable n s
  | .mcsVcoSettled n => Sys2Proof.Machine.execMcsVcoSettled n s
  | .mcsLockAcquired seen => Sys2Proof.Machine.execMcsLockAcquired seen s
  | .mcsLockLost seen => Sys2Proof.Machine.execMcsLockLost seen s
  | .mcsRefLoss n absent => Sys2Proof.Machine.execMcsRefLoss n absent s
  | .mcsStopComplete n => Sys2Proof.Machine.execMcsStopComplete n s
  | .mcsDiscModeSet n => Sys2Proof.Machine.execMcsDiscModeSet n s
  | .mcsFreqCommit n => Sys2Proof.Machine.execMcsFreqCommit n s
  | .mcsFreqUpdate n => Sys2Proof.Machine.execMcsFreqUpdate n s
  | .mcsRampStart g n => Sys2Proof.Machine.execMcsRampStart g n s
  | .mcsRampStop g n => Sys2Proof.Machine.execMcsRampStop g n s
  | .mcsReturn g n => Sys2Proof.Machine.execMcsReturn g n s
  | .mcsRealign g n => Sys2Proof.Machine.execMcsRealign g n s
  | .rampSegmentEnd n => Sys2Proof.Machine.execRampSegmentEnd n s
  | .mcsOutputEnable n k => Sys2Proof.Machine.execMcsOutputEnable n k s
  | .mcsOutputDisable n k => Sys2Proof.Machine.execMcsOutputDisable n k s
  | .mcsOutputDivChange n k => Sys2Proof.Machine.execMcsOutputDivChange n k s
  | .mcsOutputDelayChange n k => Sys2Proof.Machine.execMcsOutputDelayChange n k s
  | .mclkoSelWrite g n k w => Sys2Proof.Machine.execMclkoSelWrite g n k w s
  | .mcsDiscInterval n => Sys2Proof.Machine.execMcsDiscInterval n s
  | .mcsAlignAchieved n => Sys2Proof.Machine.execMcsAlignAchieved n s
  | .mcsNoFeedback n => Sys2Proof.Machine.execMcsNoFeedback n s
  | .triggerArm g k w => Sys2Proof.Machine.execTriggerArm g k w s
  | .triggerDisarm g k w => Sys2Proof.Machine.execTriggerDisarm g k w s
  | .triggerFire n => Sys2Proof.Machine.execTriggerFire n s
  | .triggerPulseEnd p => Sys2Proof.Machine.execTriggerPulseEnd p s
  | .capture c => Sys2Proof.Machine.execCapture c s
  | .captureRecRead g c => Sys2Proof.Machine.execCaptureRecRead g c s
  | .admissionComplete => Sys2Proof.Machine.execAdmissionComplete s
  | .treadZeroed => Sys2Proof.Machine.execTreadZeroed s
  | .landingScrubStep => Sys2Proof.Machine.execLandingScrubStep s
  | .lndClearUe g => Sys2Proof.Machine.execLndClearUe g s
  | .lndClearCe g => Sys2Proof.Machine.execLndClearCe g s
  | .hbufEnable g b w => Sys2Proof.Machine.execHbufEnable g b w s
  | .hbufDisable g b w => Sys2Proof.Machine.execHbufDisable g b w s
  | .hbufPtrWrite g b w => Sys2Proof.Machine.execHbufPtrWrite g b w s
  | .hbufPeriodTake b => Sys2Proof.Machine.execHbufPeriodTake b s
  | .hbufPeriodPublish b => Sys2Proof.Machine.execHbufPeriodPublish b s
  | .corridorEnable g w => Sys2Proof.Machine.execCorridorEnable g w s
  | .corridorDisable g w => Sys2Proof.Machine.execCorridorDisable g w s
  | .corridorCloseComplete c => Sys2Proof.Machine.execCorridorCloseComplete c s
  | .corridorRecordCommit c type info payload => Sys2Proof.Machine.execCorridorRecordCommit c type info payload s
  | .corRdWrite g c w => Sys2Proof.Machine.execCorRdWrite g c w s
  | .corRelWrite g c w => Sys2Proof.Machine.execCorRelWrite g c w s
  | .corMarkWrite g w => Sys2Proof.Machine.execCorMarkWrite g w s
  | .corRewind g => Sys2Proof.Machine.execCorRewind g s
  | .corClearCnt g => Sys2Proof.Machine.execCorClearCnt g s
  | .outRecordConsume c => Sys2Proof.Machine.execOutRecordConsume c s
  | .netEnable g p w => Sys2Proof.Machine.execNetEnable g p w s
  | .netDisable g p w => Sys2Proof.Machine.execNetDisable g p w s
  | .linkUp p sp => Sys2Proof.Machine.execLinkUp p sp s
  | .linkDown p why => Sys2Proof.Machine.execLinkDown p why s
  | .linkSpeedChange p sp => Sys2Proof.Machine.execLinkSpeedChange p sp s
  | .mdioWrite g p w => Sys2Proof.Machine.execMdioWrite g p w s
  | .mdioRead g p w => Sys2Proof.Machine.execMdioRead g p w s
  | .mdioReadInc g p w => Sys2Proof.Machine.execMdioReadInc g p w s
  | .mdioReservedOp g p w => Sys2Proof.Machine.execMdioReservedOp g p w s
  | .mdioComplete p data => Sys2Proof.Machine.execMdioComplete p data s
  | .phyIntChange p on => Sys2Proof.Machine.execPhyIntChange p on s
  | .netReverify g p => Sys2Proof.Machine.execNetReverify g p s
  | .netClearCnt g p => Sys2Proof.Machine.execNetClearCnt g p s
  | .preemptVerifyAnswer p => Sys2Proof.Machine.execPreemptVerifyAnswer p s
  | .preemptVerifyTimeout p => Sys2Proof.Machine.execPreemptVerifyTimeout p s
  | .frameReceive p bytes pcsOk fcsOk fragOk preempted => Sys2Proof.Machine.execFrameReceive p bytes pcsOk fcsOk fragOk preempted s
  | .clsClearCnt g => Sys2Proof.Machine.execClsClearCnt g s
  | .galleryFrameStart p => Sys2Proof.Machine.execGalleryFrameStart p s
  | .galleryFrameDone p => Sys2Proof.Machine.execGalleryFrameDone p s
  | .galleryFrameStall p c => Sys2Proof.Machine.execGalleryFrameStall p c s
  | .gateEntryAdvance p => Sys2Proof.Machine.execGateEntryAdvance p s
  | .txStreamEnable g sn w => Sys2Proof.Machine.execTxStreamEnable g sn w s
  | .txStreamDisable g sn w => Sys2Proof.Machine.execTxStreamDisable g sn w s
  | .txStreamRestructure g sn w => Sys2Proof.Machine.execTxStreamRestructure g sn w s
  | .txFrameLaunch p sn start => Sys2Proof.Machine.execTxFrameLaunch p sn start s
  | .txFrameSkip p sn => Sys2Proof.Machine.execTxFrameSkip p sn s
  | .txDrainComplete sn => Sys2Proof.Machine.execTxDrainComplete sn s
  | .txeRetime g sn => Sys2Proof.Machine.execTxeRetime g sn s
  | .txeClearCnt g sn => Sys2Proof.Machine.execTxeClearCnt g sn s
  | .rxStreamEnable g sn w => Sys2Proof.Machine.execRxStreamEnable g sn w s
  | .rxStreamDisable g sn w => Sys2Proof.Machine.execRxStreamDisable g sn w s
  | .rxStreamRestructure g sn w => Sys2Proof.Machine.execRxStreamRestructure g sn w s
  | .rxPresent sn => Sys2Proof.Machine.execRxPresent sn s
  | .rxFlowStop sn => Sys2Proof.Machine.execRxFlowStop sn s
  | .naHoldExpiry sn pair => Sys2Proof.Machine.execNaHoldExpiry sn pair s
  | .rxDrainComplete sn => Sys2Proof.Machine.execRxDrainComplete sn s
  | .rxeClearCnt g sn => Sys2Proof.Machine.execRxeClearCnt g sn s
  | .routeEvaluation => Sys2Proof.Machine.execRouteEvaluation s
  | .routeCommit g => Sys2Proof.Machine.execRouteCommit g s
  | .routeSwap => Sys2Proof.Machine.execRouteSwap s
  | .routeCheck g => Sys2Proof.Machine.execRouteCheck g s
  | .rteClearCnt g => Sys2Proof.Machine.execRteClearCnt g s
  | .routeFadeDone => Sys2Proof.Machine.execRouteFadeDone s
  | .rteRateWrite g w => Sys2Proof.Machine.execRteRateWrite g w s
  | .sapFrame n before ec rising fs di => Sys2Proof.Machine.execSapFrame n before ec rising fs di s
  | .sapClockStop n => Sys2Proof.Machine.execSapClockStop n s
  | .sapEnable g n w => Sys2Proof.Machine.execSapEnable g n w s
  | .sapDisable g n w => Sys2Proof.Machine.execSapDisable g n w s
  | .sapRunStart n => Sys2Proof.Machine.execSapRunStart n s
  | .sapStopFadeDone n => Sys2Proof.Machine.execSapStopFadeDone n s
  | .sapPostrollEnd n => Sys2Proof.Machine.execSapPostrollEnd n s
  | .sapGroupStart g w => Sys2Proof.Machine.execSapGroupStart g w s
  | .sapGroupStop g w => Sys2Proof.Machine.execSapGroupStop g w s
  | .sapClearCnt g n => Sys2Proof.Machine.execSapClearCnt g n s
  | .monitorIntervalSample sl => Sys2Proof.Machine.execMonitorIntervalSample sl s
  | .monitorSnap g w => Sys2Proof.Machine.execMonitorSnap g w s
  | .telemetryRecordWrite => Sys2Proof.Machine.execTelemetryRecordWrite s
  | .alarmPendingFlush => Sys2Proof.Machine.execAlarmPendingFlush s
  | .alarmClear g w => Sys2Proof.Machine.execAlarmClear g w s
  | .logClassWrite g k w => Sys2Proof.Machine.execLogClassWrite g k w s
  | .fltDisarmAll g => Sys2Proof.Machine.execFltDisarmAll g s
  | .fltClearCnt g => Sys2Proof.Machine.execFltClearCnt g s
  | .tempSupervisorEval temp valid => Sys2Proof.Machine.execTempSupervisorEval temp valid s
  | .supplySupervisorEval => Sys2Proof.Machine.execSupplySupervisorEval s
  | .otpDataRead g => Sys2Proof.Machine.execOtpDataRead g s
  | .railInRegulation rail => Sys2Proof.Machine.execRailInRegulation rail s
  | .bankSupplyRestored bank => Sys2Proof.Machine.execBankSupplyRestored bank s
  | .injectionTick => Sys2Proof.Machine.execInjectionTick s

end Sys2Proof.Machine
end

