-- ==== Sys2Proof/WellFormed.lean ====
section
/-! DEFINITION. Which operands a command can carry: addresses inside the map (R33), words of the kind its row names (R43), bursts of R65,
accesses inside the aperture (R78), EC values of 64 bits (R108). A command outside these is no event of the device. -/

namespace Sys2Proof

open Machine

/-- An address of the 2 MiB map (R33). -/
def inMap (a : Nat) : Bool := decide (a < 0x200000)

/-- An aligned word of it (R36). -/
def isWordAddr (a : Nat) : Bool := inMap a && decide (a % 4 = 0)

/-- A word that a write only holds: an SH register, or any but the first of a table entry (R48, R49). -/
def isHeldWord (a : Nat) : Bool :=
  match place a with
  | .reg b o => match b.reg o with | some x => (match x.ty with | .shRw _ | .shPw _ | .shRo _ => true | _ => false) | none => false
  | .table _ _ i => decide (i ≠ 0)
  | .reserved => false

/-- The LW word of a group (R48). -/
def isLwWord (a : Nat) : Bool :=
  match place a with
  | .reg b o => match b.reg o with | some x => (match x.ty with | .lwRw _ | .lwPw _ | .lwRo _ => true | _ => false) | none => false
  | _ => false

/-- Word 0 of a table entry (R49). -/
def isEntryStart (a : Nat) : Bool := match place a with | .table _ _ i => decide (i = 0) | _ => false

/-- A PW register, or the LW word of a PW group (R51). -/
def isPostedWord (a : Nat) : Bool :=
  match place a with
  | .reg b o => match b.reg o with | some x => (match x.ty with | .pw | .lwPw _ => true | _ => false) | none => false
  | _ => false

/-- An access of `n` bytes inside the 16 MiB aperture (R78, R79). -/
def inAperture (off n : Nat) : Bool := decide (1 ≤ n ∧ off + n ≤ 2 ^ 24)

/-- An EC value (R108). -/
def isEc (e : Nat) : Bool := decide (e < 2 ^ 64)

/-- Whether the operands of a command are ones it can carry. -/
def Instr.wf : Instr → Bool
  | .powerUp _ => true
  | .vinLoss => true
  | .enLow => true
  | .enRise _ => true
  | .rstAssert => true
  | .rstRelease _ => true
  | .xoInLoss => true
  | .sysPllUnlock => true
  | .railOut _ => true
  | .vioUnder _ => true
  | .vinWarnTrip => true
  | .vinWarnClear => true
  | .sleepCmdRun _ => true
  | .sleepCmdQuiet _ => true
  | .sleepCmdDoze _ => true
  | .sleepCmdShelf _ => true
  | .sleepCmdReserved _ _ => true
  | .sleepCommit => true
  | .powerDownComplete => true
  | .quietEnter => true
  | .quietExit => true
  | .dozeWake _ ms => decide (ms < 2 ^ 32)
  | .wakeComplete _ => true
  | .watchEntryFire _ => true
  | .registerWrite _ addr ⟨_, none⟩ narrow => inMap addr && (narrow || decide (addr % 4 = 0))
  | .registerWrite _ addr ⟨_, some _⟩ narrow => inMap addr && decide (addr % 8 = 0) && !narrow
  | .pageStatusClear _ _ _ => true
  | .lwRead _ span => decide (0 < span.len) && inMap (span.addr + span.len - 1)
  | .shWrite _ addr _ => isWordAddr addr && isHeldWord addr
  | .lwCommit _ addr _ => isWordAddr addr && isLwWord addr
  | .tableEntryCommit _ addr _ => isWordAddr addr && isEntryStart addr
  | .pwWrite _ addr _ => isWordAddr addr && isPostedWord addr
  | .pwComplete _ => true
  | .parityScrub => true
  | .injSelWrite _ _ _ => true
  | .injCtrlWrite _ _ _ => true
  | .pcieLinkUp _ _ => true
  | .pcieLinkLoss => true
  | .pePerstAssert => true
  | .pePerstDeassert => true
  | .functionLevelReset _ => true
  | .galReset _ _ => true
  | .d3hotEntry _ => true
  | .d0Entry _ => true
  | .msixMaskChange _ _ => true
  | .qspiWr _ _ data _ _ => decide (1 ≤ data.length ∧ data.length ≤ 16)
  | .qspiRd _ _ _ _ _ => true
  | .qspiRdLink _ _ _ _ => true
  | .qspiEcho _ _ _ _ => true
  | .qspiReservedOpcode _ op _ _ _ => decide (op.val < 1 ∨ 4 < op.val)
  | .qspiFrameAbort _ => true
  | .apertureRead _ off len => inAperture off len
  | .apertureWrite _ off data => inAperture off data.length
  | .galClaim _ _ => true
  | .galRelease _ _ => true
  | .galForce _ _ => true
  | .galClaimReservedOp _ _ => true
  | .partDataWrite _ _ => true
  | .devSeal _ => true
  | .hostSleepWrite _ _ => true
  | .eventEdge _ => true
  | .sourceDispatch => true
  | .coalTimeExpiry _ => true
  | .deliveryCommit _ => true
  | .evtClaim _ _ _ => true
  | .evtComplete _ _ _ _ => true
  | .pendWordWrite _ _ _ _ => true
  | .maskWordWrite _ _ _ _ => true
  | .srcCtrlWrite _ _ _ => true
  | .srcTgtWrite _ _ _ _ => true
  | .tgtEnaWrite _ _ _ => true
  | .ecWrap => true
  | .viewSetStep _ _ => true
  | .viewSetRate _ _ => true
  | .viewSetReservedKind _ _ _ => true
  | .tdcStamp _ _ _ => true
  | .tdcTapMeasure _ => true
  | .sfdPairing _ _ boundary => isEc boundary.ec
  | .tbeSnapRead _ => true
  | .ptpEnable _ _ _ => true
  | .ptpDisable _ _ _ => true
  | .parentCommit _ _ _ => true
  | .syncRx _ => true
  | .followUpRx _ => true
  | .delayRespRx _ => true
  | .delayReqRx _ => true
  | .delayRespSend _ => true
  | .pdelayReqRx _ => true
  | .pdelayRespFuSend _ => true
  | .pdelayRespRx _ => true
  | .pdelayRespFuRx _ => true
  | .delayReqSend _ => true
  | .pdelayReqSend _ => true
  | .syncSend _ => true
  | .followUpSend _ => true
  | .announceRx _ => true
  | .signalingManagementRx _ => true
  | .syncTimeout _ => true
  | .servoStep _ => true
  | .servoLock _ => true
  | .gainNarrow _ => true
  | .servoEnable _ _ _ => true
  | .servoDisable _ _ _ => true
  | .servoRestart _ _ => true
  | .refCheck => true
  | .qualTimeExpiry _ => true
  | .wtrExpiry _ => true
  | .refLosDetect synce => synce.all fun e => isEc e.ec
  | .viewXDiscipline => true
  | .viewXShadowUpdate => true
  | .atSlewUpdate => true
  | .viewDisagreeCheck => true
  | .holdoverRateUpdate => true
  | .holdoverBoundUpdate => true
  | .refPreferredWrite _ _ => true
  | .xTodArm _ _ => true
  | .xTodApply => true
  | .refForceFree _ => true
  | .refClearHist _ => true
  | .refClearTable _ => true
  | .refAllowStep _ => true
  | .mcsEnable _ => true
  | .mcsDisable _ => true
  | .mcsVcoSettled _ => true
  | .mcsLockAcquired _ => true
  | .mcsLockLost _ => true
  | .mcsRefLoss _ _ => true
  | .mcsStopComplete _ => true
  | .mcsDiscModeSet _ => true
  | .mcsFreqCommit _ => true
  | .mcsFreqUpdate _ => true
  | .mcsRampStart _ _ => true
  | .mcsRampStop _ _ => true
  | .mcsReturn _ _ => true
  | .mcsRealign _ _ => true
  | .rampSegmentEnd _ => true
  | .mcsOutputEnable _ _ => true
  | .mcsOutputDisable _ _ => true
  | .mcsOutputDivChange _ _ => true
  | .mcsOutputDelayChange _ _ => true
  | .mclkoSelWrite _ _ _ _ => true
  | .mcsDiscInterval _ => true
  | .mcsAlignAchieved _ => true
  | .mcsNoFeedback _ => true
  | .triggerArm _ _ _ => true
  | .triggerDisarm _ _ _ => true
  | .triggerFire _ => true
  | .triggerPulseEnd _ => true
  | .capture _ => true
  | .captureRecRead _ _ => true
  | .admissionComplete => true
  | .treadZeroed => true
  | .landingScrubStep => true
  | .lndClearUe _ => true
  | .lndClearCe _ => true
  | .hbufEnable _ _ _ => true
  | .hbufDisable _ _ _ => true
  | .hbufPtrWrite _ _ _ => true
  | .hbufPeriodTake _ => true
  | .hbufPeriodPublish _ => true
  | .corridorEnable _ _ => true
  | .corridorDisable _ _ => true
  | .corridorCloseComplete _ => true
  | .corridorRecordCommit _ _ _ _ => true
  | .corRdWrite _ _ _ => true
  | .corRelWrite _ _ _ => true
  | .corMarkWrite _ _ => true
  | .corRewind _ => true
  | .corClearCnt _ => true
  | .outRecordConsume _ => true
  | .netEnable _ _ _ => true
  | .netDisable _ _ _ => true
  | .linkUp _ _ => true
  | .linkDown _ _ => true
  | .linkSpeedChange _ _ => true
  | .mdioWrite _ _ _ => true
  | .mdioRead _ _ _ => true
  | .mdioReadInc _ _ _ => true
  | .mdioReservedOp _ _ _ => true
  | .mdioComplete _ _ => true
  | .phyIntChange _ _ => true
  | .netReverify _ _ => true
  | .netClearCnt _ _ => true
  | .preemptVerifyAnswer _ => true
  | .preemptVerifyTimeout _ => true
  | .frameReceive _ bytes _ _ _ _ => decide (bytes ≠ [])
  | .clsClearCnt _ => true
  | .galleryFrameStart _ => true
  | .galleryFrameDone _ => true
  | .galleryFrameStall _ _ => true
  | .gateEntryAdvance _ => true
  | .txStreamEnable _ _ _ => true
  | .txStreamDisable _ _ _ => true
  | .txStreamRestructure _ _ _ => true
  | .txFrameLaunch _ _ start => isEc start
  | .txFrameSkip _ _ => true
  | .txDrainComplete _ => true
  | .txeRetime _ _ => true
  | .txeClearCnt _ _ => true
  | .rxStreamEnable _ _ _ => true
  | .rxStreamDisable _ _ _ => true
  | .rxStreamRestructure _ _ _ => true
  | .rxPresent _ => true
  | .rxFlowStop _ => true
  | .naHoldExpiry _ _ => true
  | .rxDrainComplete _ => true
  | .rxeClearCnt _ _ => true
  | .routeEvaluation => true
  | .routeCommit _ => true
  | .routeSwap => true
  | .routeCheck _ => true
  | .rteClearCnt _ => true
  | .routeFadeDone => true
  | .rteRateWrite _ _ => true
  | .sapFrame _ before ec _ _ _ => (before.all fun e => isEc e.ec) && isEc ec
  | .sapClockStop _ => true
  | .sapEnable _ _ _ => true
  | .sapDisable _ _ _ => true
  | .sapRunStart _ => true
  | .sapStopFadeDone _ => true
  | .sapPostrollEnd _ => true
  | .sapGroupStart _ _ => true
  | .sapGroupStop _ _ => true
  | .sapClearCnt _ _ => true
  | .monitorIntervalSample _ => true
  | .monitorSnap _ _ => true
  | .telemetryRecordWrite => true
  | .alarmPendingFlush => true
  | .alarmClear _ _ => true
  | .logClassWrite _ _ _ => true
  | .fltDisarmAll _ => true
  | .fltClearCnt _ => true
  | .tempSupervisorEval _ _ => true
  | .supplySupervisorEval => true
  | .otpDataRead _ => true
  | .railInRegulation _ => true
  | .bankSupplyRestored _ => true
  | .injectionTick => true

end Sys2Proof
end

