-- ==== Sys2Proof/Safety.lean ====
section
/-! DEFINITION. What the claims are stated in: completion, who may write, which commands reach the Landing or what stands outside the core,
and the invariant of the machine. -/

namespace Sys2Proof.Machine

/-! ### Completion and frames -/

/-- The command answers a next state, of which `P` holds. -/
def Completes (i : Instr) (s : State) (P : State → Prop) : Prop := ∃ t, exec i s = .next t ∧ P t

/-- Nothing but the device has changed: neither what stands outside the core, nor the Landing, nor the queue. -/
def DevOnly (s t : State) : Prop := t.root = s.root ∧ t.mem = s.mem ∧ t.pending = s.pending

/-- Nothing has changed. -/
def Unchanged (i : Instr) (s : State) : Prop := exec i s = .next s

/-! ### Access -/

/-- Gallery `g` reaches a running device. -/
def reaches (s : State) (g : Gal) : Bool := s.root.coreOn && hostOn s.dev g

/-- A write of `w` by gallery `g` to the register at offset `o` of block `b` passes the five checks of R37. -/
def canWrite (s : State) (g : Gal) (b : Blk) (o : Nat) (w : Word) : Bool :=
  reaches s g && regRight s.root s.dev g b o w == .ok &&
    match b.reg o with
    | some x => !(s.dev.sealed && isLo b x w) && !(isPw x && s.dev.busy b)
    | none => false

/-- A plain register: a write of it changes the word and nothing beside it, but what a use of the words its block consults reports. -/
def Blk.plain (b : Blk) (o : Nat) : Bool :=
  match b with
  | .hif => o != 0x050 && o != 0x054
  | .evt _ => o != 0x040 && (o < 0x080 || 0x0A0 ≤ o)
  | .lnd => o < 0x200
  | .net _ | .srv _ => o != 0x040
  | .shp => false
  | .tbe => o < 0x120 || 0x300 ≤ o
  | .ptp _ => o != 0x040 && o != 0x048
  | .trg => o < 0xA00
  | .ref => o != 0x048 && (o < 0x0A0 || 0x0E0 ≤ o) && o != 0x160
  | .rte => o != 0x040 && o < 0x400
  | .sap _ => o != 0x044
  | .log => o < 0x100
  | _ => true

/-- A write of word 0 of entry `e` passes them, with what the entry then names (R37, R73). -/
def canCommit (s : State) (g : Gal) (t : Tbl) (e : Nat) (w : Word) : Bool :=
  reaches s g && tableRight s.root s.dev g t e == .ok && contentOk s.root s.dev g t (commitWords s.dev g t e w)

/-! ### Records -/

/-- The writes that put bytes at an offset of a consumer's extent. -/
def bytesAt (d : Dev) (c off : Nat) (l : List Byte) : List MemWr :=
  l.zipIdx.filterMap fun p => (physAt d c (off + p.2)).map fun a => (a, [p.1])

/-- No word of a consumer's extent reads as uncorrectable. -/
def extentClean (d : Dev) (c : Nat) : Prop := ∀ off a, physAt d c off = some a → wordBad d (a / 8) = false

/-- A record in the ring of corridor `c`, in the order of R229: the WRAP header and a zero header at the start of the ring where the record does not fit
before its end; then the payload filled up with zeros to a multiple of 8 bytes, the zero header after it, and its own header of R228. -/
def recordWrites (d : Dev) (c status type info : Nat) (pay : List Byte) : List MemWr :=
  let x := d.cor c
  let n := pay.length
  let size := 8 + (n + 7) / 8 * 8
  let pos := x.wr % x.len
  let wraps := x.len - pos < size
  let start := if wraps then 0 else pos
  let head := fun (length status type seq info : Nat) => leBytes 8 (info % 65536 + seq % 65536 * 2 ^ 16 + type * 2 ^ 32 + status * 2 ^ 40 + length * 2 ^ 48)
  let zero := leBytes 8 0
  (if wraps then bytesAt d (consCor c) 0 zero ++ bytesAt d (consCor c) pos (head 0xFFFF 0 0 0 0) else []) ++
    bytesAt d (consCor c) (start + 8) (pay ++ List.replicate (size - 8 - n) 0) ++ bytesAt d (consCor c) ((start + size) % x.len) zero ++
    bytesAt d (consCor c) start (head n status type x.seq info)

/-- What the Landing holds after corridor `c` has been offered a record: the record, cut to what the ring takes (STATUS 1), where the corridor takes
records, has room and no injection of R236 drops it; else what it held. No byte outside the ring changes. -/
def Recorded (s t : State) (c type info : Nat) (pay : List Byte) : Prop :=
  let x := s.dev.cor c
  let dropped := (corInjTarget s.root s.dev = c ∧ injects .cor 0 s.dev = true) ∨ x.takes = false ∨ x.fits [min pay.length (min (x.len - 16) 65528)] = false
  (dropped → t.mem = s.mem) ∧
  (¬dropped → extentClean s.dev (consCor c) →
    let n := min (x.len - 16) 65528
    t.mem = memWrites s.mem (recordWrites s.dev c (if n < pay.length then 1 else 0) type info (pay.take n))) ∧
  ∀ a, (∀ off, physAt s.dev (consCor c) off ≠ some a) → memByte t.mem a = memByte s.mem a

/-- The header of the record at offset `pos` of an OUT corridor's ring as its completion writes it: STATUS and, of a discard, the cause in INFO; LENGTH,
TYPE and SEQ are those of the record (R228, R248). -/
def completion (s : State) (c pos len status cause : Nat) : List MemWr :=
  let h := headWord s.mem s.dev c pos
  let info := if status = 0x81 then h % 2 ^ 12 + cause * 2 ^ 12 else h % 2 ^ 16
  bytesAt s.dev (consCor c) pos (leBytes 8 (info + h / 2 ^ 16 % 2 ^ 16 * 2 ^ 16 + h / 2 ^ 32 % 2 ^ 8 * 2 ^ 32 + status * 2 ^ 40 + len * 2 ^ 48))

/-- The Landing after a record has been discarded with a cause. -/
def Discarded (s t : State) (c pos len cause : Nat) : Prop :=
  (extentClean s.dev (consCor c) ∨ pos % 8 = 0) → t.mem = memWrites s.mem (completion s c pos len 0x81 cause)

/-- The Landing after the record of a head has been sent: its launch stamps stand in their slots, the CONTEXT of each free, and then its header. -/
def RecordDone (s t : State) (c : Nat) (h : OutHead) : Prop :=
  let slot := fun (i : Nat) (z : Option Stamp) (context : Word) =>
    match z with | some z => bytesAt s.dev (consCor c) (h.pos + 8 + 16 * i) (wordsBytes (stampWords z context)) | none => []
  extentClean s.dev (consCor c) → ∃ a b, t.mem = memWrites s.mem
    ((if h.stamp then slot 0 h.stA a ++ slot 1 h.stB b else []) ++ completion s c h.pos h.len 0x80 0)

/-- No byte outside the rings of corridors changes. -/
def RingsOnly (s t : State) : Prop := ∀ a, (∀ c off, physAt s.dev (consCor c) off ≠ some a) → memByte t.mem a = memByte s.mem a

/-! ### Host buffers -/

/-- A sample word as a packing lays it out in a slot: P3 its 24 bits of audio, P4L the audio in the upper bits with the side bits, P4S the audio
sign-extended (R226). -/
def packedWord (pack : Nat) (w : Word) : List Byte :=
  if pack = 0 then leBytes 3 (w.toNat / 256) else if pack = 1 then leBytes 4 (w.toNat / 8 * 8)
  else leBytes 4 (w.toNat / 256 + if bitOf w 31 then 0xFF000000 else 0)

/-- Bytes of a sample in a slot. -/
def packedBytes (pack : Nat) : Nat := if pack = 0 then 3 else 4

/-- Where the sample of channel `i` of a buffer lies in the slot of period `k` (R223). -/
def slotPlace (x : Hbuf) (k : Int) (i : Nat) : Nat :=
  (k % (2 ^ max 1 x.depthLog : Nat)).toNat * ((x.count * packedBytes x.pack + 63) / 64 * 64) + i * packedBytes x.pack

/-- The slot of period `k` of buffer `b` when its channels carry `val`. -/
def slotWrites (d : Dev) (b : Nat) (k : Int) (val : Nat → Word) : List MemWr :=
  let x := d.hb b
  bytesAt d (consHb b) (slotPlace x k 0) ((List.range x.count).flatMap fun i => packedWord x.pack (val (x.first + i)))

/-- No byte outside the rings of host buffers changes. -/
def BuffersOnly (s t : State) : Prop := ∀ a, (∀ b off, physAt s.dev (consHb b) off ≠ some a) → memByte t.mem a = memByte s.mem a

/-! ### The invariant -/

/-- What every step keeps: the Landing's bytes stand in canonical form, the elapsed counter is a whole number of CORE_CLK cycles inside its
64 bits (R108), and where the core has no power the counter is zero and the Landing is lost (R373). -/
def State.Inv (s : State) : Prop :=
  memWf s.mem ∧ s.root.ec < ecMod ∧ s.root.ec % 512 = 0 ∧
    match s.root.power with
    | .run | .quiet | .entering _ => True
    | _ => s.root.ec = 0 ∧ s.mem = []

end Sys2Proof.Machine

namespace Sys2Proof

/-! ### Commands by what they reach -/

/-- Commands of the power pins, the rails and the sleep states, which act with the core off too. -/
def Instr.isPower : Instr → Bool
  | .powerUp _ | .vinLoss | .enLow | .enRise _ | .rstAssert | .rstRelease _ | .railOut _ | .railInRegulation _ | .vioUnder _
  | .bankSupplyRestored _ | .vinWarnTrip | .vinWarnClear | .powerDownComplete | .dozeWake .. | .wakeComplete _ | .watchEntryFire .. => true
  | _ => false

/-- Commands of pads that are sampled or answered in every state: PE_PERST_N, a PHY interrupt pad, and a QSPI frame (R240, R381, R383). -/
def Instr.isPadFrame : Instr → Bool
  | .pePerstAssert | .pePerstDeassert | .phyIntChange .. | .qspiWr .. | .qspiRd .. | .qspiRdLink .. | .qspiEcho .. | .qspiReservedOpcode .. => true
  | _ => false

/-- Commands that can change what stands outside the core. -/
def Instr.movesRoot : Instr → Bool
  | .powerUp _ | .vinLoss | .enLow | .enRise _ | .rstAssert | .rstRelease _ | .vioUnder _ | .sleepCommit | .pwComplete _
  | .powerDownComplete | .quietEnter | .quietExit | .dozeWake .. | .wakeComplete _ | .watchEntryFire .. | .ecWrap => true
  | _ => false

/-- Commands of the datapath that QUIET stops (R374). -/
def Instr.isDatapath : Instr → Bool
  | .routeEvaluation | .routeSwap | .routeFadeDone | .sapFrame .. | .sapClockStop _ | .sapRunStart _ | .sapStopFadeDone _ | .sapPostrollEnd _
  | .hbufPeriodTake _ | .hbufPeriodPublish _ | .txFrameLaunch .. | .txFrameSkip .. | .txDrainComplete _ | .rxPresent _ | .rxFlowStop _
  | .naHoldExpiry .. | .rxDrainComplete _ => true
  | _ => false

/-- Commands that can store to the Landing: aperture and QSPI writes, hardware producers of corridors and buffers, a resulting flush, zeroing,
and a loss of the Landing's supply. -/
def Instr.storesLanding : Instr → Bool
  | .apertureWrite .. | .qspiWr .. | .corridorRecordCommit .. | .capture _ | .treadZeroed | .telemetryRecordWrite | .alarmPendingFlush
  | .announceRx _ | .signalingManagementRx _ | .frameReceive .. | .outRecordConsume _ | .galleryFrameStart _ | .galleryFrameDone _ | .galleryFrameStall ..
  | .corridorCloseComplete _ | .linkDown .. | .linkSpeedChange .. | .sfdPairing .. | .routeEvaluation | .hbufPeriodPublish _
  | .registerWrite .. | .shWrite .. | .lwCommit .. | .tableEntryCommit .. | .pwWrite .. | .netEnable .. | .netDisable .. | .corRelWrite ..
  | .powerUp _ | .vinLoss | .enLow | .enRise _ | .rstAssert | .rstRelease _ | .vioUnder _ | .powerDownComplete | .wakeComplete _ => true
  | _ => false

end Sys2Proof

namespace Sys2Proof.Machine

/-! ### Parts of the device -/

/-- The parts of a device: one for each field of its state. -/
inductive Part where
  | regs | eff | parityBad | scrubAt | page | lines | owed | hwSet | posted | sealed | rshadow | wshadow | tshadow | perGal | gal | hif
  | evc | pwr | clk | tb | flt | lnd | mon | log | net | trg | ptp | srv | ref | mcs | fb | chan | rte | sap | sapg | tx | txe | rx | rxe
  | otpOk | rails | phyPads | freeCtr
  deriving DecidableEq, Repr

/-- Two devices agree in a part. -/
def Part.same (a b : Dev) : Part → Prop
  | .regs => a.regs = b.regs
  | .eff => a.eff = b.eff
  | .parityBad => a.parityBad = b.parityBad
  | .scrubAt => a.scrubAt = b.scrubAt
  | .page => a.page = b.page
  | .lines => a.lines = b.lines
  | .owed => a.owed = b.owed
  | .hwSet => a.hwSet = b.hwSet
  | .posted => a.posted = b.posted
  | .sealed => a.sealed = b.sealed
  | .rshadow => a.rshadow = b.rshadow
  | .wshadow => a.wshadow = b.wshadow
  | .tshadow => a.tshadow = b.tshadow
  | .perGal => a.perGal = b.perGal
  | .gal => a.gal = b.gal
  | .hif => a.hif = b.hif
  | .evc => a.evc = b.evc
  | .pwr => a.pwr = b.pwr
  | .clk => a.clk = b.clk
  | .tb => a.tb = b.tb
  | .flt => a.flt = b.flt
  | .lnd => a.lnd = b.lnd
  | .mon => a.mon = b.mon
  | .log => a.log = b.log
  | .net => a.net = b.net
  | .trg => a.trg = b.trg
  | .ptp => a.ptp = b.ptp
  | .srv => a.srv = b.srv
  | .ref => a.ref = b.ref
  | .mcs => a.mcs = b.mcs
  | .fb => a.fb = b.fb
  | .chan => a.chan = b.chan
  | .rte => a.rte = b.rte
  | .sap => a.sap = b.sap
  | .sapg => a.sapg = b.sapg
  | .tx => a.tx = b.tx
  | .txe => a.txe = b.txe
  | .rx => a.rx = b.rx
  | .rxe => a.rxe = b.rxe
  | .otpOk => a.otpOk = b.otpOk
  | .rails => a.rails = b.rails
  | .phyPads => a.phyPads = b.phyPads
  | .freeCtr => a.freeCtr = b.freeCtr

/-- Every part: what a loss of the core's power, or a bring-up, reaches. -/
def Part.all : List Part :=
  [.regs, .eff, .parityBad, .scrubAt, .page, .lines, .owed, .hwSet, .posted, .sealed, .rshadow, .wshadow, .tshadow, .perGal, .gal, .hif,
   .evc, .pwr, .clk, .tb, .flt, .lnd, .mon, .log, .net, .trg, .ptp, .srv, .ref, .mcs, .fb, .chan, .rte, .sap, .sapg, .tx, .txe, .rx, .rxe,
   .otpOk, .rails, .phyPads, .freeCtr]

/-- What a write of a page's registers can reach in its block, beside the page itself. -/
def blkParts : Blk → List Part
  | .dev => [.sealed]
  | .gal => [.gal, .rshadow, .tshadow, .hif, .pwr]
  | .hif => [.hif]
  | .evc | .evt _ => [.hif, .pwr]
  | .pwr => [.pwr]
  | .clk => []
  | .otp => [.perGal]
  | .lnd => [.lnd, .perGal, .owed]
  | .cor => [.lnd, .perGal, .flt, .log, .freeCtr]
  | .net _ => [.lnd, .net, .ptp, .srv, .ref, .tx, .freeCtr]
  | .cls | .shp => [.net]
  | .tbe | .ref => [.tb, .lnd, .net, .trg, .ref, .chan, .rte, .sap, .tx]
  | .ptp _ => [.net, .ptp, .srv, .ref]
  | .srv _ => [.srv, .ref]
  | .trg => [.trg]
  | .mcs _ => [.mcs]
  | .txe => [.tx, .txe, .freeCtr]
  | .rxe => [.rx, .rxe]
  | .rte => [.tb, .rte, .chan]
  | .sapg => [.sap, .sapg, .owed]
  | .sap _ => [.lnd, .sap, .owed, .freeCtr]
  | .mon => [.mon]
  | .log => [.log]
  | .flt => [.flt]

/-- What a write of a page's registers can reach: the words, the page's faults and posted write, a write shadow, the event lines, and its block. -/
def regParts (b : Blk) : List Part := [.regs, .parityBad, .page, .lines, .posted, .wshadow, .evc] ++ blkParts b

/-- What a write of a table region can reach: the words, its page's faults, its shadow, the event lines, and its engine. -/
def tblParts (t : Tbl) : List Part :=
  [.regs, .parityBad, .page, .lines, .tshadow, .evc] ++ match t with
    | .route0 | .route1 => [.rte]
    | .txs => [.lnd, .tx, .owed]
    | .rxs => [.lnd, .rx, .owed]
    | .monslot => [.mon]
    | .flow | .hist | .alarm => []

/-- What a write of the word at an address can reach. -/
def wordParts (a : Nat) : List Part :=
  match place a with
  | .reg b _ => regParts b
  | .table t _ _ => tblParts t
  | .reserved => [.page, .lines]

end Sys2Proof.Machine

namespace Sys2Proof

open Sys2Proof.Machine

/-- The parts of the device that a command can change, over all states; every part it does not name is unchanged by it. -/
def Instr.touches : Instr → List Part
  | .powerUp _ | .enRise _ | .rstRelease _ | .wakeComplete _ =>
    [.regs, .eff, .parityBad, .scrubAt, .page, .lines, .owed, .hwSet, .posted, .sealed, .rshadow, .wshadow, .tshadow, .perGal, .gal, .hif,
      .evc, .pwr, .clk, .tb, .flt, .lnd, .mon, .log, .net, .trg, .ptp, .srv, .ref, .mcs, .fb, .chan, .rte, .sap, .sapg, .tx, .txe, .rx,
      .rxe, .otpOk, .rails, .freeCtr]
  | .vinLoss | .enLow | .vioUnder _ | .powerDownComplete =>
    [.regs, .eff, .parityBad, .scrubAt, .page, .lines, .owed, .hwSet, .posted, .sealed, .rshadow, .wshadow, .tshadow, .perGal, .gal, .hif,
      .evc, .pwr, .clk, .tb, .flt, .lnd, .mon, .log, .net, .trg, .ptp, .srv, .ref, .mcs, .fb, .chan, .rte, .sap, .sapg, .tx, .txe, .rx,
      .rxe, .otpOk, .rails]
  | .rstAssert =>
    [.regs, .eff, .parityBad, .scrubAt, .page, .lines, .owed, .hwSet, .posted, .sealed, .rshadow, .wshadow, .tshadow, .perGal, .gal, .hif,
      .evc, .pwr, .clk, .tb, .flt, .lnd, .mon, .log, .net, .trg, .ptp, .srv, .ref, .mcs, .fb, .chan, .rte, .sap, .sapg, .tx, .txe, .rx,
      .rxe, .otpOk]
  | .xoInLoss | .sysPllUnlock =>
    [.evc, .clk]
  | .railOut _ | .railInRegulation _ | .bankSupplyRestored _ =>
    [.rails]
  | .vinWarnTrip | .vinWarnClear =>
    [.evc, .pwr]
  | .sleepCmdRun _ | .sleepCmdQuiet _ | .sleepCmdDoze _ | .sleepCmdShelf _ | .sleepCmdReserved _ _ =>
    regParts .pwr
  | .sleepCommit =>
    [.eff, .posted, .evc, .pwr, .trg, .sap, .freeCtr]
  | .quietEnter | .sapClockStop _ =>
    [.evc, .ref, .sap]
  | .quietExit =>
    [.owed, .evc, .lnd, .sap, .sapg, .tx, .rx, .freeCtr]
  | .dozeWake _ _ =>
    [.hif, .pwr]
  | .watchEntryFire _ =>
    [.page, .lines, .hif, .pwr, .freeCtr]
  | .registerWrite _ addr ⟨_, none⟩ _ | .shWrite _ addr _ | .lwCommit _ addr _ | .tableEntryCommit _ addr _ | .pwWrite _ addr _ =>
    wordParts addr
  | .registerWrite _ addr ⟨_, some _⟩ _ =>
    wordParts addr ++ wordParts (addr + 4)
  | .pageStatusClear _ page _ =>
    wordParts (page * 0x1000 + 0x00C)
  | .lwRead _ _ =>
    [.regs, .parityBad, .rshadow, .perGal, .hif, .evc, .mon, .log, .trg, .sap]
  | .pwComplete _ =>
    [.regs, .eff, .parityBad, .page, .lines, .posted, .evc, .pwr, .trg, .mcs, .sap, .freeCtr]
  | .parityScrub =>
    [.scrubAt, .page, .lines]
  | .injSelWrite _ page _ =>
    wordParts (page * 0x1000 + 0x018)
  | .injCtrlWrite _ page _ =>
    wordParts (page * 0x1000 + 0x01C)
  | .pcieLinkUp _ _ =>
    [.hif, .evc]
  | .pcieLinkLoss | .pePerstAssert | .functionLevelReset _ =>
    [.regs, .parityBad, .page, .lines, .rshadow, .wshadow, .tshadow, .gal, .hif, .evc, .pwr]
  | .pePerstDeassert | .d3hotEntry _ | .d0Entry _ | .msixMaskChange _ _ | .qspiFrameAbort _ =>
    [.hif]
  | .galReset _ _ | .galClaim _ _ | .galRelease _ _ | .galForce _ _ | .galClaimReservedOp _ _ | .partDataWrite _ _ | .hostSleepWrite _ _ =>
    regParts .gal
  | .qspiWr _ _ _ _ _ =>
    [.regs, .parityBad, .page, .lines, .owed, .posted, .sealed, .rshadow, .wshadow, .tshadow, .perGal, .gal, .hif, .evc, .pwr, .tb, .flt,
      .lnd, .mon, .log, .net, .trg, .ptp, .srv, .ref, .mcs, .chan, .rte, .sap, .sapg, .tx, .txe, .rx, .rxe, .freeCtr]
  | .qspiRd _ _ _ _ _ =>
    [.regs, .parityBad, .page, .lines, .rshadow, .perGal, .gal, .hif, .evc, .flt, .lnd, .mon, .log, .trg, .sap, .freeCtr]
  | .qspiRdLink _ _ _ _ | .qspiEcho _ _ _ _ | .qspiReservedOpcode _ _ _ _ _ =>
    [.regs, .parityBad, .page, .lines, .hif, .evc, .flt]
  | .apertureRead _ _ _ =>
    [.gal, .hif, .evc, .lnd, .freeCtr]
  | .apertureWrite _ _ _ =>
    [.gal, .evc, .lnd, .freeCtr]
  | .devSeal _ =>
    regParts .dev
  | .eventEdge _ =>
    [.regs, .parityBad, .page, .lines, .hif, .evc, .pwr, .log]
  | .sourceDispatch | .coalTimeExpiry _ | .deliveryCommit _ =>
    [.page, .lines, .hif, .evc, .pwr]
  | .evtClaim _ _ _ =>
    [.regs, .parityBad, .hif, .evc, .mon, .log]
  | .evtComplete _ e _ _ | .srcCtrlWrite _ e _ | .srcTgtWrite _ e _ _ | .tgtEnaWrite _ e _ =>
    regParts (.evt e)
  | .pendWordWrite _ e _ _ | .maskWordWrite _ e _ _ =>
    regParts (lineBlk e)
  | .ecWrap =>
    [.page, .lines, .hwSet, .gal, .evc, .tb, .lnd, .mon, .log, .net, .trg, .ptp, .ref, .mcs, .fb, .chan, .rte, .sap, .sapg, .tx, .txe,
      .rx, .rxe, .freeCtr]
  | .viewSetStep _ _ | .viewSetRate _ _ | .viewSetReservedKind _ _ _ =>
    regParts .tbe
  | .tdcStamp _ _ _ =>
    [.regs, .parityBad, .page, .lines, .evc, .tb, .flt, .trg, .ref, .fb]
  | .tdcTapMeasure _ =>
    [.page, .lines, .tb]
  | .sfdPairing _ _ _ =>
    [.regs, .parityBad, .page, .lines, .evc, .tb, .flt, .lnd, .mon, .log, .net, .ptp, .freeCtr]
  | .tbeSnapRead _ =>
    [.rshadow, .hif]
  | .ptpEnable _ n _ | .ptpDisable _ n _ | .parentCommit _ n _ =>
    regParts (.ptp n)
  | .syncRx _ | .followUpRx _ =>
    [.regs, .parityBad, .page, .lines, .evc, .tb, .flt, .mon, .log, .ptp, .srv, .ref, .freeCtr]
  | .delayRespRx _ =>
    [.regs, .parityBad, .page, .lines, .hwSet, .evc, .flt, .ptp, .srv, .ref]
  | .delayReqRx _ | .pdelayRespRx _ =>
    [.page, .lines, .ptp]
  | .delayRespSend _ | .pdelayReqRx _ | .pdelayRespFuSend _ | .pdelayReqSend _ | .syncSend _ | .followUpSend _ =>
    [.page, .lines, .net, .ptp]
  | .pdelayRespFuRx _ =>
    [.page, .lines, .ptp, .srv, .ref]
  | .delayReqSend _ =>
    [.page, .lines, .net, .ptp, .freeCtr]
  | .announceRx _ | .signalingManagementRx _ =>
    [.regs, .parityBad, .page, .lines, .evc, .flt, .lnd, .ptp, .freeCtr]
  | .syncTimeout _ =>
    [.page, .lines, .evc, .ptp, .srv, .ref]
  | .servoStep _ =>
    [.page, .lines, .evc, .tb, .lnd, .net, .trg, .srv, .ref, .chan, .rte, .sap, .tx]
  | .servoLock _ =>
    [.page, .lines, .evc, .srv, .ref]
  | .gainNarrow _ =>
    [.page, .lines, .srv, .ref]
  | .servoEnable _ n _ | .servoDisable _ n _ | .servoRestart _ n =>
    regParts (.srv n)
  | .refCheck =>
    [.regs, .parityBad, .page, .lines, .hwSet, .evc, .tb, .flt, .lnd, .net, .trg, .ref, .chan, .rte, .sap, .tx, .freeCtr]
  | .qualTimeExpiry _ | .wtrExpiry _ =>
    [.page, .lines, .evc, .tb, .lnd, .net, .trg, .ref, .chan, .rte, .sap, .tx]
  | .refLosDetect _ =>
    [.regs, .parityBad, .page, .lines, .evc, .tb, .flt, .lnd, .net, .trg, .ref, .chan, .rte, .sap, .tx]
  | .viewXDiscipline | .viewXShadowUpdate | .holdoverRateUpdate =>
    [.page, .lines, .tb, .ref, .freeCtr]
  | .atSlewUpdate =>
    [.page, .lines, .evc, .tb, .lnd, .net, .ref, .chan, .rte, .sap, .tx, .freeCtr]
  | .viewDisagreeCheck =>
    [.page, .lines, .evc, .ref]
  | .holdoverBoundUpdate =>
    [.page, .lines, .evc, .tb, .ref]
  | .refPreferredWrite _ _ | .xTodArm _ _ | .refForceFree _ | .refClearHist _ | .refClearTable _ | .refAllowStep _ =>
    regParts .ref
  | .xTodApply =>
    [.regs, .parityBad, .page, .lines, .evc, .tb, .lnd, .net, .trg, .ref, .chan, .rte, .sap, .tx]
  | .mcsEnable _ | .mcsDisable _ | .mcsDiscModeSet _ | .mcsFreqCommit _ | .mcsOutputEnable _ _ | .mcsOutputDisable _ _
  | .mcsOutputDivChange _ _ | .mcsOutputDelayChange _ _ =>
    [.regs, .eff, .parityBad, .page, .lines, .posted, .evc, .mcs, .freeCtr]
  | .mcsVcoSettled _ =>
    [.mcs]
  | .mcsLockAcquired _ | .mcsLockLost _ | .mcsRefLoss _ _ | .mcsAlignAchieved _ =>
    [.page, .lines, .evc, .mcs]
  | .mcsStopComplete _ =>
    [.page, .lines, .evc, .mcs, .freeCtr]
  | .mcsFreqUpdate _ =>
    [.regs, .parityBad, .page, .lines, .evc, .flt, .mcs]
  | .mcsRampStart _ n | .mcsRampStop _ n | .mcsReturn _ n | .mcsRealign _ n | .mclkoSelWrite _ n _ _ =>
    regParts (.mcs n)
  | .rampSegmentEnd _ | .mcsNoFeedback _ =>
    [.evc, .mcs]
  | .mcsDiscInterval _ =>
    [.regs, .parityBad, .page, .lines, .evc, .mon, .log, .mcs]
  | .triggerArm _ _ _ | .triggerDisarm _ _ _ =>
    regParts .trg
  | .triggerFire _ =>
    [.page, .lines, .owed, .evc, .lnd, .net, .trg, .mcs, .rte, .sap, .sapg, .tx, .rx, .freeCtr]
  | .triggerPulseEnd _ =>
    [.trg]
  | .capture _ =>
    [.regs, .parityBad, .page, .lines, .evc, .tb, .flt, .lnd, .trg, .freeCtr]
  | .captureRecRead _ _ =>
    [.rshadow, .hif, .trg]
  | .admissionComplete =>
    [.hwSet, .evc, .lnd, .net, .sap, .tx, .txe, .rx, .rxe, .freeCtr]
  | .treadZeroed =>
    [.lnd]
  | .landingScrubStep | .corridorRecordCommit _ _ _ _ =>
    [.regs, .parityBad, .page, .lines, .evc, .flt, .lnd, .freeCtr]
  | .lndClearUe _ | .lndClearCe _ | .hbufEnable _ _ _ | .hbufDisable _ _ _ | .hbufPtrWrite _ _ _ =>
    regParts .lnd
  | .hbufPeriodTake _ =>
    [.page, .lines, .evc, .lnd, .chan, .freeCtr]
  | .hbufPeriodPublish _ =>
    [.page, .lines, .evc, .lnd, .mon, .rte, .freeCtr]
  | .corridorEnable _ _ | .corridorDisable _ _ | .corRdWrite _ _ _ | .corRelWrite _ _ _ | .corMarkWrite _ _ | .corRewind _ | .corClearCnt _ =>
    regParts .cor
  | .corridorCloseComplete _ =>
    [.evc, .lnd, .net, .freeCtr]
  | .outRecordConsume _ | .galleryFrameStall _ _ =>
    [.page, .lines, .evc, .lnd, .net, .freeCtr]
  | .netEnable _ p _ | .netDisable _ p _ | .mdioWrite _ p _ | .mdioRead _ p _ | .mdioReadInc _ p _ | .mdioReservedOp _ p _
  | .netReverify _ p | .netClearCnt _ p =>
    regParts (.net p)
  | .linkUp _ _ =>
    [.page, .lines, .evc, .net, .tx, .freeCtr]
  | .linkDown _ _ =>
    [.page, .lines, .evc, .lnd, .net, .ptp, .srv, .ref, .freeCtr]
  | .linkSpeedChange _ _ =>
    [.page, .lines, .evc, .lnd, .net, .ptp, .srv, .ref, .tx, .freeCtr]
  | .mdioComplete _ _ | .preemptVerifyAnswer _ | .preemptVerifyTimeout _ =>
    [.page, .lines, .evc, .net]
  | .phyIntChange _ _ =>
    [.lines, .phyPads]
  | .frameReceive _ _ _ _ _ _ =>
    [.regs, .parityBad, .page, .lines, .evc, .flt, .lnd, .mon, .log, .net, .ptp, .srv, .ref, .rx, .rxe, .freeCtr]
  | .clsClearCnt _ =>
    regParts .cls
  | .galleryFrameStart _ | .galleryFrameDone _ =>
    [.regs, .parityBad, .page, .lines, .evc, .flt, .lnd, .net, .ptp, .srv, .ref, .freeCtr]
  | .gateEntryAdvance _ =>
    [.page, .lines, .net]
  | .txStreamEnable _ _ _ | .txStreamDisable _ _ _ | .txStreamRestructure _ _ _ =>
    tblParts .txs
  | .txFrameLaunch _ _ _ =>
    [.regs, .parityBad, .page, .lines, .evc, .flt, .lnd, .net, .tx, .txe, .freeCtr]
  | .txFrameSkip _ _ =>
    [.evc, .tx, .txe]
  | .txDrainComplete _ =>
    [.evc, .lnd, .net, .tx, .txe, .freeCtr]
  | .txeRetime _ _ | .txeClearCnt _ _ =>
    regParts .txe
  | .rxStreamEnable _ _ _ | .rxStreamDisable _ _ _ | .rxStreamRestructure _ _ _ =>
    tblParts .rxs
  | .rxPresent _ =>
    [.page, .lines, .evc, .lnd, .chan, .rx, .rxe, .freeCtr]
  | .rxFlowStop _ | .naHoldExpiry _ _ =>
    [.evc, .rx]
  | .rxDrainComplete _ =>
    [.evc, .lnd, .rx, .rxe, .freeCtr]
  | .rxeClearCnt _ _ =>
    regParts .rxe
  | .routeEvaluation =>
    [.page, .lines, .evc, .lnd, .mon, .chan, .rte, .freeCtr]
  | .routeCommit _ | .routeCheck _ | .rteClearCnt _ | .rteRateWrite _ _ =>
    regParts .rte
  | .routeSwap =>
    [.page, .lines, .evc, .rte]
  | .routeFadeDone =>
    [.evc, .rte]
  | .sapFrame _ _ _ _ _ _ =>
    [.regs, .parityBad, .page, .lines, .evc, .flt, .lnd, .trg, .ref, .chan, .sap, .sapg, .freeCtr]
  | .sapEnable _ n _ | .sapDisable _ n _ | .sapClearCnt _ n =>
    regParts (.sap n)
  | .sapRunStart _ | .sapStopFadeDone _ =>
    [.page, .lines, .sap]
  | .sapPostrollEnd _ =>
    [.page, .lines, .evc, .lnd, .sap, .freeCtr]
  | .sapGroupStart _ _ | .sapGroupStop _ _ =>
    regParts .sapg
  | .monitorIntervalSample _ =>
    [.regs, .parityBad, .page, .lines, .evc, .mon, .log]
  | .monitorSnap _ _ =>
    regParts .mon
  | .telemetryRecordWrite | .alarmPendingFlush =>
    [.regs, .parityBad, .page, .lines, .evc, .flt, .lnd, .log, .freeCtr]
  | .alarmClear _ _ | .logClassWrite _ _ _ =>
    regParts .log
  | .fltDisarmAll _ | .fltClearCnt _ =>
    regParts .flt
  | .tempSupervisorEval _ _ =>
    [.regs, .parityBad, .page, .lines, .evc, .flt, .ref]
  | .supplySupervisorEval | .injectionTick =>
    [.regs, .parityBad, .page, .lines, .evc, .flt]
  | .otpDataRead _ =>
    [.parityBad, .perGal, .hif]

end Sys2Proof
end

