-- ==== Sys2Proof/Certificates/Slice0/Obligations.lean ====
section
/-! DEFINITION. The claims about the device, stated for the provers. -/

open Sys2Proof Sys2Proof.Machine


/-! ### The machine as a whole -/

/-- A step takes the command at the front of the queue and runs it with the queue's rest. -/
def Obligations.StepRunsFrontCommand : Prop :=
  ∀ (c : Instr) (q : List Instr) (s : State), step { s with pending := c :: q } = exec c { s with pending := q }

/-- With no command waiting a running core's EC advances by one CORE_CLK cycle of 2 ns, and past 64 bits it wraps; without a running core nothing
happens (R108; that an empty queue stands for one cycle is the model's choice, log entry 2). -/
def Obligations.EmptyQueueIdles : Prop :=
  ∀ s : State, s.pending = [] →
    (s.root.coreOn = false → step s = .next s) ∧
    (s.root.coreOn = true → s.root.ec + 512 < ecMod → step s = .next { s with root := { s.root with ec := s.root.ec + 512 } }) ∧
    (s.root.coreOn = true → ecMod ≤ s.root.ec + 512 → ∃ t, step s = .next t ∧ t.root = { s.root with ec := 0 } ∧ t.mem = s.mem ∧ t.pending = [] ∧
      t.dev.tb.era = eraNext s.dev.tb.era)

/-- What reset leaves (R72, R76, R108, R114, R117, R214, R385): RUN with the EC at zero, every register and table word at its reset value, nothing
posted or queued, every element the house gallery's, no shared page held, every tread free, the Landing empty.
Where the spec leaves a point open, the clause is the model's choice: log entries 4, 5 and 7. -/
def Obligations.ResetState : Prop :=
  let s := State.reset
  s.root.power = .run ∧ s.root.ec = 0 ∧ s.root.quietReq = none ∧ s.pending = [] ∧ s.mem = [] ∧
  (∀ (b : Blk) (o : Nat), s.dev.reg b o = regReset (b.addr o) ∧ s.dev.pwv b o = regReset (b.addr o)) ∧
  (∀ (t : Tbl) (e i : Nat), s.dev.tw t e i = regReset (t.addr e i)) ∧ (∀ b : Blk, s.dev.busy b = false) ∧ s.dev.sealed = false ∧
  (∀ (x : Res) (i : Nat), owner s.root s.dev x i = s.root.house) ∧ (∀ b ∈ [Blk.tbe, .ref, .clk, .rte], steward s.root s.dev b = 7) ∧
  s.dev.tb.timeState = 0 ∧ s.dev.tb.era ≠ 0 ∧ (∀ v, (s.dev.view v).rate = 0 ∧ (s.dev.view v).anchorT = 0) ∧ freeCount s.dev = 65536 ∧
  (∀ n, (s.dev.src n).st = .idle ∧ (s.dev.src n).mask = true) ∧ (∀ c, s.dev.ext c = {}) ∧
  (∀ n, (s.dev.mcsn n).st = 0 ∧ (s.dev.sapn n).st = 0 ∧ (s.dev.txn n).st = 0 ∧ (s.dev.rxn n).st = 0 ∧ (s.dev.trig n).st = .idle)

/-- The invariant holds after reset. -/
def Obligations.InvariantAtReset : Prop := State.reset.Inv

/-- Every step keeps the invariant: the Landing's canonical form, the EC a whole number of cycles inside its 64 bits, and neither counter nor
Landing kept where the core has no power (R108, R373, R377). -/
def Obligations.InvariantKept : Prop := ∀ s t : State, s.Inv → step s = .next t → t.Inv

/-- No command stops the machine: every one of them answers a next state, and leaves the queue as it is. -/
def Obligations.CommandsAnswer : Prop := ∀ (i : Instr) (s : State), ∃ t, exec i s = .next t ∧ t.pending = s.pending


/-- Only the commands named as storing to the Landing change a byte of it.
Only power, reset and sleep commands change what stands outside the core: the EC, the power state, the straps and the OTP. -/
def Obligations.LandingAndRootFrames : Prop :=
  (∀ (i : Instr) (s t : State), i.storesLanding = false → exec i s = .next t → ∀ a, memByte t.mem a = memByte s.mem a) ∧
  (∀ (i : Instr) (s t : State), i.movesRoot = false → exec i s = .next t → t.root = s.root)

/-- A command changes no part of the device beside those named for it: of a write of a register, the words, the page and its block. -/
def Obligations.PartsFrame : Prop := ∀ (i : Instr) (s t : State) (p : Part), p ∉ i.touches → exec i s = .next t → p.same t.dev s.dev


/-- While the core has no power or is held in reset, only power commands and the frames of its pads do anything (R368, R373, R384).
QUIET stops the datapath: while the device does not run, no command of it changes anything (R374). -/
def Obligations.OffAndQuietAreIdle : Prop :=
  (∀ (i : Instr) (s : State), i.isPower = false → i.isPadFrame = false → s.root.coreOn = false → Unchanged i s) ∧
  (∀ (i : Instr) (s : State), i.isDatapath = true → s.root.running = false → Unchanged i s)

/-! ### Power, reset and sleep (18, 04) -/

/-- The pins that start and stop the device (R368, R369, R381, R384, R385): a bring-up ends in RUN with the EC at zero, a nonzero era, the straps
latched, the Landing and every register but PTPn.LOCAL at reset; while RST_N reads 0 it is held before that; a loss of VIN, EN low and RST_N low
lose them.
Where the spec leaves a point open, the clause is the model's choice: log entries 5, 11 and 14. -/
def Obligations.PinsStartAndStop : Prop :=
  ∀ s : State,
    (∀ st, s.root.power = .off → rstReads0 s = false → Completes (.powerUp st) s fun t =>
      t.root.power = .run ∧ t.root.ec = 0 ∧ t.root.en = true ∧ t.root.houseSel = st.houseSel ∧ t.root.xoSel = st.xoSel6 ∧
      t.root.qspiMode = st.qspiMode ∧ t.root.mismatch = (st.xoSel3 != st.xoSel6) ∧ t.root.otp = s.root.otp ∧ t.mem = [] ∧ t.pending = s.pending ∧
      1 ≤ t.dev.tb.era ∧ t.dev.tb.era ≤ 65535 ∧ t.dev.sealed = false ∧
      ∀ b ∈ Blk.all, ∀ o < 0x1000, ¬((b = .ptp 0 ∨ b = .ptp 1) ∧ (o = 0x058 ∨ o = 0x05C)) → t.dev.reg b o = regReset (b.addr o)) ∧
    (Completes .vinLoss s fun t =>
      t.root.power = .off ∧ t.root.ec = 0 ∧ t.root.otp = s.root.otp ∧ t.mem = [] ∧ t.pending = s.pending ∧ ∀ b o, t.dev.reg b o = regReset (b.addr o)) ∧
    (s.root.power ≠ .off → Completes .enLow s fun t =>
      t.root.power = .shelf ∧ t.root.en = false ∧ t.root.ec = 0 ∧ t.mem = [] ∧ t.pending = s.pending ∧ ∀ n, n < 16 → watchOf t.dev n = watchOf s.dev n) ∧
    (∀ st, s.root.power = .shelf → rstReads0 s = false → Completes (.enRise st) s fun t =>
      t.root.power = .run ∧ t.root.en = true ∧ t.root.ec = 0 ∧ t.root.houseSel = st.houseSel ∧ t.mem = [] ∧ t.pending = s.pending ∧
      t.dev.pwr.result = 1 ∧ t.dev.pwr.fromSt = 3 ∧ t.dev.pwr.cause = 0x10 ∧ ∀ n, n < 16 → watchOf t.dev n = watchOf s.dev n) ∧
    (∀ st, (s.root.power = .shelf ∨ s.root.power = .waking false) → rstReads0 s = true →
      (∃ t, exec (.enRise st) s = .next t ∧ (s.root.power = .shelf → t.root.power = .rstHeld ∧ t.mem = [])) ∧
      (∃ t, exec (.wakeComplete st) s = .next t ∧ (s.root.power = .waking false → t.root.power = .rstHeld ∧ t.mem = []))) ∧
    (∀ st, s.root.power = .off → rstReads0 s = true → ∃ t, exec (.powerUp st) s = .next t ∧ t.root.power = .rstHeld ∧ t.mem = []) ∧
    (s.root.coreOn = true → Completes .rstAssert s fun t =>
      t.root.power = .rstHeld ∧ t.root.rstLow = true ∧ t.root.ec = 0 ∧ t.mem = [] ∧ t.pending = s.pending ∧ ∀ b o, t.dev.reg b o = regReset (b.addr o)) ∧
    (∀ st, s.root.power = .rstHeld → bankDown s.dev 3 = false → Completes (.rstRelease st) s fun t =>
      t.root.power = .run ∧ t.root.rstLow = false ∧ t.root.ec = 0 ∧ t.root.houseSel = st.houseSel ∧ t.root.xoSel = st.xoSel6 ∧ t.mem = [] ∧ t.pending = s.pending ∧
      1 ≤ t.dev.tb.era ∧ t.dev.tb.era ≤ 65535)

/-- Oscillator, SYS PLL, rails, bank supplies and the VIN comparator (R370, R372, R388, R396), each with all else unchanged. -/
def Obligations.SuppliesAndClocks : Prop :=
  ∀ s : State,
    let raised := fun (n : Nat) (t : State) =>
      (t.dev.src n).cyc = s.root.cyc + 2 ∧ ((s.dev.src n).cyc + 1 < s.root.cyc + 2 → (t.dev.src n).pulses = (s.dev.src n).pulses + 1)
    (s.root.coreOn = true → s.dev.clk.xoSrc = true → Completes .xoInLoss s fun t =>
      DevOnly s t ∧ t.dev = { s.dev with clk := t.dev.clk, evc := t.dev.evc } ∧ raised 20 t ∧ t.dev.clk.xoFail = true ∧
      (s.dev.pf .clk 0x044 0 0 = 1 → t.dev.clk.xoSrc = false ∧ t.dev.clk.switches = satInc s.dev.clk.switches 0xFFFF) ∧
      (s.dev.pf .clk 0x044 0 0 ≠ 1 → t.dev.clk.xoSrc = true ∧ t.dev.clk.switches = s.dev.clk.switches) ∧
      t.dev.clk.sysLock = s.dev.clk.sysLock ∧ t.dev.clk.unlocks = s.dev.clk.unlocks) ∧
    (s.root.coreOn = true → Completes .sysPllUnlock s fun t =>
      DevOnly s t ∧ t.dev = { s.dev with clk := t.dev.clk, evc := t.dev.evc } ∧ raised 20 t ∧ t.dev.clk.sysLock = false ∧
      t.dev.clk.unlocks = satInc s.dev.clk.unlocks 0xFFFF ∧ t.dev.clk.xoSrc = s.dev.clk.xoSrc) ∧
    (∀ rail, Completes (.railOut rail) s fun t =>
      DevOnly s t ∧ t.dev = { s.dev with rails := t.dev.rails } ∧ pgood t.root t.dev = false ∧ ∀ b < 4, bankDown t.dev b = bankDown s.dev b) ∧
    (∀ rail, Completes (.railInRegulation rail) s fun t =>
      DevOnly s t ∧ t.dev = { s.dev with rails := t.dev.rails } ∧ nbit t.dev.rails (railBit rail) = false ∧
      ∀ b < 4, bankDown t.dev b = bankDown s.dev b) ∧
    (∀ bank : Fin 4, Completes (.vioUnder bank) s fun t =>
      bankDown t.dev bank = true ∧ t.pending = s.pending ∧
      (bank ≠ 3 → DevOnly s t ∧ t.dev = { s.dev with rails := t.dev.rails }) ∧ (bank = 3 → s.root.coreOn = true → t.root.power = .rstHeld)) ∧
    (∀ bank : Fin 4, Completes (.bankSupplyRestored bank) s fun t =>
      DevOnly s t ∧ t.dev = { s.dev with rails := t.dev.rails } ∧ bankDown t.dev bank = false) ∧
    (s.root.power ≠ .off → Completes .vinWarnTrip s fun t =>
      DevOnly s t ∧ t.dev = { s.dev with pwr := t.dev.pwr, evc := t.dev.evc } ∧ t.dev.pwr = { s.dev.pwr with vinWarn := true } ∧
      (s.dev.pwr.vinWarn = false → s.root.coreOn = true → raised 18 t)) ∧
    (s.root.power ≠ .off → Completes .vinWarnClear s fun t =>
      DevOnly s t ∧ t.dev = { s.dev with pwr := t.dev.pwr } ∧ t.dev.pwr = { s.dev.pwr with vinWarn := false })


/-- A write of PWR.SLEEP_CMD is posted, with its TARGET, and clears what the Foyer had latched (R51, R375, R376).
The commit of SLEEP_CMD (R375 to R377): a reserved TARGET is refused with REFUSE 2, DOZE or SHELF with no entry that can wake with REFUSE 1, a
latched entry aborts with the lowest one as CAUSE, and otherwise the state is entered or QUIET is asked for.
Where the spec leaves a point open, the clause is the model's choice: log entry 14. -/
def Obligations.SleepCommandAndCommit : Prop :=
  (∀ (s : State) (g : Gal),
     let posted := fun (n : Nat) (t : State) =>
       DevOnly s t ∧ t.dev.post .pwr = some { off := 0x040, ws := [wd n] } ∧ t.dev.busy .pwr = true ∧ t.dev.reg .pwr 0x040 = wd n ∧
       t.dev.pwr = { s.dev.pwr with latched := 0 } ∧
       t.dev = { s.dev with regs := t.dev.regs, parityBad := t.dev.parityBad, posted := t.dev.posted, pwr := t.dev.pwr }
     (canWrite s g .pwr 0x040 (wd 0) = true → Completes (.sleepCmdRun g) s (posted 0)) ∧
     (canWrite s g .pwr 0x040 (wd 1) = true → Completes (.sleepCmdQuiet g) s (posted 1)) ∧
     (canWrite s g .pwr 0x040 (wd 2) = true → Completes (.sleepCmdDoze g) s (posted 2)) ∧
     (canWrite s g .pwr 0x040 (wd 3) = true → Completes (.sleepCmdShelf g) s (posted 3)) ∧
     (∀ x : Fin 4, canWrite s g .pwr 0x040 (wd (4 + x)) = true → Completes (.sleepCmdReserved g x) s (posted (4 + x)))) ∧
  (∀ (s : State) (w : Word), s.root.coreOn = true → s.dev.post .pwr = some { off := 0x040, ws := [w] } →
     (s.dev.posted.any fun p => p.1 != Blk.pwr.page && p.2.isSome) = false →
     Completes .sleepCommit s fun t =>
       t.mem = s.mem ∧ t.pending = s.pending ∧ t.dev.busy .pwr = false ∧ t.dev.pwr.latched = 0 ∧
       let n := fld w 2 0
       let wakes := (List.range 16).any fun i => watchActs (watchOf s.dev i)
       (4 ≤ n → t.root = s.root ∧ t.dev.pwr.result = 3 ∧ t.dev.pwr.refuse = 2) ∧
       ((n = 2 ∨ n = 3) → wakes = false → t.root = s.root ∧ t.dev.pwr.result = 3 ∧ t.dev.pwr.refuse = 1 ∧ t.dev.pwr.fromSt = n) ∧
       (((n = 2 ∨ n = 3) ∧ wakes = true ∨ n = 1 ∧ s.root.running = true) → s.dev.pwr.latched ≠ 0 →
         t.root = s.root ∧ t.dev.pwr.result = 2 ∧ t.dev.pwr.fromSt = n ∧ t.dev.pwr.cause = lowestEntry s.dev.pwr.latched ∧
         t.dev.pwr.wakeSet = s.dev.pwr.latched) ∧
       (n = 2 → wakes = true → s.dev.pwr.latched = 0 → t.root.power = .entering true) ∧
       (n = 3 → wakes = true → s.dev.pwr.latched = 0 → t.root.power = .entering false) ∧
       (n = 1 → s.root.running = true → s.dev.pwr.latched = 0 → t.root = { s.root with quietReq := some true }) ∧
       (n = 0 → s.root.power = .quiet → t.root = { s.root with quietReq := some false }))

/-- The passages between the power states (R373, R377 to R380): QUIET at its boundary, the core's loss after a commit, and the wakes.
Where the spec leaves a point open, the clause is the model's choice: log entries 11, 13 and 14. -/
def Obligations.PowerPassages : Prop :=
  ∀ s : State,
    (s.root.power = .run → s.root.quietReq = some true → Completes .quietEnter s fun t =>
      t.root = { s.root with power := .quiet, quietReq := none } ∧ t.mem = s.mem ∧ t.pending = s.pending ∧ t.dev.regs = s.dev.regs) ∧
    (s.root.power = .quiet → s.root.quietReq = some false → Completes .quietExit s fun t =>
      t.root = { s.root with power := .run, quietReq := none } ∧ t.mem = s.mem ∧ t.pending = s.pending ∧ t.dev = payAll t.root s.dev ∧ t.dev.owed = [] ∧
      (s.dev.owed = [] → t.dev = s.dev)) ∧
    (∀ doze, s.root.power = .entering doze → Completes .powerDownComplete s fun t =>
      t.root.ec = 0 ∧ t.mem = [] ∧ t.pending = s.pending ∧
      t.root.power = (if s.dev.pwr.latched ≠ 0 then .waking doze else if doze then .doze else .shelf) ∧
      (doze = true → t.dev.regs = s.dev.regs ∧ t.dev.eff = s.dev.eff)) ∧
    (∀ (n : Fin 16) (rising : Bool) (ms : Nat), s.root.power = .doze → watchFires (watchOf s.dev n) rising = true → watchDead s.dev (fld (watchOf s.dev n) 9 0) rising = false →
      Completes (.dozeWake ⟨n, rising⟩ ms) s fun t =>
        t.root = { s.root with power := .waking true } ∧ t.mem = s.mem ∧ t.pending = s.pending ∧ t.dev.pwr.dozeMs = min ms 0xFFFFFFFF ∧
        nbit t.dev.pwr.latched n = true) ∧
    (∀ (n : Fin 16) (rising : Bool), s.root.power = .shelf → s.root.en = true → watchFires (watchOf s.dev n) rising = true →
      watchDead s.dev (fld (watchOf s.dev n) 9 0) rising = false → Completes (.watchEntryFire ⟨n, rising⟩) s fun t =>
        t.root = { s.root with power := .waking false, step := t.root.step } ∧ 1 ≤ t.root.step ∧ t.root.step ≤ 6 ∧ t.mem = s.mem ∧ t.pending = s.pending ∧ nbit t.dev.pwr.latched n = true) ∧
    (∀ st, s.root.power = .waking true → s.dev.post .pwr = none → Completes (.wakeComplete st) s fun t =>
      t.root = { s.root with ec := 0, power := .run, step := 7, quietReq := none } ∧ t.mem = [] ∧ t.pending = s.pending ∧
      t.dev.pwr.result = 1 ∧ t.dev.pwr.fromSt = 2 ∧ t.dev.pwr.cause = lowestEntry s.dev.pwr.latched ∧ t.dev.pwr.wakeSet = s.dev.pwr.latched ∧
      t.dev.tb.era = eraNext s.dev.tb.era) ∧
    (∀ st, s.root.power = .waking false → rstReads0 s = false → Completes (.wakeComplete st) s fun t =>
      t.root.power = .run ∧ t.root.ec = 0 ∧ t.mem = [] ∧ t.pending = s.pending ∧ t.dev.pwr.result = 1 ∧ t.dev.pwr.fromSt = 3 ∧
      t.dev.pwr.cause = lowestEntry s.dev.pwr.latched ∧ ∀ n, n < 16 → watchOf t.dev n = watchOf s.dev n)

/-- EC_WRAP (R108, R109, R114, R117): the EC returns to zero under the next era, which is never zero; the views restart from it at time 0, AT follows
view X, the selector is FREE and no route swap waits. R114 gives no rate after a wrap: the model keeps it.
Where the spec leaves a point open, the clause is the model's choice: log entry 13. -/
def Obligations.EcWraps : Prop :=
  ∀ s : State, s.root.coreOn = true → Completes .ecWrap s fun t =>
    t.root = { s.root with ec := 0 } ∧ t.mem = s.mem ∧ t.pending = s.pending ∧ t.dev.tb.era = eraNext s.dev.tb.era ∧ t.dev.tb.era ≠ 0 ∧
    t.dev.tb.prevEra = s.dev.tb.era ∧ t.dev.tb.cause = 2 ^ 5 ∧ t.dev.tb.timeState = 0 ∧ t.dev.tb.viewSet = 0 ∧
    (∀ v, t.dev.view v = { anchorEC := 0, anchorT := 0, rate := (s.dev.view v).rate }) ∧
    t.dev.tb.at' = t.dev.view 2 ∧ t.dev.tb.atView = 2 ∧ t.dev.tb.switching = false ∧ t.dev.ref.st = 0 ∧ t.dev.rte.pending = none


/-! ### The register map (02) -/


/-- The five checks of R37, in order: a write that fails one is performed nowhere and its fault is reported on the page R37 names. A write of a
table that no gallery writes, or of a read-only register, is ignored for its page's steward; a commit of an entry that names what is not in the
writer's partition is refused (R73). A 64-bit write is two accesses, the one at the lower address first (R36).
What a fault leaves on its page (R41): its bit of PAGE_STATUS is set, and PAGE_FAULT_ADDR takes gallery, kind and address while VALID is 0 and
is kept while it is 1; no other page, and nothing else, changes.
Where the spec leaves a point open, the clause is the model's choice: log entry 15. -/
def Obligations.FailedWritesAreReported : Prop :=
  (∀ (s : State) (g : Gal) (a : Nat) (w : Word), reaches s g = true →
     let reported := fun (b : Blk) (k : FaultKind) => ({ s with dev := fault s.root b k g a s.dev } : State)
     exec (.registerWrite g a ⟨w, none⟩ true) s = .next (reported (ownerBlk a) .accessSize) ∧
     (place a = .reserved → exec (.registerWrite g a ⟨w, none⟩ false) s = .next (reported .dev .reservedPage)) ∧
     (∀ b o x, place a = .reg b o → b.reg o = some x →
       (writeRight s.root s.dev g b o x.ty w = .notSteward → exec (.registerWrite g a ⟨w, none⟩ false) s = .next (reported b .notSteward)) ∧
       (writeRight s.root s.dev g b o x.ty w = .ignored → Unchanged (.registerWrite g a ⟨w, none⟩ false) s) ∧
       (writeRight s.root s.dev g b o x.ty w = .outside → exec (.registerWrite g a ⟨w, none⟩ false) s = .next (reported b .outOfPartition)) ∧
       (writeRight s.root s.dev g b o x.ty w = .ok → s.dev.sealed = true → isLo b x w = true →
         exec (.registerWrite g a ⟨w, none⟩ false) s = .next (reported b .lockViol)) ∧
       (writeRight s.root s.dev g b o x.ty w = .ok → (s.dev.sealed && isLo b x w) = false → isPw x = true → s.dev.busy b = true →
         exec (.registerWrite g a ⟨w, none⟩ false) s = .next (reported b .postDrop))) ∧
     (∀ t e i, place a = .table t e i →
       (tableRight s.root s.dev g t e = .outside → exec (.registerWrite g a ⟨w, none⟩ false) s = .next (reported t.blk .outOfPartition)) ∧
       (tableRight s.root s.dev g t e = .ok → i = 0 → contentOk s.root s.dev g t (commitWords s.dev g t e w) = false →
         exec (.registerWrite g a ⟨w, none⟩ false) s = .next (reported t.blk .outOfPartition)) ∧
       (tableRight s.root s.dev g t e = .ignored → Unchanged (.registerWrite g a ⟨w, none⟩ false) s)) ∧
     (∀ h, Completes (.registerWrite g a ⟨w, none⟩ false) s fun t => exec (.registerWrite g a ⟨w, some h⟩ false) s = exec (.registerWrite g (a + 4) ⟨h, none⟩ false) t)) ∧
  (∀ (r : Root) (d : Dev) (b : Blk) (k : FaultKind) (g a : Nat),
     let e := fault r b k g a d
     nbit (e.pg b).bits k.bit = true ∧ (∀ i, i ≠ k.bit → nbit (e.pg b).bits i = nbit (d.pg b).bits i) ∧
     ((d.pg b).valid = true → (e.pg b).cap = (d.pg b).cap) ∧
     ((d.pg b).valid = false → g ≤ 7 → a < 2 ^ 21 → (e.pg b).valid = true ∧ fld (e.pg b).cap 31 29 = g ∧ fld (e.pg b).cap 27 24 = k.code ∧
       fld (e.pg b).cap 20 0 = a / 4 * 4) ∧
     (∀ c : Blk, c.page ≠ b.page → e.pg c = d.pg c) ∧ e = { d with page := e.page, lines := e.lines })

/-- A write that passes (R37, R43, R40, R41): a plain RW register takes the word, PAGE_INJ_SEL and PAGE_INJ_CTRL take it by the rule of ARM, and
PAGE_STATUS loses the bits written 1, with VALID returning to 0 once bits 5:1 are clear; what another set in the same CFG_CLK cycle comes after the
write, and is captured where the write left no bit (R44). A PTP request interval or a point of the temperature table that the device sets in the
write's own cycle is left out here.
Where the spec leaves a point open, the clause is the model's choice: log entry 30. -/
def Obligations.RegisterWritesTake : Prop :=
  ∀ (s : State) (g : Gal) (w : Word) (b : Blk) (o : Nat) (x : Reg), b ∈ Blk.all → o < 0x1000 →
    (0x040 ≤ o → b.reg o = some x → x.ty = .rw → b.plain o = true → (nget s.dev.hwSet (b.addr o) = s.root.cyc + 1 → hwMask b o = 0) →
      canWrite s g b o w = true → Completes (.registerWrite g (b.addr o) ⟨w, none⟩ false) s fun t =>
        DevOnly s t ∧ t.dev.reg b o = w ∧ (∀ a, a ≠ b.addr o → sget regReset t.dev.regs a = sget regReset s.dev.regs a) ∧
        t.dev = { s.dev with regs := t.dev.regs, parityBad := t.dev.parityBad, page := t.dev.page, lines := t.dev.lines }) ∧
    (∀ page : Fin 128, b.page = page →
      (canWrite s g b 0x018 w = true → Completes (.injSelWrite g page w) s fun t =>
        let v := s.dev.reg b 0x01C
        DevOnly s t ∧ t.dev.reg b 0x018 = w ∧
        t.dev.reg b 0x01C = (if bitOf v 0 ∧ (fld v 2 1 = 3 ∨ fld v 2 1 = 1 ∧ fld w 31 16 = 0) then v &&& ~~~1 else v) ∧ t.dev = { s.dev with regs := t.dev.regs, parityBad := t.dev.parityBad } ∧
        ∀ a, a ≠ b.addr 0x018 → a ≠ b.addr 0x01C → sget regReset t.dev.regs a = sget regReset s.dev.regs a) ∧
      (canWrite s g b 0x01C w = true → Completes (.injCtrlWrite g page w) s fun t =>
        let v := maskedWord (s.dev.reg b 0x01C) w
        DevOnly s t ∧ t.dev.reg b 0x01C = (if bitOf v 0 ∧ (fld v 2 1 = 3 ∨ fld v 2 1 = 1 ∧ s.dev.injCount b = 0) then v &&& ~~~1 else v) ∧
        t.dev = { s.dev with regs := t.dev.regs, parityBad := t.dev.parityBad } ∧
        ∀ a, a ≠ b.addr 0x01C → sget regReset t.dev.regs a = sget regReset s.dev.regs a) ∧
      (canWrite s g b 0x00C w = true → Completes (.pageStatusClear g page w) s fun t =>
        let c := (s.dev.pg b).cycle s.root
        let left := fun i => (nbit c.2 i || c.1.any fun f => f.who == g && f.bit == i) && !bitOf w i
        let late := (s.dev.pg b).later s.root g
        DevOnly s t ∧ (∀ i, 1 ≤ i → i ≤ 5 → nbit (t.dev.pg b).bits i = (left i || late.any (·.bit == i))) ∧
        ((∃ i, 1 ≤ i ∧ i ≤ 5 ∧ left i = true) → (t.dev.pg b).cap = (s.dev.pg b).cap) ∧
        ((∀ i, 1 ≤ i → i ≤ 5 → left i = false) → match late with | [] => (t.dev.pg b).valid = false | f :: _ => (t.dev.pg b).cap = f.cap) ∧ (∀ c : Blk, c.page ≠ b.page → t.dev.pg c = s.dev.pg c) ∧
        t.dev = { s.dev with page := t.dev.page, lines := t.dev.lines }))


/-- Reads and writes of a group (R47, R48): a read of the LW word returns it and latches the higher words for the reading gallery; an SH word reads
what was latched; a read narrower than a word returns the bytes asked for (R36); a write of an SH word is held and does nothing else; a write of the LW
word commits it with the held words, at once or, of a posted group, to wait for its clock domain (R51).
Writes of a table region (R49, R243): a word above 0 is held in the writer's shadow; a commit takes word 0 and the words held for the entry, at
once, without the bits that no table lists; words held for another entry are discarded and reported as torn.
Where the spec leaves a point open, the clause is the model's choice: log entry 15. -/
def Obligations.GroupsAndEntriesCommitWhole : Prop :=
  (∀ (s : State) (g : Gal) (w : Word) (b : Blk) (o n : Nat) (x : Reg), b ∈ Blk.all → 0x040 ≤ o → o < 0x1000 → b.reg o = some x →
     ((x.ty = .lwRo n ∨ x.ty = .lwRw n ∨ x.ty = .lwPw n) → reaches s g = true → Completes (.lwRead g ⟨b.addr o, 4⟩) s fun t =>
       DevOnly s t ∧ t.dev.rsh g (b.addr o) = (List.range (n - 1)).map (fun j => liveReg s.root s.dev g b (o + 4 * (j + 1))) ∧
       wget t.dev.hif.readData g = liveReg s.root s.dev g b o ∧ t.dev.regs = s.dev.regs ∧ t.dev.wshadow = s.dev.wshadow) ∧
     ((x.ty = .shRo n ∨ x.ty = .shRw n) → reaches s g = true → Completes (.lwRead g ⟨b.addr o, 4⟩) s fun t =>
       DevOnly s t ∧ wget t.dev.hif.readData g = (s.dev.rsh g (b.addr o - 4 * n)).getD (n - 1) 0 ∧ t.dev = { s.dev with hif := t.dev.hif }) ∧
     ((x.ty = .shRw n ∨ x.ty = .shPw n) → canWrite s g b o w = true → Completes (.shWrite g (b.addr o) w) s fun t =>
       DevOnly s t ∧ sget (fun _ => 0) (t.dev.wsh g (b.addr o - 4 * n)) n = w ∧ t.dev = { s.dev with wshadow := t.dev.wshadow }) ∧
     (∀ i len, 1 ≤ len → i + len ≤ 4 → x.ty = .rw → reaches s g = true → Completes (.lwRead g ⟨b.addr o + i, len⟩) s fun t =>
       DevOnly s t ∧ wget t.dev.hif.readData g = liveReg s.root s.dev g b o ∧ t.dev.regs = s.dev.regs ∧
       lget t.dev.hif.readBytes g = ((wordBytes (liveReg s.root s.dev g b o)).drop i).take len) ∧
     ((x.ty = .lwRw n ∨ x.ty = .lwPw n) → canWrite s g b o w = true → ¬(b = .tbe ∧ viewSetRefused s.dev ((o - 0x120) / 0x80) w = true) →
       Completes (.lwCommit g (b.addr o) w) s fun t =>
         let ws := groupWords s.dev g b o n w
         t.pending = s.pending ∧ t.root = s.root ∧ t.mem = s.mem ∧ (∀ j < n, t.dev.reg b (o + 4 * j) = ws.getD j 0) ∧ t.dev.wsh g (b.addr o) = [] ∧
         (∀ a, a < b.addr o ∨ b.addr o + 4 * n ≤ a → sget regReset t.dev.regs a = sget regReset s.dev.regs a) ∧
         (x.ty = .lwPw n → t.dev.post b = some { off := o, ws := ws } ∧ (∀ j < n, t.dev.pwv b (o + 4 * j) = s.dev.pwv b (o + 4 * j)) ∧
           t.dev = { s.dev with regs := t.dev.regs, parityBad := t.dev.parityBad, wshadow := t.dev.wshadow, posted := t.dev.posted })) ∧
     (b ≠ .trg → b ≠ .shp → b ≠ .tbe → groupWords s.dev g b o n w =
       w :: (List.range (n - 1)).map fun j => sget (fun _ => s.dev.reg b (o + 4 * (j + 1))) (s.dev.wsh g (b.addr o)) (j + 1))) ∧
  (∀ (s : State) (g : Gal) (tb : Tbl) (e : Nat) (w : Word), e < tb.entries →
     (canCommit s g tb e w = true → Completes (.tableEntryCommit g (tb.addr e 0) w) s fun t =>
       DevOnly s t ∧ t.dev.tw tb e 0 = w &&& listedBits tb w 0 ∧
       (∀ i, 1 ≤ i → i < tb.size / 4 → statusWord tb i = false →
         t.dev.tw tb e i = sget (fun _ => s.dev.tw tb e i) (s.dev.tsh g tb) (tb.addr e i) &&& listedBits tb w i) ∧
       t.dev.tsh g tb = [] ∧ (tornEntries s.dev g tb e ≠ [] → nbit (t.dev.pg tb.blk).bits 5 = true) ∧
       (tb = .flow → t.dev = { s.dev with regs := t.dev.regs, parityBad := t.dev.parityBad, page := t.dev.page, lines := t.dev.lines, tshadow := t.dev.tshadow })) ∧
     (∀ i, 1 ≤ i → i < tb.size / 4 → statusWord tb i = false → reaches s g = true → tableRight s.root s.dev g tb e = .ok →
       Completes (.tableEntryCommit g (tb.addr e i) w) s fun t =>
         DevOnly s t ∧ sget (fun _ => 0) (t.dev.tsh g tb) (tb.addr e i) = w ∧
         (∀ a, a ≠ tb.addr e i → sget (fun _ => 0) (t.dev.tsh g tb) a = sget (fun _ => 0) (s.dev.tsh g tb) a) ∧
         t.dev = { s.dev with tshadow := t.dev.tshadow }))

/-- A posted write (R51, R52): the register shows the word and the page is BUSY while its clock domain keeps the old value; at PW_COMPLETE the
posted value takes effect and BUSY clears. -/
def Obligations.PostedWrites : Prop :=
  ∀ (s : State) (g : Gal) (w : Word) (b : Blk) (o : Nat) (x : Reg), b ∈ Blk.all → o < 0x1000 →
    (0x040 ≤ o → b.reg o = some x → x.ty = .pw → ¬(b = .pwr ∧ o = 0x040) → canWrite s g b o w = true → Completes (.pwWrite g (b.addr o) w) s fun t =>
      DevOnly s t ∧ t.dev.reg b o = w ∧ t.dev.pwv b o = s.dev.pwv b o ∧ t.dev.busy b = true ∧ t.dev.post b = some { off := o, ws := [w] } ∧
      t.dev = { s.dev with regs := t.dev.regs, parityBad := t.dev.parityBad, posted := t.dev.posted }) ∧
    (∀ page : Fin 128, b.page = page → s.root.coreOn = true → s.dev.post b = some { off := o, ws := [w] } → (∀ n, b ≠ .mcs n) →
      ¬(b = .pwr ∧ o = 0x040) → Completes (.pwComplete page) s fun t =>
        DevOnly s t ∧ t.dev.pwv b o = w ∧ t.dev.busy b = false ∧ t.dev = { s.dev with eff := t.dev.eff, posted := t.dev.posted })

/-- The register scrub and FLT point 0 (R53, R54, R363, R365): a visited word with a wrong parity bit is reported on its page when SCRUB_EN is 1 and
its value stays; the injection tick spoils the parity of the word it names.
Where the spec leaves a point open, the clause is the model's choice: log entry 12. -/
def Obligations.ParityIsChecked : Prop :=
  ∀ s : State, s.root.coreOn = true →
    (Completes .parityScrub s fun t =>
      let a := scrubFind 4096 s.dev.scrubAt
      DevOnly s t ∧ t.dev.scrubAt = a + 4 ∧ t.dev.regs = s.dev.regs ∧ t.dev = { s.dev with scrubAt := t.dev.scrubAt, page := t.dev.page, lines := t.dev.lines } ∧
      (s.dev.rb (ownerBlk a) 0x014 1 = true → a ∈ s.dev.parityBad → nbit (t.dev.pg (ownerBlk a)).bits 2 = true) ∧
      ((s.dev.rb (ownerBlk a) 0x014 1 = false ∨ a ∉ s.dev.parityBad) → t.dev.page = s.dev.page)) ∧
    (Completes .injectionTick s fun t =>
      let a := s.dev.rf .flt 0x050 20 0 / 4 * 4
      DevOnly s t ∧
      (injects .flt 0 s.dev = true → hasParity a = true → a ∈ t.dev.parityBad ∧ t.dev.flt.total = (s.dev.flt.total + 1) % 2 ^ 32 ∧
        t.dev.flt.lastPoint = 0 ∧ t.dev.flt.lastPage = 0x62) ∧
      (injects .flt 0 s.dev = false → t.dev = { s.dev with page := t.dev.page, lines := t.dev.lines }))


/-! ### Galleries and host links (03) -/

/-- The operations of GAL.CLAIM, each alone in its CFG_CLK cycle (R76): a free page is granted, an own one confirmed, another's refused; RELEASE and
the house gallery's FORCE free it, and a forced holder is told; the reserved OP does nothing.
Where the spec leaves a point open, the clause is the model's choice: log entry 30. -/
def Obligations.ClaimOperations : Prop :=
  ∀ (s : State) (g : Gal) (p : Fin 4), reaches s g = true → s.dev.gal.claimCyc ≠ s.root.ec / cfgUnits + 1 →
    let h := holderOf s.dev p
    let result := fun (t : State) (i : Nat) => wget t.dev.gal.claimRes i
    let frame := fun (t : State) => DevOnly s t ∧ (∀ q : Fin 4, q ≠ p → holderOf t.dev q = holderOf s.dev q) ∧
      t.dev = { s.dev with gal := t.dev.gal, evc := t.dev.evc, page := t.dev.page, lines := t.dev.lines }
    (Completes (.galClaim g p) s fun t => frame t ∧
      (h = 7 → holderOf t.dev p = g ∧ result t g = wd (p * 16 + 1)) ∧
      (h = g → holderOf t.dev p = g ∧ result t g = wd (p * 16 + 2)) ∧
      (h ≠ 7 → h ≠ g → holderOf t.dev p = h ∧ result t g = wd (p * 16 + 4))) ∧
    (Completes (.galRelease g p) s fun t => frame t ∧
      (h = g → holderOf t.dev p = 7 ∧ result t g = wd (p * 16 + 5)) ∧
      (h ≠ g → holderOf t.dev p = h ∧ result t g = wd (p * 16 + 6))) ∧
    (Completes (.galForce g p) s fun t => frame t ∧
      (g.val = s.root.house → h ≠ 7 → holderOf t.dev p = 7 ∧ result t g = wd (p * 16 + 5) ∧ (h ≠ g → fld (result t h) 2 0 = 7)) ∧
      (g.val ≠ s.root.house ∨ h = 7 → holderOf t.dev p = h ∧ result t g = wd (p * 16 + 6))) ∧
    (Completes (.galClaimReservedOp g p) s fun t => DevOnly s t ∧ t.dev = { s.dev with page := t.dev.page, lines := t.dev.lines })


/-- Partition, seal, sleeping host (R72, R74, R81): PART_DATA sets the owner or the limit of the selected element and of no other, a value 6 is
stored as 7; DEV.SEAL sets the seal; HOST_SLEEP changes the writer's own bit alone, and only with its mask bit.
Gallery resets (R80, R98): every cause leaves the gallery without claims, shadows, claim result or aperture count, with its cause shown, its targets
disabled and without a delivery, the sources dispatched to them withdrawn and those claimed at them completed; PE_PERST_N and a link loss reset
galleries 0 to 3 together.
Where the spec leaves a point open, the clause is the model's choice: log entry 6. -/
def Obligations.PartitionSealSleepAndResets : Prop :=
  (∀ (s : State) (g : Gal) (w : Word),
     (canWrite s g .gal 0x050 w = true → Completes (.partDataWrite g w) s fun t =>
       DevOnly s t ∧ t.dev = { s.dev with gal := t.dev.gal, page := t.dev.page, lines := t.dev.lines, parityBad := t.dev.parityBad } ∧
       (∀ x i, partSel s.dev = some (x, i) → x ≠ .aptLimit → owner s.root t.dev x i = (if fld w 2 0 = 6 then 7 else fld w 2 0) ∧
         (∀ y j, y ≠ .aptLimit → j < 512 → (y, j) ≠ (x, i) → owner s.root t.dev y j = owner s.root s.dev y j)) ∧
       (∀ i, partSel s.dev = some (.aptLimit, i) → aptLimit t.dev i = min (fld w 31 16) 32768 ∧ t.dev.gal.part = s.dev.gal.part) ∧
       (partSel s.dev = none → t.dev.gal = s.dev.gal)) ∧
     (canWrite s g .dev 0x044 1 = true → Completes (.devSeal g) s fun t =>
       DevOnly s t ∧ t.dev.sealed = true ∧ t.dev = { s.dev with sealed := true, page := t.dev.page, lines := t.dev.lines }) ∧
     (reaches s g = true → Completes (.hostSleepWrite g w) s fun t =>
       DevOnly s t ∧
       (∀ i < 6, t.dev.rb .gal 0x05C i = if i = g ∧ bitOf w (16 + g) then bitOf w g else s.dev.rb .gal 0x05C i) ∧
       (bitOf w (16 + g) = true → bitOf w g = false → nbit t.dev.hif.wokenQspi g = false) ∧
       t.dev = { s.dev with regs := t.dev.regs, parityBad := t.dev.parityBad, hif := t.dev.hif })) ∧
  (∀ s : State, s.root.coreOn = true →
     let isReset := fun (t : State) (g cause : Nat) =>
       sget (fun _ => 4) t.dev.gal.resetCause g = cause ∧ wget t.dev.gal.claimRes g = 0 ∧ nget t.dev.gal.aptFaults g = 0 ∧
       (∀ p < 4, holderOf t.dev p ≠ g) ∧ (∀ a < 0x200000, t.dev.rsh g a = [] ∧ t.dev.wsh g a = []) ∧ (∀ tb, t.dev.tsh g tb = []) ∧
       (∀ v < 8, tgtEnabled t.dev (8 * g + v) = false ∧ t.dev.tgt (8 * g + v) = {}) ∧
       (∀ n, (s.dev.src n).tgt / 8 = g →
         ((s.dev.src n).st = .dispatched → (t.dev.src n).st = .pending) ∧ ((s.dev.src n).st = .active → (t.dev.src n).st = .idle) ∧
         ((s.dev.src n).st = .activePending → (t.dev.src n).st = .pending))
     (∀ (g : Gal) w, canWrite s g .gal 0x054 w = true → Completes (.galReset g w) s fun t =>
       DevOnly s t ∧ ∀ i < 6, if bitOf w i then isReset t i 3 else sget (fun _ => 4) t.dev.gal.resetCause i = sget (fun _ => 4) s.dev.gal.resetCause i) ∧
     (∀ f : Fin 4, s.dev.hif.linkUp = true → Completes (.functionLevelReset f) s fun t => DevOnly s t ∧ isReset t f 1) ∧
     (s.dev.hif.linkUp = true → Completes .pcieLinkLoss s fun t => DevOnly s t ∧ t.dev.hif.linkUp = false ∧ ∀ g < 4, isReset t g 2) ∧
     (Completes .pePerstAssert s fun t =>
       DevOnly s t ∧ t.dev.hif.perst = true ∧ t.dev.hif.linkUp = false ∧ t.dev.hif.corrErrs = 0 ∧ ∀ g < 4, isReset t g 2))

/-- The PCIe link and its functions (R58, R60, R61, R381): training, D-states and what the host changes of MSI-X, power management and the link.
Where the spec leaves a point open, the clause is the model's choice: log entries 6 and 31. -/
def Obligations.PcieFunctions : Prop :=
  ∀ s : State,
    (Completes .pePerstDeassert s fun t => DevOnly s t ∧ t.dev = { s.dev with hif := { s.dev.hif with perst := false } }) ∧
    (∀ (speed : Fin 4) width, s.root.coreOn = true → s.dev.hif.linkUp = false → s.dev.hif.perst = false →
      Completes (.pcieLinkUp speed width) s fun t =>
        DevOnly s t ∧ t.dev.hif.linkUp = true ∧ t.dev.hif.speed = speed + 1 ∧
        t.dev.hif.width = (match width with | .x1 => 1 | .x2 => 2 | .x4 => 4) ∧ t.dev = { s.dev with hif := t.dev.hif, evc := t.dev.evc }) ∧
    (∀ f : Fin 4, s.root.coreOn = true → s.dev.hif.linkUp = true → Completes (.d3hotEntry f) s fun t =>
      DevOnly s t ∧ nbit t.dev.hif.d3hot f = true ∧ asleep t.dev f = true ∧ t.dev = { s.dev with hif := t.dev.hif }) ∧
    (∀ f : Fin 4, s.root.coreOn = true → s.dev.hif.linkUp = true → Completes (.d0Entry f) s fun t =>
      DevOnly s t ∧ nbit t.dev.hif.d3hot f = false ∧ t.dev = { s.dev with hif := t.dev.hif }) ∧
    (∀ (f : Fin 4) (i : Fin 32) w, s.root.coreOn = true → s.dev.hif.linkUp = true → Completes (.msixMaskChange f (.word i w)) s fun t =>
      DevOnly s t ∧ sget (fun k => if k % 4 = 3 then 1 else 0) t.dev.hif.msix (32 * f + i) = w ∧ t.dev = { s.dev with hif := t.dev.hif }) ∧
    (∀ (f : Fin 4) e m, s.root.coreOn = true → s.dev.hif.linkUp = true → Completes (.msixMaskChange f (.control e m)) s fun t =>
      DevOnly s t ∧ bget t.dev.hif.msixEn f = e ∧ bget t.dev.hif.funMask f = m ∧ t.dev = { s.dev with hif := t.dev.hif }) ∧
    (∀ (f : Fin 4) b, s.root.coreOn = true → s.dev.hif.linkUp = true → Completes (.msixMaskChange f (.pmeEnable b)) s fun t =>
      DevOnly s t ∧ bget t.dev.hif.pmeEn f = b ∧ t.dev = { s.dev with hif := t.dev.hif }) ∧
    (∀ f : Fin 4, s.root.coreOn = true → s.dev.hif.linkUp = true → Completes (.msixMaskChange f .pmeClear) s fun t =>
      DevOnly s t ∧ bget t.dev.hif.pme f = false ∧ t.dev = { s.dev with hif := t.dev.hif }) ∧
    (∀ (f : Fin 4) on, s.root.coreOn = true → s.dev.hif.linkUp = true → Completes (.msixMaskChange f (.aspmL1 on)) s fun t =>
      DevOnly s t ∧ t.dev = { s.dev with hif := { s.dev.hif with l1 := on } }) ∧
    (∀ (f : Fin 4) n, s.root.coreOn = true → s.dev.hif.linkUp = true → Completes (.msixMaskChange f (.corrErrs n)) s fun t =>
      DevOnly s t ∧ t.dev = { s.dev with hif := { s.dev.hif with corrErrs := min (s.dev.hif.corrErrs + n) 0xFFFF } })

/-- Velgelet frames on a running device (R65 to R69, R363, R383): a frame with a wrong CRC, or with HIF point 0 or 1 armed for its port, performs
nothing and is counted; a WR or RD burst performs its words one after another and answers OK, DENIED or NOT_READY, a bad address BAD_ADDR; a word of the
map acts as the same access over PCIe; RD_LINK, ECHO and a reserved opcode answer as their rows say, with BAD_CMD where LEN or the address is not
zero as they must be; an abort is counted. While the core sleeps RD_LINK alone is answered, any other frame with ASLEEP (R82); before step
7 of a bring-up RD_LINK alone is answered; a port without power or held in reset drives nothing (R373, R384, R396).
Where the spec leaves a point open, the clause is the model's choice: log entries 11 and 17. -/
def Obligations.VelgeletFrames : Prop :=
  (∀ (s : State) (q : Fin 2), s.root.coreOn = true → bankDown s.dev 3 = false →
     let g : Gal := ⟨4 + q.val, by omega⟩
     let reply := fun (t : State) => lget t.dev.hif.reply q
     let d := pageUse s.root .hif [0x018, 0x01C] (pageUse s.root .hif [0x050 + 4 * q.val] s.dev)
     let bad := fun (f : Frame) => injects .hif q s.dev = true ∨ f.crcOk = false
     let good := fun (f : Frame) => injects .hif q s.dev = false ∧ f.crcOk = true
     let counted := fun (f : Frame) (t : State) =>
       DevOnly s t ∧ reply t = replyBytes f .crcErr [] ∧ nget t.dev.hif.crcErrs g = satInc (nget s.dev.hif.crcErrs g) 0xFFFF ∧
       (injects .hif q s.dev = false → t.dev = { s.dev with hif := t.dev.hif, evc := t.dev.evc, page := t.dev.page, lines := t.dev.lines })
     let answers := fun (f : Frame) (st : Vst) (l : List Byte) (t : State) =>
       DevOnly s t ∧ reply t = replyBytes f st l ∧ t.dev = { s.dev with hif := t.dev.hif, page := t.dev.page, lines := t.dev.lines }
     (∀ (addr : Word) (ws : List Word) (crc : Byte) (sck : Nat), 1 ≤ ws.length → ws.length ≤ 16 →
       let f : Frame := { op := .wr, len := ws.length - 1, addr := addr.toNat, data := ws, crc := crc, sck := sck }
       (bad f → Completes (.qspiWr q addr ws crc sck) s (counted f)) ∧
       (good f → f.badAddr = true → Completes (.qspiWr q addr ws crc sck) s (answers f .badAddr [])) ∧
       (good f → f.badAddr = false → Completes (.qspiWr q addr ws crc sck) s fun t =>
         let x := writeBurst s.root g f s.mem d
         reply t = replyBytes f (if Frame.notReady d q f then .notReady else if x.1 then .ok else .denied) [] ∧
         t.root = s.root ∧ t.pending = s.pending ∧ t.mem = memWrites s.mem x.2.2 ∧ t.dev = { x.2.1 with hif := t.dev.hif }) ∧
       (∀ w, ws = [w] → good f → f.badAddr = false → f.inApt = false → Completes (.qspiWr q addr ws crc sck) s fun t =>
         let x := writeWord s.root s.mem g addr.toNat w false d
         t.mem = memWrites s.mem x.2.2 ∧ t.dev = { x.2.1 with hif := t.dev.hif } ∧
         (Frame.notReady d q f = false → reply t = replyBytes f (if x.1 then .ok else .denied) []))) ∧
     (∀ (addr : Word) (len : Fin 16) (crc : Byte) (sck : Nat),
       let f : Frame := { op := .rd, len := len, addr := addr.toNat, data := [], crc := crc, sck := sck }
       (bad f → Completes (.qspiRd q addr len crc sck) s (counted f)) ∧
       (good f → f.badAddr = true → Completes (.qspiRd q addr len crc sck) s (answers f .badAddr [])) ∧
       (good f → f.badAddr = false → Completes (.qspiRd q addr len crc sck) s fun t =>
         let x := readBurst s.root g f s.mem d
         DevOnly s t ∧ reply t = replyBytes f (if Frame.notReady d q f then .notReady else .ok) x.1 ∧ t.dev = { x.2 with hif := t.dev.hif }) ∧
       (len = 0 → good f → f.badAddr = false → f.inApt = false → Frame.notReady d q f = false → Completes (.qspiRd q addr len crc sck) s fun t =>
         reply t = replyBytes f .ok (wordBytes (readWord s.root g addr.toNat d).1))) ∧
     (∀ (addr : Word) (len : Fin 16) (crc : Byte),
       let f : Frame := { op := .rdLink, len := len, addr := addr.toNat, data := [], crc := crc, sck := 0 }
       (bad f → Completes (.qspiRdLink q addr len crc) s (counted f)) ∧
       (good f → len = 0 → addr = 0 → Completes (.qspiRdLink q addr len crc) s (answers f .ok (wordBytes (linkStatus s.root s.dev q)))) ∧
       (good f → len ≠ 0 ∨ addr ≠ 0 → Completes (.qspiRdLink q addr len crc) s (answers f .badCmd []))) ∧
     (∀ (addr : Word) (len : Fin 16) (crc : Byte),
       let f : Frame := { op := .echo, len := len, addr := addr.toNat, data := [], crc := crc, sck := 0 }
       (bad f → Completes (.qspiEcho q addr len crc) s (counted f)) ∧
       (good f → len = 0 → Completes (.qspiEcho q addr len crc) s (answers f .ok (wordBytes addr))) ∧
       (good f → len ≠ 0 → Completes (.qspiEcho q addr len crc) s (answers f .badCmd []))) ∧
     (∀ (op len : Fin 16) (addr : Word) (crc : Byte), op.val < 1 ∨ 4 < op.val →
       let f : Frame := { op := .other op, len := len, addr := addr.toNat, data := [], crc := crc, sck := 0 }
       (bad f → Completes (.qspiReservedOpcode q op len addr crc) s (counted f)) ∧
       (good f → Completes (.qspiReservedOpcode q op len addr crc) s (answers f .badCmd []))) ∧
     (Completes (.qspiFrameAbort q) s fun t =>
       DevOnly s t ∧ nget t.dev.hif.aborts g = satInc (nget s.dev.hif.aborts g) 0xFFFF ∧
       t.dev = { s.dev with hif := { s.dev.hif with aborts := t.dev.hif.aborts } })) ∧
  (∀ (s : State) (q : Fin 2) (addr : Word) (ws : List Word) (op len : Fin 16) (crc : Byte) (sck : Nat), 1 ≤ ws.length → ws.length ≤ 16 →
     ∀ z ∈ [(Instr.qspiWr q addr ws crc sck, ({ op := .wr, len := ws.length - 1, addr := addr.toNat, data := ws, crc := crc, sck := sck } : Frame)),
        (.qspiRd q addr len crc sck, { op := .rd, len := len, addr := addr.toNat, data := [], crc := crc, sck := sck }),
        (.qspiRdLink q addr len crc, { op := .rdLink, len := len, addr := addr.toNat, data := [], crc := crc, sck := 0 }),
        (.qspiEcho q addr len crc, { op := .echo, len := len, addr := addr.toNat, data := [], crc := crc, sck := 0 }),
        (.qspiReservedOpcode q op len addr crc, { op := .other op, len := len, addr := addr.toNat, data := [], crc := crc, sck := 0 })],
      let f := z.2
      let drives := fun (l : List Byte) => Completes z.1 s fun t => lget t.dev.hif.reply q = l ∧ t = { s with dev := { s.dev with hif := t.dev.hif } }
      (bankDown s.dev 3 = true ∨ s.root.power ∈ [.off, .rstHeld, .shelf] ∨ s.root.power = .waking false ∧ f.op ≠ .rdLink → drives []) ∧
      (bankDown s.dev 3 = false → s.root.power ∈ [.doze, .waking true, .entering true, .entering false] ∨ s.root.power = .waking false ∧ f.op = .rdLink →
        (f.crcOk = false → drives (replyBytes f .crcErr [])) ∧ (f.crcOk = true → f.badCmd = true → drives (replyBytes f .badCmd [])) ∧
        (f.crcOk = true → f.op = .rdLink → f.badCmd = false → drives (replyBytes f .ok (wordBytes (linkStatus s.root s.dev q)))) ∧
        (f.crcOk = true → f.op ≠ .rdLink → f.badCmd = false → drives (replyBytes f .asleep []))))

/-- Aperture accesses (R78, R79): an access of one mapped run reads and writes the consumer's bytes; bytes that no tread backs read zero and take no
write, and an access that touches one is counted once, whatever else it touches.
Where the spec leaves a point open, the clause is the model's choice: log entry 17. -/
def Obligations.ApertureAccesses : Prop :=
  ∀ (s : State) (g : Gal) (off n : Nat), reaches s g = true → 1 ≤ n →
    (aptSegs s.dev g off n = [(none, n)] → Completes (.apertureRead g off n) s fun t =>
      DevOnly s t ∧ lget t.dev.hif.aptData g = List.replicate n 0 ∧ nget t.dev.gal.aptFaults g = satInc (nget s.dev.gal.aptFaults g) 0xFFFF ∧
      t.dev = { s.dev with hif := t.dev.hif, gal := t.dev.gal, evc := t.dev.evc }) ∧
    (∀ c o, aptSegs s.dev g off n = [(some (c, o), n)] → Completes (.apertureRead g off n) s fun t =>
      DevOnly s t ∧ lget t.dev.hif.aptData g = (lndRead s.root s.mem c o n s.dev).1 ∧ t.dev.gal = s.dev.gal) ∧
    (∀ bytes : List Byte, bytes.length = n → aptSegs s.dev g off n = [(none, n)] → Completes (.apertureWrite g off bytes) s fun t =>
      DevOnly s t ∧ nget t.dev.gal.aptFaults g = satInc (nget s.dev.gal.aptFaults g) 0xFFFF ∧ t.dev = { s.dev with gal := t.dev.gal, evc := t.dev.evc }) ∧
    (∀ (bytes : List Byte) c o, bytes.length = n → aptSegs s.dev g off n = [(some (c, o), n)] → Completes (.apertureWrite g off bytes) s fun t =>
      t.root = s.root ∧ t.pending = s.pending ∧ t.mem = memWrites s.mem (lndWrite s.root c o bytes s.dev).2 ∧ t.dev.gal = s.dev.gal) ∧
    (let faults := if (List.range n).any fun i => (aptResolve s.dev g (off + i)).isNone then satInc (nget s.dev.gal.aptFaults g) 0xFFFF
       else nget s.dev.gal.aptFaults g
     (Completes (.apertureRead g off n) s fun t =>
      DevOnly s t ∧ (lget t.dev.hif.aptData g).length = n ∧ nget t.dev.gal.aptFaults g = faults ∧
      ∀ i < n, aptResolve s.dev g (off + i) = none → (lget t.dev.hif.aptData g)[i]? = some 0) ∧
     (∀ bytes : List Byte, bytes.length = n → Completes (.apertureWrite g off bytes) s fun t =>
      t.root = s.root ∧ t.pending = s.pending ∧ nget t.dev.gal.aptFaults g = faults ∧ t.mem = memWrites s.mem (aptWrite s.root g off bytes s.dev).2))


/-! ### Events (04) -/


/-- A sampled edge (R84, R85): a pulse of an event line is taken once, and a level line gives an edge where it is 1 and has read 0
for a cycle since it was last sampled 1; an idle
source becomes pending, an active one active and pending, and on any other the edge is merged and counted.
Dispatch, decision and delivery (R87 to R94): a waiting source, one that a completion made pending first and else the lowest, goes to the next
enabled target of its set; a target whose collection is full or whose window has closed makes one decision that covers it; held decisions wait for
the end of their condition and then go as one delivery, and any other is committed in its turn.
Where the spec leaves a point open, the clause is the model's choice: log entry 18. -/
def Obligations.DispatchAndDelivery : Prop :=
  (∀ (s : State) (n : Fin 512), s.root.coreOn = true →
     let x := s.dev.src n
     let edged := fun (t : State) =>
       let y := t.dev.src n
       DevOnly s t ∧ (∀ m, m ≠ n.val → (t.dev.src m).st = (s.dev.src m).st) ∧
       (x.st = .idle → y.st = .pending ∧ y.tgt = 63) ∧ (x.st = .active → y.st = .activePending) ∧
       (x.st ≠ .idle → x.st ≠ .active → y.st = x.st ∧ t.dev.evc.merged = satInc s.dev.evc.merged 0xFFFF)
     (isLevel n = false → 0 < x.pulses → Completes (.eventEdge n) s edged) ∧
     (isLevel n = false → x.pulses = 0 → Unchanged (.eventEdge n) s) ∧
     (isLevel n = true → lineOf s.root s.dev n = true → wasLow s.dev n = true → Completes (.eventEdge n) s edged) ∧
     (isLevel n = true → (lineOf s.root s.dev n = false ∨ wasLow s.dev n = false) → Completes (.eventEdge n) s fun t =>
       DevOnly s t ∧ t.dev = { s.dev with evc := t.dev.evc, lines := t.dev.lines } ∧ (t.dev.src n).sampled = lineOf s.root s.dev n ∧
       wasLow t.dev n = !lineOf s.root s.dev n ∧
       ∀ m, (t.dev.src m).st = (s.dev.src m).st)) ∧
  (∀ s : State, s.root.coreOn = true →
     let w := listed s.dev (waits s.dev)
     (∀ n m : Nat, ((w.find? fun k => (s.dev.src k).first).or w.head?) = some n →
       nextTarget s.dev (s.dev.src n) = some m → Completes .sourceDispatch s fun t =>
         DevOnly s t ∧ (t.dev.src n).st = .dispatched ∧ (t.dev.src n).tgt = m ∧ (t.dev.src n).last = m ∧
         ∀ k, k ≠ n → (t.dev.src k).st = (s.dev.src k).st ∧ (t.dev.src k).tgt = (s.dev.src k).tgt) ∧
     (w = [] → Completes .sourceDispatch s fun t => DevOnly s t ∧ t.dev = { s.dev with page := t.dev.page, lines := t.dev.lines }) ∧
     (∀ k : Fin 48,
       let x := s.dev.tgt k
       let cfg := s.dev.reg (.evt (k.val / 8)) (0x080 + 4 * (k.val % 8))
       let col := collection s.dev k
       let opened := (col.map fun n => (s.dev.src n).dispEC).foldl min s.root.ec
       (col ≠ [] → (max 1 (fld cfg 7 0) ≤ col.length ∨ opened + fld cfg 31 16 * 256000 ≤ s.root.ec) → Completes (.coalTimeExpiry k) s fun t =>
         DevOnly s t ∧ (t.dev.tgt k).made = x.made + 1 ∧ (∀ n ∈ col, (t.dev.src n).cov = x.made + 1) ∧
         (holds s.dev k = true → (t.dev.tgt k).waiting = x.waiting ++ [(x.made + 1, true)]) ∧
         (holds s.dev k = false → (k.val < 32 ∨ irqMap s.dev k ≠ 0) → (t.dev.tgt k).waiting = x.waiting ++ [(x.made + 1, false)]) ∧
         (holds s.dev k = false → 32 ≤ k.val → irqMap s.dev k = 0 → (t.dev.tgt k).committed = true ∧ ∀ n ∈ col, covered (t.dev.src n) = true)) ∧
       ((col = [] ∨ col.length < max 1 (fld cfg 7 0) ∧ s.root.ec < opened + fld cfg 31 16 * 256000) → Completes (.coalTimeExpiry k) s fun t =>
         DevOnly s t ∧ t.dev = { s.dev with page := t.dev.page, lines := t.dev.lines })) ∧
     (∀ k : Fin 48,
       let x := s.dev.tgt k
       let commits := fun (ns : List Nat) (t : State) =>
         DevOnly s t ∧ (t.dev.tgt k).waiting = x.waiting.filter (fun p => !ns.contains p.1) ∧ (t.dev.tgt k).committed = true ∧
         (t.dev.tgt k).claimed = false ∧ (k.val < 32 → nget t.dev.hif.msixSent k = nget s.dev.hif.msixSent k + 1) ∧
         (∀ n ∈ atTarget s.dev k, (s.dev.src n).cov ∈ ns → (t.dev.src n).com = some (s.root.ec, s.dev.tb.era)) ∧
         t.dev = { s.dev with evc := t.dev.evc, hif := t.dev.hif, page := t.dev.page, lines := t.dev.lines }
       let nothing := fun (t : State) => DevOnly s t ∧ t.dev = { s.dev with page := t.dev.page, lines := t.dev.lines }
       (∀ n, (x.held = false ∨ holds s.dev k = true) → x.waiting.find? (!·.2) = some (n, false) →
         (msixBlocked s.dev k = false → Completes (.deliveryCommit k) s (commits [n])) ∧
         (msixBlocked s.dev k = true → Completes (.deliveryCommit k) s fun t =>
           DevOnly s t ∧ (t.dev.tgt k).waiting = x.waiting.map (fun q => if q.1 = n then (n, true) else q) ∧
           nget t.dev.hif.msixSent k = nget s.dev.hif.msixSent k)) ∧
       (x.held = true → holds s.dev k = false → Completes (.deliveryCommit k) s (commits ((x.waiting.filter (·.2)).map (·.1)))) ∧
       (x.held = true → holds s.dev k = true → x.waiting.find? (!·.2) = none → Completes (.deliveryCommit k) s nothing) ∧
       (x.waiting = [] → Completes (.deliveryCommit k) s nothing)))

/-- Claim and completion (R95, R96): CLAIMt read by its own gallery gives the lowest source dispatched to the target, with the count of the others, and
makes it active; a completion of an active source of the target ends it, or makes it pending again; any other is counted. -/
def Obligations.ClaimAndComplete : Prop :=
  ∀ (s : State) (g e : Gal) (v : Fin 8),
    let k := 8 * e.val + v.val
    (reaches s g = true → g = e → Completes (.evtClaim g e v) s fun t =>
      DevOnly s t ∧ (t.dev.tgt k).claimed = true ∧
      match atTarget s.dev k with
      | [] => wget t.dev.hif.readData g = 0x3FF
      | n :: rest => wget t.dev.hif.readData g = wd (rest.length * 65536 + n) ∧ (t.dev.src n).st = .active) ∧
    (reaches s g = true → g ≠ e → Completes (.evtClaim g e v) s fun t =>
      DevOnly s t ∧ wget t.dev.hif.readData g = 0x3FF ∧ t.dev = { s.dev with hif := t.dev.hif }) ∧
    (∀ w, canWrite s g (.evt e) (0x0E0 + 4 * v) w = true → Completes (.evtComplete g e v w) s fun t =>
      let n := fld w 9 0
      let mine := n < 512 ∧ (s.dev.src n).act = true ∧ (s.dev.src n).tgt = k
      DevOnly s t ∧
      (mine → (s.dev.src n).st = .active → (t.dev.src n).st = .idle ∧ (t.dev.src n).tgt = 63) ∧
      (mine → (s.dev.src n).st = .activePending → (t.dev.src n).st = .pending ∧ (t.dev.src n).first = true) ∧
      (¬mine → n ≠ 0x3FF → t.dev.evc.src = s.dev.evc.src ∧ nget t.dev.evc.badComplete e = satInc (nget s.dev.evc.badComplete e) 0xFFFF) ∧
      (n = 0x3FF → t.dev.evc = s.dev.evc))

/-- Bulk words, selected sources and target enables (R98 to R101): PEND and MASK words set the bits of the sources the page may reach and of no
other, and a pending bit that an edge set or was merged into in the same CFG_CLK cycle outlives a 0 (R44);
SRC_CTRL and SRC_TGTk act on the selected source under their mask bits; TGT_ENA enables the gallery's targets.
Where the spec leaves a point open, the clause is the model's choice: log entry 15. -/
def Obligations.SourceRegisters : Prop :=
  ∀ (s : State) (g : Gal) (w : Word),
    let mayReach := fun (e : Option Gal) (n : Nat) => match e with | none => true | some x => owner s.root s.dev .evtSource n == x.val
    (∀ (e : Option Gal) (k : Fin 16), canWrite s g (lineBlk e) (0x100 + 4 * k) w = true → Completes (.pendWordWrite g e k w) s fun t =>
      DevOnly s t ∧ ∀ i < 32, let n := 32 * k.val + i
        (t.dev.src n).pend = (if mayReach e n && (bitOf w i || ((s.dev.src n).setCyc != s.root.cyc + 1 && (s.dev.src n).mergeCyc != s.root.cyc + 1)) then bitOf w i else (s.dev.src n).pend) ∧
        (t.dev.src n).act = (s.dev.src n).act ∧
        (t.dev.src n).mask = (s.dev.src n).mask) ∧
    (∀ (e : Option Gal) (k : Fin 16), canWrite s g (lineBlk e) (0x140 + 4 * k) w = true → Completes (.maskWordWrite g e k w) s fun t =>
      DevOnly s t ∧ ∀ i < 32, let n := 32 * k.val + i
        (t.dev.src n).mask = (if mayReach e n then bitOf w i else (s.dev.src n).mask) ∧ (t.dev.src n).pend = (s.dev.src n).pend ∧
        (t.dev.src n).act = (s.dev.src n).act) ∧
    (∀ e : Gal, canWrite s g (.evt e) 0x04C w = true → Completes (.srcCtrlWrite g e w) s fun t =>
      let n := srcSel s.dev e
      DevOnly s t ∧ (t.dev.src n).mask = (if bitOf w 16 then bitOf w 0 else (s.dev.src n).mask) ∧
      (t.dev.src n).pend = (if bitOf w 17 then bitOf w 1 else (s.dev.src n).pend)) ∧
    (∀ (e : Gal) (k : Fin 3), canWrite s g (.evt e) (0x050 + 4 * k) w = true → Completes (.srcTgtWrite g e k w) s fun t =>
      let n := srcSel s.dev e
      DevOnly s t ∧ ∀ i < 48, nbit (t.dev.src n).set i =
        (if 16 * k.val ≤ i ∧ i < 16 * k.val + 16 ∧ bitOf w (16 + (i - 16 * k.val)) then bitOf w (i - 16 * k.val) else nbit (s.dev.src n).set i)) ∧
    (∀ e : Gal, canWrite s g (.evt e) 0x040 w = true → Completes (.tgtEnaWrite g e w) s fun t =>
      DevOnly s t ∧ (∀ v < 8, tgtEnabled t.dev (8 * e + v) = bitOf w v) ∧
      ∀ k, k / 8 ≠ e.val → k < 48 → tgtEnabled t.dev k = tgtEnabled s.dev k)


/-! ### Timebase (05) -/

/-- Commits of TBE.VIEWv_SET (R111 to R113, R115, R118): while FEED is 1, KIND 0 steps the view to the committed parameters under the next era and AT
follows, KIND 1 changes its rate and nothing else of its course, a reserved KIND is counted as REFUSED; while FEED is 0 every commit is.
Where the spec leaves a point open, the clause is the model's choice: log entry 15. -/
def Obligations.ViewSets : Prop :=
  ∀ (s : State) (g : Gal) (v : Fin 3),
    let o := 0x120 + 0x80 * v.val
    let u := fun (k i : Nat) => (groupWords s.dev g .tbe o 9 (wd k)).getD i 0
    let refused := fun (t : State) => DevOnly s t ∧ nget t.dev.tb.refused v = satInc (nget s.dev.tb.refused v) 0xFFFF ∧
      (∀ i, t.dev.view i = s.dev.view i) ∧ t.dev.tb.at' = s.dev.tb.at' ∧ t.dev.tb.era = s.dev.tb.era ∧ t.dev.regs = s.dev.regs
    (canWrite s g .tbe o (wd 0) = true → s.dev.feed v = true → Completes (.viewSetStep g v) s fun t =>
      DevOnly s t ∧
      t.dev.view v = { anchorEC := (u 0 1).toNat + 2 ^ 32 * (u 0 2).toNat, anchorT := ltTime [u 0 3, u 0 4, u 0 5, u 0 6],
                       rate := rateOf (u 0 7) (u 0 8) } ∧
      (∀ i : Fin 3, i ≠ v → t.dev.view i = s.dev.view i) ∧
      (s.dev.tb.atView = v → s.dev.tb.switching = false → t.dev.tb.at' = t.dev.view v) ∧ (s.dev.tb.atView ≠ v → t.dev.tb.at' = s.dev.tb.at') ∧
      nget t.dev.tb.steps v = satInc (nget s.dev.tb.steps v) 0xFFFF ∧
      (s.dev.tb.eraEC ≠ s.root.ec → t.dev.tb.era = eraNext s.dev.tb.era ∧ t.dev.tb.prevEra = s.dev.tb.era ∧ t.dev.tb.cause = 2 ^ (2 + v.val))) ∧
    (canWrite s g .tbe o (wd 1) = true → s.dev.feed v = true → Completes (.viewSetRate g v) s fun t =>
      DevOnly s t ∧ t.dev.view v = { anchorEC := s.root.ec, anchorT := (s.dev.view v).val s.root.ec, rate := rateOf (u 1 7) (u 1 8) } ∧
      (t.dev.view v).val s.root.ec = (s.dev.view v).val s.root.ec ∧ (∀ i : Fin 3, i ≠ v → t.dev.view i = s.dev.view i) ∧
      (s.dev.tb.atView = v → s.dev.tb.switching = false → t.dev.tb.at' = t.dev.view v) ∧ t.dev.tb.era = s.dev.tb.era) ∧
    (∀ k : Fin 4, canWrite s g .tbe o (wd k) = true → (2 ≤ k.val ∨ s.dev.feed v = false) → Completes (.viewSetReservedKind g v k) s refused) ∧
    (canWrite s g .tbe o (wd 0) = true → s.dev.feed v = false → Completes (.viewSetStep g v) s refused) ∧
    (canWrite s g .tbe o (wd 1) = true → s.dev.feed v = false → Completes (.viewSetRate g v) s refused)

/-- Stamps (R121 to R127): an edge outside the dead time is stamped with the pad's delay taken off, the era and the channel's POINT, and is invalid
while the tap measurement fails or when TBE point 0 is armed; TBE point 1 acts on the lowest SFD channel whose window closes in its cycle; inside the dead time it is counted as missed; of the reference inputs with a divider the
DIV-th edge alone is stamped; a tap measurement outside 80 to 200 fails the tracking. A network stamp is the boundary corrected by PHYLAT; with PIN
enabled it is, once its window has closed, the one pin edge in the window, and the boundary with NO_PIN where the window holds none or several.
Where the spec leaves a point open, the clause is the model's choice: log entry 40. -/
def Obligations.StampsAreTaken : Prop :=
  ∀ s : State, s.root.coreOn = true →
    (∀ (ch : Fin 32) (tap : Fin 256) rising, bankDown s.dev 2 = false → stampsEdge s.dev ch rising = true →
      let divided := 13 ≤ ch.val ∧ ch.val < 16
      let e := s.root.ec + tdcFine s.root s.dev tap
      let last := nget s.dev.tb.lastEdge ch
      (¬divided ∨ (refDiv (ch.val - 10) s.dev).1 = true →
        ((last = 0 ∨ last - 1 + 2048 ≤ e) → Completes (.tdcStamp ch tap rising) s fun t =>
          let x := sget (fun _ => {}) t.dev.tb.chan ch
          DevOnly s t ∧ x.ec = ecOf (e - padDelay s.root s.dev ch) ∧ x.era = stampEra s.dev (e - padDelay s.root s.dev ch) ∧ x.point = chanPoint ch ∧
          x.valid = (!s.dev.tb.trackFail && !injects .tbe 0 s.dev) ∧ nget t.dev.tb.lastEdge ch = e + 1 ∧ t.dev.tb.missed = s.dev.tb.missed) ∧
        (0 < last → e < last - 1 + 2048 → Completes (.tdcStamp ch tap rising) s fun t =>
          DevOnly s t ∧ t.dev = { s.dev with tb := { s.dev.tb with missed := satInc s.dev.tb.missed 0xFFFF }, ref := t.dev.ref } ∧
          (¬divided → t.dev.ref = s.dev.ref))) ∧
      (divided → (refDiv (ch.val - 10) s.dev).1 = false → Completes (.tdcStamp ch tap rising) s fun t =>
        DevOnly s t ∧ t.dev = { s.dev with ref := { s.dev.ref with div := t.dev.ref.div } } ∧
        nget t.dev.ref.div (ch.val - 10) = nget s.dev.ref.div (ch.val - 10) + 1)) ∧
    (∀ (ch : Fin 32) (tap : Fin 256) rising, stampsEdge s.dev ch rising = false → Unchanged (.tdcStamp ch tap rising) s) ∧
    (∀ taps : Fin 256, Completes (.tdcTapMeasure taps) s fun t =>
      DevOnly s t ∧ t.dev = { s.dev with tb := t.dev.tb, page := t.dev.page, lines := t.dev.lines } ∧
      (s.dev.rb .tbe 0x040 4 = true → t.dev.tb.taps = taps ∧ t.dev.tb.trackFail = decide (taps.val < 80 ∨ 200 < taps.val)) ∧
      (s.dev.rb .tbe 0x040 4 = false → t.dev.tb = s.dev.tb)) ∧
    (∀ (p : Port) (boundary : Nat) (tx frag : Bool),
      let ch := 2 * p.val + b2n tx
      let at' := boundaryStamp s.dev p tx (s.dev.netp p).speed boundary
      let lat := phyLat s.dev p tx (s.dev.netp p).speed
      let adj : Int := sgn (fld lat 31 20) 12 * 4
      let win : Int := (max 1 (s.dev.rf .tbe 0x078 7 0) * 256 : Nat)
      let edges := (lget s.dev.tb.hist ch).filter fun x => x.era == stampEra s.dev at' && decide (at' + adj - win ≤ x.ec ∧ (x.ec : Int) < at' + adj + win)
      let yields := sfdYields s.dev p tx boundary (sfdWaiting s.pending)
      let stamp := fun (t : State) => sget (fun _ => ({} : Stamp)) t.dev.tb.issued (ch + 1)
      (s.dev.rb .tbe 0x040 ch = false → Completes (.sfdPairing p tx ⟨boundary, frag⟩) s fun t =>
        (stamp t).ec = ecOf at' ∧ (stamp t).era = stampEra s.dev at' ∧ (stamp t).point = ch + 1 ∧
        (stamp t).valid = (!s.dev.tb.trackFail && !injects .tbe 0 s.dev) ∧ (stamp t).pin = false ∧ (stamp t).noPin = false ∧
        (stamp t).speed = (s.dev.netp p).speed ∧ t.root = s.root ∧ t.pending = s.pending ∧
        (frag = true → tx = false → (t.dev.netp p).fragRx = stamp t) ∧
        (∀ c rest h, tx = true → (s.dev.netp p).awaitTx = .gallery c :: rest → s.dev.head c = some h → h.ports = 0 → h.sent ≠ 0 →
          let h' : OutHead := if p.val = 0 then { h with stA := some (stamp t) } else { h with stB := some (stamp t) }
          (t.dev.netp p).awaitTx = rest ∧ (h'.stamped = true → t.dev.head c = none ∧ RecordDone s t c h') ∧
            (h'.stamped = false → t.mem = s.mem ∧ t.dev.head c = some h'))) ∧
      (s.dev.rb .tbe 0x040 ch = false → s.dev.tb.trackFail = false → injects .tbe 0 s.dev = false → (if tx then (s.dev.netp p).awaitTx = [] else frag = false) →
        Completes (.sfdPairing p tx ⟨boundary, frag⟩) s fun t =>
        (stamp t).ec = ecOf ((boundary : Int) + (if tx then 1 else -1) * (fld lat 19 0 * 4 : Nat)) ∧
        DevOnly s t ∧ t.dev = { s.dev with tb := t.dev.tb, page := t.dev.page, lines := t.dev.lines }) ∧
      (s.dev.rb .tbe 0x040 ch = true → (s.root.ec : Int) < at' + adj + win → Completes (.sfdPairing p tx ⟨boundary, frag⟩) s fun t =>
        DevOnly s t ∧ t.dev = { s.dev with page := t.dev.page, lines := t.dev.lines }) ∧
      (s.dev.rb .tbe 0x040 ch = true → at' + adj + win ≤ s.root.ec → injects .tbe 1 s.dev = true → yields = false → Completes (.sfdPairing p tx ⟨boundary, frag⟩) s fun t =>
        (stamp t).ec = ecOf at' ∧ (stamp t).noPin = true ∧ (stamp t).pin = false ∧ nget t.dev.tb.sfdMiss ch = satInc (nget s.dev.tb.sfdMiss ch) 0xFFFF) ∧
      (s.dev.rb .tbe 0x040 ch = true → at' + adj + win ≤ s.root.ec → (injects .tbe 1 s.dev = false ∨ yields = true) → Completes (.sfdPairing p tx ⟨boundary, frag⟩) s fun t =>
        (stamp t).point = ch + 1 ∧
        (∀ x, edges = [x] → (stamp t).ec = ecOf ((x.ec : Int) - adj) ∧ (stamp t).pin = true ∧
          nget t.dev.tb.sfdMiss ch = nget s.dev.tb.sfdMiss ch ∧ nget t.dev.tb.sfdAmbig ch = nget s.dev.tb.sfdAmbig ch) ∧
        (edges.length ≠ 1 → (stamp t).ec = ecOf at' ∧ (stamp t).noPin = true ∧ (stamp t).pin = false) ∧
        (edges = [] → nget t.dev.tb.sfdMiss ch = satInc (nget s.dev.tb.sfdMiss ch) 0xFFFF) ∧
        (2 ≤ edges.length → nget t.dev.tb.sfdAmbig ch = satInc (nget s.dev.tb.sfdAmbig ch) 0xFFFF))) ∧
    (∀ g : Gal, reaches s g = true → Completes (.tbeSnapRead g) s fun t =>
      DevOnly s t ∧ wget t.dev.hif.readData g = wd (s.root.ec / 512 * 512) ∧
      t.dev.rsh g (Blk.tbe.addr 0x080) = (snapWords s.root s.dev).tail ∧ t.dev = { s.dev with hif := t.dev.hif, rshadow := t.dev.rshadow })


/-! ### PTP engines and servos (06) -/

/-- Engine control (R132, R138, R139): a checked enable starts the engine as its ROLE says with its counters cleared, a failed check refuses it;
a disable stops it; a new parent ends every exchange and sends RECEIVING back to LISTENING.
Where the spec leaves a point open, the clause is the model's choice: log entry 22. -/
def Obligations.PtpControl : Prop :=
  ∀ (s : State) (g : Gal) (n : Fin 2) (w : Word),
    (let v := setBit w 0 true
     canWrite s g (.ptp n) 0x040 v = true → s.dev.rb (.ptp n) 0x040 0 = false → Completes (.ptpEnable g n w) s fun t =>
      let x := t.dev.ptpn n
      let why := ptpRefuse s.root (s.dev.setReg (.ptp n) 0x040 v) n
      DevOnly s t ∧ t.dev.reg (.ptp n) 0x040 = v ∧ x.refuse = why ∧ x.cnt = [] ∧ x.rxQ = [] ∧
      (why ≠ 0 → x.st = 4) ∧ (why = 0 → x.st = if fld v 5 4 = 1 then 3 else 1)) ∧
    (let v := setBit w 0 false
     canWrite s g (.ptp n) 0x040 v = true → Completes (.ptpDisable g n w) s fun t =>
      let x := t.dev.ptpn n
      DevOnly s t ∧ t.dev.reg (.ptp n) 0x040 = v ∧ x.st = 0 ∧ x.rxQ = [] ∧ x.waitFU = none ∧ x.dreq = none ∧ x.pd = none ∧ x.answers = [] ∧
      x.cnt = (s.dev.ptpn n).cnt) ∧
    (canWrite s g (.ptp n) 0x048 w = true → Completes (.parentCommit g n w) s fun t =>
      let x := t.dev.ptpn n
      let changed := t.dev.reg (.ptp n) 0x048 ≠ s.dev.reg (.ptp n) 0x048 ∨ t.dev.reg (.ptp n) 0x04C ≠ s.dev.reg (.ptp n) 0x04C ∨
        t.dev.reg (.ptp n) 0x050 ≠ s.dev.reg (.ptp n) 0x050
      DevOnly s t ∧ t.dev.reg (.ptp n) 0x048 = w ∧
      (changed → x.waitFU = none ∧ x.dreq = none ∧ x.pd = none ∧ (x.st = if (s.dev.ptpn n).st = 2 then 1 else (s.dev.ptpn n).st) ∧
        ((s.dev.srvn n).st ≠ 0 → (t.dev.srvn n).st = 1)) ∧
      (¬changed → t.dev.ptp = s.dev.ptp ∧ t.dev.srv = s.dev.srv))

/-- Messages received (R125, R131 to R137, R139, R140): the head of an engine's messages is taken by its own event, and acts in the states and with
the identities the rules name, an invalid stamp or one of another era discarding its exchange; the rest of the queue waits on.
Where the spec leaves a point open, the clause is the model's choice: log entries 3 and 22. -/
def Obligations.PtpReceive : Prop :=
  ∀ (s : State) (n : Fin 2) (m : PtpRx) (q : List PtpRx), s.root.coreOn = true → (s.dev.ptpn n).rxQ = m :: q →
    let x := s.dev.ptpn n
    let runs := x.st = 1 ∨ x.st = 2
    let fromParent := m.par = true ∧ pSrc m = ptpParent s.dev n
    let toUs := pReq m = ptpIdent s.dev n 0x054
    let took := fun (t : State) => (t.dev.ptpn n).rxQ = q
    let count := fun (t : State) (k : Nat) => nget (t.dev.ptpn n).cnt k = satInc (nget x.cnt k) (if k < 6 then 0xFFFF else 0xFF)
    let c := s.dev.rf (.ptp n) 0x068 7 0
    let z := s.dev.cor c
    let report := fun (t : State) => 1 ≤ x.st → x.st ≤ 3 → (z.takes = false → count t 9 ∧ t.mem = s.mem) ∧
      (¬(corInjTarget s.root s.dev = c ∧ injects .cor 0 s.dev = true) → z.takes = true → z.fits [min (m.bytes.length + 16) (min (z.len - 16) 65528)] = true →
        (t.dev.cor c).seq = (z.seq + 1) % 65536 ∧ (t.dev.ptpn n).cnt = x.cnt)
    (pType m = 0 → Completes (.syncRx n) s fun t => DevOnly s t ∧ took t ∧
      (runs → fromParent → (t.dev.ptpn n).st = 2 ∧ (t.dev.ptpn n).syncEC = m.stamp.ec ∧ count t 0 ∧ (t.dev.ptpn n).oneStepRx = !pTwoStep m ∧
        (pTwoStep m = true → (t.dev.ptpn n).waitFU = some { seq := pSeq m, stamp := m.stamp, t1 := pTime m, corr := pCorr m }) ∧
        (pTwoStep m = false → ptpGood s.dev m.stamp = false → count t 8) ∧ (syncLate s.dev n m.stamp.ec = true → count t 6)) ∧
      (runs → m.par = false → count t 4 ∧ (t.dev.ptpn n).st = x.st) ∧
      (runs → m.par = true → pSrc m ≠ ptpParent s.dev n → t.dev.ptpn n = { x with rxQ := q })) ∧
    (pType m = 8 → Completes (.followUpRx n) s fun t => DevOnly s t ∧ took t ∧
      (runs → fromParent → (x.waitFU = none ∨ ∃ y, x.waitFU = some y ∧ pSeq m ≠ y.seq) → count t 7) ∧
      (∀ y, runs → fromParent → x.waitFU = some y → pSeq m = y.seq → (t.dev.ptpn n).waitFU = none ∧
        ((y.stamp.era = m.stamp.era → y.stamp.ec ≤ m.stamp.ec) → m.stamp.ec < y.stamp.ec + pow2s (ptpLog s.dev n 0) →
          count t 1 ∧ (ptpGood s.dev y.stamp = false → count t 8)) ∧
        (y.stamp.era = m.stamp.era ∧ m.stamp.ec < y.stamp.ec ∨ y.stamp.ec + pow2s (ptpLog s.dev n 0) ≤ m.stamp.ec → count t 7)) ∧
      (runs → m.par = false → count t 4 ∧ (t.dev.ptpn n).waitFU = x.waitFU)) ∧
    (pType m = 9 → Completes (.delayRespRx n) s fun t => DevOnly s t ∧ took t ∧
      (dreqOf x m = none → count t 7 ∧ (t.dev.ptpn n).dreq = x.dreq) ∧
      ((injects (.ptp n) 1 s.dev = true ∨ ¬toUs) → count t 7 ∧ (t.dev.ptpn n).dreq = x.dreq) ∧
      (∀ t3, injects (.ptp n) 1 s.dev = false → toUs → dreqOf x m = some t3 → count t 3 ∧
        (x.dreq = some (pSeq m, t3) → (t.dev.ptpn n).dreq = none) ∧
        (s.dev.rb (.ptp n) 0x040 12 = true → t.dev.rf (.ptp n) 0x060 15 8 = pLog m) ∧
        (∀ s3 y, t3 = some s3 → x.lastSync = some y → (ptpGood s.dev s3 = false ∨ ptpGood s.dev y.stamp = false) → count t 8)) ∧
      (∀ k t3, x.dreq = some (k, t3) → pSeq m ≠ k → (t.dev.ptpn n).dreq = some (k, t3)) ∧
      (∀ k t3, x.dreq = some (k, t3) → pSeq m ≠ k → x.dreqPrev = none → count t 7)) ∧
    (pType m = 1 → Completes (.delayReqRx n) s fun t => DevOnly s t ∧ took t ∧
      (x.st = 3 → (pSrc m ∈ x.served ∨ x.served.length < 64) → (t.dev.ptpn n).answers = x.answers ++ [(pSrc m, pSeq m, m.stamp, pCorr m)]) ∧
      (x.st = 3 → pSrc m ∉ x.served → 64 ≤ x.served.length → (t.dev.ptpn n).answers = x.answers ∧ count t 5)) ∧
    (pType m = 2 → Completes (.pdelayReqRx n) s fun t => DevOnly s t ∧ took t ∧
      (1 ≤ x.st → x.st ≤ 3 → ptpGood s.dev m.stamp = false → count t 8 ∧ (t.dev.ptpn n).pdAnswers = x.pdAnswers) ∧
      (1 ≤ x.st → x.st ≤ 3 → ptpGood s.dev m.stamp = true → count t 3 ∧ (t.dev.ptpn n).pdAnswers = x.pdAnswers ++ [(pSrc m, pSeq m, pCorr m, none)] ∧
        (t.dev.netp (ptpPort s.dev n)).ptpQ = (s.dev.netp (ptpPort s.dev n)).ptpQ ++
          [{ eng := n, type := 3, seq := pSeq m, ts := s.dev.tb.at'.val m.stamp.ec, req := pSrc m }])) ∧
    (pType m = 3 → Completes (.pdelayRespRx n) s fun t => DevOnly s t ∧ took t ∧
      ∀ e, x.pd = some e → (toUs → pSeq m = e.seq → count t 3 ∧
          (t.dev.ptpn n).pd = some { e with t2 := some (pTime m), t4 := m.stamp, corr := pCorr m, src := pSrc m }) ∧
        ((¬toUs ∨ pSeq m ≠ e.seq) → (t.dev.ptpn n).pd = x.pd)) ∧
    (pType m = 10 → Completes (.pdelayRespFuRx n) s fun t => DevOnly s t ∧ took t ∧
      ∀ e s1 t2, x.pd = some e → e.t1 = some s1 → e.t2 = some t2 → toUs → pSeq m = e.seq → pSrc m = e.src → (t.dev.ptpn n).pd = none ∧
        (ptpGood s.dev s1 = true → ptpGood s.dev e.t4 = true →
          (t.dev.ptpn n).pdPrev = some (pTime m + rdiv (pCorr m) 256, e.t4) ∧
          ((s.dev.srvn n).st ≠ 0 → (t.dev.srvn n).dWin.tail = (s.dev.srvn n).dWin.take (selWin s.dev n - 1) ∧ (t.dev.srvn n).dWin ≠ [])) ∧
        (¬(ptpGood s.dev s1 = true ∧ ptpGood s.dev e.t4 = true) → count t 8 ∧ t.dev.srv = s.dev.srv)) ∧
    (pType m = 11 → Completes (.announceRx n) s fun t => t.root = s.root ∧ t.pending = s.pending ∧ took t ∧
      (s.dev.rb (.ptp n) 0x068 8 = false → t.mem = s.mem) ∧
      (s.dev.rb (.ptp n) 0x068 8 = true → report t)) ∧
    ((pType m = 12 ∨ pType m = 13) → Completes (.signalingManagementRx n) s fun t => t.root = s.root ∧ t.pending = s.pending ∧ took t ∧
      (s.dev.rb (.ptp n) 0x068 9 = false → t.mem = s.mem) ∧
      (s.dev.rb (.ptp n) 0x068 9 = true → report t))

/-- Messages sent (R134 to R137) and the Sync timeout (R139): each, when due, joins the port's PTP frames with its type and sequence, and is counted.
Where the spec leaves a point open, the clause is the model's choice: log entries 3 and 22. -/
def Obligations.PtpSend : Prop :=
  ∀ (s : State) (n : Fin 2), s.root.coreOn = true →
    let x := s.dev.ptpn n
    let p := ptpPort s.dev n
    let sent := fun (t : State) (m : PtpOut) => (t.dev.netp p).ptpQ = (s.dev.netp p).ptpQ ++ [m]
    let count := fun (t : State) (k : Nat) => nget (t.dev.ptpn n).cnt k = satInc (nget x.cnt k) (if k < 6 then 0xFFFF else 0xFF)
    let frame := fun (t : State) => DevOnly s t ∧ t.dev = { s.dev with ptp := t.dev.ptp, net := t.dev.net, page := t.dev.page, lines := t.dev.lines, freeCtr := t.dev.freeCtr }
    (∀ at', x.dreqAt = some at' → (x.st = 1 ∨ x.st = 2) → s.dev.rf (.ptp n) 0x040 7 6 = 0 → ptpParent s.dev n ≠ 0 → at' ≤ s.root.ec →
      (s.dev.netp p).link = true → Completes (.delayReqSend n) s fun t => frame t ∧ count t 2 ∧
        sent t { eng := n, type := 1, seq := x.dreqSeq, dest := if s.dev.rb (.ptp n) 0x040 11 then x.parentAddr else [] } ∧
        (t.dev.ptpn n).dreq = some (x.dreqSeq, none) ∧ (t.dev.ptpn n).dreqPrev = x.dreq.map (fun y => (y.1, y.2, s.root.ec)) ∧
        (t.dev.ptpn n).dreqSeq = (x.dreqSeq + 1) % 65536 ∧
        (0 < pow2s (ptpLog s.dev n 8) →
          ∃ e, (t.dev.ptpn n).dreqAt = some e ∧ s.root.ec ≤ e ∧ e < s.root.ec + 2 * pow2s (ptpLog s.dev n 8))) ∧
    (ptpRuns s.dev n = true → s.dev.rf (.ptp n) 0x040 7 6 = 1 → x.pdAt ≤ s.root.ec → (s.dev.netp p).link = true → Completes (.pdelayReqSend n) s fun t =>
      frame t ∧ count t 2 ∧ sent t { eng := n, type := 2, seq := x.pdSeq } ∧ (t.dev.ptpn n).pd = some { seq := x.pdSeq } ∧
      (t.dev.ptpn n).pdAt = s.root.ec + pow2s (ptpLog s.dev n 16)) ∧
    (x.st = 3 → (s.dev.netp p).link = true →
      syncSend.cdiv' (s.dev.tb.at'.val s.root.ec) (pow2s (ptpLog s.dev n 0)) < syncSend.cdiv' (s.dev.tb.at'.val (s.root.ec + 512)) (pow2s (ptpLog s.dev n 0)) →
      Completes (.syncSend n) s fun t => frame t ∧ count t 0 ∧
        sent t { eng := n, type := 0, seq := x.syncSeq, oneStep := s.dev.rb (.ptp n) 0x040 10 } ∧ (t.dev.ptpn n).syncSeq = (x.syncSeq + 1) % 65536) ∧
    (∀ k st q, x.syncOut = (k, some st) :: q → Completes (.followUpSend n) s fun t => frame t ∧ (t.dev.ptpn n).syncOut = q ∧
      (ptpGood s.dev st = true → count t 1 ∧ sent t { eng := n, type := 8, seq := k, ts := s.dev.tb.at'.val st.ec }) ∧
      (ptpGood s.dev st = false → count t 8 ∧ t.dev.net = s.dev.net)) ∧
    (∀ req k st c q, x.answers = (req, k, st, c) :: q → Completes (.delayRespSend n) s fun t => frame t ∧ (t.dev.ptpn n).answers = q ∧
      (ptpGood s.dev st = true → count t 2 ∧ sent t { eng := n, type := 9, seq := k, ts := s.dev.tb.at'.val st.ec, corr := c, req := req }) ∧
      (ptpGood s.dev st = false → count t 8 ∧ t.dev.net = s.dev.net)) ∧
    (∀ req k c st q, x.pdAnswers = (req, k, c, some st) :: q → Completes (.pdelayRespFuSend n) s fun t => frame t ∧ (t.dev.ptpn n).pdAnswers = q ∧
      (ptpGood s.dev st = true → sent t { eng := n, type := 10, seq := k, ts := s.dev.tb.at'.val st.ec, corr := c, req := req }) ∧
      (ptpGood s.dev st = false → count t 8 ∧ t.dev.net = s.dev.net)) ∧
    (x.st = 2 → x.syncEC + max 1 (s.dev.rf (.ptp n) 0x060 31 24) * pow2s (ptpLog s.dev n 0) ≤ s.root.ec → Completes (.syncTimeout n) s fun t =>
      DevOnly s t ∧ count t 6 ∧ (t.dev.ptpn n).st = 1 ∧ (t.dev.ptpn n).waitFU = none ∧
      (1 ≤ (s.dev.srvn n).st → (s.dev.srvn n).st ≤ 4 → (t.dev.srvn n).st = 5))

/-- The servo (R146 to R150): a step that is due moves its view by −θ and starts the lock again, LOCK_CNT samples lock it, NARROW_N samples in LOCKED
halve its gains down to their tracking values, and ENA and RESTART act on its state.
Where the spec leaves a point open, the clause is the model's choice: log entry 21. -/
def Obligations.ServoCommands : Prop :=
  ∀ (s : State) (g : Gal) (n : Fin 2) (w : Word),
    let x := s.dev.srvn n
    (∀ th, s.root.coreOn = true → x.stepDue = some th → s.dev.feed n = false → Completes (.servoStep n) s fun t =>
      DevOnly s t ∧ t.dev.view n = { anchorEC := s.root.ec, anchorT := (s.dev.view n).val s.root.ec - th, rate := (s.dev.view n).rate } ∧
      (t.dev.srvn n).st = 3 ∧ (t.dev.srvn n).stepDue = none ∧ (t.dev.srvn n).dWin = [] ∧ (t.dev.srvn n).qWin = [] ∧ (t.dev.srvn n).i = x.i) ∧
    (∀ th, s.root.coreOn = true → x.stepDue = some th → s.dev.feed n = true → Completes (.servoStep n) s fun t =>
      DevOnly s t ∧ (∀ i, t.dev.view i = s.dev.view i) ∧ (t.dev.srvn n).discarded = satInc x.discarded 0xFFFF ∧ (t.dev.srvn n).stepDue = none) ∧
    (s.root.coreOn = true → x.st = 3 → max 1 (s.dev.rf (.srv n) 0x054 23 16) ≤ x.lockRun → Completes (.servoLock n) s fun t =>
      DevOnly s t ∧ (t.dev.srvn n).st = 4 ∧ (t.dev.srvn n).i = x.i ∧ (∀ i, t.dev.view i = s.dev.view i)) ∧
    (s.root.coreOn = true → x.st = 4 → s.dev.rb (.srv n) 0x040 3 = true → max 1 (s.dev.rf (.srv n) 0x054 31 24) ≤ x.narrow →
      Completes (.gainNarrow n) s fun t =>
        let gain := fun (k lo : Nat) => gainAt (s.dev.rf (.srv n) 0x048 (lo + 15) lo) (s.dev.rf (.srv n) 0x04C (lo + 15) lo) k
        let trk := fun (lo : Nat) => s.dev.rf (.srv n) 0x04C (lo + 15) lo
        DevOnly s t ∧ (t.dev.srvn n).narrow = 0 ∧ (t.dev.srvn n).st = 4 ∧
        ((gain x.stage 0 ≤ trk 0 ∧ gain x.stage 16 ≤ trk 16) → (t.dev.srvn n).stage = x.stage) ∧
        (¬(gain x.stage 0 ≤ trk 0 ∧ gain x.stage 16 ≤ trk 16) → x.stage < 15 → (t.dev.srvn n).stage = x.stage + 1)) ∧
    (let v := setBit w 0 true
     canWrite s g (.srv n) 0x040 v = true → s.dev.rb (.srv n) 0x040 0 = false → s.dev.rf (.ptp n) 0x040 5 4 ≠ 1 → Completes (.servoEnable g n w) s fun t =>
      let y := t.dev.srvn n
      DevOnly s t ∧ t.dev.reg (.srv n) 0x040 = v ∧ y.discarded = 0 ∧ y.gated = 0 ∧ y.clamps = 0 ∧ y.samples = 0 ∧
      (x.st = 0 → ((s.dev.ptpn n).st = 1 ∨ (s.dev.ptpn n).st = 2) → y.st = 1)) ∧
    (let v := setBit w 0 false
     canWrite s g (.srv n) 0x040 v = true → Completes (.servoDisable g n w) s fun t =>
      DevOnly s t ∧ t.dev.reg (.srv n) 0x040 = v ∧ (t.dev.srvn n).st = 0 ∧ (t.dev.srvn n).stage = 0 ∧ (t.dev.srvn n).i = x.i) ∧
    (canWrite s g (.srv n) 0x07C 1 = true → Completes (.servoRestart g n) s fun t =>
      let y := t.dev.srvn n
      DevOnly s t ∧ (x.st ≠ 0 → y.st = 1 ∧ y.i = 0 ∧ y.dWin = [] ∧ y.qWin = [] ∧ y.stage = 0) ∧ (x.st = 0 → y = x))


/-! ### The reference selector (07) -/

/-- The check, its timers and the loss of signal (R155 to R157, R168): every enabled input is judged, its timers count, and the history takes a
record; an input that has qualified once waits to be restored; without signal an input is ABSENT; without a valid temperature the selector is in FAULT.
Where the spec leaves a point open, the clause is the model's choice: log entry 23. -/
def Obligations.RefInputs : Prop :=
  ∀ (s : State) (i : Fin 8), s.root.coreOn = true →
    let x := s.dev.rin i
    let y := fun (t : State) => t.dev.rin i
    let moved := fun (t : State) (n timer : Nat) => (y t).st = n ∧ (y t).timer = timer ∧ (y t).run = 0 ∧ (y t).changes = satInc x.changes 255
    let fail := (refJudge s.root s.dev i).1
    let injected := fun (k : Nat) => s.dev.ref.sel = i.val ∧ injects .ref k s.dev = true
    Completes .refCheck s (fun t => DevOnly s t ∧ t.dev.ref.checkSec = s.root.ec / secEC ∧ t.dev.ref.accFrom = s.root.ec ∧
      (t.dev.ref.hist = [] ∨
        ∃ e, t.dev.ref.hist = (e :: s.dev.ref.hist).take 1024 ∧ (s.dev.ref.st ≠ 2 ∨ s.dev.ref.unlocked = true → e = none)) ∧
      (s.dev.flt.tempValid = false → t.dev.ref.st = 7 ∧ t.dev.ref.faultCause = 1) ∧
      (refEna s.dev i = false → (y t).st = x.st ∧ (y t).timer = x.timer ∧ (y t).fail = x.fail) ∧
      (refEna s.dev i = true → injected 0 → (y t).fail ≠ 0) ∧
      (refEna s.dev i = true → ¬injected 0 → (y t).fail = fail ∧ (y t).lost = (x.lost || (x.st == 2 && (y t).st != 2)) ∧
        (x.st = 1 → (y t).st = 1 ∧ (y t).timer = if fail = 0 then x.timer - 1 else qualTime s.dev) ∧
        (x.st = 2 → (y t).st = 2 ∧ (y t).run = if fail = 0 then 0 else x.run + 1) ∧
        (x.st = 3 → fail = 0 → (y t).st = 3 ∧ (y t).timer = x.timer - 1) ∧
        (x.st = 3 → fail ≠ 0 → moved t 1 (qualTime s.dev)) ∧
        (x.st = 4 → fail = 0 → moved t 1 (qualTime s.dev)) ∧ (x.st = 4 → fail ≠ 0 → (y t).st = 4))) ∧
    (x.st = 1 → x.timer = 0 → Completes (.qualTimeExpiry i) s fun t => DevOnly s t ∧
      (x.lost = false → moved t 2 0) ∧ (x.lost = true → moved t 3 (wtrTime s.dev)) ∧ ∀ j, j < 8 → j ≠ i.val → t.dev.rin j = s.dev.rin j) ∧
    (x.st = 2 → qualTime s.dev ≤ x.run → Completes (.qualTimeExpiry i) s fun t => DevOnly s t ∧ moved t 4 0 ∧ (y t).lost = true ∧
      ∀ j, j < 8 → j ≠ i.val → t.dev.rin j = s.dev.rin j) ∧
    (x.st = 3 → x.timer = 0 → Completes (.wtrExpiry i) s fun t => DevOnly s t ∧ moved t 2 0 ∧ ∀ j, j < 8 → j ≠ i.val → t.dev.rin j = s.dev.rin j) ∧
    ∀ synce, Completes (.refLosDetect synce) s (fun t =>
      let d := synce.foldl (fun d e => synceEdge e d) s.dev
      let los := refLos s.root d i = true ∨ injected 1
      DevOnly s t ∧ (i.val ≠ 7 → d.rin i = x) ∧ (s.dev.flt.tempValid = false → t.dev.ref.st = 7) ∧
      (refEna s.dev i = true → x.st = 0 → ¬los → moved t 1 (qualTime s.dev)) ∧
      (x.st ≠ 0 → (los ∨ refEna s.dev i = false) → moved t 0 0) ∧
      (refEna s.dev i = true → x.st ≠ 0 → ¬los → y t = { d.rin i with late := false }) ∧
      (x.st = 0 → (los ∨ refEna s.dev i = false) → y t = { d.rin i with late := false }))

/-- The selector's updates each millisecond (R160, R161, R165, R167, R170, R173) and X_TOD (R162): the rate each writes, the bound kept, the phase
of AT that never steps, and the second that view X takes.
Where the spec leaves a point open, the clause is the model's choice: log entry 23. -/
def Obligations.RefUpdates : Prop :=
  ∀ s : State, s.root.coreOn = true →
    let d := s.dev
    let lim := ppbRate (slewLimit d)
    let inRange := fun (x : Int) => -(2 ^ 39) ≤ x ∧ x < 2 ^ 39
    let rated := fun (t : State) (rate : Int) => t.dev.tb.x.anchorEC = s.root.ec ∧ t.dev.tb.x.anchorT = d.tb.x.val s.root.ec ∧
      (inRange rate → t.dev.tb.x.rate = rate)
    let discarded := fun (t : State) => DevOnly s t ∧ t.dev.tb = d.tb ∧ t.dev.ref.discarded = satInc d.ref.discarded 0xFFFF
    (∀ x, 1 ≤ d.ref.st → d.ref.st ≤ 3 → 2 ≤ d.ref.sel → d.ref.sel < 8 → (d.rin d.ref.sel).rate = some x → d.feed 2 = false →
      Completes .viewXDiscipline s fun t => DevOnly s t ∧ t.dev.tb.a = d.tb.a ∧ t.dev.tb.b = d.tb.b ∧ t.dev.tb.era = d.tb.era ∧
        rated t (x + max (-lim) (min lim (rdiv (-(refPhi d d.ref.sel) * 2 ^ 48) (10 * secEC : Nat))))) ∧
    (∀ x, 1 ≤ d.ref.st → d.ref.st ≤ 3 → 2 ≤ d.ref.sel → d.ref.sel < 8 → (d.rin d.ref.sel).rate = some x → d.feed 2 = true →
      Completes .viewXDiscipline s discarded) ∧
    (1 ≤ d.ref.st → d.ref.st ≤ 3 → d.ref.sel < 2 → (d.tb.atView ≠ 2 ∨ d.tb.switching = true) → d.feed 2 = true →
      Completes .viewXShadowUpdate s discarded) ∧
    (1 ≤ d.ref.st → d.ref.st ≤ 3 → d.ref.sel < 2 → (d.tb.atView ≠ 2 ∨ d.tb.switching = true) → d.feed 2 = false →
      Completes .viewXShadowUpdate s fun t => DevOnly s t ∧ t.dev.tb = { d.tb with x := t.dev.tb.x } ∧
        rated t (d.tb.at'.rate + rdiv ((d.atNow s.root - d.tb.x.val s.root.ec) * 2 ^ 48) msEC)) ∧
    (d.tb.switching = true → Completes .atSlewUpdate s fun t =>
      let k := if d.ref.sel < 8 then viewOf d.ref.sel else 2
      let v := d.view k
      let delta := v.val s.root.ec - d.atNow s.root
      let rate := v.rate + (if 0 ≤ delta then 1 else -1) * min lim (rdiv (delta.natAbs * 2 ^ 48) msEC)
      DevOnly s t ∧ (∀ i, t.dev.view i = d.view i) ∧ t.dev.ref.sel = d.ref.sel ∧
      (delta.natAbs ≤ 1 → t.dev.tb.at' = v ∧ t.dev.tb.atView = k ∧ t.dev.tb.switching = false ∧
        (d.ref.st = 3 → t.dev.ref.st = 2 ∧ t.dev.ref.target = 15)) ∧
      (1 < delta.natAbs → t.dev.tb.switching = true ∧ t.dev.atNow s.root = d.atNow s.root ∧ (inRange rate → t.dev.tb.at'.rate = rate) ∧
        (d.ref.st = 3 → t.dev.ref.st = 3))) ∧
    ((d.rin 0).st = 2 → (d.rin 1).st = 2 → Completes .viewDisagreeCheck s fun t =>
      DevOnly s t ∧ t.dev.ref = { d.ref with disagree := decide ((d.reg .ref 0x064).toNat * 256 < (d.tb.a.val s.root.ec - d.tb.b.val s.root.ec).natAbs) } ∧
      t.dev.tb = d.tb) ∧
    ((d.ref.st = 4 ∨ d.ref.st = 5) → d.feed 2 = false → Completes .holdoverRateUpdate s fun t =>
      DevOnly s t ∧ t.dev.ref.hoRate = holdRate d ∧ t.dev.ref.st = d.ref.st ∧ rated t (holdRate d)) ∧
    ((d.ref.st = 4 ∨ d.ref.st = 5) → d.feed 2 = true → Completes .holdoverRateUpdate s fun t => discarded t ∧ t.dev.ref.hoRate = holdRate d) ∧
    ((d.ref.st = 4 ∨ d.ref.st = 5) → Completes .holdoverBoundUpdate s fun t =>
      let q := 2000000 * secEC ^ 2
      DevOnly s t ∧ t.dev.tb = d.tb ∧ t.dev.ref = { d.ref with hoBound := t.dev.ref.hoBound, st := t.dev.ref.st, unlocked := t.dev.ref.unlocked } ∧
      t.dev.ref.hoBound = min 0xFFFFFFFF (cdiv (holdBound s.root d) q) ∧
      t.dev.ref.st = if (d.reg .ref 0x078).toNat * q < holdBound s.root d then 5 else d.ref.st) ∧
    (∀ e, d.ref.pps = some e → Completes .xTodApply s fun t =>
      DevOnly s t ∧ t.dev.ref.pps = none ∧ t.dev.ref.st = d.ref.st ∧
      (d.rb .ref 0x160 0 = true → d.ref.st ≤ 1 → t.dev.rb .ref 0x160 0 = false ∧
        (d.feed 2 = false → (d.tb.eraEC ≠ s.root.ec → t.dev.tb.era = eraNext d.tb.era) ∧ t.dev.tb.x =
          { anchorEC := ecOf e, anchorT := ((d.reg .ref 0x164).toNat + 2 ^ 32 * d.rf .ref 0x168 15 0 : Nat) * secUnits, rate := d.tb.x.rate }) ∧ (d.feed 2 = true → discarded t)) ∧
      ((d.rb .ref 0x160 0 = false ∨ 1 < d.ref.st) → t.dev.rb .ref 0x160 0 = d.rb .ref 0x160 0 ∧ t.dev.tb = d.tb))

/-- The selector's registers (R158, R159, R162 to R164, R168, R171): an eligible PREFERRED input is followed at once, one that is not eligible
changes nothing; X_TOD takes its group; FORCE_FREE, CLEAR_HIST, CLEAR_TABLE and ALLOW_STEP.
Where the spec leaves a point open, the clause is the model's choice: log entry 23. -/
def Obligations.RefCommands : Prop :=
  ∀ (s : State) (g : Gal) (w : Word),
    let x := s.dev.ref
    (canWrite s g .ref 0x048 w = true → Completes (.refPreferredWrite g w) s fun t =>
      let p := fld w 3 0
      let ok := p < 8 ∧ (s.dev.rin p).st = 2
      DevOnly s t ∧ t.dev.reg .ref 0x048 = w ∧ t.dev.ref.inp = x.inp ∧ (¬ok → t.dev.ref = x ∧ t.dev.tb = s.dev.tb) ∧
      (ok → p ≠ x.sel → (1 ≤ x.st ∧ x.st ≤ 3) → t.dev.ref.sel = p ∧ t.dev.ref.target = p ∧
        (x.st = 2 → t.dev.ref.st = 3 ∧ t.dev.ref.switches = satInc x.switches 0xFFFF) ∧
        (x.st ≠ 2 → t.dev.ref.st = x.st ∧ t.dev.ref.retargets = satInc x.retargets 0xFFFF)) ∧
      (ok → p ≠ x.sel → (x.st = 0 ∨ x.st = 4 ∨ x.st = 5) → t.dev.ref.sel = p ∧ t.dev.ref.st = if x.st = 0 then 1 else 3) ∧
      (ok → p ≠ x.sel → x.st = 7 → t.dev.ref = x)) ∧
    (canWrite s g .ref 0x160 w = true → Completes (.xTodArm g w) s fun t =>
      DevOnly s t ∧ t.dev.ref = { x with pps := none } ∧ t.dev.reg .ref 0x160 = w ∧
      ∀ i : Fin 2, t.dev.reg .ref (0x164 + 4 * i) = sget (fun _ => s.dev.reg .ref (0x164 + 4 * i)) (s.dev.wsh g (Blk.addr .ref 0x160)) (i + 1)) ∧
    (canWrite s g .ref 0x090 1 = true → Completes (.refForceFree g) s fun t =>
      DevOnly s t ∧ t.dev.ref.st = 0 ∧ t.dev.ref.sel = 15 ∧ t.dev.ref.target = 15 ∧ t.dev.ref.inp = x.inp ∧ t.dev.ref.hist = x.hist ∧
      (x.st ≠ 0 → t.dev.tb.timeState = min s.dev.tb.timeState 1)) ∧
    (canWrite s g .ref 0x090 2 = true → Completes (.refClearHist g) s fun t => DevOnly s t ∧ t.dev.ref = { x with hist := [] } ∧ t.dev.tb = s.dev.tb) ∧
    (canWrite s g .ref 0x090 4 = true → Completes (.refClearTable g) s fun t =>
      DevOnly s t ∧ t.dev.ref = x ∧ (∀ j : Fin 16, t.dev.reg .ref (0x120 + 4 * j) = 0) ∧
      ∀ o < 0x1000, (o < 0x120 ∨ 0x160 ≤ o) → t.dev.reg .ref o = s.dev.reg .ref o) ∧
    (canWrite s g .ref 0x090 8 = true → Completes (.refAllowStep g) s fun t => DevOnly s t ∧ t.dev.ref = { x with allowStep := true } ∧ t.dev.tb = s.dev.tb)


/-! ### Media clock synthesizers (08) -/

/-- Posted writes that take effect (R180, R184, R190, R191, R196): EN starts from OFF with its band or refuses, or stops; DISC_MODE sets the
discipline's state; FREQ is taken or refused; outputs start, stop, divide and delay.
Where the spec leaves a point open, the clause is the model's choice: log entries 3 and 24. -/
def Obligations.McsPosted : Prop :=
  ∀ (s : State) (n : Fin 8) (k : Fin 4) (w : Word), s.root.coreOn = true →
    let d := s.dev
    let x := d.mcsn n
    let y := fun (t : State) => t.dev.mcsn n
    let waits := fun (o : Nat) (ws : List Word) => d.post (.mcs n) = some { off := o, ws := ws }
    let done := fun (t : State) => DevOnly s t ∧ t.dev.busy (.mcs n) = false ∧ (∀ m, m ≠ n.val → t.dev.mcsn m = d.mcsn m) ∧ t.dev.regs = d.regs
    let took := fun (t : State) (o : Nat) => done t ∧ t.dev.pwv (.mcs n) o = w
    let old := d.pwv (.mcs n) 0x040
    let oldk := d.pwv (.mcs n) (0x060 + 8 * k)
    let f := mcsN d n
    let band := bandSelect (d.setPwv (.mcs n) 0x040 w) n f
    (waits 0x040 [w] → bitOf w 0 = true → Completes (.mcsEnable n) s fun t => took t 0x040 ∧
      (bitOf old 0 = true → (y t).st = x.st ∧ (y t).unlocks = x.unlocks) ∧
      (bitOf old 0 = false → (y t).unlocks = 0 ∧ (y t).fbMissed = 0 ∧ (y t).updRefused = 0 ∧
        (x.st ≠ 0 → (y t).st = x.st) ∧
        (x.st = 0 → (∀ j < 64, bandOf d n j = none) → (y t).st = 5 ∧ (y t).refuse = 1) ∧
        (x.st = 0 → (∃ j < 64, bandOf d n j ≠ none) → (f / 2 ^ 48 < 70 ∨ 90 * 2 ^ 48 < f) → (y t).st = 5 ∧ (y t).refuse = 3) ∧
        (x.st = 0 → (∃ j < 64, bandOf d n j ≠ none) → 70 ≤ f / 2 ^ 48 → f ≤ 90 * 2 ^ 48 →
          (band = none → (y t).st = 5 ∧ (y t).refuse = 2) ∧ ∀ b, band = some b → (y t).st = 1 ∧ (y t).refuse = 0 ∧ (y t).band = b.1 ∧ (y t).lim = b.2))) ∧
    (waits 0x040 [w] → bitOf w 0 = false → Completes (.mcsDisable n) s fun t => took t 0x040 ∧
      (bitOf old 0 = true → x.st = 5 → (y t).st = 0) ∧
      (bitOf old 0 = true → 1 ≤ x.st → x.st ≤ 3 → (y t).st = 4 ∧ (y t).rampSt = 0 ∧ (y t).r = 0 ∧ (y t).bypass = mcsOuts d n ∧
        (x.rampSt = 1 → (t.dev.src (163 + 8 * n)).cyc = s.root.cyc + 2)) ∧
      (bitOf old 0 = false → (y t).st = x.st)) ∧
    (waits 0x040 [w] → fld old 2 1 ≠ fld w 2 1 → bitOf w 0 = bitOf old 0 → Completes (.mcsDiscModeSet n) s fun t => took t 0x040 ∧
      (y t).st = x.st ∧
      (fld w 2 1 ≠ 2 → (y t).disc = 0 ∧ (y t).u = 0 ∧ (y t).i = 0 ∧ (y t).aligned = x.aligned) ∧
      (fld w 2 1 = 2 → x.disc = 0 → (y t).disc = if x.rampSt = 0 then 1 else 3) ∧ (fld w 2 1 = 2 → x.disc ≠ 0 → (y t).disc = x.disc)) ∧
    (∀ lo hi, waits 0x048 [lo, hi] → Completes (.mcsFreqCommit n) s fun t =>
      let new := freqOf lo hi
      let runs := 1 ≤ x.st ∧ x.st ≤ 3
      let far := f * 200 < ((new : Int) - f).natAbs * 1000000
      let inside := inBand x.lim new 1 = true
      let refused := fun (why : Nat) => mcsN t.dev n = f ∧ y t = { x with refuse := why, updRefused := satInc x.updRefused 0xFFFF }
      DevOnly s t ∧ t.dev.busy (.mcs n) = false ∧ (∀ m, m ≠ n.val → t.dev.mcsn m = d.mcsn m) ∧
      (¬runs ∨ ¬far ∧ inside ∧ x.rampSt = 0 → mcsN t.dev n = new ∧ y t = x) ∧
      (runs → far → refused 4) ∧ (runs → ¬far → ¬inside → refused 5) ∧ (runs → ¬far → inside → x.rampSt ≠ 0 → refused 8)) ∧
    (waits (0x060 + 8 * k) [w] → bitOf w 31 = true → bitOf oldk 31 = false → Completes (.mcsOutputEnable n k) s fun t => took t (0x060 + 8 * k) ∧
      nbit (y t).aligned k = (x.disc == 2) ∧
      (x.st = 3 → (y t).bypass = x.bypass) ∧
      (x.st ≠ 3 → (y t).bypass = mcsOuts t.dev n ∧ nbit (y t).bypass k = true)) ∧
    (waits (0x060 + 8 * k) [w] → bitOf w 31 = false → Completes (.mcsOutputDisable n k) s fun t => took t (0x060 + 8 * k) ∧
      outSource t.root t.dev n k = .low ∧ y t = { x with aligned := nset x.aligned k false, bypass := nset x.bypass k false }) ∧
    (waits (0x060 + 8 * k) [w] → bitOf w 31 = true → bitOf oldk 31 = true → fld oldk 9 0 ≠ fld w 9 0 →
      Completes (.mcsOutputDivChange n k) s fun t => took t (0x060 + 8 * k) ∧ y t = { x with aligned := nset x.aligned k false, delay := (y t).delay } ∧
      delayNow s.root t.dev n k (delayGoal d n k) = delayNow s.root d n k (delayGoal d n k)) ∧
    (waits (0x064 + 8 * k) [w] → Completes (.mcsOutputDelayChange n k) s fun t => took t (0x064 + 8 * k) ∧
      y t = { x with delay := (y t).delay } ∧
      (bitOf oldk 31 = true → delayNow s.root t.dev n k (fld w 13 0) = delayNow s.root d n k (fld (d.pwv (.mcs n) (0x064 + 8 * k)) 13 0)) ∧
      (bitOf oldk 31 = false → delayNow s.root t.dev n k (fld w 13 0) = fld w 13 0))

/-- Starting, lock and the applied frequency (R180 to R182, R184, R185, R187, R189): the states and their bypass, the frequency formed each
microsecond within its band, and the segments of a ramp. Cycles in a row inside the window lock, cycles in a row outside it unlock, wherever in the
command's runs they stand.
Where the spec leaves a point open, the clause is the model's choice: log entry 24. -/
def Obligations.McsRuns : Prop :=
  ∀ (s : State) (n : Fin 8), s.root.coreOn = true →
    let d := s.dev
    let x := d.mcsn n
    let y := fun (t : State) => t.dev.mcsn n
    let frame := fun (t : State) => DevOnly s t ∧ (∀ m, m ≠ n.val → t.dev.mcsn m = d.mcsn m) ∧ t.dev.eff = d.eff
    let seen := fun (err : List PhaseRun) => err.foldl (Mcs.judge (lockWin d n)) x
    let drop := fun (t : State) => (y t).st = 2 ∧ (y t).inWin = 0 ∧ (y t).outWin = 0 ∧ (y t).unlocks = satInc x.unlocks 0xFFFF ∧ (y t).bypass = mcsOuts d n ∧ (y t).r = x.r ∧
      (y t).rampSt = if x.rampSt = 1 then 2 else x.rampSt
    (x.st = 1 → Completes (.mcsVcoSettled n) s fun t => frame t ∧ y t = { x with st := 2, inWin := 0, outWin := 0 }) ∧
    (∀ (err : List PhaseRun) (p : PhaseRun) (c : Instr), c = .mcsLockAcquired ⟨n, err ++ [p]⟩ ∨ c = .mcsLockLost ⟨n, err ++ [p]⟩ →
      let lockCnt := max 1 (d.pf (.mcs n) 0x058 31 16)
      let unlockCnt := max 1 (d.pf (.mcs n) 0x058 15 12)
      let quiet := fun (e : List PhaseRun) => (seen e).inWin < lockCnt ∧ (seen e).outWin < unlockCnt
      let z := seen (err ++ [p])
      (∀ k, 1 ≤ k → k ≤ err.length → quiet (err.take k)) →
        (x.st = 2 → x.noRef s.root = false → lockCnt ≤ z.inWin → Completes c s fun t =>
          frame t ∧ y t = { z with st := 3, bypass := if d.pf (.mcs n) 0x040 8 8 = 0 then 0 else x.bypass }) ∧
        ((x.st ≠ 2 ∨ x.noRef s.root = true) → z.outWin < unlockCnt → Completes c s fun t => frame t ∧ y t = z) ∧
        (z.inWin < lockCnt → z.outWin < unlockCnt → Completes c s fun t => frame t ∧ y t = z) ∧
        (x.st = 3 → unlockCnt ≤ z.outWin → Completes c s fun t => frame t ∧ drop t)) ∧
    Completes (.mcsLockAcquired ⟨n, []⟩) s (fun t => frame t ∧ y t = x) ∧
    Completes (.mcsLockLost ⟨n, []⟩) s (fun t => frame t ∧ y t = x) ∧
    Completes (.mcsRefLoss n true) s (fun t => frame t ∧ (y t).refLoss = true ∧ (x.st = 3 → drop t) ∧ (x.st ≠ 3 → (y t).st = x.st)) ∧
    Completes (.mcsRefLoss n false) s (fun t => frame t ∧ y t = { x with refLoss := false }) ∧
    (x.st = 4 → Completes (.mcsStopComplete n) s fun t => frame t ∧ (y t).bandLimit = false ∧
      (mcsEn d n = false → y t = { x with st := 0, bandLimit := false }) ∧ (mcsEn d n = true → (y t).st = 1 ∨ (y t).st = 5)) ∧
    Completes (.mcsFreqUpdate n) s (fun t => frame t ∧
      let lost := x.st = 3 ∧ (injects (.mcs n) 0 d = true ∨ injects (.mcs n) 1 d = true)
      let runs := 1 ≤ x.st ∧ x.st ≤ 3
      let lo : Nat := cdiv (x.lim.1 * 2 ^ 48) 50000
      let hi : Nat := x.lim.2 * 2 ^ 48 / 50000
      let w := mcsWanted s.root t.dev n
      (runs → injects (.mcs n) 1 d = true → s.root.ec < (y t).refInj ∧ (y t).refInj ≤ s.root.ec + 256000) ∧
      (runs → injects (.mcs n) 1 d = false → (y t).refInj = x.refInj) ∧
      (∀ k < 4, delayNow s.root t.dev n k (delayGoal d n k) = delayNow s.root d n k (delayGoal d n k)) ∧
      (lost → (y t).st = 2 ∧ (y t).unlocks = satInc x.unlocks 0xFFFF ∧ (y t).bypass = mcsOuts d n) ∧ (¬lost → (y t).st = x.st ∧ (y t).bypass = x.bypass) ∧
      (¬runs → y t = x) ∧
      (runs → ((y t).applied : Int) = max (lo : Int) (min (hi : Int) w) ∧ ((y t).bandLimit = true ↔ w < lo ∨ hi < w) ∧
        (d.pf (.mcs n) 0x040 5 4 ≠ 1 → (y t).driven = (y t).applied) ∧ (y t).driven ≤ (y t).applied + 1 ∧ (y t).applied ≤ (y t).driven + 1) ∧
      (runs → ¬lost → x.rampSt = 1 → (y t).elapsed = min (x.prof.getD x.seg (0, 1)).2 (x.elapsed + 1) ∧ (y t).r = rampAt x (y t).elapsed) ∧
      (x.rampSt ≠ 1 → (y t).r = x.r ∧ (y t).elapsed = x.elapsed)) ∧
    (x.rampSt ≠ 1 → Completes (.rampSegmentEnd n) s fun t => frame t ∧ y t = x) ∧
    (x.rampSt = 1 → (x.prof.getD x.seg (0, 1)).2 ≤ x.elapsed → Completes (.rampSegmentEnd n) s fun t => frame t ∧
      let fin := (x.prof.getD x.seg (0, 1)).1 * rUnits
      (x.seg + 1 < x.prof.length → y t = { x with r := fin, seg := x.seg + 1, elapsed := 0, from' := fin }) ∧
      (x.prof.length ≤ x.seg + 1 → x.endAct = 1 → (y t).r = 0 ∧ (y t).rampSt = 0) ∧
      (x.prof.length ≤ x.seg + 1 → x.endAct = 2 → (y t).r = fin ∧ (y t).rampSt = 1 ∧ (y t).seg = 0 ∧ (y t).elapsed = 0 ∧ (y t).from' = fin) ∧
      (x.prof.length ≤ x.seg + 1 → x.endAct = 0 → (y t).r = fin ∧ (y t).rampSt = 2))

/-- Strobes of MCSn.CMD and the pad select (R182, R188, R189, R192, R193).
Where the spec leaves a point open, the clause is the model's choice: log entry 24. -/
def Obligations.McsCommands : Prop :=
  ∀ (s : State) (g : Gal) (n : Fin 8) (w : Word),
    let d := s.dev
    let x := d.mcsn n
    let y := fun (t : State) => t.dev.mcsn n
    let frame := fun (t : State) => DevOnly s t ∧ (∀ m, m ≠ n.val → t.dev.mcsn m = d.mcsn m) ∧
      t.dev = { d with mcs := t.dev.mcs, evc := t.dev.evc, page := t.dev.page, lines := t.dev.lines }
    (canWrite s g (.mcs n) 0x05C 1 = true → Completes (.mcsRampStart g n) s fun t => frame t ∧
      let prof : List (Int × Nat) := (List.range (d.rf (.mcs n) 0x0B0 3 0 + 1)).map fun i =>
        (sgn (d.reg (.mcs n) (0x100 + 8 * i)).toNat 32, max 1 (d.rf (.mcs n) (0x104 + 8 * i) 23 0))
      let act := d.rf (.mcs n) 0x0B0 9 8
      let ff : Int := if mcsMode d n = 0 then 2 ^ 48 else 2 ^ 48 + x.rho
      let ok := x.st = 3 ∧ (∀ q ∈ (x.r :: prof.map fun p => p.1 * rUnits).zip prof, (q.2.1 * rUnits - q.1).natAbs ≤ 200000 * rUnits * q.2.2) ∧
        (∀ p ∈ prof, inBand x.lim ((mcsN d n : Int) * ff * (1000000000 + p.1)).toNat (2 ^ 48 * 1000000000) = true) ∧
        (act = 1 → prof.getLast?.map (·.1) = some 0)
      (ok → x.rampSt ≠ 1 → y t = { x with rampSt := 1, seg := 0, elapsed := 0, from' := x.r, prof := prof, endAct := act,
                                          disc := (y t).disc, inRun := (y t).inRun }) ∧
      (ok → x.rampSt = 1 → y t = { x with refuse := 8 }) ∧ (¬ok → y t = { x with refuse := 7 })) ∧
    (canWrite s g (.mcs n) 0x05C 2 = true → Completes (.mcsRampStop g n) s fun t => frame t ∧
      (x.rampSt = 1 → (y t).rampSt = 2 ∧ (y t).r = x.r ∧ (y t).st = x.st) ∧ (x.rampSt ≠ 1 → y t = x)) ∧
    (canWrite s g (.mcs n) 0x05C 4 = true → Completes (.mcsReturn g n) s fun t => frame t ∧
      y t = { x with bypass := if x.st = 3 then 0 else x.bypass }) ∧
    (canWrite s g (.mcs n) 0x05C 8 = true → Completes (.mcsRealign g n) s fun t => frame t ∧
      y t = if x.disc = 2 then { x with aligned := mcsOuts d n } else { x with refuse := 9 }) ∧
    (∀ k : Fin 2, canWrite s g (.mcs n) (0x400 + 4 * k) w = true → Completes (.mclkoSelWrite g n k w) s fun t =>
      DevOnly s t ∧ t.dev.mcs = d.mcs ∧ t.dev.eff = d.eff ∧ t.dev.reg (.mcs n) (0x400 + 4 * k) = w ∧
      mclkoSource t.root t.dev (2 * n + k) = if fld w 5 0 < 32 then outSource s.root d (fld w 5 0 / 4) (fld w 5 0 % 4) else .low)

/-- The discipline (R194 to R197): a usable stamp is measured and moves the loop within its clamp, a missing one is counted; ALIGNED after 16
intervals inside, NO_FEEDBACK after 16 without.
Where the spec leaves a point open, the clause is the model's choice: log entry 24. -/
def Obligations.McsDiscipline : Prop :=
  ∀ (s : State) (n : Fin 8), s.root.coreOn = true →
    let d := s.dev
    let x := d.mcsn n
    let y := fun (t : State) => t.dev.mcsn n
    let frame := fun (t : State) => DevOnly s t ∧ (∀ m, m ≠ n.val → t.dev.mcsn m = d.mcsn m) ∧ t.dev.eff = d.eff ∧ (y t).st = x.st
    let stamp := sget (fun _ => none) d.fb (d.rf (.mcs n) 0x084 3 0)
    let missed := fun (t : State) => (y t).missRun = x.missRun + 1 ∧ (y t).inRun = 0 ∧ (y t).aligned = x.aligned ∧ (y t).fbMissed = satInc x.fbMissed 0xFFFF ∧ (y t).u = x.u ∧ (y t).disc = x.disc
    let clamp := min 100000 (d.rf (.mcs n) 0x08C 23 0) * 2 ^ 24
    (x.disc = 0 → Completes (.mcsDiscInterval n) s fun t => frame t ∧ y t = { x with rho := d.tb.at'.rate }) ∧
    (x.disc ≠ 0 → fbOutput d n = none → Completes (.mcsDiscInterval n) s fun t => frame t ∧ missed t ∧ (y t).refuse = 6) ∧
    (x.disc ≠ 0 → (fbOutput d n).isSome = true → stamp = none → Completes (.mcsDiscInterval n) s fun t => frame t ∧ missed t) ∧
    (∀ z, x.disc ≠ 0 → (fbOutput d n).isSome = true → stamp = some z → (z.valid = false ∨ d.sameEra z = false) →
      Completes (.mcsDiscInterval n) s fun t => frame t ∧ missed t) ∧
    (∀ z, 1 ≤ x.disc → x.disc ≤ 4 → (fbOutput d n).isSome = true → stamp = some z → s.root.ec < z.ec + secEC / 500 → x.taken ≠ some z.ec →
      z.valid = true → d.sameEra z = true → Completes (.mcsDiscInterval n) s fun t => frame t ∧
        (y t).phi = discPhi d n z ∧ (y t).taken = some z.ec ∧ (y t).missRun = 0 ∧ (y t).fbMissed = x.fbMissed ∧
        (x.disc ≠ 3 → x.rampSt = 0 → (y t).u.natAbs ≤ clamp) ∧ (x.disc = 3 ∨ x.rampSt ≠ 0 → (y t).u = x.u ∧ (y t).i = x.i) ∧
        (x.disc = 2 → x.rampSt = 0 → if inPs (discPhi d n z) (d.rf (.mcs n) 0x090 31 16) then (y t).disc = 2 ∧ (y t).aligned = x.aligned
          else (y t).disc = 1 ∧ (y t).aligned = x.aligned &&& keepFed d n) ∧
        (x.disc = 4 → (y t).disc = if x.rampSt = 0 then 1 else 3) ∧
        (x.disc = 1 → x.rampSt = 0 → (y t).disc = 1 ∧ (y t).inRun = if inPs (discPhi d n z) (d.rf (.mcs n) 0x090 15 0) then x.inRun + 1 else 0)) ∧
    (x.disc = 1 → 16 ≤ x.inRun → Completes (.mcsAlignAchieved n) s fun t => frame t ∧
      y t = { x with disc := 2, inRun := 0, aligned := x.aligned ||| keepFed d n }) ∧
    (1 ≤ x.disc → x.disc ≤ 3 → 16 ≤ x.missRun → Completes (.mcsNoFeedback n) s fun t => frame t ∧ y t = { x with disc := 4, inRun := 0 })


/-! ### Time triggers, captures and admissions (09, 10) -/


/-- Arming and disarming (R204, R205): each trigger of the word whose bit is set and whose owner writes is checked and armed, or stopped; every
other trigger is unchanged.
Firing (R201 to R203, R205 to R208): an armed trigger waits while its compare time lies ahead of the cycle, fires on time in it, and late after
it unless it drops; the edges of a level or pulse action leave its pad 40 ns after the compare time, or after a late fire; channels that name the
trigger take a stamp; a pulse that has ended is over.
Where the spec leaves a point open, the clause is the model's choice: log entry 19. -/
def Obligations.TimeTriggers : Prop :=
  (∀ (s : State) (g : Gal) (k : Fin 2) (w : Word),
     let mine := fun (n : Nat) => (n / 32 == k.val && bitOf w (n % 32) && owner s.root s.dev .trgSlot n == g) = true
     let frame := fun (t : State) => DevOnly s t ∧ t.dev = { s.dev with trg := t.dev.trg, evc := t.dev.evc, page := t.dev.page, lines := t.dev.lines } ∧ t.dev.trg.capt = s.dev.trg.capt
     (canWrite s g .trg (0x048 + 4 * k) w = true → Completes (.triggerArm g k w) s fun t => frame t ∧ ∀ n < 64,
       let x := s.dev.trig n
       (mine n → x.st ≠ .armed → trigBad s.dev n = true → t.dev.trig n = { x with st := .refused, refuse := 2 }) ∧
       (mine n → x.st ≠ .armed → trigBad s.dev n = false → trigNotOwner s.root s.dev n = true → t.dev.trig n = { x with st := .refused, refuse := 1 }) ∧
       (mine n → x.st ≠ .armed → trigBad s.dev n = false → trigNotOwner s.root s.dev n = false →
         t.dev.trig n = { x with st := .armed, refuse := 0, outcome := 0, k := 0 }) ∧
       (¬mine n ∨ x.st = .armed → t.dev.trig n = x)) ∧
     (canWrite s g .trg (0x050 + 4 * k) w = true → Completes (.triggerDisarm g k w) s fun t => frame t ∧ ∀ n < 64,
       let x := s.dev.trig n
       (mine n → x.st = .armed → t.dev.trig n = { x with st := .idle, outcome := 6 }) ∧ (¬mine n ∨ x.st ≠ .armed → t.dev.trig n = x))) ∧
  (∀ (s : State) (n : Fin 64), s.root.coreOn = true →
     let d := s.dev
     let x := d.trig n
     let tb := timebase d (trigBase d n)
     let v := tb.val s.root.ec
     let at' := trigTime d n x.k
     let lag := some (min 0xFFFFFFFF ((v - at' + 255) / 256).toNat)
     let at_ := fun (e : Nat) => { s.root with ec := e }
     let edge := s.root.ec + 40 * 256 + (at' - v).toNat
     let others := fun (t : State) => DevOnly s t ∧ ∀ m, m ≠ n.val → t.dev.trig m = d.trig m
     (x.st = .armed → tb.val (s.root.ec + 512) ≤ at' → Completes (.triggerFire n) s fun t => others t ∧ t.dev.trg = d.trg) ∧
     (x.st = .armed → at' < tb.val (s.root.ec + 512) → at' < v → trigDrop d n = true → Completes (.triggerFire n) s fun t => others t ∧
       t.dev.trig n = trigHandled d n v 3 lag ∧ t.dev.trg.level = d.trg.level ∧ t.dev.trg.pulse = d.trg.pulse ∧ t.dev.trg.capt = d.trg.capt) ∧
     (x.st = .armed → at' < tb.val (s.root.ec + 512) → ¬(at' < v ∧ trigDrop d n = true) → Completes (.triggerFire n) s fun t => others t ∧
       (v ≤ at' → t.dev.trig n = trigHandled d n v 1 none) ∧ (at' < v → t.dev.trig n = trigHandled d n v 2 lag) ∧
       (∀ i : Fin 8, fld (capCfg d (8 + i)) 28 20 = n.val → bitOf (capCfg d (8 + i)) 31 = true →
         ∃ z, (t.dev.capt (8 + i)).queue = (d.capt (8 + i)).queue ++ [z] ∧ z.ec = s.root.ec ∧ z.point = 0x18 + i.val) ∧
       (∀ p, (trigAction d n = 2 ∨ trigAction d n = 3) → p ≠ trigArg d n → lget t.dev.trg.level p = lget d.trg.level p) ∧
       (∀ high : Bool, trigAction d n = (if high then 2 else 3) → padLevel s.root t.dev (trigArg d n) = padLevel s.root d (trigArg d n) ∧
         ((∀ a ∈ lget d.trg.level (trigArg d n), a.cyc = s.root.ec / 512 → a.n ≤ n) →
           ∀ e, edge ≤ e → padLevel (at_ e) t.dev (trigArg d n) = high)) ∧
       (trigAction d n = 1 → ∀ e, s.root.ec ≤ e → ∀ p, padDrive (at_ e) t.dev p =
         (padDrive (at_ e) d p || p == trigArg d n && decide (edge ≤ e ∧ e < edge + trigWidth d n * 256))) ∧
       (trigAction d n ≠ 1 → t.dev.trg.pulse = d.trg.pulse) ∧ (trigAction d n ≠ 2 → trigAction d n ≠ 3 → t.dev.trg.level = d.trg.level)) ∧
     (x.st ≠ .armed → Completes (.triggerFire n) s fun t => others t ∧ t.dev.trg = d.trg) ∧
     (∀ p : Fin 8, Completes (.triggerPulseEnd p) s fun t => others t ∧ t.dev.trig n = x ∧ t.dev.trg.level = d.trg.level ∧
       (∀ w, w ∈ lget t.dev.trg.pulse p ↔ w ∈ lget d.trg.pulse p ∧ s.root.ec < w.2) ∧
       (∀ q, q ≠ p.val → lget t.dev.trg.pulse q = lget d.trg.pulse q) ∧ ∀ e, s.root.ec ≤ e → ∀ q, padDrive (at_ e) t.dev q = padDrive (at_ e) d q))

/-- Captures (R208 to R210): the oldest stamp is missed within the dead time, ignored within the hold-off, and otherwise recorded with its
sequence number and its time in AT, with COR_EN also in its corridor; reading the record clears NEW.
Where the spec leaves a point open, the clause is the model's choice: log entries 19 and 40. -/
def Obligations.CapturesAreRecorded : Prop :=
  ∀ (s : State) (c : Fin 16) (z : Stamp) (q : List Stamp), s.root.coreOn = true → (s.dev.capt c).queue = z :: q →
    let d := s.dev
    let x := d.capt c
    let y := fun (t : State) => t.dev.capt c
    let near := fun (w : Nat) => ∃ l, x.last = some l ∧ l.era = z.era ∧ l.ec ≤ z.ec ∧ z.ec < l.ec + w
    let hold := fld (capCfg d c) 11 0 * 25600000
    let frame := fun (t : State) => t.root = s.root ∧ t.pending = s.pending ∧ (∀ i, i ≠ c.val → t.dev.capt i = d.capt i) ∧ ∀ n, t.dev.trig n = d.trig n
    (near 2048 → Completes (.capture c) s fun t => frame t ∧ t.mem = s.mem ∧ y t = { x with queue := q } ∧ t.dev.tb.missed = satInc d.tb.missed 0xFFFF) ∧
    (¬near 2048 → near hold → Completes (.capture c) s fun t => frame t ∧ t.mem = s.mem ∧ y t = { x with queue := q, ignored := satInc x.ignored 255 }) ∧
    (¬near 2048 → ¬near hold → Completes (.capture c) s fun t => frame t ∧ (bitOf (capCfg d c) 29 = false → t.mem = s.mem) ∧
      (bitOf (capCfg d c) 29 = true → Recorded s t (fld (capCfg d c) 19 12) 0x04 c (wordsBytes (stampWords z (wd (x.seq * 65536 + c)) ++ ltWords (d.atOf z)))) ∧
      y t = { x with new := true, overrun := if x.new then satInc x.overrun 0xFFFF else x.overrun, timeState := d.tb.timeState,
                     seq := (x.seq + 1) % 65536, rec' := stampWords z (wd (x.seq * 65536 + c)), at' := ltWords (d.atOf z), last := some z, queue := q }) ∧
    (∀ g, reaches s g = true → Completes (.captureRecRead g c) s fun t => frame t ∧ t.mem = s.mem ∧ y t = { x with new := false } ∧
      wget t.dev.hif.readData g = x.rec'.getD 0 0)


/-! ### The Landing and its corridors (10) -/

/-- The first admission of the queue (R214, R216): it waits for treads that are still being zeroed; a corridor or a host buffer is refused with the
first check that fails, or gets its treads and is active, or idle again where ENA has been cleared in the meantime.
Zeroing, scrubbing and the ECC counters (R214, R219 to R222): the head of the zeroing queue is zeroed and returns to the pool, or to quarantine
when it is marked; the scrub advances by a word, corrects a single-bit error, reports an uncorrectable one and
reads a Tread Map entry with the first word of each tread; CLEAR_UE and CLEAR_CE clear their counters.
Where the spec leaves a point open, the clause is the model's choice: log entries 36 and 38. -/
def Obligations.LandingAdmissionsAndUpkeep : Prop :=
  (∀ (s : State) (e : Admit), s.root.coreOn = true →
     let d := s.dev
     let may := fun (e : Admit) => s.root.running || decide (0x800 ≤ e.cons ∧ e.cons < 0x900)
     let q := d.lnd.admitQ.eraseP may
     (d.lnd.admitQ.find? may = none → Completes .admissionComplete s fun t => DevOnly s t ∧ t.dev = d) ∧
     (d.lnd.admitQ.find? may = some e →
       let treads := (admitReq s.root d e).treads
       let waits := freeCount d < treads ∧ treads ≤ freeCount d + d.lnd.zeroing.length
       (waits → Completes .admissionComplete s fun t => DevOnly s t ∧ t.dev.lnd = d.lnd) ∧
       (∀ c : Fin 256, e.cons = consCor c → ¬waits → Completes .admissionComplete s fun t =>
         let x := d.cor c
         let why := lndCheck d e.g (corReq s.root d e.g c)
         DevOnly s t ∧ t.dev.lnd.admitQ = q ∧ (∀ j, j ≠ c.val → t.dev.cor j = d.cor j) ∧
         (why ≠ 0 → t.dev.cor c = { x with st := .refused, reason := why } ∧ t.dev.lnd.lastCons = consCor c ∧ t.dev.lnd.lastGal = e.g ∧
           t.dev.lnd.lastReason = why ∧ t.dev.lnd.free = d.lnd.free) ∧
         (why = 0 → (bitOf x.cfg 31 = false ∨ x.quit = true) → t.dev.cor c = { x with st := .idle } ∧ t.dev.ext (consCor c) = {} ∧
           freeCount t.dev + 2 ^ x.sizeLog = freeCount d ∧ t.dev.lnd.zeroing.length = d.lnd.zeroing.length + 2 ^ x.sizeLog) ∧
         (why = 0 → bitOf x.cfg 31 = true → x.quit = false →
           t.dev.cor c = { x with st := .active, wr := 0, rd := 0, mark := 0, rel := 0, seq := 0, run := false } ∧
           (t.dev.ext (consCor c)).treads.length = 2 ^ x.sizeLog ∧ (t.dev.ext (consCor c)).g = e.g ∧ freeCount t.dev + 2 ^ x.sizeLog = freeCount d)) ∧
       (∀ b : Fin 48, e.cons = consHb b → ¬waits → Completes .admissionComplete s fun t =>
         let x := d.hb b
         let why := if hbBusy d b then 6 else lndCheck d (b / 8) (hbReq s.root d b)
         DevOnly s t ∧ t.dev.lnd.admitQ = q ∧ (∀ j, j ≠ b.val → t.dev.hb j = d.hb j) ∧
         (why ≠ 0 → t.dev.hb b = { x with st := .refused, reason := why } ∧ t.dev.lnd.lastCons = consHb b ∧ t.dev.lnd.lastReason = why ∧
           t.dev.lnd.free = d.lnd.free) ∧
         (why = 0 → (bitOf (hbCfg d b) 31 = false ∨ x.quit = true) → t.dev.hb b = { x with st := .idle, ptr := uns (periodNow s.root d) 32 } ∧
           t.dev.ext (consHb b) = {} ∧ freeCount t.dev + treads = freeCount d ∧ t.dev.lnd.zeroing.length = d.lnd.zeroing.length + treads) ∧
         (why = 0 → bitOf (hbCfg d b) 31 = true → x.quit = false → (t.dev.ext (consHb b)).g = b / 8 ∧ freeCount t.dev + treads = freeCount d ∧
           t.dev.hb b = { x with st := .active, ptr := uns (periodNow s.root d) 32, last := some (periodNow s.root d, d.tb.run),
                                 from' := some (periodNow s.root d + 1), wrote := none })))) ∧
  (∀ (s : State) (g : Gal),
     (∀ k q, s.root.coreOn = true → s.dev.lnd.zeroing = k :: q → Completes .treadZeroed s fun t =>
       t.root = s.root ∧ t.pending = s.pending ∧ t.dev = { s.dev with lnd := t.dev.lnd } ∧ t.dev.lnd.zeroing = q ∧
       (s.dev.lnd.bad.contains k = true → t.dev.lnd.quar = k :: s.dev.lnd.quar ∧ freeCount t.dev = freeCount s.dev) ∧
       (s.dev.lnd.bad.contains k = false → t.dev.lnd.quar = s.dev.lnd.quar ∧ freeCount t.dev = freeCount s.dev + 1) ∧
       (∀ i < 512, memByte t.mem (k * 512 + i) = 0) ∧ (∀ a, (a < k * 512 ∨ k * 512 + 512 ≤ a) → memByte t.mem a = memByte s.mem a)) ∧
     (s.root.coreOn = true → s.dev.rb .lnd 0x040 0 = true → Completes .landingScrubStep s fun t =>
       let w := s.dev.lnd.scrubWord
       let one := injects .lnd 0 s.dev
       let bad := w ∈ s.dev.lnd.ue ∨ injects .lnd 1 s.dev = true ∨ one = true ∧ w ∈ s.dev.lnd.ce
       let soft := one = true ∨ w ∈ s.dev.lnd.ce
       let alone := w % 64 ≠ 0 ∨ w / 64 ∉ s.dev.lnd.mapCe ∧ w / 64 ∉ s.dev.lnd.mapUe
       DevOnly s t ∧ t.dev.lnd.scrubWord = (if w + 1 = 4194304 then 0 else w + 1) ∧
       t.dev.lnd.passes = (if w + 1 = 4194304 then (s.dev.lnd.passes + 1) % 65536 else s.dev.lnd.passes) ∧
       (bad → w ∈ t.dev.lnd.ue ∧ w / 64 ∈ t.dev.lnd.bad ∧ (alone → t.dev.lnd.ueCnt = satInc s.dev.lnd.ueCnt 0xFFFF)) ∧
       (¬bad → soft → w ∉ t.dev.lnd.ce ∧ w ∉ t.dev.lnd.ue ∧
         (alone → nget t.dev.lnd.bankCE (w / 64 / 4096) = satInc (nget s.dev.lnd.bankCE (w / 64 / 4096)) 0xFFFF)) ∧
       (w % 64 = 0 → w / 64 ∉ t.dev.lnd.mapCe ∧ ∀ k, entryTread s.dev (w / 64) = some k → w / 64 ∈ s.dev.lnd.mapUe → k ∈ t.dev.lnd.bad) ∧
       (¬bad → ¬soft → alone → t.dev = { s.dev with lnd := t.dev.lnd, page := t.dev.page, lines := t.dev.lines })) ∧
     (s.root.coreOn = true → s.dev.rb .lnd 0x040 0 = false → Completes .landingScrubStep s fun t =>
       DevOnly s t ∧ t.dev = { s.dev with page := t.dev.page, lines := t.dev.lines }) ∧
     (canWrite s g .lnd 0x084 2 = true → Completes (.lndClearUe g) s fun t =>
       DevOnly s t ∧ t.dev.lnd = { s.dev.lnd with ueValid := false, ueCnt := 0 } ∧ t.dev = { s.dev with lnd := t.dev.lnd, page := t.dev.page, lines := t.dev.lines }) ∧
     (canWrite s g .lnd 0x084 1 = true → Completes (.lndClearCe g) s fun t =>
       DevOnly s t ∧ t.dev.lnd = { s.dev.lnd with bankCE := [] } ∧ t.dev = { s.dev with lnd := t.dev.lnd, page := t.dev.page, lines := t.dev.lines }))


/-- Host buffer registers (R224, R420): ENA written 1 to an idle or refused buffer samples its admission fields and starts an admission, written 0 to
an active one closes it at the next period and to an admitting one ends it there; in QUIET both wait for the return to RUN. PTR is taken except
by a host-read buffer, and one that an admission has set in the same cycle stays.
Sample periods of host buffers (R223 to R226, R420): a host-write buffer takes the samples of the period that begins from their places in its slot
when PTR covers it, else repeats the last with V set and counts it LATE; a host-read buffer's slot gets the samples of a period packed in their
places, and its PTR shows the latest period that has ended whose slot is written; a closing buffer becomes idle and gives up its treads.
Where the spec leaves a point open, the clause is the model's choice: log entries 11, 25 and 26. -/
def Obligations.HostBuffers : Prop :=
  (∀ (s : State) (g : Gal) (b : Fin 48) (w : Word),
     let x := s.dev.hb b
     let frame := fun (t : State) => DevOnly s t ∧ (∀ c, c ≠ b.val → t.dev.hb c = s.dev.hb c) ∧ t.dev =
       { s.dev with lnd := t.dev.lnd, regs := t.dev.regs, parityBad := t.dev.parityBad, page := t.dev.page, lines := t.dev.lines, owed := t.dev.owed }
     let asked := fun (t : State) => t.dev.lnd = s.dev.lnd ∧ t.dev.owed = if s.dev.owed.contains (.hb b) then s.dev.owed else s.dev.owed ++ [.hb b]
     (let v := setBit w 31 true
      canWrite s g .lnd (0x200 + 0x10 * b) v = true → Completes (.hbufEnable g b w) s fun t => frame t ∧ hbCfg t.dev b = v ∧
       (s.root.power = .quiet → asked t) ∧ (s.root.power ≠ .quiet → t.dev.owed = s.dev.owed ∧
         ((x.st = .idle ∨ x.st = .refused) → t.dev.hb b =
             { x with st := .admitting, read := bitOf v 30, pack := fld v 29 28, depthLog := fld v 27 24,
                      first := s.dev.rf .lnd (0x204 + 0x10 * b) 31 16, count := s.dev.rf .lnd (0x204 + 0x10 * b) 10 0, late := 0,
                      closing := false, quit := false } ∧
           (t.dev.lnd.admitQ.any fun a => a.cons == consHb b) = true) ∧
         ((x.st = .admitting ∨ x.st = .active) → t.dev.hb b = x))) ∧
     (let v := setBit w 31 false
      canWrite s g .lnd (0x200 + 0x10 * b) v = true → Completes (.hbufDisable g b w) s fun t => frame t ∧ hbCfg t.dev b = v ∧
       (s.root.power = .quiet → asked t) ∧ (s.root.power ≠ .quiet → t.dev.owed = s.dev.owed ∧
         t.dev.hb b = match x.st with | .active => { x with closing := true } | .admitting => { x with quit := true } | _ => x)) ∧
     (canWrite s g .lnd (0x20C + 0x10 * b) w = true → Completes (.hbufPtrWrite g b w) s fun t => frame t ∧ t.dev.owed = s.dev.owed ∧
       let late := nget s.dev.hwSet (Blk.lnd.addr (0x20C + 0x10 * b)) = s.root.cyc + 1
       let read := if x.st = .active ∨ x.st = .admitting then x.read else bitOf (hbCfg s.dev b) 30
       (read = true → t.dev.hb b = x) ∧ (read = false → ¬late → t.dev.hb b = { x with ptr := w.toNat }) ∧
       (read = false → late → x.ptr < 2 ^ 32 → t.dev.hb b = x))) ∧
  (∀ (s : State) (b : Fin 48), s.root.running = true →
     let x := s.dev.hb b
     let k := periodNow s.root s.dev
     let new := newPeriod s.dev x.last k
     let ahead := sgn (pdiff x.ptr (uns k 32)) 32
     let others := fun (t : State) => DevOnly s t ∧ ∀ c, c ≠ b.val → t.dev.hb c = s.dev.hb c
     let bytes := packedBytes x.pack
     let place := slotPlace x k
     let byte := fun (o : Nat) => match physAt s.dev (consHb b) o with | some a => (memByte s.mem a).toNat | none => 0
     let lost := fun (o : Nat) => ∃ j < bytes, ∃ a, physAt s.dev (consHb b) (o + j) = some a ∧ wordBad s.dev (a / 8) = true
     let unpacked := fun (n : Nat) => if x.pack = 0 then wd (n * 256) else if x.pack = 1 then wd (n / 8 * 8) else wd (n % 2 ^ 24 * 256)
     let wrote := fun (h h' : Hbuf) => h' = { h with from' := h'.from', wrote := h'.wrote }
     (x.st ≠ .active ∨ x.read = true ∨ new = false → Completes (.hbufPeriodTake b) s fun t => others t ∧ t.dev.hb b = x ∧ t.dev.chan = s.dev.chan) ∧
     (x.st = .active → x.read = false → new = true → x.closing = false → Completes (.hbufPeriodTake b) s fun t =>
       let kept := fun (i : Nat) => withV ((lget s.dev.chan (x.first + i)).head?.map (·.w) |>.getD 0)
       others t ∧ (∀ c, (c < x.first ∨ x.first + x.count ≤ c) → lget t.dev.chan c = lget s.dev.chan c) ∧
       (0 ≤ ahead → ahead < x.depth → t.dev.hb b = { x with last := some (k, s.dev.tb.run) } ∧ ∀ i < x.count,
         (lost (place i) → (lget t.dev.chan (x.first + i)).head? = some ⟨k, zeroV, bNow s.dev k⟩) ∧
         (¬lost (place i) → (lget t.dev.chan (x.first + i)).head? =
           some ⟨k, unpacked (((List.range bytes).map fun j => byte (place i + j) * 256 ^ j).sum), bNow s.dev k⟩)) ∧
       ((ahead < 0 ∨ (x.depth : Int) ≤ ahead) → t.dev.hb b = { x with last := some (k, s.dev.tb.run), late := satInc x.late 0xFFFF } ∧
         ∀ i < x.count, (lget t.dev.chan (x.first + i)).head?.map (fun v => (v.k, v.w)) = some (k, kept i))) ∧
     Completes (.hbufPeriodPublish b) s (fun t => t.root = s.root ∧ t.pending = s.pending ∧ BuffersOnly s t ∧ (∀ c, c ≠ b.val → wrote (s.dev.hb c) (t.dev.hb c)) ∧
       (s.dev.rte.hist.filter (·.waits) = [] → others t ∧ (t.dev.hb b).wrote = x.wrote ∧ (t.dev.hb b).from' = x.from') ∧
       (x.st ≠ .active ∨ x.read = false → t.dev.hb b = x) ∧
       (x.st = .active → x.read = true → (new = true → x.closing = false) →
         let y := t.dev.hb b
         y = { x with last := if new then some (k, s.dev.tb.run) else x.last, from' := y.from', wrote := y.wrote,
                      ptr := match y.wrote with | some (w, e) => if e = s.dev.tb.run then uns (min w (k - 1)) 32 else x.ptr | none => x.ptr }) ∧
       (∀ p, s.dev.rte.hist.filter (·.waits) = [p] → p.todo = [] → p.lvl = [] → p.hb = [b.val] → x.writes p.k = true → extentClean s.dev (consHb b) →
         t.mem = memWrites s.mem (slotWrites s.dev b p.k p.word) ∧ (t.dev.hb b).wrote = some (p.k, s.dev.tb.run))) ∧
     (x.st = .active → new = true → x.closing = true → s.dev.rte.hist.filter (·.waits) = [] → Completes (if x.read then .hbufPeriodPublish b else .hbufPeriodTake b) s fun t =>
       others t ∧ t.dev.hb b = { x with st := .idle, closing := false } ∧ t.dev.ext (consHb b) = {} ∧ t.dev.chan = s.dev.chan ∧
       t.dev.lnd.zeroing = s.dev.lnd.zeroing ++ (s.dev.ext (consHb b)).treads))

/-- Corridor registers (R231, R234), of the corridor that COR.SEL or the register names: ENA samples DIR and SIZE_LOG and asks for admission, or
closes, or ends an admission in IDLE; RD, REL, MARK and REWIND move their pointers where the order allows, and are counted as errors where it does not.
Where the spec leaves a point open, the clause is the model's choice: log entries 15 and 16. -/
def Obligations.CorridorControl : Prop :=
  ∀ (s : State) (g : Gal) (w : Word),
    let sel := fld (s.dev.own .cor 0x040 g) 7 0
    let frame := fun (c : Nat) (t : State) => DevOnly s t ∧ (∀ j, j ≠ c → t.dev.cor j = s.dev.cor j)
    let good := fun (x y : Cor) (v : Nat) => x.out = false ∧ v % 8 = 0 ∧ y.ordered = true
    let bad := fun (x : Cor) => { x with ptrErr := satInc x.ptrErr 0xFFFF }
    (let v := setBit w 31 true
     canWrite s g .cor 0x044 v = true → Completes (.corridorEnable g w) s fun t => frame sel t ∧ (t.dev.cor sel).cfg = v ∧
      (((s.dev.cor sel).st = .idle ∨ (s.dev.cor sel).st = .refused) → t.dev.cor sel =
          { s.dev.cor sel with cfg := v, st := .admitting, out := bitOf v 30, sizeLog := fld v 3 0, quit := false } ∧ (t.dev.lnd.admitQ.any fun a => a.cons == consCor sel && a.g == g.val) = true) ∧
      (((s.dev.cor sel).st = .active ∨ (s.dev.cor sel).st = .closing ∨ (s.dev.cor sel).st = .admitting) →
        t.dev.cor sel = { s.dev.cor sel with cfg := v })) ∧
    (let v := setBit w 31 false
     canWrite s g .cor 0x044 v = true → Completes (.corridorDisable g w) s fun t => frame sel t ∧
      let x := { s.dev.cor sel with cfg := v }
      t.dev.cor sel = match x.st with | .active => { x with st := .closing } | .admitting => { x with quit := true } | _ => x) ∧
    (∀ c : Fin 256, canWrite s g .cor (0x800 + 8 * c) w = true → Completes (.corRdWrite g c w) s fun t => frame c t ∧
      let x := s.dev.cor c
      (good x { x with rd := w.toNat } w.toNat → t.dev.cor c = { x with rd := w.toNat }) ∧
      (¬good x { x with rd := w.toNat } w.toNat → t.dev.cor c = bad x)) ∧
    (∀ c : Fin 256, canWrite s g .cor (0x804 + 8 * c) w = true → Completes (.corRelWrite g c w) s fun t => t.root = s.root ∧ t.pending = s.pending ∧
      let x := s.dev.cor c
      let y : Cor := { x with rel := w.toNat, mark := if pdiff x.mark x.rel < pdiff w.toNat x.rel then w.toNat else x.mark }
      let z := if good x y w.toNat ∧ pdiff w.toNat x.rel ≤ pdiff x.rd x.rel then y else bad x
      (t.dev.cor c).rel = z.rel ∧ (t.dev.cor c).rd = z.rd ∧ (t.dev.cor c).mark = z.mark ∧ (t.dev.cor c).ptrErr = z.ptrErr ∧
      ((alarmEntries s.dev).filter (fun e => bitOf (s.dev.tw .alarm e 0) 30) = [] → frame c t ∧ t.dev.cor c = z)) ∧
    (canWrite s g .cor 0x054 w = true → Completes (.corMarkWrite g w) s fun t => frame sel t ∧
      let x := s.dev.cor sel
      (good x { x with mark := w.toNat } w.toNat → t.dev.cor sel = { x with mark := w.toNat }) ∧
      (¬good x { x with mark := w.toNat } w.toNat → t.dev.cor sel = bad x)) ∧
    (canWrite s g .cor 0x058 1 = true → Completes (.corRewind g) s fun t => frame sel t ∧
      let x := s.dev.cor sel
      (x.out = false → x.ordered = true → t.dev.cor sel = { x with rd := x.mark }) ∧ (x.out = true → t.dev.cor sel = bad x)) ∧
    (canWrite s g .cor 0x058 2 = true → Completes (.corClearCnt g) s fun t => frame sel t ∧
      t.dev.cor sel = { s.dev.cor sel with overflow := 0, ptrErr := 0 })

/-- A hardware record (R228 to R230): with room in an active IN corridor it is committed at WR: the header with the payload, and a WRAP header where the
record does not fit before the ring's end, stand in the Landing, WR and SEQ advance, every byte outside the ring is as before; with payload words that
are uncorrectable the record has STATUS ECC_ERR and those words zero (R221). Without room, or at an injection of R236, nothing is written and the
overflow is counted.
Where the spec leaves a point open, the clause is the model's choice: log entry 16. -/
def Obligations.RecordsAreCommitted : Prop :=
  ∀ (s : State) (c : Fin 256) (type : Byte) (info : Fin 65536) (payload : List Byte), s.root.coreOn = true →
    let x := s.dev.cor c
    let inj := corInjTarget s.root s.dev = c ∧ injects .cor 0 s.dev = true
    let n := min payload.length (min (x.len - 16) 65528)
    (¬inj → x.takes = true → x.fits [n] = true → Completes (.corridorRecordCommit c type info payload) s fun t =>
      let left := x.len - x.wr % x.len
      let start := if recSize n ≤ left then x.wr % x.len else 0
      let lost := fun (i : Nat) => ∃ a, physAt s.dev (consCor c) (start + 8 + i) = some a ∧ wordBad s.dev (a / 8) = true
      t.root = s.root ∧ t.pending = s.pending ∧ (∀ j, j ≠ c.val → t.dev.cor j = s.dev.cor j) ∧
      t.dev.cor c = { x with wr := (x.wr + (if recSize n ≤ left then 0 else left) + recSize n) % 2 ^ 32, seq := (x.seq + 1) % 65536, run := false } ∧
      Recorded s t c type.toNat info payload ∧
      ((∃ i < recSize n - 8, lost i) → x.wr % 8 = 0 →
        ∃ pay, pay.length = n ∧ (∀ i < n, (lost i → pay.getD i 0 = 0) ∧ (¬lost i → pay.getD i 0 = payload.getD i 0)) ∧
          t.mem = memWrites s.mem (recordWrites s.dev c 2 type.toNat info pay))) ∧
    (inj ∨ x.takes = false ∨ x.fits [n] = false → Completes (.corridorRecordCommit c type info payload) s fun t =>
      DevOnly s t ∧ t.dev.cor c = { x with overflow := satInc x.overflow 0xFFFF, run := true } ∧ ∀ j, j ≠ c.val → t.dev.cor j = s.dev.cor j)


/-! ### Network ports, classifier and shapers (11) -/


/-- Port and classifier commands (R239 to R241, R252, R259): enable and disable with preemption's state, MDIO operations one at a time, counters
cleared, the verify exchange, and the PHY interrupt pad.
Links (R237, R238, R248, R256): a link comes up at the speed its mode takes from the PHY, stays down where that speed is unsupported, and falls
with its queue of PTP frames, its frame in transmission and the copies that wait for it; the end of auto-negotiation takes it down where AN_EN is
set; a change of speed that leaves more admitted than reserved overcommits the port; one whose ENA is cleared is down once its last frame has left.
Where the spec leaves a point open, the clause is the model's choice: log entry 36. -/
def Obligations.PortsAndLinks : Prop :=
  (∀ (s : State) (g : Gal) (p : Port) (w : Word),
     let x := s.dev.netp p
     let y := fun (t : State) => t.dev.netp p
     let other := fun (t : State) => ∀ q, q ≠ p.val → t.dev.netp q = s.dev.netp q
     let netOnly := fun (t : State) => DevOnly s t ∧ other t ∧ t.dev = { s.dev with net := t.dev.net, evc := t.dev.evc, page := t.dev.page, lines := t.dev.lines }
     let op := fun (k : Nat) (t : State) => netOnly t ∧
       (x.mdio = none → y t = { x with mdio := some (mdioWord k w, s.dev.reg (.net p) 0x050) }) ∧
       (x.mdio ≠ none → y t = { x with drops := satInc x.drops 255 })
     (let v := setBit w 0 true
      canWrite s g (.net p) 0x040 v = true → Completes (.netEnable g p w) s fun t => DevOnly s t ∧ other t ∧ t.dev.reg (.net p) 0x040 = v ∧
       (y t).link = x.link ∧ (y t).cur = x.cur ∧
       (y t).preempt = if bitOf v 8 = false ∨ x.link = false then 0 else if x.preempt = 0 then (if bitOf v 9 then 2 else 1) else x.preempt) ∧
     (let v := setBit w 0 false
      canWrite s g (.net p) 0x040 v = true → Completes (.netDisable g p w) s fun t => t.root = s.root ∧ t.pending = s.pending ∧
       let ends := x.link = true ∧ (x.cur ≠ none ∨ s.root.ec < x.busyTo)
       t.dev.reg (.net p) 0x040 = v ∧
       (¬ends → (y t).pcsLock = false ∧ (y t).speedUnsup = false ∧ (x.pcsLock = true ∨ x.speedUnsup = true → (y t).link = false)) ∧
       RingsOnly s t ∧ ((∀ q ∈ s.dev.net.head, ∀ h, q.2 = some h → nbit h.ports p = false ∨ h.held = true) → t.mem = s.mem) ∧
       (ends → t.mem = s.mem ∧ (y t).link = true ∧ (y t).cur = x.cur ∧ (y t).pcsLock = x.pcsLock)) ∧
     (canWrite s g (.net p) 0x04C (mdioWord 0 w) = true → Completes (.mdioWrite g p w) s (op 0)) ∧
     (canWrite s g (.net p) 0x04C (mdioWord 1 w) = true → Completes (.mdioRead g p w) s (op 1)) ∧
     (canWrite s g (.net p) 0x04C (mdioWord 2 w) = true → Completes (.mdioReadInc g p w) s (op 2)) ∧
     (canWrite s g (.net p) 0x04C (mdioWord 3 w) = true → Completes (.mdioReservedOp g p w) s fun t => netOnly t ∧ y t = x) ∧
     (∀ (c v : Word) (data : Fin 65536), s.root.coreOn = true → x.mdio = some (c, v) → Completes (.mdioComplete p data) s fun t => netOnly t ∧
       y t = { x with mdio := none, rdata := if fld c 31 30 = 0 then x.rdata else data.val }) ∧
     (canWrite s g (.net p) 0x058 1 = true → Completes (.netClearCnt g p) s fun t => netOnly t ∧ y t = { x with cnt := [], rxErr := none }) ∧
     (canWrite s g .cls 0x044 1 = true → Completes (.clsClearCnt g) s fun t => DevOnly s t ∧ t.dev.net = { s.dev.net with clsCnt := [] }) ∧
     (canWrite s g (.net p) 0x058 2 = true → Completes (.netReverify g p) s fun t => netOnly t ∧
       let on := s.dev.rb (.net p) 0x040 8 = true ∧ x.link = true
       (on → (y t).preempt = (if s.dev.rb (.net p) 0x040 9 then 2 else 1) ∧ (y t).tries = 0) ∧ (¬on → y t = x)) ∧
     (s.root.coreOn = true → x.preempt = 1 → Completes (.preemptVerifyAnswer p) s fun t => netOnly t ∧ y t = { x with preempt := 2, tries := 0 }) ∧
     (s.root.coreOn = true → x.preempt = 1 → Completes (.preemptVerifyTimeout p) s fun t => netOnly t ∧
       y t = if 2 ≤ x.tries then { x with preempt := 3, tries := 0 } else { x with tries := x.tries + 1 }) ∧
     (∀ on, Completes (.phyIntChange p on) s fun t => DevOnly s t ∧ t.dev = { s.dev with phyPads := t.dev.phyPads, lines := t.dev.lines } ∧
       ∀ q, nbit t.dev.phyPads q = if q = p.val then on else nbit s.dev.phyPads q)) ∧
  (∀ (s : State) (p : Port) (sp : PhySpeed), s.root.coreOn = true →
     let x := s.dev.netp p
     let y := fun (t : State) => t.dev.netp p
     let kept := fun (t : State) => t.root = s.root ∧ t.pending = s.pending ∧ t.dev.regs = s.dev.regs
     let fell := fun (t : State) => kept t ∧ (y t).link = false ∧ RingsOnly s t ∧ (x.link = true → (y t).cur = none ∧ (y t).ptpQ = [] ∧ (y t).preempt = 0 ∧
       ∀ c h, s.dev.net.head = [(c, some h)] → h.held = false → h.ports = 2 ^ p.val → h.sent = 0 → t.dev.head c = none ∧ Discarded s t c h.pos h.len 4)
     let an := s.dev.rb (.net p) 0x040 6
     let off := s.dev.rb (.net p) 0x040 0 = false ∧ ¬(x.link = true ∧ (x.cur ≠ none ∨ s.root.ec < x.busyTo))
     (s.dev.rb (.net p) 0x040 0 = true → s.dev.rf (.net p) 0x040 2 1 ≠ 3 → x.link = false → Completes (.linkUp p sp) s fun t =>
       DevOnly s t ∧ (modeSpeed s.dev p sp = none → y t = { x with pcsLock := true, anDone := s.dev.rb (.net p) 0x040 6, localFault := false,
                                                                   remoteFault := false, speedUnsup := true }) ∧
       ∀ v, modeSpeed s.dev p sp = some v → (y t).link = true ∧ (y t).speed = v ∧ (y t).pcsLock = true ∧ (y t).speedUnsup = false ∧ (y t).cur = x.cur) ∧
     (x.pcsLock = true → Completes (.linkDown p .lock) s fun t => fell t ∧ (y t).pcsLock = false ∧ (y t).anDone = false) ∧
     (x.pcsLock = true → an = true → Completes (.linkDown p .autoNeg) s fun t => fell t ∧ (y t).anDone = false) ∧
     (x.pcsLock = false ∨ an = false → ¬off → Completes (.linkDown p .autoNeg) s fun t =>
       DevOnly s t ∧ t.dev = { s.dev with page := t.dev.page, lines := t.dev.lines }) ∧
     (x.pcsLock = true → Completes (.linkDown p .localFault) s fun t => fell t ∧ (¬off → (y t).localFault = true)) ∧
     (x.pcsLock = true → Completes (.linkDown p .remoteFault) s fun t => fell t ∧ (¬off → (y t).remoteFault = true)) ∧
     (x.pcsLock = false → Completes (.linkDown p .lock) s fun t => kept t ∧ (y t).pcsLock = false) ∧
     (x.link = true → x.pcsLock = true → Completes (.linkSpeedChange p sp) s fun t => (off → fell t ∧ (y t).pcsLock = false) ∧
       (¬off → modeSpeed s.dev p sp = none → fell t ∧ (y t).speedUnsup = true) ∧
       ∀ v, ¬off → modeSpeed s.dev p sp = some v → kept t ∧ t.mem = s.mem ∧ (y t).link = true ∧ (y t).speed = v ∧
         (flightMbps t.dev p ≠ flightMbps s.dev p → ((y t).overcommit = true ↔ reservation t.dev p < admittedRate t.dev p))))

/-- Frames received (R241, R242, R252): the first check that fails discards a frame and counts it; one that passes is counted with its length and is
claimed by an engine, by a flow entry, by an interface, by the port's default, or by none, in that order.
Where the spec leaves a point open, the clause is the model's choice: log entry 36. -/
def Obligations.FramesAreClassified : Prop :=
  ∀ (s : State) (p : Port) (l : List Byte) (pcsOk fcsOk fragOk preempted : Bool), s.root.coreOn = true →
    Completes (.frameReceive p l pcsOk fcsOk fragOk preempted) s fun t =>
      let d := s.dev
      let x := d.netp p
      let len := l.length + 4
      let e := parseEth l
      let off := d.rb (.net p) 0x040 0 = false ∧ (x.pcsLock = true ∨ x.speedUnsup = true) ∧ ¬(x.link = true ∧ (x.cur ≠ none ∨ s.root.ec < x.busyTo))
      let lost := x.link = false ∨ preempted = true ∧ x.preempt = 0
      let inj := injects (.net p) 1 d || (List.range 2).any fun n => ptpPort d n == p.val && (ptpFrame l).isSome && injects (.ptp n) 0 d
      let fails := macFail d p len l pcsOk (fcsOk && !inj) fragOk
      let engine := (ptpFrame l).bind fun m => (List.range 2).find? fun n => ptpPort d n == p.val && engineTakes d n m
      let claim := if engine.isSome then 0 else if (flowFind d p e).isSome then 1
        else if vifTakes s.root d p e false ≠ [] ∨ vifTakes s.root d p e true ≠ [] then 2 else if d.rb .cls 0x040 (8 + 16 * p) then 3 else 4
      t.root = s.root ∧ t.pending = s.pending ∧
      (off → (t.dev.netp p).link = false ∧ (t.dev.netp p).pcsLock = false ∧ t.dev.net.clsCnt = d.net.clsCnt) ∧
      (¬off → lost → t.mem = s.mem ∧ t.dev.net = d.net) ∧
      (∀ k, ¬off → ¬lost → fails = some k → t.mem = s.mem ∧ nget (t.dev.netp p).cnt k = (nget x.cnt k + 1) % 2 ^ 32 ∧
        (∀ j, j ≠ k → nget (t.dev.netp p).cnt j = nget x.cnt j) ∧ t.dev.net.clsCnt = d.net.clsCnt) ∧
      (¬off → ¬lost → fails = none → nget (t.dev.netp p).cnt 0 = (nget x.cnt 0 + 1) % 2 ^ 32 ∧ nget (t.dev.netp p).cnt 7 = (nget x.cnt 7 + len) % 2 ^ 32 ∧
        nget t.dev.net.clsCnt claim = (nget d.net.clsCnt claim + 1) % 2 ^ 32 ∧
        (claim = 0 ∨ claim = 4 → t.mem = s.mem ∧ ∀ c, t.dev.cor c = d.cor c) ∧ (claim ≠ 0 → claim ≠ 1 → t.dev.ptp = d.ptp ∧ t.dev.rx = d.rx))

/-- OUT corridors (R232, R234, R248, R249, R255): the record at RD becomes the head with its frame, waits when held, and is passed when it is
discarded, STATUS and the cause then standing in its header; a head that stalls is discarded unless a copy has left; a closing corridor discards the
rest and gives up its treads once nothing of it is on the line and the stamps of a record that has left stand.
Where the spec leaves a point open, the clause is the model's choice: log entry 36. -/
def Obligations.OutRecords : Prop :=
  ∀ (s : State) (c : Fin 256), s.root.coreOn = true →
    let d := s.dev
    let x := d.cor c
    let kept := fun (t : State) => t.root = s.root ∧ t.pending = s.pending ∧ t.dev.regs = d.regs ∧ (∀ j, j ≠ c.val → t.dev.cor j = d.cor j) ∧
      ∀ a, (∀ off, physAt d (consCor c) off ≠ some a) → memByte t.mem a = memByte s.mem a
    let passed := fun (t : State) (rd n : Nat) => t.dev.head c = none ∧ (t.dev.cor c).rd = (rd + recSize n) % 2 ^ 32 ∧ (t.dev.cor c).rel = (t.dev.cor c).rd
    (∀ v, x.st = .active → x.out = true → d.head c = none → vifOf d c = some v → Completes (.outRecordConsume c) s fun t =>
      let rd := if headWord s.mem d c (x.rd % x.len) / 2 ^ 48 = 0xFFFF then (x.rd + x.len - x.rd % x.len) % 2 ^ 32 else x.rd
      let pos := rd % x.len
      let h := headWord s.mem d c pos
      let len := h / 2 ^ 48
      let stamp := nbit h 1
      let l := (lndRead s.root s.mem (consCor c) (pos + 8) len d).1
      let o : OutHead :=
        { pos := pos, len := len, vif := v, stamp := stamp, ecc := (wordsOf d (consCor c) pos (recSize len)).any (wordBad d),
          frame := outFrame s.root d v (if stamp then l.drop 32 else l), held := nbit h 0, elig := s.root.ec, ports := headPorts d (h % 65536) v }
      let up := ∃ p ∈ portsOf o.ports, (d.netp p).link = true
      let here := fun (n : Nat) => t.mem = s.mem ∧ t.dev.head c = some { o with ports := n } ∧ t.dev.cor c = { x with rd := rd }
      kept t ∧ (len = 0 ∨ len = 0xFFFF → t.mem = s.mem ∧ t.dev.head c = none ∧ t.dev.cor c = { x with rd := rd }) ∧
      (0 < len → len < 0xFFFF → o.held = true → here o.ports) ∧
      (0 < len → len < 0xFFFF → o.held = false → headCause d o = 0 → up → ∃ n, here n ∧ ∀ p, nbit n p = (nbit o.ports p && (d.netp p).link)) ∧
      (0 < len → len < 0xFFFF → o.held = false → headCause d o ≠ 0 → inFlight d c = false → passed t rd len ∧ Discarded s t c pos len (headCause d o)) ∧
      (0 < len → len < 0xFFFF → o.held = false → headCause d o = 0 → ¬up → passed t rd len ∧ Discarded s t c pos len 4)) ∧
    (x.st ≠ .active ∨ x.out = false ∨ d.head c = none ∧ vifOf d c = none ∨ (∃ h, d.head c = some h ∧ h.held = true) →
      Completes (.outRecordConsume c) s fun t => kept t ∧ t.mem = s.mem ∧ t.dev.head c = d.head c ∧ t.dev.cor c = x) ∧
    (∀ (p : Port) (h : OutHead), d.head c = some h →
      let late := h.held = false ∧ nbit h.ports p = true ∧ onLine d p c = false ∧ shp d p 0 31 16 ≠ 0 ∧ h.elig + shp d p 0 31 16 * 256000000 ≤ s.root.ec
      let other := h.sent ≠ 0 ∨ inFlight d c = true
      Completes (.galleryFrameStall p c) s fun t => kept t ∧
        (late → (t.dev.netp p).stalls = satInc (d.netp p).stalls 255) ∧ (late → ¬other → passed t x.rd h.len ∧ Discarded s t c h.pos h.len 5) ∧
        (late → h.sent ≠ 0 → nset h.ports p false = 0 → h.stamped = true → passed t x.rd h.len ∧ RecordDone s t c h) ∧
        (late → other → nset h.ports p false ≠ 0 → t.mem = s.mem ∧ t.dev.head c = some { h with ports := nset h.ports p false } ∧ t.dev.cor c = x) ∧
        (¬late → t.mem = s.mem ∧ t.dev.head c = some h ∧ t.dev.cor c = x ∧ (t.dev.netp p).stalls = (d.netp p).stalls)) ∧
    (x.st = .closing → inFlight d c = false →
      let awaits := x.out = true ∧ ∃ h, d.head c = some h ∧ h.sent ≠ 0 ∧ h.stamped = false
      Completes (.corridorCloseComplete c) s fun t => kept t ∧
        (awaits → t.mem = s.mem ∧ t.dev.lnd = d.lnd ∧ t.dev.head c ≠ none) ∧
        (x.out = false → t.mem = s.mem) ∧
        (x.out = true → (∀ h, d.head c = some h → h.sent = 0) →
          let pos := x.rd % x.len
          let len := headWord s.mem d c pos / 2 ^ 48
          (len = 0 → t.mem = s.mem) ∧
          (0 < len → len < 0xFFFF → headWord s.mem d c ((x.rd + recSize len) % 2 ^ 32 % x.len) / 2 ^ 48 = 0 → Discarded s t c pos len 6)) ∧
        (¬awaits → t.dev.ext (consCor c) = {} ∧ t.dev.lnd.zeroing = d.lnd.zeroing ++ (d.ext (consCor c)).treads ∧ (x.out = true → t.dev.head c = none) ∧
          (t.dev.cor c).st = if bitOf x.cfg 31 then .admitting else .idle)) ∧
    (x.st ≠ .closing ∨ inFlight d c = true → Completes (.corridorCloseComplete c) s fun t => kept t ∧ t.mem = s.mem ∧ t.dev.lnd = d.lnd)

/-- The line (R248, R250 to R254): on a free line a PTP frame goes first, then the head frame that the gates and the credit let pass, if it ends in time;
a preempted frame is resumed with its
rest, a frame that has ended is counted for its queue, and its record is completed once no port is left to send on and its stamps stand; the gates are those of the present AT.
Where the spec leaves a point open, the clause is the model's choice: log entry 36. -/
def Obligations.GalleryFrames : Prop :=
  ∀ (s : State) (p : Port), s.root.coreOn = true →
    let r := s.root
    let d := reckon r p s.dev
    let x := s.dev.netp p
    let y := fun (t : State) => t.dev.netp p
    let free := x.link = true ∧ x.busyTo ≤ r.ec ∧ x.cur = none ∧ s.dev.rb (.net p) 0x040 0 = true
    let other := fun (t : State) => DevOnly s t ∧ (∀ q, q ≠ p.val → t.dev.netp q = s.dev.netp q) ∧ ∀ c, t.dev.cor c = s.dev.cor c
    let noPtp := ∀ m q, x.ptpQ = m :: q → endsBy r d p (ptpWire r d p m + 20) none = false
    (∀ m q, free → x.ptpQ = m :: q → endsBy r d p (ptpWire r d p m + 20) none = true → Completes (.galleryFrameStart p) s fun t =>
      other t ∧ (y t).ptpQ = q ∧ (y t).cur = none ∧ (y t).busyTo = r.ec + byteUnits d p (ptpWire r d p m + 20) ∧
      nget (y t).cnt 8 = (nget x.cnt 8 + 1) % 2 ^ 32 ∧ nget (y t).cnt 9 = nget x.cnt 9 ∧
      ∃ ts, (y t).lastTx = some (ptpBytes r d p { m with ts := ts }, injects (.net p) 0 s.dev) ∧ (m.oneStep = false → ts = m.ts)) ∧
    (∀ c h q n, free → noPtp → nextHead r d p = some (c, h, q) →
      mayStart r d p (max 64 (h.frame.length + 4)) (minFrag d p) (gateClose d p q 70 (d.atNow r)) = some n → Completes (.galleryFrameStart p) s fun t =>
        let left := max 64 (h.frame.length + 4)
        let wire := byteUnits d p (n + (if n = left then 20 else 24))
        other t ∧ (y t).cur = some { cor := c, q := q, left := left, start := r.ec, data := n, done := r.ec + wire, mf := minFrag d p } ∧
        (y t).busyTo = r.ec + wire ∧ (y t).ptpQ = x.ptpQ ∧ (y t).awaitTx = x.awaitTx ++ [.gallery c]) ∧
    (free → noPtp → (∀ c h q, nextHead r d p = some (c, h, q) →
        mayStart r d p (max 64 (h.frame.length + 4)) (minFrag d p) (gateClose d p q 70 (d.atNow r)) = none) → Completes (.galleryFrameStart p) s fun t =>
      other t ∧ (y t).cur = none ∧ (y t).busyTo = x.busyTo ∧ (y t).ptpQ = x.ptpQ) ∧
    (∀ z n, x.link = true → x.busyTo ≤ r.ec → x.cur = some z → z.data = 0 → noPtp → mayStart r d p z.left z.mf (gateClose d p z.q 70 (d.atNow r)) = some n →
      Completes (.galleryFrameStart p) s fun t =>
        let wire := byteUnits d p (n + (if n = z.left then 20 else 24))
        other t ∧ (y t).cur = some { z with start := r.ec, data := n, done := r.ec + wire } ∧ (y t).busyTo = r.ec + wire ∧ (y t).awaitTx = x.awaitTx) ∧
    (∀ z, x.cur = some z → z.data ≠ 0 → z.data ≠ z.left → z.done ≤ r.ec → Completes (.galleryFrameStart p) s fun t =>
      t.root = r ∧ t.pending = s.pending ∧ nget (y t).cnt 10 = (nget x.cnt 10 + 1) % 2 ^ 32 ∧
      ∃ u, (y t).cur = some u ∧ u.cor = z.cor ∧ u.q = z.q ∧ u.left = z.left - z.data) ∧
    (∀ z k, x.cur = some z → x.preempt = 2 → x.ptpQ ≠ [] → r.ec < z.done →
      let fits := fun (k : Nat) => z.start + byteUnits d p (8 * k + 24) ≤ r.ec ∧ z.mf ≤ 8 * k ∧ 8 * k + 64 ≤ z.left ∧ 8 * k < z.data
      fits k → (∀ j, fits j → j ≤ k) → Completes (.galleryFrameStart p) s fun t =>
        t.root = r ∧ t.pending = s.pending ∧ nget (y t).cnt 10 = (nget x.cnt 10 + 1) % 2 ^ 32 ∧
        ∃ u, (y t).cur = some u ∧ u.cor = z.cor ∧ u.q = z.q ∧ u.left = z.left - 8 * k) ∧
    (∀ z, x.cur = some z → z.data = z.left → z.done ≤ r.ec → Completes (.galleryFrameDone p) s fun t =>
      t.root = r ∧ t.pending = s.pending ∧ (y t).cur = none ∧ nget (y t).qcnt z.q = (nget x.qcnt z.q + 1) % 2 ^ 32 ∧
      nget (y t).cnt 9 = (nget x.cnt 9 + 1) % 2 ^ 32 ∧ (s.dev.rb (.net p) 0x040 0 = true → (y t).link = x.link) ∧
      (s.dev.rb (.net p) 0x040 0 = false → x.pcsLock = true → x.busyTo ≤ r.ec → (y t).link = false) ∧
      (∀ h, s.dev.head z.cor = some h → (y t).lastTx = some (padFrame h.frame, injects (.net p) 0 s.dev)) ∧
      ∀ h, s.dev.head z.cor = some h → h.ports = 2 ^ p.val → { h with sent := nset h.sent p true : OutHead }.stamped = true →
        t.dev.head z.cor = none ∧ (s.dev.rb (.net p) 0x040 0 = true → RecordDone s t z.cor h) ∧ (t.dev.cor z.cor).rd = ((s.dev.cor z.cor).rd + recSize h.len) % 2 ^ 32) ∧
    ((∀ z, x.cur = some z → z.data ≠ z.left ∨ r.ec < z.done) → Completes (.galleryFrameDone p) s fun t => other t ∧ (y t).cur = x.cur) ∧
    Completes (.gateEntryAdvance p) s (fun t => other t ∧ (y t).gateEntry = (gateAt s.dev p (s.dev.atNow r)).1 ∧
      (y t).gateOpen = (gateAt s.dev p (s.dev.atNow r)).2.1 ∧ (y t).cur = x.cur)


/-! ### Transmit streams (12) -/

/-- Commits of a stream's entry and strobes of TXE.CMD (R268, R272, R280, R281): an enable starts an admission, a disable drains, other structural
fields drain and admit again, the same fields keep the stream running and its live fields act at once, SEQ_INIT while no frame has been built; in QUIET
a commit acts on the return. AUTO phases are computed anew and counters cleared for the owner.
Where the spec leaves a point open, the clause is the model's choice: log entries 3, 11 and 32. -/
def Obligations.TxStreamControl : Prop :=
  ∀ (s : State) (g : Gal) (n : Fin 1024) (w : Word),
    let x := s.dev.txn n
    let y := fun (t : State) => t.dev.txn n
    let words := fun (v : Word) => (commitWords s.dev g .txs n v).take 12
    let same := fun (v : Word) => txKey (words v) = txKey x.adm
    let live := fun (v : Word) => if x.unsent then words v else (words v).take 1 ++ wd (fld ((words v).getD 1 0) 31 16 * 65536 + x.af 1 15 0) :: (words v).drop 2
    let adm := fun (v : Word) => if same v then live v else x.adm
    let moved := fun (v : Word) => if same v ∧ x.adm.getD 2 0 ≠ (live v).getD 2 0 then s.root.ec else x.moved
    let asked := fun (t : State) => y t = x ∧ t.dev.lnd = s.dev.lnd ∧
      t.dev.owed = if s.dev.owed.contains (.tx g n) then s.dev.owed else s.dev.owed ++ [.tx g n]
    let frame := fun (t : State) => DevOnly s t ∧ ∀ m, m ≠ n.val → t.dev.txn m = s.dev.txn m
    let took := fun (t : State) (v : Word) => frame t ∧ txWords t.dev n = words v ∧ ∀ m < 1024, m ≠ n.val → ∀ i < 12, t.dev.tw .txs m i = s.dev.tw .txs m i
    let on := fun (v : Word) (t : State) => took t v ∧ (s.root.power = .quiet → asked t) ∧ (s.root.power ≠ .quiet → t.dev.owed = s.dev.owed ∧
      ((x.st = 0 ∨ x.st = 4) → (y t).st = 1 ∧ (y t).adm = words v ∧ (y t).g = g ∧ (y t).quit = false ∧ (t.dev.lnd.admitQ.any fun a => a.cons == consTx n && a.g == g.val) = true) ∧
      (x.st = 1 → y t = { x with adm := adm v, moved := moved v }) ∧
      (x.st = 2 → same v → (y t).st = 2 ∧ (y t).adm = live v ∧ (y t).next = x.next ∧ (y t).f0 = x.f0 ∧ (y t).readmit = x.readmit) ∧
      (x.st = 2 → ¬same v → (y t).st = 3 ∧ (y t).readmit = true ∧ (y t).g = g ∧ (y t).adm = x.adm) ∧
      (x.st = 3 → same v → (y t).st = 2 ∧ (y t).adm = live v ∧ (y t).readmit = false) ∧
      (x.st = 3 → ¬same v → (y t).st = 3 ∧ (y t).readmit = true ∧ (y t).g = g ∧ (y t).adm = x.adm))
    (canCommit s g .txs n (setBit w 31 true) = true → Completes (.txStreamEnable g n w) s (on (setBit w 31 true))) ∧
    (canCommit s g .txs n (setBit w 31 true) = true → Completes (.txStreamRestructure g n w) s (on (setBit w 31 true))) ∧
    (let v := setBit w 31 false
     canCommit s g .txs n v = true → Completes (.txStreamDisable g n w) s fun t => took t v ∧ (s.root.power = .quiet → asked t) ∧ (s.root.power ≠ .quiet → t.dev.owed = s.dev.owed ∧
      (x.st = 2 → (y t).st = 3 ∧ (y t).readmit = x.readmit ∧ (y t).adm = adm v) ∧
      (x.st = 3 → y t = { x with readmit := false, adm := adm v, moved := moved v }) ∧
      (x.st = 1 → y t = { x with adm := adm v, moved := moved v, quit := true }) ∧ (x.st ≠ 1 → x.st ≠ 2 → x.st ≠ 3 → y t = x))) ∧
    (canWrite s g .txe 0x048 (wd (2 ^ 31 + n)) = true → Completes (.txeRetime g n) s fun t => frame t ∧ t.dev.txe = s.dev.txe ∧ (y t).st = x.st ∧
      (owner s.root s.dev .txStream (n / 16) ≠ g ∨ x.carries = false ∨ x.auto = false → y t = x) ∧
      (owner s.root s.dev .txStream (n / 16) = g → x.carries = true → x.auto = true → ∀ p ∈ x.ports, ∀ v, (requiredPhase s.dev x p).1 = some v →
        (y t).phaseOf p = (v - 2048 / 5).floor)) ∧
    (canWrite s g .txe 0x048 (wd (2 ^ 30 + n)) = true → Completes (.txeClearCnt g n) s fun t => frame t ∧ t.dev.txe = s.dev.txe ∧
      y t = if owner s.root s.dev .txStream (n / 16) = g then { x with notReady := 0, skipped := 0 } else x)

/-- Frames of a stream and the ends of its admission and its drain (R269, R274 to R280): a frame that may start leaves, the port is busy to its end
its stamp is awaited, and a second copy fills no sample anew; on a dead link, behind the time gate, or past its window it is skipped and counted.
Where the spec leaves a point open, the clause is the model's choice: log entry 32. -/
def Obligations.TxFrames : Prop :=
  ∀ (s : State) (p : Port) (n : Fin 1024), s.root.running = true →
    let d := s.dev
    let r := s.root
    let x := d.txn n
    let y := fun (t : State) => t.dev.txn n
    let frame := fun (t : State) => DevOnly s t ∧ ∀ m, m ≠ n.val → t.dev.txn m = d.txn m
    let gone := fun (t : State) => (y t).nextOf p = x.nextOf p + 1 ∧ (∀ q, q ≠ p.val → (y t).nextOf q = x.nextOf q) ∧ (y t).st = x.st
    let linkSkip := fun (t : State) => gone t ∧ nget t.dev.txe.linkSkip p = satInc (nget d.txe.linkSkip p) 0xFFFF ∧ t.dev.net = d.net
    let skip := fun (t : State) => gone t ∧ (y t).skipped = satInc x.skipped 0xFFFF ∧ t.dev.txe.skipped = (d.txe.skipped + 1) % 2 ^ 32 ∧ t.dev.net = d.net
    (∀ start, start ≤ r.ec → txDue d p n (d.tb.at'.val start) = true → Completes (.txFrameLaunch p n start) s fun t => frame t ∧
      (portUp d p = false → linkSkip t) ∧
      (portUp d p = true → mayLaunch d p n start = false → y t = x ∧ t.dev.net = d.net) ∧
      (portUp d p = true → mayLaunch d p n start = true → gone t ∧
        (t.dev.netp p).busyTo = start + (byteTime d p (x.frameLen + 20)).ceil.toNat ∧
        (x.built.any (fun b => b.f == x.nextOf p) = true → (y t).notReady = x.notReady ∧ t.dev.txe.notReady = d.txe.notReady) ∧
        (t.dev.netp p).awaitTx = (d.netp p).awaitTx ++ [.audio n (launchAt d x p (x.nextOf p))] ∧
        nget (t.dev.netp p).cnt 8 = (nget (d.netp p).cnt 8 + 1) % 2 ^ 32 ∧ nget (t.dev.netp p).cnt 11 = (nget (d.netp p).cnt 11 + x.frameLen) % 2 ^ 32)) ∧
    (txDue d p n (d.atNow r) = true → Completes (.txFrameSkip p n) s fun t => frame t ∧
      (portUp d p = false → linkSkip t) ∧
      (portUp d p = true → (timeGated d x = true ∨ beforeClose d x p (x.nextOf p) (d.atNow r) = false) → skip t) ∧
      (portUp d p = true → timeGated d x = false → beforeClose d x p (x.nextOf p) (d.atNow r) = true → t = s)) ∧
    (txDue d p n (d.atNow r) = false → Completes (.txFrameSkip p n) s fun t => t = s) ∧
    (∀ start, r.ec < start ∨ txDue d p n (d.tb.at'.val start) = false → Completes (.txFrameLaunch p n start) s fun t => frame t ∧ y t = x ∧ t.dev.net = d.net) ∧
    (x.st ≠ 3 ∨ x.ports.all x.faded = false ∨ r.ec < x.offWire → Completes (.txDrainComplete n) s fun t => t = s) ∧
    (x.st = 3 → x.ports.all x.faded = true → x.offWire ≤ r.ec →
      Completes (.txDrainComplete n) s fun t => frame t ∧ t.dev.ext (consTx n) = {} ∧
        t.dev.lnd.zeroing = d.lnd.zeroing ++ (d.ext (consTx n)).treads ∧
        (y t).st = if x.readmit = true ∧ d.tf .txs n 0 31 31 = 1 then 1 else 0) ∧
    (∀ e q, d.lnd.admitQ = e :: q → e.cons = consTx n → freeCount d ≥ (txReq r d x).treads ∨ freeCount d + d.lnd.zeroing.length < (txReq r d x).treads →
      Completes .admissionComplete s fun t => frame t ∧
        let why := txReason r d x
        (why ≠ 0 → t.dev.lnd.admitQ = q ∧ (y t).st = 4 ∧ (y t).reason = why ∧ t.dev.txe.lastS = n.val ∧ t.dev.txe.lastG = x.g ∧ t.dev.txe.lastR = why ∧
          t.dev.lnd.free = d.lnd.free) ∧
        (why = 0 → d.tf .txs n 0 31 31 = 1 → x.quit = false → t.dev.lnd.admitQ = q ∧ (y t).st = 2 ∧ (y t).adm = x.adm ∧ (y t).f0 = firstFrame r d x.spp ∧
          (∀ m, (y t).nextOf m = firstFrame r d x.spp) ∧ (t.dev.ext (consTx n)).treads.length = (txReq r d x).treads) ∧
        (why = 0 → (d.tf .txs n 0 31 31 = 0 ∨ x.quit = true) → t.dev.lnd.admitQ = q ∧ (y t).st = 0 ∧ t.dev.ext (consTx n) = {}))


/-! ### Receive streams (13) -/

/-- Commits of a receive stream's entry and the clear of its counters (R302, R303, R305): an enable starts an admission, a disable drains, other structural
fields drain and admit again, with the same ones the live fields are in force; in QUIET a commit acts on the return.
Where the spec leaves a point open, the clause is the model's choice: log entries 11 and 33. -/
def Obligations.RxStreamControl : Prop :=
  ∀ (s : State) (g : Gal) (n : Fin 1024) (w : Word),
    let x := s.dev.rxn n
    let y := fun (t : State) => t.dev.rxn n
    let words := fun (v : Word) => (commitWords s.dev g .rxs n v).take 6
    let same := fun (v : Word) => rxKey (words v) = rxKey x.adm
    let frame := fun (t : State) => DevOnly s t ∧ ∀ m, m ≠ n.val → t.dev.rxn m = s.dev.rxn m
    let took := fun (t : State) (v : Word) => frame t ∧ rxWords t.dev n = words v ∧ ∀ m < 1024, m ≠ n.val → ∀ i < 6, t.dev.tw .rxs m i = s.dev.tw .rxs m i
    let ent := fun (v : Word) => if same v then words v else x.ent
    let asked := fun (t : State) => y t = x ∧ t.dev.lnd = s.dev.lnd ∧
      t.dev.owed = if s.dev.owed.contains (.rx g n) then s.dev.owed else s.dev.owed ++ [.rx g n]
    let on := fun (v : Word) (t : State) => took t v ∧ (s.root.power = .quiet → asked t) ∧ (s.root.power ≠ .quiet → t.dev.owed = s.dev.owed ∧
      ((x.st = 0 ∨ x.st = 4) → y t = { x with st := 1, adm := words v, ent := words v, g := g, readmit := false, quit := false } ∧
        (t.dev.lnd.admitQ.any fun a => a.cons == consRx n && a.g == g.val) = true) ∧
      (x.st = 1 → y t = { x with ent := ent v }) ∧ (x.st = 2 → same v → y t = { x with ent := words v }) ∧
      (x.st = 2 → ¬same v → (y t).st = 3 ∧ (y t).readmit = true ∧ (y t).g = g ∧ (y t).adm = x.adm ∧ (y t).ent = x.ent) ∧
      (x.st = 3 → same v → (y t).st = 2 ∧ (y t).readmit = false ∧ (y t).ent = words v) ∧
      (x.st = 3 → ¬same v → y t = { x with readmit := true, g := g }))
    (canCommit s g .rxs n (setBit w 31 true) = true → Completes (.rxStreamEnable g n w) s (on (setBit w 31 true))) ∧
    (canCommit s g .rxs n (setBit w 31 true) = true → Completes (.rxStreamRestructure g n w) s (on (setBit w 31 true))) ∧
    (let v := setBit w 31 false
     canCommit s g .rxs n v = true → Completes (.rxStreamDisable g n w) s fun t => took t v ∧ (s.root.power = .quiet → asked t) ∧ (s.root.power ≠ .quiet → t.dev.owed = s.dev.owed ∧
      (x.st = 1 → y t = { x with quit := true, ent := ent v }) ∧ (x.st = 2 → y t = { x with st := 3, fade := (y t).fade, ent := ent v }) ∧
      (x.st = 3 → y t = { x with readmit := false, ent := ent v }) ∧ (x.st ≠ 1 → x.st ≠ 2 → x.st ≠ 3 → y t = x))) ∧
    (canWrite s g .rxe 0x048 (wd (2 ^ 31 + n)) = true → Completes (.rxeClearCnt g n) s fun t => frame t ∧ t.dev.rxe = s.dev.rxe ∧
      y t = if owner s.root s.dev .rxStream (n / 16) = g then
          { x with transit := [], taken := [], gap := [], late := 0, early := 0, lost := 0, dup := 0, formErr := 0, concealed := 0, margin := [] }
        else x)

/-- Presentation and what follows it (R291 to R298, R301, R302): a period whose slot is filled is presented, one that is not is concealed and
counted; flow stops after DEPTH whole periods without a copy; NA windows close; a drained stream gives up its treads; an admission ends.
Where the spec leaves a point open, the clause is the model's choice: log entry 33. -/
def Obligations.RxStreams : Prop :=
  ∀ (s : State) (n : Fin 1024), s.root.running = true →
    let d := s.dev
    let r := s.root
    let x := d.rxn n
    let y := fun (t : State) => t.dev.rxn n
    let frame := fun (t : State) => DevOnly s t ∧ ∀ m, m ≠ n.val → t.dev.rxn m = d.rxn m
    let k := periodNow r d
    let pk := bNow d k + ((x.ports.map fun p => rxPipe d p * nsUnits).foldl max 0 : Nat)
    let stops := x.flowing = true ∧ x.depth < rxIdleNow r d x
    let flows := x.flowing && !decide stops
    let slot := (x.slots.find? fun z => z.k == k && !z.used).filter fun _ => flows
    let shown : Int := (x.shown.map (·.1)).getD 0
    (x.carries = true → newPeriod d x.shown k = true → pk ≤ d.atNow r → Completes (.rxPresent n) s fun t => frame t ∧
      (y t).shown = some (k, d.tb.run) ∧ (y t).pres = x.pres + 1 ∧ (y t).idle = rxIdleNow r d x ∧ (y t).st = x.st ∧ (y t).flowing = flows ∧
      (∀ z ∈ (y t).slots, k ≤ z.k ∧ (z.k = k → z.used = true)) ∧
      (∀ z, slot = some z → (y t).run = 0 ∧ (y t).concealed = x.concealed ∧ (y t).lost = x.lost ∧
        ∀ i < z.ws.length, ((lget t.dev.chan (x.first + i)).head?.map fun q => (q.k, q.rdy)) = some (k, pk)) ∧
      (slot = none → (y t).run = x.run + 1 ∧ (y t).concealed = (if flows then satInc x.concealed 0xFFFF else x.concealed) ∧
        (y t).lost = (if flows = true ∧ x.run = 0 then satInc x.lost 0xFFFF else x.lost) ∧
        ∀ i < x.n, (lget t.dev.chan (x.first + i)).head? =
          some ⟨k, drainWord (x.st == 3) true (x.fade.at x.pres) (if flows then concealWord x.spp (x.run + 1) (x.good.getD i 0) else zeroV), pk⟩)) ∧
    (x.carries = false ∨ newPeriod d x.shown k = false ∨ d.atNow r < pk → Completes (.rxPresent n) s fun t => frame t ∧ y t = { x with flowing := flows }) ∧
    (stops → Completes (.rxFlowStop n) s fun t => frame t ∧ y t = { x with flowing := false }) ∧
    (¬stops → Completes (.rxFlowStop n) s fun t => t = s) ∧
    (∀ j : Fin 32, Completes (.naHoldExpiry n j) s fun t => frame t ∧
      lget (y t).match' j = (lget x.match' j).filter (fun m => shown < m + naHold d n) ∧ (∀ i, i ≠ j.val → lget (y t).match' i = lget x.match' i) ∧
      (y t).naActive = (x.naWord || (List.range 32).any fun i => naWindow t.dev n i shown)) ∧
    (x.st ≠ 3 ∨ (x.pres : Int) - 1 < x.fade.k ∨ x.fade.at ((x.pres : Int) - 1) ≠ 0 → Completes (.rxDrainComplete n) s fun t => t = s) ∧
    (x.st = 3 → x.fade.k ≤ (x.pres : Int) - 1 → x.fade.at ((x.pres : Int) - 1) = 0 → Completes (.rxDrainComplete n) s fun t => frame t ∧
      t.dev.ext (consRx n) = {} ∧ t.dev.lnd.zeroing = d.lnd.zeroing ++ (d.ext (consRx n)).treads ∧ (y t).flowing = false ∧ (y t).naActive = false ∧
      (y t).slots = [] ∧ (y t).st = if x.readmit = true ∧ d.tf .rxs n 0 31 31 = 1 then 1 else 0) ∧
    (∀ e q, let need := cdiv (x.n * x.depth * 4) 512
      d.lnd.admitQ = e :: q → e.cons = consRx n → freeCount d ≥ need ∨ freeCount d + d.lnd.zeroing.length < need →
      Completes .admissionComplete s fun t => frame t ∧
        let why := rxReason r n d
        (why ≠ 0 → t.dev.lnd.admitQ = q ∧ y t = { x with st := 4, reason := why } ∧ t.dev.rxe.lastS = n.val ∧ t.dev.rxe.lastG = x.g ∧
          t.dev.rxe.lastR = why ∧ t.dev.lnd.free = d.lnd.free) ∧
        (why = 0 → d.tf .rxs n 0 31 31 = 1 → x.quit = false → t.dev.lnd.admitQ = q ∧
          y t = { st := 2, adm := x.adm, ent := x.ent, g := x.g, lastSeq := x.lastSeq, transit := x.transit, shown := some (k, d.tb.run) } ∧
          (t.dev.ext (consRx n)).treads.length = need) ∧
        (why = 0 → (d.tf .rxs n 0 31 31 = 0 ∨ x.quit = true) → t.dev.lnd.admitQ = q ∧ (y t).st = 0 ∧ t.dev.ext (consRx n) = {}))


/-! ### The route engine (14) -/


/-- Evaluation, swaps and crossfades (R225, R307 to R309, R311, R313 to R315): a period is evaluated once it has begun, after the swap due at its
boundary; each destination mixes its contributions but those of its valid routes past the eighth, once their sources have supplied the period, and a
host-read buffer's slot gets the words of its channels; a pending swap changes banks at its boundary or is refused there; a crossfade ends when every
ramp has.
RTE.CMD and RTE.RATE (R311 to R313, R318): a commit waits for the next boundary unless one is pending, a check writes the verdict, the rate
changes only while nothing is enabled; a live entry acts at once, one of the staged bank does not.
Where the spec leaves a point open, the clause is the model's choice: log entries 26 and 34. -/
def Obligations.RouteEngine : Prop :=
  (∀ s : State, s.root.running = true →
     let d := s.dev
     let r := s.root
     let k := evalNext r d
     let x := d.rte
     let idle := d.rte.hist.filter (·.waits) = []
     let others := fun (t : State) => t.root = r ∧ t.pending = s.pending ∧ t.dev.regs = d.regs ∧ t.dev.tb = d.tb
     (d.atNow r < bNow d k → Completes .routeEvaluation s fun t => others t ∧ BuffersOnly s t ∧
       t.dev.rte = { x with sat := t.dev.rte.sat, hist := t.dev.rte.hist } ∧ (idle → t.mem = s.mem ∧ t.dev.rte = x)) ∧
     (bNow d k ≤ d.atNow r → Completes .routeEvaluation s fun t => others t ∧ BuffersOnly s t ∧
       let d0 := routeSwap r (fadeEnd r d)
       let stepped := fun (c : Contr) => { c with ramp := c.ramp.step }
       let mixed := fun (c : Nat) => d0.rte.con.filter fun y => y.active && y.dst == c && !((validRoutes d0 c).drop 8).contains y
       let awaits := fun (c : Nat) => ∃ y ∈ mixed c, y.src < 0x4800 ∧ awaited d0 y.src k = true
       t.dev.rte.last = some (k, d.tb.run) ∧ t.dev.rte.live = d0.rte.live ∧ t.dev.rte.fading = d0.rte.fading ∧ t.dev.rte.pending = d0.rte.pending ∧
       t.dev.rte.con = d0.rte.con.map stepped ∧ t.dev.rte.prev = (d0.rte.con.filter fun y => (mixed y.dst).contains y).map stepped ∧
       ((∀ c, (validRoutes d0 c).length ≤ 8) → t.dev.rte.drops = min 0xFFFF d0.rte.drops) ∧
       (∀ c, (mixed c = [] → destSample t.dev c k = some (0, none)) ∧ (awaits c → destSample t.dev c k = none) ∧
         (mixed c ≠ [] → ¬awaits c → let m := mixDest (fun i => sourceSample d0 i k) ((mixed c).map fun y => (y.src, y.ramp.next))
           destSample t.dev c k = some (m.1.1, some m.1.2))) ∧
       (idle → (∀ j < 48, (d.hb j).writes k = false) → t.mem = s.mem) ∧
       ∀ b < 48, idle → (∀ j < 48, (d.hb j).writes k = true ↔ j = b) → (∀ i < (d.hb b).count, ¬awaits ((d.hb b).first + i)) → extentClean d (consHb b) →
         t.mem = memWrites s.mem (slotWrites d b k fun c => match destSample t.dev c k with | some m => m.1 | none => 0)) ∧
     (∀ p, x.pending = some p → bNow d k ≤ d.atNow r → p.1 ≤ bNow d k → Completes .routeSwap s fun t =>
       let d0 := fadeEnd r d
       let c := swapCheck d0
       others t ∧ t.mem = s.mem ∧ t.dev.rte.pending = none ∧ t.dev.rte.refuse = c.1 ∧ t.dev.rte.infoE = c.2.1 ∧ t.dev.rte.infoD = c.2.2 ∧
       t.dev.rte.need = (swapCon d0).length ∧
       (c.1 = 0 → t.dev.rte.live = 1 - x.live ∧ t.dev.rte.con = swapAll d0 ∧ t.dev.rte.held = [] ∧ t.dev.rte.swapPeriod = st32 (bNow d k) ∧
         t.dev.rte.fading = (swapAll d0).any (·.ramp.runs) ∧ t.dev.rte.swaps = (x.swaps + 1) % 65536 ∧ t.dev.rte.refused = x.refused) ∧
       (c.1 ≠ 0 → t.dev.rte.live = x.live ∧ t.dev.rte.con = d0.rte.con ∧ t.dev.rte.swaps = x.swaps ∧ t.dev.rte.refused = satInc x.refused 0xFFFF)) ∧
     (x.pending = none → Completes .routeSwap s fun t => others t ∧ t.mem = s.mem ∧ t.dev.rte = x) ∧
     (∀ p, x.pending = some p → (d.atNow r < bNow d k ∨ bNow d k < p.1) → Completes .routeSwap s fun t =>
       others t ∧ t.mem = s.mem ∧ t.dev.rte = x) ∧
     (x.fading = true → (x.con.any fun c => c.ramp.runs) = false → Completes .routeFadeDone s fun t => others t ∧ t.mem = s.mem ∧
       t.dev.rte.fading = false ∧ t.dev.rte.held = [] ∧ t.dev.rte.live = x.live ∧ (x.held = [] → t.dev.rte.con = x.con.filter (·.stays))) ∧
     (x.fading = false ∨ (x.con.any fun c => c.ramp.runs) = true → Completes .routeFadeDone s fun t => others t ∧ t.mem = s.mem ∧ t.dev.rte = x)) ∧
  (∀ (s : State) (g : Gal) (w : Word),
     let d := s.dev
     let x := d.rte
     let frame := fun (t : State) => DevOnly s t ∧ t.dev.tx = d.tx ∧ t.dev.rx = d.rx
     (canWrite s g .rte 0x048 1 = true → Completes (.routeCommit g) s fun t => frame t ∧ t.dev.tb = d.tb ∧ t.dev.regs = d.regs ∧
       t.dev.rte = if x.pending = none then { x with pending := some (nextBoundary s.root d, false) }
         else { x with refuse := 4, refused := satInc x.refused 0xFFFF }) ∧
     (canWrite s g .rte 0x048 2 = true → Completes (.routeCheck g) s fun t => frame t ∧ t.dev.tb = d.tb ∧ t.dev.regs = d.regs ∧
       let c := swapCheck d
       t.dev.rte = { x with refuse := c.1, infoE := c.2.1, infoD := c.2.2, need := (swapCon d).length }) ∧
     (canWrite s g .rte 0x048 4 = true → Completes (.rteClearCnt g) s fun t => frame t ∧ t.dev.tb = d.tb ∧ t.dev.regs = d.regs ∧
       t.dev.rte = { x with sat := 0, drops := 0, swaps := 0, refused := 0 }) ∧
     (canWrite s g .rte 0x040 w = true → Completes (.rteRateWrite g w) s fun t => frame t ∧ t.dev.reg .rte 0x040 = w ∧
       let fs := fld w 2 0
       (5 < fs → t.dev.tb = d.tb ∧ t.dev.rte = { x with fsRefuse := 2 }) ∧
       (fs ≤ 5 → anyEnabled d = true → t.dev.tb = d.tb ∧ t.dev.rte = { x with fsRefuse := 1 }) ∧
       (fs ≤ 5 → anyEnabled d = false → t.dev.rte.fs = fs ∧ t.dev.rte.fsRefuse = 0 ∧ t.dev.rte.fading = false ∧ t.dev.rte.live = x.live ∧
         t.dev.rte.pending = x.pending ∧ t.dev.rte.last = none ∧ t.dev.rte.hist = [] ∧ t.dev.chan = [] ∧
         t.dev.tb = { d.tb with run := d.tb.run + 1 })) ∧
     (∀ (b : Fin 2) (e : Fin 8192), canCommit s g (bankTbl b) e w = true → Completes (.tableEntryCommit g ((bankTbl b).addr e 0) w) s fun t =>
       frame t ∧ t.dev.tb = d.tb ∧ t.dev.tw (bankTbl b) e 0 = (commitWords d g (bankTbl b) e w).getD 0 0 ∧
       (b.val ≠ x.live → t.dev.rte = x) ∧
       (b.val = x.live → x.fading = true → t.dev.rte.con = x.con ∧ e.val ∈ t.dev.rte.held) ∧
       (b.val = x.live → x.fading = false →
         t.dev.rte.con.filter (·.e == e.val) = if bitOf w 31 then [entryContr t.dev b e] else [])))


/-! ### Serial audio ports (15) -/

/-- CTRL.ENA, group strobes and CMD (R329, R331, R332, R341): an enable samples the admission fields and asks for admission, or returns a stopping
port to RUNNING; a disable fades out a running port, idles a waiting one and ends an admission in IDLE; a group start takes its waiting members, a group
stop its running ones; in QUIET they act on the return (R374).
Where the spec leaves a point open, the clause is the model's choice: log entries 11 and 35. -/
def Obligations.SapControl : Prop :=
  ∀ (s : State) (g : Gal) (n : Fin 32) (w : Word),
    let d := s.dev
    let x := (sapTurn s.root n d).sapn n
    let y := fun (t : State) => t.dev.sapn n
    let frame := fun (t : State) => DevOnly s t ∧ ∀ m, m ≠ n.val → t.dev.sapn m = d.sapn m
    let asked := fun (o : Owed) (t : State) => t.dev.sap = d.sap ∧ t.dev.sapg = d.sapg ∧ t.dev.lnd = d.lnd ∧ t.dev.owed = d.owed ++ [o]
    let now := s.root.power ≠ .quiet
    (let v := setBit (setBit w 16 true) 0 true
     canWrite s g (.sap n) 0x044 v = true → Completes (.sapEnable g n w) s fun t => frame t ∧
      t.dev.reg (.sap n) 0x044 = maskedWord (d.reg (.sap n) 0x044) v ∧ (¬now → asked (.sap n (some true)) t) ∧ (now → t.dev.owed = d.owed ∧
      ((x.st = 0 ∨ x.st = 7) → y t =
        { x with st := 1, slots := d.rf (.sap n) 0x040 5 0, bufLog := max 1 (d.rf (.sap n) 0x048 27 24), gate := d.rb (.sap n) 0x054 31,
                 pad := d.rf (.sap n) 0x054 27 24, readmit := false, quit := false, byGroup := false, stopAt := none } ∧
        (t.dev.lnd.admitQ.any fun a => a.cons == consSap n && a.g == owner s.root d .sap n) = true) ∧
      (1 ≤ x.st → x.st ≤ 3 → y t = x) ∧ (x.st = 4 → (y t).st = 4) ∧
      ((x.st = 5 ∨ x.st = 6) → sapChanged d n = true → y t = { x with readmit := true }) ∧
      ((x.st = 5 ∨ x.st = 6) → sapChanged d n = false → (y t).st = 4 ∧ (y t).byGroup = false ∧
        (y t).readmit = false ∧ (y t).faultI = (y t).faultO ∧ ((y t).faultI = false ↔ x.clk = 0 ∧ (x.needPre = false ∨ x.preroll ≤ x.good))))) ∧
    (let v := setBit (setBit w 16 true) 0 false
     canWrite s g (.sap n) 0x044 v = true → Completes (.sapDisable g n w) s fun t => frame t ∧
      t.dev.reg (.sap n) 0x044 = maskedWord (d.reg (.sap n) 0x044) v ∧ (¬now → asked (.sap n (some false)) t) ∧ (now → t.dev.owed = d.owed ∧
      (x.st = 1 → y t = { x with quit := true }) ∧ ((x.st = 2 ∨ x.st = 3) → (y t).st = 0 ∧ t.dev.ext (consSap n) = {} ∧ t.dev.lnd.zeroing = d.lnd.zeroing ++ (d.ext (consSap n)).treads) ∧
      (x.st = 4 → (y t).st = 5 ∧ (y t).inG.g1 = 0 ∧ (y t).outG.g1 = 0) ∧ (x.st ≠ 1 → x.st ≠ 2 → x.st ≠ 3 → x.st ≠ 4 → y t = x))) ∧
    (canWrite s g .sapg 0x040 w = true → ¬now → Completes (.sapGroupStart g w) s fun t => DevOnly s t ∧ asked (.group false w) t) ∧
    (canWrite s g .sapg 0x044 w = true → ¬now → Completes (.sapGroupStop g w) s fun t => DevOnly s t ∧ asked (.group true w) t) ∧
    (canWrite s g .sapg 0x040 w = true → now → Completes (.sapGroupStart g w) s fun t => DevOnly s t ∧
      let k := periodNow s.root d + 1
      let grp := sapGroup d n
      let timed := (groupMembers d grp 2).any fun m => (d.sapn m).phi0.isSome
      let goes := sapCtl d n 4 = true ∧ bitOf w grp = true ∧ x.st = 2
      (goes → y t = { x with st := 3, k0 := if timed then none else some k } ∧ nbit t.dev.sapg.started grp = true ∧
        (timed = false → nget t.dev.sapg.period grp = st32 (bNow d k))) ∧ (¬goes → y t = x)) ∧
    (canWrite s g .sapg 0x044 w = true → now → Completes (.sapGroupStop g w) s fun t => DevOnly s t ∧ t.dev.sapg = d.sapg ∧
      let goes := sapCtl d n 4 = true ∧ bitOf w (sapGroup d n) = true ∧ x.st = 4
      (goes → y t = { x with stopAt := some (periodNow s.root d + 1) }) ∧ (¬goes → y t = x)) ∧
    (canWrite s g (.sap n) 0x070 1 = true → Completes (.sapClearCnt g n) s fun t => frame t ∧
      y t = { d.sapn n with underruns := 0, overruns := 0, clkFaults := 0, notReady := 0 })

/-- States of a port (R329, R330, R333, R336 to R338): RUNNING from its start period, POSTROLL once the gains are 0, IDLE or WAIT_START after it; a stopped clock
mutes the port and is reported to the reference selector that takes its frame clock; an admission is refused by the first check that fails, or starts the port.
Where the spec leaves a point open, the clause is the model's choice: log entry 35. -/
def Obligations.SapStates : Prop :=
  ∀ (s : State) (n : Fin 32), s.root.running = true →
    let d := s.dev
    let r := s.root
    let x := d.sapn n
    let y := fun (t : State) => t.dev.sapn n
    let frame := fun (t : State) => DevOnly s t ∧ ∀ m, m ≠ n.val → t.dev.sapn m = d.sapn m
    let now := periodNow r d
    let turned := (sapTurn r n d).sapn n
    let z := if turned.st = 5 then turned.advance (now - 1) else turned
    let starts := ∃ k, x.k0 = some k ∧ x.st = 3 ∧ k ≤ now ∧ x.leadK ≤ now ∧ x.preroll ≤ x.good ∧ x.clk = 0
    let rolled := x.st = 6 ∧ x.rollK + (fld x.roll 23 16 : Nat) ≤ now
    let waits := sapCtl d n 0 = true ∧ x.byGroup = true ∧ x.readmit = false
    Completes (.sapRunStart n) s (fun t => frame t ∧
      (starts → (y t).st = 4 ∧ (y t).faultI = false ∧ (y t).faultO = false ∧ (y t).inG.g1 = (if sapCtl d n 1 then unity else 0) ∧
        (y t).outG.g1 = (if sapCtl d n 2 then unity else 0)) ∧ (¬starts → y t = x)) ∧
    Completes (.sapStopFadeDone n) s (fun t => frame t ∧
      (z.st = 5 → z.silent = true → y t = { z with st := 6, rollK := now, gk := none }) ∧ (z.st ≠ 5 ∨ z.silent = false → y t = z)) ∧
    Completes (.sapPostrollEnd n) s (fun t => frame t ∧ (¬rolled → y t = x) ∧
      (rolled → waits → y t = { x with st := 2, byGroup := false, k0 := none }) ∧
      (rolled → ¬waits → t.dev.ext (consSap n) = {} ∧ t.dev.lnd.zeroing = d.lnd.zeroing ++ (d.ext (consSap n)).treads ∧
        (y t).st = if x.readmit = true ∧ sapCtl d n 0 = true then 1 else 0)) ∧
    Completes (.sapClockStop n) s (fun t => frame t ∧
      let stopped := x.lastEdge + sap4T d ≤ r.ec
      (¬stopped → y t = x) ∧
      (stopped → (y t).clk = 1 ∧ (y t).st = x.st ∧ (y t).inG = Ramp.fixed 0 ∧ (y t).outG = Ramp.fixed 0 ∧ (y t).dout = [] ∧ (y t).good = 0 ∧
        (y t).cur = none ∧ (x.clk ≠ 1 → d.rf .ref 0x040 12 8 = n → t.dev.ref.sapFault = true) ∧ (y t).clkFaults = if x.clk = 1 then x.clkFaults else satInc x.clkFaults 255)) ∧
    (∀ e q, let need := 2 * cdiv (x.slots * 2 ^ x.bufLog * 4) 512
      d.lnd.admitQ = e :: q → e.cons = consSap n → freeCount d ≥ need ∨ freeCount d + d.lnd.zeroing.length < need →
      Completes .admissionComplete s fun t => frame t ∧
        let code := lndCheck d e.g { treads := need, formed := true, owned := owner r d .sap n == e.g, align := none }
        let pad := x.gate = false ∨ steward r d (.sap n) = steward r d (.mcs (x.pad / 2))
        let refused := fun (why : Nat) => t.dev.lnd.admitQ = q ∧ (y t).st = 7 ∧ (y t).refuse = why ∧ (y t).cause = 5 ∧ t.dev.lnd.free = d.lnd.free
        (sapConfigOk d n = false → refused 1) ∧ (sapConfigOk d n = true → ¬pad → refused 2) ∧ (sapConfigOk d n = true → pad → code ≠ 0 → refused 3) ∧
        (sapConfigOk d n = true → pad → code = 0 → sapCtl d n 0 = true → x.quit = false → t.dev.lnd.admitQ = q ∧ (y t).refuse = 0 ∧ (y t).phi0 = none ∧
          (t.dev.ext (consSap n)).treads.length = need ∧ (y t).st = if sapCtl d n 4 then 2 else 3) ∧
        (sapConfigOk d n = true → pad → code = 0 → (sapCtl d n 0 = false ∨ x.quit = true) → t.dev.lnd.admitQ = q ∧ (y t).st = 0 ∧ t.dev.ext (consSap n) = {}))

/-- Edges of a port's clock (R320 to R322, R326 to R328, R330, R333, R335, R336, R342), each after those before it: one 4T after the last finds the clock
stopped, and the first after a stop ends it; on a sampling edge
the frame takes a bit, its slots that begin or end there are sent or supplied, and a wrong length or frame sync is a glitch that mutes the port; a frame
edge ends a good frame, maps the next to its period, in which a starting port may go RUNNING, and moves the gains, and a slip is a data fault.
Where the spec leaves a point open, the clause is the model's choice: log entry 35. -/
def Obligations.SapFrames : Prop :=
  ∀ (s : State) (n : Fin 32) (l : List BckEdge) (e : BckEdge), s.root.running = true →
    let r := s.root
    let d := sapFrame r n l (pageUse r (.sap n) [0x040, 0x044, 0x048, 0x04C, 0x050] (pageUse r .ref [0x040, 0x0B8, 0x198] s.dev))
    let p0 := d.sapn n
    let y := fun (t : State) => t.dev.sapn n
    let seen := p0.lastEdge ≤ e.ec ∧ e.ec ≤ r.ec ∧ p0.injStop ≤ e.ec
    let d1 := if p0.lastEdge + sap4T d ≤ e.ec then sapStop r n d else d
    let p := d1.sapn n
    let clk := if p.clk = 1 then 0 else p.clk
    let takes := sapSamples p.fmt e.rising = true
    let act := fsActive p.fmt e.fs
    let edge := takes ∧ act = true ∧ p.fsOn = false
    let frame := fun (t : State) => DevOnly s t ∧ t.dev.tb = d.tb ∧ ∀ m, m ≠ n.val → (t.dev.sapn m).st = (d.sapn m).st
    (bankDown s.dev (n / 16) = true → Completes (.sapFrame n l e.ec e.rising e.fs e.di) s fun t => t = s) ∧
    (bankDown s.dev (n / 16) = false →
      (¬seen → Completes (.sapFrame n l e.ec e.rising e.fs e.di) s fun t => frame t ∧ y t = p0) ∧
      (seen → ¬takes → Completes (.sapFrame n l e.ec e.rising e.fs e.di) s fun t => frame t ∧ y t = { p with clk := clk, lastEdge := e.ec, drv := e.ec }) ∧
      (∀ f, seen → takes → ¬edge → p.cur = some f → Completes (.sapFrame n l e.ec e.rising e.fs e.di) s fun t =>
        let opp := p.fsOn = true ∧ act = false
        let half := p.len / 2
        let early := sapTdm p.fmt = false ∧ opp ∧ f.second = false ∧ f.i + 2 < half
        let late := sapTdm p.fmt = false ∧ f.second = false ∧ ¬opp ∧ half ≤ f.i
        let wrong := f.ok = true ∧ (early ∨ late ∨ p.len ≤ f.i)
        let at' := fun (sl : Nat) => slotIndex f.fmt f.len f.slots sl
        let runs := ¬wrong ∧ f.ok = true ∧ f.live = true
        frame t ∧ (y t).lastEdge = e.ec ∧ (y t).st = p.st ∧ (y t).fsOn = act ∧
        (∃ g, (y t).cur = some g ∧ g.i = f.i + 1 ∧ g.edge = f.edge ∧ g.k = f.k ∧ (g.ok = true ↔ f.ok = true ∧ ¬wrong)) ∧
        (wrong → (y t).clk = 2 ∧ (y t).inG = Ramp.fixed 0 ∧ (y t).outG = Ramp.fixed 0 ∧ (y t).good = 0 ∧ (y t).lastK = none ∧ (p.tail = none → (y t).dout = [])) ∧
        (¬wrong → (y t).clk = clk ∧ (y t).good = p.good ∧ (y t).inG = p.inG ∧ (y t).outG = p.outG ∧ (y t).lastK = p.lastK) ∧
        (∀ k, runs → f.inp = true → f.k = some k → ∀ sl < f.slots, at' sl + sapWidth f.fmt = f.i + 1 →
          ((lget t.dev.chan (0x2000 + 32 * n + sl)).head?.map fun v => (v.k, v.rdy)) = some (k, d.tb.at'.val e.ec + 10240)) ∧
        (∀ k, runs → f.drives = true → f.out = true → f.k = some k → p.tail = none → ∀ sl < f.slots, at' sl = f.i + 1 →
          (f.inp = false ∨ ∀ h ∈ d.rte.hist, h.k = k - 1 → ∀ v ∈ h.todo, v.1 ≠ 0x2400 + 32 * n + sl) →
          let now := d.tb.at'.val p.drv - 10240
          let old := wget p.sent sl
          let v := destSample d (0x2400 + 32 * n + sl) (k - 1)
          ((∃ w q, v = some (w, some q) ∧ now < q) ∨ v = none → wget (y t).sent sl = withV old) ∧
          (∀ w q, v = some (w, q) → (∀ z, q = some z → z ≤ now) → d.lnd.ue = [] → d.lnd.ce = [] → d.lnd.mapUe = [] → d.lnd.mapCe = [] →
            wget (y t).sent sl = w))) ∧
      (seen → takes → ¬edge → p.cur = none → Completes (.sapFrame n l e.ec e.rising e.fs e.di) s fun t =>
        frame t ∧ (y t).lastEdge = e.ec ∧ (y t).clk = clk ∧ (y t).cur = none ∧ (y t).fsOn = act) ∧
      (seen → edge → injects (.sap n) 0 d = false → Completes (.sapFrame n l e.ec e.rising e.fs e.di) s fun t =>
        let x := (sapTurn { r with ec := e.ec } n d1).sapn n
        let admitted := 2 ≤ x.st ∧ x.st ≤ 6
        DevOnly s t ∧ t.dev.tb = d.tb ∧ (y t).lastEdge = e.ec ∧ (y t).fsOn = true ∧ (x.st ≠ 3 → (y t).st = x.st) ∧ (x.st = 3 → (y t).st = 3 ∨ (y t).st = 4) ∧
        (∃ g, (y t).cur = some g ∧ g.edge = e.ec ∧ g.i = 0 ∧ g.fmt = d.reg (.sap n) 0x040 ∧ g.len = d.rf (.sap n) 0x048 10 0) ∧
        (x.cur = none → (y t).clk = clk ∧ (y t).good = x.good) ∧
        (∀ f, x.cur = some f → f.ok = false → (y t).clk = clk ∧ (y t).good = 0) ∧
        (∀ f, x.cur = some f → f.ok = true → (f.i + 1 ≠ x.len ∨ admitted ∧ injects (.sap n) 1 d = true) →
          (y t).clk = 2 ∧ (y t).good = 0 ∧ (y t).lastK = none ∧ (y t).silent = true ∧
          (y t).clkFaults = if clk = 2 then x.clkFaults else satInc x.clkFaults 255) ∧
        (∀ f, x.cur = some f → f.ok = true → f.i + 1 = x.len → (∀ i < 5, injects (.sap n) i d = false) → (sapMeasure d1 n e.ec f).2 = true → clk = 0 →
          d.tb.eraEC ≤ e.ec →
          let phi0 := if x.phi0 = none ∧ f.k.isSome = true then some f.phi else x.phi0
          let a := d.tb.at'.val e.ec
          let k := sapPeriodOf d { x with phi0 := phi0 } a
          let slips := x.lastK = some k ∨ x.lastK = some (k - 2)
          let fades := (sapOut d n x).advance k
          (∀ q, x.st = 3 → x.k0 = some q →
            ((y t).st = 4 ↔ q ≤ k ∧ x.leadK ≤ k ∧ max 1 (fld (d.reg (.sap n) 0x04C) 31 24) ≤ x.good + 1)) ∧
          (x.st = 4 → x.faultI = false → x.faultO = false →
            (y t).clk = 0 ∧ (y t).good = x.good + 1 ∧ (y t).pos = k ∧ (y t).phi = a - bNow d k ∧ (y t).lastK = some k ∧
            (¬slips → (y t).inG = (x.advance k).inG ∧ (y t).outG = (x.advance k).outG ∧ (y t).underruns = x.underruns ∧ (y t).overruns = x.overruns) ∧
            (slips → (y t).underruns = min 255 (x.underruns + 1) ∧ (y t).overruns = min 255 (x.overruns + 1) ∧
              (fades.inG.runs = true → (y t).inG = fades.inG ∧ (y t).faultI = true) ∧
              (fades.outG.runs = true → (y t).outG = fades.outG ∧ (y t).faultO = true)))) ∧
        (∀ f, x.cur = some f → f.ok = true → f.i + 1 = x.len → (∀ i < 5, injects (.sap n) i d = false) → clk = 2 → (sapMeasure d1 n e.ec f).2 = true →
          (y t).clk = if x.goodFrames ≤ x.good + 1 then 0 else 2)) ∧
      (let x := (sapTurn { r with ec := e.ec } n d1).sapn n
       seen → edge → injects (.sap n) 0 d = true → 2 ≤ x.st → x.st ≤ 6 →
        Completes (.sapFrame n l e.ec e.rising e.fs e.di) s fun t => DevOnly s t ∧ (y t).clk = 1 ∧ (y t).injStop = e.ec + sap4T d ∧ (y t).silent = true ∧ (y t).cur = none) ∧
      (l = [] → ¬seen → Completes (.sapFrame n l e.ec e.rising e.fs e.di) s fun t => DevOnly s t ∧ t.dev.sap = s.dev.sap ∧ t.dev.chan = s.dev.chan))


/-! ### Monitors, telemetry, supervisors, OTP (16 to 18) -/


/-- Monitor slots (R345 to R349): a slot whose quantity has a value at its INTERVAL records it: counted, with its
extremes and its limit; MON.SNAP copies a slot of the writer's partition as it stood before the present cycle into its
own window, clearing it on request but for the cycle's values, and refuses another's.
Telemetry (R350, R351, R353 to R356): the writer takes an alarm's record first, one that was pending and has room next, then the head of the queue,
and commits it where its corridor has room: an alarm without room stays pending, a trace is dropped, a log opens a gap that goes before the next; a
pending alarm record that has room goes at the tick; ALARM_CLR frees an entry of the writer or, for the house gallery, any, and an occurrence of its
cycle comes after it; CLASSk changes the writer's sources alone.
Where the spec leaves a point open, the clause is the model's choice: log entry 39. -/
def Obligations.MonitorsAndTelemetry : Prop :=
  (∀ (s : State) (g : Gal) (sl : Fin 512) (w : Word),
     (s.root.coreOn = true → Completes (.monitorIntervalSample sl) s fun t =>
       let d := s.dev
       let on := d.tf .monslot sl 0 31 31 = 1
       let qty := d.tf .monslot sl 0 27 24
       let obj := d.tf .monslot sl 1 31 16
       let level := qty = 7 ∧ s.root.running = true ∧ max 1 (d.tf .monslot sl 1 15 0) ≤ nget d.mon.periods sl
       let yields := on ∧ (level ∨ qty = 9 ∨ qty = 10 ∧ d.flt.tempValid = true)
       let raw : Int := if qty = 7 then levelOf (nget d.mon.peak sl) else if qty = 9 then (pdiff (corWr s.mem d obj) (d.cor obj).rel : Nat) else sgn d.flt.temp 16
       let v := max (-(2 ^ 31)) (min (2 ^ 31 - 1) (raw / 2 ^ d.tf .monslot sl 0 19 16))
       let limit := v < sgn (d.tw .monslot sl 4).toNat 32 ∨ sgn (d.tw .monslot sl 5).toNat 32 < v
       DevOnly s t ∧ (∀ j, j ≠ sl.val → nget t.dev.mon.count j = nget d.mon.count j) ∧
       (yields → nget t.dev.mon.count sl = satInc (nget d.mon.count sl) 0xFFFFFFFF ∧
         t.dev.tw .monslot sl 6 = wd (uns (min (sgn (d.tw .monslot sl 6).toNat 32) v) 32) ∧
         t.dev.tw .monslot sl 7 = wd (uns (max (sgn (d.tw .monslot sl 7).toNat 32) v) 32) ∧ (bget t.dev.mon.limit sl = true ↔ limit) ∧
         (qty = 7 → nget t.dev.mon.peak sl = 0 ∧ nget t.dev.mon.periods sl = 0)) ∧
       (¬yields → t.dev = { d with page := t.dev.page, lines := t.dev.lines })) ∧
     (canWrite s g .mon 0x040 w = true → Completes (.monitorSnap g w) s fun t =>
       let n := fld w 8 0
       let x := sget (fun _ => {}) t.dev.mon.snap g
       DevOnly s t ∧
       let l := s.dev.monLate s.root n
       (owner s.root s.dev .monSlot (n / 8) = g → x.valid = true ∧ x.refuse = 0 ∧ x.slot = n ∧ x.count = l.count ∧
         x.min = l.min ∧ x.max = l.max ∧ x.dropped = l.dropped ∧ x.ec = s.root.ec ∧ x.era = s.dev.tb.era ∧
         ((sget (fun _ => {}) s.dev.mon.late n).cyc ≠ s.root.cyc + 1 → x.count = nget s.dev.mon.count n ∧
           x.min = s.dev.tw .monslot n 6 ∧ x.max = s.dev.tw .monslot n 7 ∧ x.dropped = nget s.dev.mon.dropped n ∧
           (∀ j < 64, x.bins.getD j 0 = s.dev.tw .hist (64 * n + j) 0) ∧
           (bitOf w 31 = true → nget t.dev.mon.dropped n = 0 ∧ ∀ j < 64, t.dev.tw .hist (64 * n + j) 0 = 0)) ∧
         nget t.dev.mon.count n = if bitOf w 31 then min l.vals.length 0xFFFFFFFF else nget s.dev.mon.count n) ∧
       (owner s.root s.dev .monSlot (n / 8) ≠ g → x = { sget (fun _ => {}) s.dev.mon.snap g with refuse := 1 } ∧
         t.dev = { s.dev with mon := t.dev.mon, page := t.dev.page, lines := t.dev.lines }) ∧
       ∀ h, h ≠ g.val → sget (fun _ => {}) t.dev.mon.snap h = sget (fun _ => {}) s.dev.mon.snap h)) ∧
  (∀ (s : State) (g : Gal) (w : Word),
     (s.root.coreOn = true → Completes .telemetryRecordWrite s fun t =>
       let d := s.dev
       let room := fun (c : Nat) (l : List Nat) => (d.cor c).takes = true ∧ (d.cor c).fits l = true ∧ ¬(corInjTarget s.root d = c ∧ injects .cor 0 d = true)
       let adv := fun (c n : Nat) => (t.dev.cor c).seq = ((d.cor c).seq + n) % 65536
       let alarm := fun (e : Nat) => telePayload ((d.tw .alarm e 4).toNat + 2 ^ 32 * (d.tw .alarm e 5).toNat) (d.tf .alarm e 6 15 0)
         (nget d.log.since e) (d.tw .alarm e 7)
       t.root = s.root ∧ t.pending = s.pending ∧ RingsOnly s t ∧
       (∀ e q, d.log.fresh = e :: q →
         let gc := galCor d (d.tf .alarm e 0 29 27)
         t.dev.log.fresh = q ∧ t.dev.log.queue = d.log.queue ∧
         (d.tf .alarm e 0 31 31 = 1 → bitOf gc 31 = true → Recorded s t (fld gc 23 16) 0x05 (d.tf .alarm e 0 11 0) (alarm e)) ∧
         (d.tf .alarm e 0 31 31 = 0 ∨ bitOf gc 31 = false → DevOnly s t ∧ t.dev.regs = d.regs) ∧
         (d.tf .alarm e 0 31 31 = 1 → bitOf gc 31 = true → room (fld gc 23 16) [16] →
           adv (fld gc 23 16) 1 ∧ t.dev.tf .alarm e 0 30 30 = 0 ∧ nget t.dev.log.since e = 0) ∧
         (d.tf .alarm e 0 31 31 = 1 → bitOf gc 31 = true → ¬room (fld gc 23 16) [16] → t.mem = s.mem ∧ t.dev.tf .alarm e 0 30 30 = 1)) ∧
       (∀ e, d.log.fresh = [] → (alarmOwed d).find? (alarmRoom d) = some e → d.tf .alarm e 0 31 31 = 1 →
         let c := fld (galCor d (d.tf .alarm e 0 29 27)) 23 16
         t.dev.log.queue = d.log.queue ∧ Recorded s t c 0x05 (d.tf .alarm e 0 11 0) (alarm e) ∧
         (room c [16] → adv c 1 ∧ t.dev.tf .alarm e 0 30 30 = 0 ∧ nget t.dev.log.since e = 0)) ∧
       (∀ x q, d.log.fresh = [] → (alarmOwed d).find? (alarmRoom d) = none → d.log.queue = x :: q →
         let gc := galCor d x.g
         let gap := (sget (fun _ => none) d.log.gap x.g).isSome
         let need := if gap then [24, 16] else [16]
         t.dev.log.queue = q ∧
         (x.log = false → bitOf gc 29 = true → Recorded s t (fld gc 7 0) 0x07 x.id (telePayload x.ec x.era 1 x.value)) ∧
         (x.log = true → bitOf gc 30 = true → injects .log 0 d = false → gap = false →
           Recorded s t (fld gc 15 8) 0x06 x.id (telePayload x.ec x.era 1 x.value)) ∧
         (∀ y, x.log = true → bitOf gc 30 = true → injects .log 0 d = false → sget (fun _ => none) d.log.gap x.g = some y → room (fld gc 15 8) need →
           extentClean d (consCor (fld gc 15 8)) →
           let c := fld gc 15 8
           let z := d.cor c
           let d1 := d.setCor c { z with wr := (z.wr + (if z.len - z.wr % z.len < 32 then z.len - z.wr % z.len else 0) + 32) % 2 ^ 32,
                                         seq := (z.seq + 1) % 65536, run := false }
           t.mem = memWrites s.mem (recordWrites d c 0 0x08 0 (wordsBytes (ecWords y.firstEC ++ ecWords y.lastEC ++
               [wd (y.firstEra * 65536 + y.lastEra), wd y.lost])) ++ recordWrites d1 c 0 0x06 x.id (telePayload x.ec x.era 1 x.value))) ∧
         (x.log = false → bitOf gc 29 = true → room (fld gc 7 0) [16] → adv (fld gc 7 0) 1 ∧ t.dev.log.cntTrace = d.log.cntTrace) ∧
         (x.log = false → bitOf gc 29 = true → ¬room (fld gc 7 0) [16] → t.mem = s.mem ∧ t.dev.log.cntTrace = (d.log.cntTrace + 1) % 2 ^ 32) ∧
         (x.log = true → bitOf gc 30 = true → injects .log 0 d = false → room (fld gc 15 8) need →
           adv (fld gc 15 8) (if gap then 2 else 1) ∧ sget (fun _ => none) t.dev.log.gap x.g = none ∧ t.dev.log.cntLog = d.log.cntLog) ∧
         (x.log = true → bitOf gc 30 = true → injects .log 0 d = true ∨ (d.cor (fld gc 15 8)).takes = false ∨ (d.cor (fld gc 15 8)).fits need = false →
           t.mem = s.mem ∧ (sget (fun _ => none) t.dev.log.gap x.g).isSome = true ∧ t.dev.log.cntLog = (d.log.cntLog + 1) % 2 ^ 32) ∧
         (bitOf gc (if x.log then 30 else 29) = false → t.mem = s.mem ∧ ∀ c, t.dev.cor c = d.cor c)) ∧
       (d.log.fresh = [] → (alarmOwed d).find? (alarmRoom d) = none → d.log.queue = [] → DevOnly s t ∧ t.dev = { d with page := t.dev.page, lines := t.dev.lines })) ∧
     (s.root.coreOn = true → Completes .alarmPendingFlush s fun t =>
       let d := s.dev
       let held := (alarmOwed d).filter fun j => bitOf (d.tw .alarm j 0) 31
       t.root = s.root ∧ t.pending = s.pending ∧ RingsOnly s t ∧
       (held = [] → t.mem = s.mem ∧ t.dev = { d with page := t.dev.page, lines := t.dev.lines }) ∧
       (∀ e ∈ held, let gc := galCor d (d.tf .alarm e 0 29 27)
         bitOf (t.dev.tw .alarm e 0) 31 = true ∧
         (bitOf gc 31 = false ∨ (d.cor (fld gc 23 16)).takes = false → bitOf (t.dev.tw .alarm e 0) 30 = true)) ∧
       (∀ e, held = [e] → let gc := galCor d (d.tf .alarm e 0 29 27)
         bitOf gc 31 = true → Recorded s t (fld gc 23 16) 0x05 (d.tf .alarm e 0 11 0)
           (telePayload ((d.tw .alarm e 4).toNat + 2 ^ 32 * (d.tw .alarm e 5).toNat) (d.tf .alarm e 6 15 0) (nget d.log.since e) (d.tw .alarm e 7))) ∧
       (∀ e q, held = e :: q → e ∉ q → let gc := galCor d (d.tf .alarm e 0 29 27)
         bitOf gc 31 = true → (d.cor (fld gc 23 16)).takes = true → (d.cor (fld gc 23 16)).fits [16] = true →
           ¬(corInjTarget s.root d = fld gc 23 16 ∧ injects .cor 0 d = true) → bitOf (t.dev.tw .alarm e 0) 30 = false)) ∧
     (canWrite s g .log 0x050 w = true → Completes (.alarmClear g w) s fun t =>
       let e := fld w 6 0
       let mine := bitOf (s.dev.tw .alarm e 0) 31 = true ∧ (s.dev.tf .alarm e 0 29 27 = g.val ∨ g.val = s.root.house)
       let now := if s.dev.log.occCyc = s.root.cyc + 1 then s.dev.log.occ.filter (·.e == e) else []
       DevOnly s t ∧ t.dev = { s.dev with regs := t.dev.regs, parityBad := t.dev.parityBad, page := t.dev.page, lines := t.dev.lines, log := t.dev.log,
                                          evc := t.dev.evc } ∧
       (mine → now = [] → ∀ i < 8, t.dev.tw .alarm e i = 0) ∧
       (∀ o, mine → now = [o] → e < 127 → (∀ j ∈ alarmEntries s.dev, j ≠ e → j < 127 → s.dev.tf .alarm j 0 11 0 ≠ o.id) →
         ∃ j ≤ e, t.dev.tw .alarm j 0 = wd (2 ^ 31 + o.g * 2 ^ 27 + o.id) ∧ t.dev.tw .alarm j 1 = 1 ∧ t.dev.tw .alarm j 7 = o.value) ∧ (¬mine → t.dev.regs = s.dev.regs ∧ t.dev.log = s.dev.log)) ∧
     (∀ k : Fin 32, canWrite s g .log (0x100 + 4 * k) w = true → Completes (.logClassWrite g k w) s fun t =>
       DevOnly s t ∧ t.dev = { s.dev with regs := t.dev.regs, parityBad := t.dev.parityBad, page := t.dev.page, lines := t.dev.lines } ∧
       ∀ i < 16, let n := 16 * k.val + i
         t.dev.rf .log (0x100 + 4 * k) (2 * i + 1) (2 * i) =
           if owner s.root s.dev .evtSource n = g.val ∧ ¬(448 ≤ n ∧ n ≤ 479) then fld w (2 * i + 1) (2 * i)
           else s.dev.rf .log (0x100 + 4 * k) (2 * i + 1) (2 * i)))

/-- The supervisors, the injection commands and the OTP window (R360, R362, R366, R386).
Where the spec leaves a point open, the clause is the model's choice: log entries 5 and 29. -/
def Obligations.SupervisorsAndOtp : Prop :=
  ∀ (s : State) (g : Gal),
    (∀ (temp : Fin 65536) (valid : Bool), s.root.coreOn = true → Completes (.tempSupervisorEval temp valid) s fun t =>
      let inj := injects .flt 1 s.dev
      let x := if inj then sgn (s.dev.rf .flt 0x054 15 0) 16 else sgn temp 16
      let valid := inj || valid
      let warn := sgn (s.dev.rf .flt 0x048 15 0) 16
      let crit := sgn (s.dev.rf .flt 0x048 31 16) 16
      let old := s.dev.flt.tempState
      DevOnly s t ∧ t.dev.flt.temp = temp ∧ t.dev = { s.dev with flt := t.dev.flt, evc := t.dev.evc, page := t.dev.page, lines := t.dev.lines, ref := t.dev.ref, regs := t.dev.regs,
                                                                 parityBad := t.dev.parityBad } ∧
      (inj = false → t.dev.regs = s.dev.regs) ∧
      (valid = false → t.dev.flt.tempState = 3) ∧ (valid = true → crit < x → t.dev.flt.tempState = 2) ∧
      (valid = true → x ≤ crit → warn < x → old = 0 → t.dev.flt.tempState = 1) ∧
      (valid = true → x ≤ crit → x ≤ warn → old = 0 → t.dev.flt.tempState = 0) ∧
      (valid = true → x ≤ crit - 32 → x ≤ warn - 32 → t.dev.flt.tempState = 0)) ∧
    (s.root.coreOn = true → Completes .supplySupervisorEval s fun t =>
      DevOnly s t ∧ t.dev.flt.supply = s.dev.rails / 2 % 64 * 2 + b2n (s.dev.pwr.vinWarn || injects .flt 2 s.dev) ∧
      t.dev = { s.dev with flt := t.dev.flt, evc := t.dev.evc, page := t.dev.page, lines := t.dev.lines, regs := t.dev.regs, parityBad := t.dev.parityBad }) ∧
    (canWrite s g .flt 0x044 1 = true → Completes (.fltDisarmAll g) s fun t =>
      DevOnly s t ∧ (∀ b ∈ Blk.all, t.dev.armed b = false) ∧ (∀ b ∈ Blk.all, ∀ o < 0x1000, o ≠ 0x01C → t.dev.reg b o = s.dev.reg b o) ∧
      t.dev = { s.dev with regs := t.dev.regs, parityBad := t.dev.parityBad, page := t.dev.page, lines := t.dev.lines }) ∧
    (canWrite s g .flt 0x044 2 = true → Completes (.fltClearCnt g) s fun t =>
      DevOnly s t ∧ t.dev.flt.total = (if steward s.root s.dev .flt = g.val then 0 else s.dev.flt.total) ∧
      t.dev = { s.dev with flt := t.dev.flt, page := t.dev.page, lines := t.dev.lines }) ∧
    (reaches s g = true → Completes (.otpDataRead g) s fun t =>
      let i := fld (s.dev.own .otp 0x044 g) 10 0
      DevOnly s t ∧ wget t.dev.hif.readData g = otpWord s.root s.dev i ∧ fld (t.dev.own .otp 0x044 g) 10 0 = (i + 1) % 2048 ∧
      t.dev = { s.dev with hif := t.dev.hif, perGal := t.dev.perGal, parityBad := t.dev.parityBad })
end

