-- ==== Sys2Proof/Laws/Maps.lean ====
section
/-! SUPPORT. Laws of the sparse arrays and of the Landing's bytes: read after write, and the canonical form every operation keeps. -/

namespace Sys2Proof.Machine

/-! ### Read after write -/

theorem sget_sput_self {α : Type} (f : Nat → α) (m : SMap α) (k : Nat) (v : α) : sget f (sput k v m) k = v := by
  induction m with
  | nil => simp [sput, sget]
  | cons p t ih =>
    obtain ⟨k', v'⟩ := p
    simp only [sput]
    split
    · simp [sget]
    · split
      · simp [sget]
      · simp [sget, *]

theorem sget_sput_other {α : Type} (f : Nat → α) (m : SMap α) (k j : Nat) (v : α) (h : j ≠ k) : sget f (sput k v m) j = sget f m j := by
  induction m with
  | nil => simp [sput, sget, h]
  | cons p t ih =>
    obtain ⟨k', v'⟩ := p
    simp only [sput]
    split
    · simp [sget, h]
    · split
      · rename_i h1 h2; subst h2; simp [sget, h]
      · simp only [sget, ih]

theorem sget_sdel_self {α : Type} (f : Nat → α) (m : SMap α) (k : Nat) : sget f (sdel k m) k = f k := by
  induction m with
  | nil => rfl
  | cons p t ih =>
    obtain ⟨k', v'⟩ := p
    simp only [sdel]
    split
    · exact ih
    · simp [sget, *]

theorem sget_sdel_other {α : Type} (f : Nat → α) (m : SMap α) (k j : Nat) (h : j ≠ k) : sget f (sdel k m) j = sget f m j := by
  induction m with
  | nil => rfl
  | cons p t ih =>
    obtain ⟨k', v'⟩ := p
    simp only [sdel]
    split
    · rename_i hk; subst hk; simp [sget, h, ih]
    · simp only [sget, ih]

/-- A read after a write to the same key gives the value written. -/
@[simp] theorem sget_sset_self {α : Type} [DecidableEq α] (f : Nat → α) (m : SMap α) (k : Nat) (v : α) : sget f (sset f m k v) k = v := by
  unfold sset
  split
  · rename_i h; rw [sget_sdel_self, h]
  · exact sget_sput_self f m k v

/-- A write leaves every other key alone. -/
theorem sget_sset_other {α : Type} [DecidableEq α] (f : Nat → α) (m : SMap α) (k j : Nat) (v : α) (h : j ≠ k) :
    sget f (sset f m k v) j = sget f m j := by
  unfold sset
  split
  · exact sget_sdel_other f m k j h
  · exact sget_sput_other f m k j v h

theorem sget_sset {α : Type} [DecidableEq α] (f : Nat → α) (m : SMap α) (k j : Nat) (v : α) :
    sget f (sset f m k v) j = if j = k then v else sget f m j := by
  split
  · rename_i h; subst h; simp
  · rename_i h; exact sget_sset_other f m k j v h

@[simp] theorem nget_nput_self (m : SMap Nat) (k v : Nat) : nget (nput m k v) k = v := sget_sset_self _ m k v
@[simp] theorem bget_bput_self (m : SMap Bool) (k : Nat) (v : Bool) : bget (bput m k v) k = v := sget_sset_self _ m k v
@[simp] theorem wget_wput_self (m : SMap Word) (k : Nat) (v : Word) : wget (wput m k v) k = v := sget_sset_self _ m k v
@[simp] theorem lget_lput_self {α : Type} [DecidableEq α] (m : SMap (List α)) (k : Nat) (v : List α) : lget (lput m k v) k = v :=
  sget_sset_self _ m k v

/-! ### The canonical form -/

theorem swf_weaken {α : Type} [DecidableEq α] (f : Nat → α) (m : SMap α) (a b : Nat) (h : b ≤ a) (w : swf f a m = true) : swf f b m = true := by
  cases m with
  | nil => rfl
  | cons p t =>
    obtain ⟨k, v⟩ := p
    simp only [swf, Bool.and_eq_true, decide_eq_true_eq] at w ⊢
    exact ⟨⟨by omega, w.1.2⟩, w.2⟩

theorem swf_sput {α : Type} [DecidableEq α] (f : Nat → α) (m : SMap α) (lo k : Nat) (v : α) (hk : lo ≤ k) (hv : v ≠ f k)
    (w : swf f lo m = true) : swf f lo (sput k v m) = true := by
  induction m generalizing lo with
  | nil => simp [sput, swf, hk, hv]
  | cons p t ih =>
    obtain ⟨k', v'⟩ := p
    simp only [swf, Bool.and_eq_true, decide_eq_true_eq] at w
    simp only [sput]
    split
    · rename_i h
      simp only [swf, Bool.and_eq_true, decide_eq_true_eq]
      exact ⟨⟨hk, hv⟩, ⟨by omega, w.1.2⟩, w.2⟩
    · split
      · rename_i h1 h2; subst h2
        simp only [swf, Bool.and_eq_true, decide_eq_true_eq]
        exact ⟨⟨hk, hv⟩, w.2⟩
      · simp only [swf, Bool.and_eq_true, decide_eq_true_eq]
        exact ⟨w.1, ih (k' + 1) (by omega) w.2⟩

theorem swf_sdel {α : Type} [DecidableEq α] (f : Nat → α) (m : SMap α) (lo k : Nat) (w : swf f lo m = true) : swf f lo (sdel k m) = true := by
  induction m generalizing lo with
  | nil => rfl
  | cons p t ih =>
    obtain ⟨k', v'⟩ := p
    simp only [swf, Bool.and_eq_true, decide_eq_true_eq] at w
    simp only [sdel]
    split
    · exact swf_weaken f _ (k' + 1) lo (by omega) (ih (k' + 1) w.2)
    · simp only [swf, Bool.and_eq_true, decide_eq_true_eq]
      exact ⟨w.1, ih (k' + 1) w.2⟩

theorem swf_sset {α : Type} [DecidableEq α] (f : Nat → α) (m : SMap α) (k : Nat) (v : α) (w : swf f 0 m = true) : swf f 0 (sset f m k v) = true := by
  unfold sset
  split
  · exact swf_sdel f m 0 k w
  · rename_i h; exact swf_sput f m 0 k v (Nat.zero_le _) h w

/-! ### The Landing -/

theorem memWrite_wf (m : List Host.Cell) (a : Nat) (l : List Byte) (w : memWf m) : memWf (memWrite m a l) := by
  induction l generalizing m a with
  | nil => exact w
  | cons b t ih => exact ih (sset (fun _ => 0) m a b) (a + 1) (swf_sset _ m a b w)

/-- Every write of the Landing keeps its canonical form. -/
theorem memWrites_wf (m : List Host.Cell) (l : List MemWr) (w : memWf m) : memWf (memWrites m l) := by
  induction l generalizing m with
  | nil => exact w
  | cons x t ih => exact ih (memWrite m x.1 x.2) (memWrite_wf m x.1 x.2 w)

/-- Bytes outside a write read as before. -/
theorem memByte_memWrite_outside (m : List Host.Cell) (a x : Nat) (l : List Byte) (h : x < a ∨ a + l.length ≤ x) :
    memByte (memWrite m a l) x = memByte m x := by
  induction l generalizing m a with
  | nil => rfl
  | cons b t ih =>
    simp only [List.length_cons] at h
    rw [memWrite, ih _ _ (by omega)]
    exact sget_sset_other _ m a x b (by omega)

@[simp] theorem memWrites_nil (m : List Host.Cell) : memWrites m [] = m := rfl

/-! ### The ways a command acts -/

theorem onDev_on {f : Root → Dev → Dev} {s : State} (h : s.root.coreOn = true) : onDev f s = .next { s with dev := f s.root s.dev } := by
  simp [onDev, h]

theorem onDev_off {f : Root → Dev → Dev} {s : State} (h : s.root.coreOn = false) : onDev f s = .next s := by simp [onDev, h]

theorem onDevMem_on {f : Root → List Host.Cell → Dev → Dev} {s : State} (h : s.root.coreOn = true) :
    onDevMem f s = .next { s with dev := f s.root s.mem s.dev } := by simp [onDevMem, onDev, h]

theorem onMem_on {f : Root → List Host.Cell → Dev → Dev × List MemWr} {s : State} (h : s.root.coreOn = true) :
    onMem f s = .next { s with dev := (f s.root s.mem s.dev).1, mem := memWrites s.mem (f s.root s.mem s.dev).2 } := by simp [onMem, h]

theorem onMem_off {f : Root → List Host.Cell → Dev → Dev × List MemWr} {s : State} (h : s.root.coreOn = false) : onMem f s = .next s := by
  simp [onMem, h]

theorem onRun_on {f : Root → Dev → Dev} {s : State} (h : s.root.running = true) : onRun f s = .next { s with dev := f s.root s.dev } := by
  simp [onRun, h]

theorem onRun_off {f : Root → Dev → Dev} {s : State} (h : s.root.running = false) : onRun f s = .next s := by simp [onRun, h]

theorem onRunMem_on {f : Root → List Host.Cell → Dev → Dev × List MemWr} {s : State} (h : s.root.running = true) :
    onRunMem f s = .next { s with dev := (f s.root s.mem s.dev).1, mem := memWrites s.mem (f s.root s.mem s.dev).2 } := by simp [onRunMem, h]

theorem onRunMem_off {f : Root → List Host.Cell → Dev → Dev × List MemWr} {s : State} (h : s.root.running = false) : onRunMem f s = .next s := by
  simp [onRunMem, h]

/-- Whatever a command of the device does, it answers a next state with the same root and queue, and the Landing changed by writes alone. -/
theorem onMem_shape (f : Root → List Host.Cell → Dev → Dev × List MemWr) (s : State) :
    ∃ d l, onMem f s = .next { s with dev := d, mem := memWrites s.mem l } := by
  unfold onMem
  split
  · exact ⟨_, _, rfl⟩
  · exact ⟨s.dev, [], rfl⟩

theorem onDev_shape (f : Root → Dev → Dev) (s : State) : ∃ d, onDev f s = .next { s with dev := d } := by
  unfold onDev
  split
  · exact ⟨_, rfl⟩
  · exact ⟨s.dev, rfl⟩

end Sys2Proof.Machine
end

