-- ==== Sys2Proof/Laws/State.lean ====
section
/-! SUPPORT. One lemma for each field of the device and each named update that leaves it alone: the update shows nothing of itself there. -/

namespace Sys2Proof.Machine

/-! ### Dev.setAddr -/

@[simp] theorem Dev.setAddr_eff (d : Dev) (a : Nat) (w : Word) : (d.setAddr a w).eff = d.eff := rfl
@[simp] theorem Dev.setAddr_scrubAt (d : Dev) (a : Nat) (w : Word) : (d.setAddr a w).scrubAt = d.scrubAt := rfl
@[simp] theorem Dev.setAddr_page (d : Dev) (a : Nat) (w : Word) : (d.setAddr a w).page = d.page := rfl
@[simp] theorem Dev.setAddr_lines (d : Dev) (a : Nat) (w : Word) : (d.setAddr a w).lines = d.lines := rfl
@[simp] theorem Dev.setAddr_owed (d : Dev) (a : Nat) (w : Word) : (d.setAddr a w).owed = d.owed := rfl
@[simp] theorem Dev.setAddr_hwSet (d : Dev) (a : Nat) (w : Word) : (d.setAddr a w).hwSet = d.hwSet := rfl
@[simp] theorem Dev.setAddr_posted (d : Dev) (a : Nat) (w : Word) : (d.setAddr a w).posted = d.posted := rfl
@[simp] theorem Dev.setAddr_sealed (d : Dev) (a : Nat) (w : Word) : (d.setAddr a w).sealed = d.sealed := rfl
@[simp] theorem Dev.setAddr_rshadow (d : Dev) (a : Nat) (w : Word) : (d.setAddr a w).rshadow = d.rshadow := rfl
@[simp] theorem Dev.setAddr_wshadow (d : Dev) (a : Nat) (w : Word) : (d.setAddr a w).wshadow = d.wshadow := rfl
@[simp] theorem Dev.setAddr_tshadow (d : Dev) (a : Nat) (w : Word) : (d.setAddr a w).tshadow = d.tshadow := rfl
@[simp] theorem Dev.setAddr_perGal (d : Dev) (a : Nat) (w : Word) : (d.setAddr a w).perGal = d.perGal := rfl
@[simp] theorem Dev.setAddr_gal (d : Dev) (a : Nat) (w : Word) : (d.setAddr a w).gal = d.gal := rfl
@[simp] theorem Dev.setAddr_hif (d : Dev) (a : Nat) (w : Word) : (d.setAddr a w).hif = d.hif := rfl
@[simp] theorem Dev.setAddr_evc (d : Dev) (a : Nat) (w : Word) : (d.setAddr a w).evc = d.evc := rfl
@[simp] theorem Dev.setAddr_pwr (d : Dev) (a : Nat) (w : Word) : (d.setAddr a w).pwr = d.pwr := rfl
@[simp] theorem Dev.setAddr_clk (d : Dev) (a : Nat) (w : Word) : (d.setAddr a w).clk = d.clk := rfl
@[simp] theorem Dev.setAddr_tb (d : Dev) (a : Nat) (w : Word) : (d.setAddr a w).tb = d.tb := rfl
@[simp] theorem Dev.setAddr_flt (d : Dev) (a : Nat) (w : Word) : (d.setAddr a w).flt = d.flt := rfl
@[simp] theorem Dev.setAddr_lnd (d : Dev) (a : Nat) (w : Word) : (d.setAddr a w).lnd = d.lnd := rfl
@[simp] theorem Dev.setAddr_mon (d : Dev) (a : Nat) (w : Word) : (d.setAddr a w).mon = d.mon := rfl
@[simp] theorem Dev.setAddr_log (d : Dev) (a : Nat) (w : Word) : (d.setAddr a w).log = d.log := rfl
@[simp] theorem Dev.setAddr_net (d : Dev) (a : Nat) (w : Word) : (d.setAddr a w).net = d.net := rfl
@[simp] theorem Dev.setAddr_trg (d : Dev) (a : Nat) (w : Word) : (d.setAddr a w).trg = d.trg := rfl
@[simp] theorem Dev.setAddr_ptp (d : Dev) (a : Nat) (w : Word) : (d.setAddr a w).ptp = d.ptp := rfl
@[simp] theorem Dev.setAddr_srv (d : Dev) (a : Nat) (w : Word) : (d.setAddr a w).srv = d.srv := rfl
@[simp] theorem Dev.setAddr_ref (d : Dev) (a : Nat) (w : Word) : (d.setAddr a w).ref = d.ref := rfl
@[simp] theorem Dev.setAddr_mcs (d : Dev) (a : Nat) (w : Word) : (d.setAddr a w).mcs = d.mcs := rfl
@[simp] theorem Dev.setAddr_fb (d : Dev) (a : Nat) (w : Word) : (d.setAddr a w).fb = d.fb := rfl
@[simp] theorem Dev.setAddr_chan (d : Dev) (a : Nat) (w : Word) : (d.setAddr a w).chan = d.chan := rfl
@[simp] theorem Dev.setAddr_rte (d : Dev) (a : Nat) (w : Word) : (d.setAddr a w).rte = d.rte := rfl
@[simp] theorem Dev.setAddr_sap (d : Dev) (a : Nat) (w : Word) : (d.setAddr a w).sap = d.sap := rfl
@[simp] theorem Dev.setAddr_sapg (d : Dev) (a : Nat) (w : Word) : (d.setAddr a w).sapg = d.sapg := rfl
@[simp] theorem Dev.setAddr_tx (d : Dev) (a : Nat) (w : Word) : (d.setAddr a w).tx = d.tx := rfl
@[simp] theorem Dev.setAddr_txe (d : Dev) (a : Nat) (w : Word) : (d.setAddr a w).txe = d.txe := rfl
@[simp] theorem Dev.setAddr_rx (d : Dev) (a : Nat) (w : Word) : (d.setAddr a w).rx = d.rx := rfl
@[simp] theorem Dev.setAddr_rxe (d : Dev) (a : Nat) (w : Word) : (d.setAddr a w).rxe = d.rxe := rfl
@[simp] theorem Dev.setAddr_otpOk (d : Dev) (a : Nat) (w : Word) : (d.setAddr a w).otpOk = d.otpOk := rfl
@[simp] theorem Dev.setAddr_rails (d : Dev) (a : Nat) (w : Word) : (d.setAddr a w).rails = d.rails := rfl
@[simp] theorem Dev.setAddr_phyPads (d : Dev) (a : Nat) (w : Word) : (d.setAddr a w).phyPads = d.phyPads := rfl
@[simp] theorem Dev.setAddr_freeCtr (d : Dev) (a : Nat) (w : Word) : (d.setAddr a w).freeCtr = d.freeCtr := rfl

/-! ### Dev.setReg -/

@[simp] theorem Dev.setReg_eff (d : Dev) (b : Blk) (o : Nat) (w : Word) : (d.setReg b o w).eff = d.eff := rfl
@[simp] theorem Dev.setReg_scrubAt (d : Dev) (b : Blk) (o : Nat) (w : Word) : (d.setReg b o w).scrubAt = d.scrubAt := rfl
@[simp] theorem Dev.setReg_page (d : Dev) (b : Blk) (o : Nat) (w : Word) : (d.setReg b o w).page = d.page := rfl
@[simp] theorem Dev.setReg_lines (d : Dev) (b : Blk) (o : Nat) (w : Word) : (d.setReg b o w).lines = d.lines := rfl
@[simp] theorem Dev.setReg_owed (d : Dev) (b : Blk) (o : Nat) (w : Word) : (d.setReg b o w).owed = d.owed := rfl
@[simp] theorem Dev.setReg_hwSet (d : Dev) (b : Blk) (o : Nat) (w : Word) : (d.setReg b o w).hwSet = d.hwSet := rfl
@[simp] theorem Dev.setReg_posted (d : Dev) (b : Blk) (o : Nat) (w : Word) : (d.setReg b o w).posted = d.posted := rfl
@[simp] theorem Dev.setReg_sealed (d : Dev) (b : Blk) (o : Nat) (w : Word) : (d.setReg b o w).sealed = d.sealed := rfl
@[simp] theorem Dev.setReg_rshadow (d : Dev) (b : Blk) (o : Nat) (w : Word) : (d.setReg b o w).rshadow = d.rshadow := rfl
@[simp] theorem Dev.setReg_wshadow (d : Dev) (b : Blk) (o : Nat) (w : Word) : (d.setReg b o w).wshadow = d.wshadow := rfl
@[simp] theorem Dev.setReg_tshadow (d : Dev) (b : Blk) (o : Nat) (w : Word) : (d.setReg b o w).tshadow = d.tshadow := rfl
@[simp] theorem Dev.setReg_perGal (d : Dev) (b : Blk) (o : Nat) (w : Word) : (d.setReg b o w).perGal = d.perGal := rfl
@[simp] theorem Dev.setReg_gal (d : Dev) (b : Blk) (o : Nat) (w : Word) : (d.setReg b o w).gal = d.gal := rfl
@[simp] theorem Dev.setReg_hif (d : Dev) (b : Blk) (o : Nat) (w : Word) : (d.setReg b o w).hif = d.hif := rfl
@[simp] theorem Dev.setReg_evc (d : Dev) (b : Blk) (o : Nat) (w : Word) : (d.setReg b o w).evc = d.evc := rfl
@[simp] theorem Dev.setReg_pwr (d : Dev) (b : Blk) (o : Nat) (w : Word) : (d.setReg b o w).pwr = d.pwr := rfl
@[simp] theorem Dev.setReg_clk (d : Dev) (b : Blk) (o : Nat) (w : Word) : (d.setReg b o w).clk = d.clk := rfl
@[simp] theorem Dev.setReg_tb (d : Dev) (b : Blk) (o : Nat) (w : Word) : (d.setReg b o w).tb = d.tb := rfl
@[simp] theorem Dev.setReg_flt (d : Dev) (b : Blk) (o : Nat) (w : Word) : (d.setReg b o w).flt = d.flt := rfl
@[simp] theorem Dev.setReg_lnd (d : Dev) (b : Blk) (o : Nat) (w : Word) : (d.setReg b o w).lnd = d.lnd := rfl
@[simp] theorem Dev.setReg_mon (d : Dev) (b : Blk) (o : Nat) (w : Word) : (d.setReg b o w).mon = d.mon := rfl
@[simp] theorem Dev.setReg_log (d : Dev) (b : Blk) (o : Nat) (w : Word) : (d.setReg b o w).log = d.log := rfl
@[simp] theorem Dev.setReg_net (d : Dev) (b : Blk) (o : Nat) (w : Word) : (d.setReg b o w).net = d.net := rfl
@[simp] theorem Dev.setReg_trg (d : Dev) (b : Blk) (o : Nat) (w : Word) : (d.setReg b o w).trg = d.trg := rfl
@[simp] theorem Dev.setReg_ptp (d : Dev) (b : Blk) (o : Nat) (w : Word) : (d.setReg b o w).ptp = d.ptp := rfl
@[simp] theorem Dev.setReg_srv (d : Dev) (b : Blk) (o : Nat) (w : Word) : (d.setReg b o w).srv = d.srv := rfl
@[simp] theorem Dev.setReg_ref (d : Dev) (b : Blk) (o : Nat) (w : Word) : (d.setReg b o w).ref = d.ref := rfl
@[simp] theorem Dev.setReg_mcs (d : Dev) (b : Blk) (o : Nat) (w : Word) : (d.setReg b o w).mcs = d.mcs := rfl
@[simp] theorem Dev.setReg_fb (d : Dev) (b : Blk) (o : Nat) (w : Word) : (d.setReg b o w).fb = d.fb := rfl
@[simp] theorem Dev.setReg_chan (d : Dev) (b : Blk) (o : Nat) (w : Word) : (d.setReg b o w).chan = d.chan := rfl
@[simp] theorem Dev.setReg_rte (d : Dev) (b : Blk) (o : Nat) (w : Word) : (d.setReg b o w).rte = d.rte := rfl
@[simp] theorem Dev.setReg_sap (d : Dev) (b : Blk) (o : Nat) (w : Word) : (d.setReg b o w).sap = d.sap := rfl
@[simp] theorem Dev.setReg_sapg (d : Dev) (b : Blk) (o : Nat) (w : Word) : (d.setReg b o w).sapg = d.sapg := rfl
@[simp] theorem Dev.setReg_tx (d : Dev) (b : Blk) (o : Nat) (w : Word) : (d.setReg b o w).tx = d.tx := rfl
@[simp] theorem Dev.setReg_txe (d : Dev) (b : Blk) (o : Nat) (w : Word) : (d.setReg b o w).txe = d.txe := rfl
@[simp] theorem Dev.setReg_rx (d : Dev) (b : Blk) (o : Nat) (w : Word) : (d.setReg b o w).rx = d.rx := rfl
@[simp] theorem Dev.setReg_rxe (d : Dev) (b : Blk) (o : Nat) (w : Word) : (d.setReg b o w).rxe = d.rxe := rfl
@[simp] theorem Dev.setReg_otpOk (d : Dev) (b : Blk) (o : Nat) (w : Word) : (d.setReg b o w).otpOk = d.otpOk := rfl
@[simp] theorem Dev.setReg_rails (d : Dev) (b : Blk) (o : Nat) (w : Word) : (d.setReg b o w).rails = d.rails := rfl
@[simp] theorem Dev.setReg_phyPads (d : Dev) (b : Blk) (o : Nat) (w : Word) : (d.setReg b o w).phyPads = d.phyPads := rfl
@[simp] theorem Dev.setReg_freeCtr (d : Dev) (b : Blk) (o : Nat) (w : Word) : (d.setReg b o w).freeCtr = d.freeCtr := rfl

/-! ### Dev.setTw -/

@[simp] theorem Dev.setTw_eff (d : Dev) (t : Tbl) (e i : Nat) (w : Word) : (d.setTw t e i w).eff = d.eff := rfl
@[simp] theorem Dev.setTw_scrubAt (d : Dev) (t : Tbl) (e i : Nat) (w : Word) : (d.setTw t e i w).scrubAt = d.scrubAt := rfl
@[simp] theorem Dev.setTw_page (d : Dev) (t : Tbl) (e i : Nat) (w : Word) : (d.setTw t e i w).page = d.page := rfl
@[simp] theorem Dev.setTw_lines (d : Dev) (t : Tbl) (e i : Nat) (w : Word) : (d.setTw t e i w).lines = d.lines := rfl
@[simp] theorem Dev.setTw_owed (d : Dev) (t : Tbl) (e i : Nat) (w : Word) : (d.setTw t e i w).owed = d.owed := rfl
@[simp] theorem Dev.setTw_hwSet (d : Dev) (t : Tbl) (e i : Nat) (w : Word) : (d.setTw t e i w).hwSet = d.hwSet := rfl
@[simp] theorem Dev.setTw_posted (d : Dev) (t : Tbl) (e i : Nat) (w : Word) : (d.setTw t e i w).posted = d.posted := rfl
@[simp] theorem Dev.setTw_sealed (d : Dev) (t : Tbl) (e i : Nat) (w : Word) : (d.setTw t e i w).sealed = d.sealed := rfl
@[simp] theorem Dev.setTw_rshadow (d : Dev) (t : Tbl) (e i : Nat) (w : Word) : (d.setTw t e i w).rshadow = d.rshadow := rfl
@[simp] theorem Dev.setTw_wshadow (d : Dev) (t : Tbl) (e i : Nat) (w : Word) : (d.setTw t e i w).wshadow = d.wshadow := rfl
@[simp] theorem Dev.setTw_tshadow (d : Dev) (t : Tbl) (e i : Nat) (w : Word) : (d.setTw t e i w).tshadow = d.tshadow := rfl
@[simp] theorem Dev.setTw_perGal (d : Dev) (t : Tbl) (e i : Nat) (w : Word) : (d.setTw t e i w).perGal = d.perGal := rfl
@[simp] theorem Dev.setTw_gal (d : Dev) (t : Tbl) (e i : Nat) (w : Word) : (d.setTw t e i w).gal = d.gal := rfl
@[simp] theorem Dev.setTw_hif (d : Dev) (t : Tbl) (e i : Nat) (w : Word) : (d.setTw t e i w).hif = d.hif := rfl
@[simp] theorem Dev.setTw_evc (d : Dev) (t : Tbl) (e i : Nat) (w : Word) : (d.setTw t e i w).evc = d.evc := rfl
@[simp] theorem Dev.setTw_pwr (d : Dev) (t : Tbl) (e i : Nat) (w : Word) : (d.setTw t e i w).pwr = d.pwr := rfl
@[simp] theorem Dev.setTw_clk (d : Dev) (t : Tbl) (e i : Nat) (w : Word) : (d.setTw t e i w).clk = d.clk := rfl
@[simp] theorem Dev.setTw_tb (d : Dev) (t : Tbl) (e i : Nat) (w : Word) : (d.setTw t e i w).tb = d.tb := rfl
@[simp] theorem Dev.setTw_flt (d : Dev) (t : Tbl) (e i : Nat) (w : Word) : (d.setTw t e i w).flt = d.flt := rfl
@[simp] theorem Dev.setTw_lnd (d : Dev) (t : Tbl) (e i : Nat) (w : Word) : (d.setTw t e i w).lnd = d.lnd := rfl
@[simp] theorem Dev.setTw_mon (d : Dev) (t : Tbl) (e i : Nat) (w : Word) : (d.setTw t e i w).mon = d.mon := rfl
@[simp] theorem Dev.setTw_log (d : Dev) (t : Tbl) (e i : Nat) (w : Word) : (d.setTw t e i w).log = d.log := rfl
@[simp] theorem Dev.setTw_net (d : Dev) (t : Tbl) (e i : Nat) (w : Word) : (d.setTw t e i w).net = d.net := rfl
@[simp] theorem Dev.setTw_trg (d : Dev) (t : Tbl) (e i : Nat) (w : Word) : (d.setTw t e i w).trg = d.trg := rfl
@[simp] theorem Dev.setTw_ptp (d : Dev) (t : Tbl) (e i : Nat) (w : Word) : (d.setTw t e i w).ptp = d.ptp := rfl
@[simp] theorem Dev.setTw_srv (d : Dev) (t : Tbl) (e i : Nat) (w : Word) : (d.setTw t e i w).srv = d.srv := rfl
@[simp] theorem Dev.setTw_ref (d : Dev) (t : Tbl) (e i : Nat) (w : Word) : (d.setTw t e i w).ref = d.ref := rfl
@[simp] theorem Dev.setTw_mcs (d : Dev) (t : Tbl) (e i : Nat) (w : Word) : (d.setTw t e i w).mcs = d.mcs := rfl
@[simp] theorem Dev.setTw_fb (d : Dev) (t : Tbl) (e i : Nat) (w : Word) : (d.setTw t e i w).fb = d.fb := rfl
@[simp] theorem Dev.setTw_chan (d : Dev) (t : Tbl) (e i : Nat) (w : Word) : (d.setTw t e i w).chan = d.chan := rfl
@[simp] theorem Dev.setTw_rte (d : Dev) (t : Tbl) (e i : Nat) (w : Word) : (d.setTw t e i w).rte = d.rte := rfl
@[simp] theorem Dev.setTw_sap (d : Dev) (t : Tbl) (e i : Nat) (w : Word) : (d.setTw t e i w).sap = d.sap := rfl
@[simp] theorem Dev.setTw_sapg (d : Dev) (t : Tbl) (e i : Nat) (w : Word) : (d.setTw t e i w).sapg = d.sapg := rfl
@[simp] theorem Dev.setTw_tx (d : Dev) (t : Tbl) (e i : Nat) (w : Word) : (d.setTw t e i w).tx = d.tx := rfl
@[simp] theorem Dev.setTw_txe (d : Dev) (t : Tbl) (e i : Nat) (w : Word) : (d.setTw t e i w).txe = d.txe := rfl
@[simp] theorem Dev.setTw_rx (d : Dev) (t : Tbl) (e i : Nat) (w : Word) : (d.setTw t e i w).rx = d.rx := rfl
@[simp] theorem Dev.setTw_rxe (d : Dev) (t : Tbl) (e i : Nat) (w : Word) : (d.setTw t e i w).rxe = d.rxe := rfl
@[simp] theorem Dev.setTw_otpOk (d : Dev) (t : Tbl) (e i : Nat) (w : Word) : (d.setTw t e i w).otpOk = d.otpOk := rfl
@[simp] theorem Dev.setTw_rails (d : Dev) (t : Tbl) (e i : Nat) (w : Word) : (d.setTw t e i w).rails = d.rails := rfl
@[simp] theorem Dev.setTw_phyPads (d : Dev) (t : Tbl) (e i : Nat) (w : Word) : (d.setTw t e i w).phyPads = d.phyPads := rfl
@[simp] theorem Dev.setTw_freeCtr (d : Dev) (t : Tbl) (e i : Nat) (w : Word) : (d.setTw t e i w).freeCtr = d.freeCtr := rfl

/-! ### Dev.setPwv -/

@[simp] theorem Dev.setPwv_regs (d : Dev) (b : Blk) (o : Nat) (w : Word) : (d.setPwv b o w).regs = d.regs := rfl
@[simp] theorem Dev.setPwv_parityBad (d : Dev) (b : Blk) (o : Nat) (w : Word) : (d.setPwv b o w).parityBad = d.parityBad := rfl
@[simp] theorem Dev.setPwv_scrubAt (d : Dev) (b : Blk) (o : Nat) (w : Word) : (d.setPwv b o w).scrubAt = d.scrubAt := rfl
@[simp] theorem Dev.setPwv_page (d : Dev) (b : Blk) (o : Nat) (w : Word) : (d.setPwv b o w).page = d.page := rfl
@[simp] theorem Dev.setPwv_lines (d : Dev) (b : Blk) (o : Nat) (w : Word) : (d.setPwv b o w).lines = d.lines := rfl
@[simp] theorem Dev.setPwv_owed (d : Dev) (b : Blk) (o : Nat) (w : Word) : (d.setPwv b o w).owed = d.owed := rfl
@[simp] theorem Dev.setPwv_hwSet (d : Dev) (b : Blk) (o : Nat) (w : Word) : (d.setPwv b o w).hwSet = d.hwSet := rfl
@[simp] theorem Dev.setPwv_posted (d : Dev) (b : Blk) (o : Nat) (w : Word) : (d.setPwv b o w).posted = d.posted := rfl
@[simp] theorem Dev.setPwv_sealed (d : Dev) (b : Blk) (o : Nat) (w : Word) : (d.setPwv b o w).sealed = d.sealed := rfl
@[simp] theorem Dev.setPwv_rshadow (d : Dev) (b : Blk) (o : Nat) (w : Word) : (d.setPwv b o w).rshadow = d.rshadow := rfl
@[simp] theorem Dev.setPwv_wshadow (d : Dev) (b : Blk) (o : Nat) (w : Word) : (d.setPwv b o w).wshadow = d.wshadow := rfl
@[simp] theorem Dev.setPwv_tshadow (d : Dev) (b : Blk) (o : Nat) (w : Word) : (d.setPwv b o w).tshadow = d.tshadow := rfl
@[simp] theorem Dev.setPwv_perGal (d : Dev) (b : Blk) (o : Nat) (w : Word) : (d.setPwv b o w).perGal = d.perGal := rfl
@[simp] theorem Dev.setPwv_gal (d : Dev) (b : Blk) (o : Nat) (w : Word) : (d.setPwv b o w).gal = d.gal := rfl
@[simp] theorem Dev.setPwv_hif (d : Dev) (b : Blk) (o : Nat) (w : Word) : (d.setPwv b o w).hif = d.hif := rfl
@[simp] theorem Dev.setPwv_evc (d : Dev) (b : Blk) (o : Nat) (w : Word) : (d.setPwv b o w).evc = d.evc := rfl
@[simp] theorem Dev.setPwv_pwr (d : Dev) (b : Blk) (o : Nat) (w : Word) : (d.setPwv b o w).pwr = d.pwr := rfl
@[simp] theorem Dev.setPwv_clk (d : Dev) (b : Blk) (o : Nat) (w : Word) : (d.setPwv b o w).clk = d.clk := rfl
@[simp] theorem Dev.setPwv_tb (d : Dev) (b : Blk) (o : Nat) (w : Word) : (d.setPwv b o w).tb = d.tb := rfl
@[simp] theorem Dev.setPwv_flt (d : Dev) (b : Blk) (o : Nat) (w : Word) : (d.setPwv b o w).flt = d.flt := rfl
@[simp] theorem Dev.setPwv_lnd (d : Dev) (b : Blk) (o : Nat) (w : Word) : (d.setPwv b o w).lnd = d.lnd := rfl
@[simp] theorem Dev.setPwv_mon (d : Dev) (b : Blk) (o : Nat) (w : Word) : (d.setPwv b o w).mon = d.mon := rfl
@[simp] theorem Dev.setPwv_log (d : Dev) (b : Blk) (o : Nat) (w : Word) : (d.setPwv b o w).log = d.log := rfl
@[simp] theorem Dev.setPwv_net (d : Dev) (b : Blk) (o : Nat) (w : Word) : (d.setPwv b o w).net = d.net := rfl
@[simp] theorem Dev.setPwv_trg (d : Dev) (b : Blk) (o : Nat) (w : Word) : (d.setPwv b o w).trg = d.trg := rfl
@[simp] theorem Dev.setPwv_ptp (d : Dev) (b : Blk) (o : Nat) (w : Word) : (d.setPwv b o w).ptp = d.ptp := rfl
@[simp] theorem Dev.setPwv_srv (d : Dev) (b : Blk) (o : Nat) (w : Word) : (d.setPwv b o w).srv = d.srv := rfl
@[simp] theorem Dev.setPwv_ref (d : Dev) (b : Blk) (o : Nat) (w : Word) : (d.setPwv b o w).ref = d.ref := rfl
@[simp] theorem Dev.setPwv_mcs (d : Dev) (b : Blk) (o : Nat) (w : Word) : (d.setPwv b o w).mcs = d.mcs := rfl
@[simp] theorem Dev.setPwv_fb (d : Dev) (b : Blk) (o : Nat) (w : Word) : (d.setPwv b o w).fb = d.fb := rfl
@[simp] theorem Dev.setPwv_chan (d : Dev) (b : Blk) (o : Nat) (w : Word) : (d.setPwv b o w).chan = d.chan := rfl
@[simp] theorem Dev.setPwv_rte (d : Dev) (b : Blk) (o : Nat) (w : Word) : (d.setPwv b o w).rte = d.rte := rfl
@[simp] theorem Dev.setPwv_sap (d : Dev) (b : Blk) (o : Nat) (w : Word) : (d.setPwv b o w).sap = d.sap := rfl
@[simp] theorem Dev.setPwv_sapg (d : Dev) (b : Blk) (o : Nat) (w : Word) : (d.setPwv b o w).sapg = d.sapg := rfl
@[simp] theorem Dev.setPwv_tx (d : Dev) (b : Blk) (o : Nat) (w : Word) : (d.setPwv b o w).tx = d.tx := rfl
@[simp] theorem Dev.setPwv_txe (d : Dev) (b : Blk) (o : Nat) (w : Word) : (d.setPwv b o w).txe = d.txe := rfl
@[simp] theorem Dev.setPwv_rx (d : Dev) (b : Blk) (o : Nat) (w : Word) : (d.setPwv b o w).rx = d.rx := rfl
@[simp] theorem Dev.setPwv_rxe (d : Dev) (b : Blk) (o : Nat) (w : Word) : (d.setPwv b o w).rxe = d.rxe := rfl
@[simp] theorem Dev.setPwv_otpOk (d : Dev) (b : Blk) (o : Nat) (w : Word) : (d.setPwv b o w).otpOk = d.otpOk := rfl
@[simp] theorem Dev.setPwv_rails (d : Dev) (b : Blk) (o : Nat) (w : Word) : (d.setPwv b o w).rails = d.rails := rfl
@[simp] theorem Dev.setPwv_phyPads (d : Dev) (b : Blk) (o : Nat) (w : Word) : (d.setPwv b o w).phyPads = d.phyPads := rfl
@[simp] theorem Dev.setPwv_freeCtr (d : Dev) (b : Blk) (o : Nat) (w : Word) : (d.setPwv b o w).freeCtr = d.freeCtr := rfl

/-! ### Dev.setOwn -/

@[simp] theorem Dev.setOwn_regs (d : Dev) (b : Blk) (o g : Nat) (w : Word) : (d.setOwn b o g w).regs = d.regs := rfl
@[simp] theorem Dev.setOwn_eff (d : Dev) (b : Blk) (o g : Nat) (w : Word) : (d.setOwn b o g w).eff = d.eff := rfl
@[simp] theorem Dev.setOwn_scrubAt (d : Dev) (b : Blk) (o g : Nat) (w : Word) : (d.setOwn b o g w).scrubAt = d.scrubAt := rfl
@[simp] theorem Dev.setOwn_page (d : Dev) (b : Blk) (o g : Nat) (w : Word) : (d.setOwn b o g w).page = d.page := rfl
@[simp] theorem Dev.setOwn_lines (d : Dev) (b : Blk) (o g : Nat) (w : Word) : (d.setOwn b o g w).lines = d.lines := rfl
@[simp] theorem Dev.setOwn_owed (d : Dev) (b : Blk) (o g : Nat) (w : Word) : (d.setOwn b o g w).owed = d.owed := rfl
@[simp] theorem Dev.setOwn_hwSet (d : Dev) (b : Blk) (o g : Nat) (w : Word) : (d.setOwn b o g w).hwSet = d.hwSet := rfl
@[simp] theorem Dev.setOwn_posted (d : Dev) (b : Blk) (o g : Nat) (w : Word) : (d.setOwn b o g w).posted = d.posted := rfl
@[simp] theorem Dev.setOwn_sealed (d : Dev) (b : Blk) (o g : Nat) (w : Word) : (d.setOwn b o g w).sealed = d.sealed := rfl
@[simp] theorem Dev.setOwn_rshadow (d : Dev) (b : Blk) (o g : Nat) (w : Word) : (d.setOwn b o g w).rshadow = d.rshadow := rfl
@[simp] theorem Dev.setOwn_wshadow (d : Dev) (b : Blk) (o g : Nat) (w : Word) : (d.setOwn b o g w).wshadow = d.wshadow := rfl
@[simp] theorem Dev.setOwn_tshadow (d : Dev) (b : Blk) (o g : Nat) (w : Word) : (d.setOwn b o g w).tshadow = d.tshadow := rfl
@[simp] theorem Dev.setOwn_gal (d : Dev) (b : Blk) (o g : Nat) (w : Word) : (d.setOwn b o g w).gal = d.gal := rfl
@[simp] theorem Dev.setOwn_hif (d : Dev) (b : Blk) (o g : Nat) (w : Word) : (d.setOwn b o g w).hif = d.hif := rfl
@[simp] theorem Dev.setOwn_evc (d : Dev) (b : Blk) (o g : Nat) (w : Word) : (d.setOwn b o g w).evc = d.evc := rfl
@[simp] theorem Dev.setOwn_pwr (d : Dev) (b : Blk) (o g : Nat) (w : Word) : (d.setOwn b o g w).pwr = d.pwr := rfl
@[simp] theorem Dev.setOwn_clk (d : Dev) (b : Blk) (o g : Nat) (w : Word) : (d.setOwn b o g w).clk = d.clk := rfl
@[simp] theorem Dev.setOwn_tb (d : Dev) (b : Blk) (o g : Nat) (w : Word) : (d.setOwn b o g w).tb = d.tb := rfl
@[simp] theorem Dev.setOwn_flt (d : Dev) (b : Blk) (o g : Nat) (w : Word) : (d.setOwn b o g w).flt = d.flt := rfl
@[simp] theorem Dev.setOwn_lnd (d : Dev) (b : Blk) (o g : Nat) (w : Word) : (d.setOwn b o g w).lnd = d.lnd := rfl
@[simp] theorem Dev.setOwn_mon (d : Dev) (b : Blk) (o g : Nat) (w : Word) : (d.setOwn b o g w).mon = d.mon := rfl
@[simp] theorem Dev.setOwn_log (d : Dev) (b : Blk) (o g : Nat) (w : Word) : (d.setOwn b o g w).log = d.log := rfl
@[simp] theorem Dev.setOwn_net (d : Dev) (b : Blk) (o g : Nat) (w : Word) : (d.setOwn b o g w).net = d.net := rfl
@[simp] theorem Dev.setOwn_trg (d : Dev) (b : Blk) (o g : Nat) (w : Word) : (d.setOwn b o g w).trg = d.trg := rfl
@[simp] theorem Dev.setOwn_ptp (d : Dev) (b : Blk) (o g : Nat) (w : Word) : (d.setOwn b o g w).ptp = d.ptp := rfl
@[simp] theorem Dev.setOwn_srv (d : Dev) (b : Blk) (o g : Nat) (w : Word) : (d.setOwn b o g w).srv = d.srv := rfl
@[simp] theorem Dev.setOwn_ref (d : Dev) (b : Blk) (o g : Nat) (w : Word) : (d.setOwn b o g w).ref = d.ref := rfl
@[simp] theorem Dev.setOwn_mcs (d : Dev) (b : Blk) (o g : Nat) (w : Word) : (d.setOwn b o g w).mcs = d.mcs := rfl
@[simp] theorem Dev.setOwn_fb (d : Dev) (b : Blk) (o g : Nat) (w : Word) : (d.setOwn b o g w).fb = d.fb := rfl
@[simp] theorem Dev.setOwn_chan (d : Dev) (b : Blk) (o g : Nat) (w : Word) : (d.setOwn b o g w).chan = d.chan := rfl
@[simp] theorem Dev.setOwn_rte (d : Dev) (b : Blk) (o g : Nat) (w : Word) : (d.setOwn b o g w).rte = d.rte := rfl
@[simp] theorem Dev.setOwn_sap (d : Dev) (b : Blk) (o g : Nat) (w : Word) : (d.setOwn b o g w).sap = d.sap := rfl
@[simp] theorem Dev.setOwn_sapg (d : Dev) (b : Blk) (o g : Nat) (w : Word) : (d.setOwn b o g w).sapg = d.sapg := rfl
@[simp] theorem Dev.setOwn_tx (d : Dev) (b : Blk) (o g : Nat) (w : Word) : (d.setOwn b o g w).tx = d.tx := rfl
@[simp] theorem Dev.setOwn_txe (d : Dev) (b : Blk) (o g : Nat) (w : Word) : (d.setOwn b o g w).txe = d.txe := rfl
@[simp] theorem Dev.setOwn_rx (d : Dev) (b : Blk) (o g : Nat) (w : Word) : (d.setOwn b o g w).rx = d.rx := rfl
@[simp] theorem Dev.setOwn_rxe (d : Dev) (b : Blk) (o g : Nat) (w : Word) : (d.setOwn b o g w).rxe = d.rxe := rfl
@[simp] theorem Dev.setOwn_otpOk (d : Dev) (b : Blk) (o g : Nat) (w : Word) : (d.setOwn b o g w).otpOk = d.otpOk := rfl
@[simp] theorem Dev.setOwn_rails (d : Dev) (b : Blk) (o g : Nat) (w : Word) : (d.setOwn b o g w).rails = d.rails := rfl
@[simp] theorem Dev.setOwn_phyPads (d : Dev) (b : Blk) (o g : Nat) (w : Word) : (d.setOwn b o g w).phyPads = d.phyPads := rfl
@[simp] theorem Dev.setOwn_freeCtr (d : Dev) (b : Blk) (o g : Nat) (w : Word) : (d.setOwn b o g w).freeCtr = d.freeCtr := rfl

/-! ### Dev.drew -/

@[simp] theorem Dev.drew_regs (d : Dev) : (d.drew).regs = d.regs := rfl
@[simp] theorem Dev.drew_eff (d : Dev) : (d.drew).eff = d.eff := rfl
@[simp] theorem Dev.drew_parityBad (d : Dev) : (d.drew).parityBad = d.parityBad := rfl
@[simp] theorem Dev.drew_scrubAt (d : Dev) : (d.drew).scrubAt = d.scrubAt := rfl
@[simp] theorem Dev.drew_page (d : Dev) : (d.drew).page = d.page := rfl
@[simp] theorem Dev.drew_lines (d : Dev) : (d.drew).lines = d.lines := rfl
@[simp] theorem Dev.drew_owed (d : Dev) : (d.drew).owed = d.owed := rfl
@[simp] theorem Dev.drew_hwSet (d : Dev) : (d.drew).hwSet = d.hwSet := rfl
@[simp] theorem Dev.drew_posted (d : Dev) : (d.drew).posted = d.posted := rfl
@[simp] theorem Dev.drew_sealed (d : Dev) : (d.drew).sealed = d.sealed := rfl
@[simp] theorem Dev.drew_rshadow (d : Dev) : (d.drew).rshadow = d.rshadow := rfl
@[simp] theorem Dev.drew_wshadow (d : Dev) : (d.drew).wshadow = d.wshadow := rfl
@[simp] theorem Dev.drew_tshadow (d : Dev) : (d.drew).tshadow = d.tshadow := rfl
@[simp] theorem Dev.drew_perGal (d : Dev) : (d.drew).perGal = d.perGal := rfl
@[simp] theorem Dev.drew_gal (d : Dev) : (d.drew).gal = d.gal := rfl
@[simp] theorem Dev.drew_hif (d : Dev) : (d.drew).hif = d.hif := rfl
@[simp] theorem Dev.drew_evc (d : Dev) : (d.drew).evc = d.evc := rfl
@[simp] theorem Dev.drew_pwr (d : Dev) : (d.drew).pwr = d.pwr := rfl
@[simp] theorem Dev.drew_clk (d : Dev) : (d.drew).clk = d.clk := rfl
@[simp] theorem Dev.drew_tb (d : Dev) : (d.drew).tb = d.tb := rfl
@[simp] theorem Dev.drew_flt (d : Dev) : (d.drew).flt = d.flt := rfl
@[simp] theorem Dev.drew_lnd (d : Dev) : (d.drew).lnd = d.lnd := rfl
@[simp] theorem Dev.drew_mon (d : Dev) : (d.drew).mon = d.mon := rfl
@[simp] theorem Dev.drew_log (d : Dev) : (d.drew).log = d.log := rfl
@[simp] theorem Dev.drew_net (d : Dev) : (d.drew).net = d.net := rfl
@[simp] theorem Dev.drew_trg (d : Dev) : (d.drew).trg = d.trg := rfl
@[simp] theorem Dev.drew_ptp (d : Dev) : (d.drew).ptp = d.ptp := rfl
@[simp] theorem Dev.drew_srv (d : Dev) : (d.drew).srv = d.srv := rfl
@[simp] theorem Dev.drew_ref (d : Dev) : (d.drew).ref = d.ref := rfl
@[simp] theorem Dev.drew_mcs (d : Dev) : (d.drew).mcs = d.mcs := rfl
@[simp] theorem Dev.drew_fb (d : Dev) : (d.drew).fb = d.fb := rfl
@[simp] theorem Dev.drew_chan (d : Dev) : (d.drew).chan = d.chan := rfl
@[simp] theorem Dev.drew_rte (d : Dev) : (d.drew).rte = d.rte := rfl
@[simp] theorem Dev.drew_sap (d : Dev) : (d.drew).sap = d.sap := rfl
@[simp] theorem Dev.drew_sapg (d : Dev) : (d.drew).sapg = d.sapg := rfl
@[simp] theorem Dev.drew_tx (d : Dev) : (d.drew).tx = d.tx := rfl
@[simp] theorem Dev.drew_txe (d : Dev) : (d.drew).txe = d.txe := rfl
@[simp] theorem Dev.drew_rx (d : Dev) : (d.drew).rx = d.rx := rfl
@[simp] theorem Dev.drew_rxe (d : Dev) : (d.drew).rxe = d.rxe := rfl
@[simp] theorem Dev.drew_otpOk (d : Dev) : (d.drew).otpOk = d.otpOk := rfl
@[simp] theorem Dev.drew_rails (d : Dev) : (d.drew).rails = d.rails := rfl
@[simp] theorem Dev.drew_phyPads (d : Dev) : (d.drew).phyPads = d.phyPads := rfl

/-! ### Dev.setSrc -/

@[simp] theorem Dev.setSrc_regs (d : Dev) (n : Nat) (x : Src) : (d.setSrc n x).regs = d.regs := rfl
@[simp] theorem Dev.setSrc_eff (d : Dev) (n : Nat) (x : Src) : (d.setSrc n x).eff = d.eff := rfl
@[simp] theorem Dev.setSrc_parityBad (d : Dev) (n : Nat) (x : Src) : (d.setSrc n x).parityBad = d.parityBad := rfl
@[simp] theorem Dev.setSrc_scrubAt (d : Dev) (n : Nat) (x : Src) : (d.setSrc n x).scrubAt = d.scrubAt := rfl
@[simp] theorem Dev.setSrc_page (d : Dev) (n : Nat) (x : Src) : (d.setSrc n x).page = d.page := rfl
@[simp] theorem Dev.setSrc_lines (d : Dev) (n : Nat) (x : Src) : (d.setSrc n x).lines = d.lines := rfl
@[simp] theorem Dev.setSrc_owed (d : Dev) (n : Nat) (x : Src) : (d.setSrc n x).owed = d.owed := rfl
@[simp] theorem Dev.setSrc_hwSet (d : Dev) (n : Nat) (x : Src) : (d.setSrc n x).hwSet = d.hwSet := rfl
@[simp] theorem Dev.setSrc_posted (d : Dev) (n : Nat) (x : Src) : (d.setSrc n x).posted = d.posted := rfl
@[simp] theorem Dev.setSrc_sealed (d : Dev) (n : Nat) (x : Src) : (d.setSrc n x).sealed = d.sealed := rfl
@[simp] theorem Dev.setSrc_rshadow (d : Dev) (n : Nat) (x : Src) : (d.setSrc n x).rshadow = d.rshadow := rfl
@[simp] theorem Dev.setSrc_wshadow (d : Dev) (n : Nat) (x : Src) : (d.setSrc n x).wshadow = d.wshadow := rfl
@[simp] theorem Dev.setSrc_tshadow (d : Dev) (n : Nat) (x : Src) : (d.setSrc n x).tshadow = d.tshadow := rfl
@[simp] theorem Dev.setSrc_perGal (d : Dev) (n : Nat) (x : Src) : (d.setSrc n x).perGal = d.perGal := rfl
@[simp] theorem Dev.setSrc_gal (d : Dev) (n : Nat) (x : Src) : (d.setSrc n x).gal = d.gal := rfl
@[simp] theorem Dev.setSrc_hif (d : Dev) (n : Nat) (x : Src) : (d.setSrc n x).hif = d.hif := rfl
@[simp] theorem Dev.setSrc_pwr (d : Dev) (n : Nat) (x : Src) : (d.setSrc n x).pwr = d.pwr := rfl
@[simp] theorem Dev.setSrc_clk (d : Dev) (n : Nat) (x : Src) : (d.setSrc n x).clk = d.clk := rfl
@[simp] theorem Dev.setSrc_tb (d : Dev) (n : Nat) (x : Src) : (d.setSrc n x).tb = d.tb := rfl
@[simp] theorem Dev.setSrc_flt (d : Dev) (n : Nat) (x : Src) : (d.setSrc n x).flt = d.flt := rfl
@[simp] theorem Dev.setSrc_lnd (d : Dev) (n : Nat) (x : Src) : (d.setSrc n x).lnd = d.lnd := rfl
@[simp] theorem Dev.setSrc_mon (d : Dev) (n : Nat) (x : Src) : (d.setSrc n x).mon = d.mon := rfl
@[simp] theorem Dev.setSrc_log (d : Dev) (n : Nat) (x : Src) : (d.setSrc n x).log = d.log := rfl
@[simp] theorem Dev.setSrc_net (d : Dev) (n : Nat) (x : Src) : (d.setSrc n x).net = d.net := rfl
@[simp] theorem Dev.setSrc_trg (d : Dev) (n : Nat) (x : Src) : (d.setSrc n x).trg = d.trg := rfl
@[simp] theorem Dev.setSrc_ptp (d : Dev) (n : Nat) (x : Src) : (d.setSrc n x).ptp = d.ptp := rfl
@[simp] theorem Dev.setSrc_srv (d : Dev) (n : Nat) (x : Src) : (d.setSrc n x).srv = d.srv := rfl
@[simp] theorem Dev.setSrc_ref (d : Dev) (n : Nat) (x : Src) : (d.setSrc n x).ref = d.ref := rfl
@[simp] theorem Dev.setSrc_mcs (d : Dev) (n : Nat) (x : Src) : (d.setSrc n x).mcs = d.mcs := rfl
@[simp] theorem Dev.setSrc_fb (d : Dev) (n : Nat) (x : Src) : (d.setSrc n x).fb = d.fb := rfl
@[simp] theorem Dev.setSrc_chan (d : Dev) (n : Nat) (x : Src) : (d.setSrc n x).chan = d.chan := rfl
@[simp] theorem Dev.setSrc_rte (d : Dev) (n : Nat) (x : Src) : (d.setSrc n x).rte = d.rte := rfl
@[simp] theorem Dev.setSrc_sap (d : Dev) (n : Nat) (x : Src) : (d.setSrc n x).sap = d.sap := rfl
@[simp] theorem Dev.setSrc_sapg (d : Dev) (n : Nat) (x : Src) : (d.setSrc n x).sapg = d.sapg := rfl
@[simp] theorem Dev.setSrc_tx (d : Dev) (n : Nat) (x : Src) : (d.setSrc n x).tx = d.tx := rfl
@[simp] theorem Dev.setSrc_txe (d : Dev) (n : Nat) (x : Src) : (d.setSrc n x).txe = d.txe := rfl
@[simp] theorem Dev.setSrc_rx (d : Dev) (n : Nat) (x : Src) : (d.setSrc n x).rx = d.rx := rfl
@[simp] theorem Dev.setSrc_rxe (d : Dev) (n : Nat) (x : Src) : (d.setSrc n x).rxe = d.rxe := rfl
@[simp] theorem Dev.setSrc_otpOk (d : Dev) (n : Nat) (x : Src) : (d.setSrc n x).otpOk = d.otpOk := rfl
@[simp] theorem Dev.setSrc_rails (d : Dev) (n : Nat) (x : Src) : (d.setSrc n x).rails = d.rails := rfl
@[simp] theorem Dev.setSrc_phyPads (d : Dev) (n : Nat) (x : Src) : (d.setSrc n x).phyPads = d.phyPads := rfl
@[simp] theorem Dev.setSrc_freeCtr (d : Dev) (n : Nat) (x : Src) : (d.setSrc n x).freeCtr = d.freeCtr := rfl

/-! ### Dev.setPg -/

@[simp] theorem Dev.setPg_regs (d : Dev) (b : Blk) (x : PageSt) : (d.setPg b x).regs = d.regs := rfl
@[simp] theorem Dev.setPg_eff (d : Dev) (b : Blk) (x : PageSt) : (d.setPg b x).eff = d.eff := rfl
@[simp] theorem Dev.setPg_parityBad (d : Dev) (b : Blk) (x : PageSt) : (d.setPg b x).parityBad = d.parityBad := rfl
@[simp] theorem Dev.setPg_scrubAt (d : Dev) (b : Blk) (x : PageSt) : (d.setPg b x).scrubAt = d.scrubAt := rfl
@[simp] theorem Dev.setPg_lines (d : Dev) (b : Blk) (x : PageSt) : (d.setPg b x).lines = d.lines := rfl
@[simp] theorem Dev.setPg_owed (d : Dev) (b : Blk) (x : PageSt) : (d.setPg b x).owed = d.owed := rfl
@[simp] theorem Dev.setPg_hwSet (d : Dev) (b : Blk) (x : PageSt) : (d.setPg b x).hwSet = d.hwSet := rfl
@[simp] theorem Dev.setPg_posted (d : Dev) (b : Blk) (x : PageSt) : (d.setPg b x).posted = d.posted := rfl
@[simp] theorem Dev.setPg_sealed (d : Dev) (b : Blk) (x : PageSt) : (d.setPg b x).sealed = d.sealed := rfl
@[simp] theorem Dev.setPg_rshadow (d : Dev) (b : Blk) (x : PageSt) : (d.setPg b x).rshadow = d.rshadow := rfl
@[simp] theorem Dev.setPg_wshadow (d : Dev) (b : Blk) (x : PageSt) : (d.setPg b x).wshadow = d.wshadow := rfl
@[simp] theorem Dev.setPg_tshadow (d : Dev) (b : Blk) (x : PageSt) : (d.setPg b x).tshadow = d.tshadow := rfl
@[simp] theorem Dev.setPg_perGal (d : Dev) (b : Blk) (x : PageSt) : (d.setPg b x).perGal = d.perGal := rfl
@[simp] theorem Dev.setPg_gal (d : Dev) (b : Blk) (x : PageSt) : (d.setPg b x).gal = d.gal := rfl
@[simp] theorem Dev.setPg_hif (d : Dev) (b : Blk) (x : PageSt) : (d.setPg b x).hif = d.hif := rfl
@[simp] theorem Dev.setPg_evc (d : Dev) (b : Blk) (x : PageSt) : (d.setPg b x).evc = d.evc := rfl
@[simp] theorem Dev.setPg_pwr (d : Dev) (b : Blk) (x : PageSt) : (d.setPg b x).pwr = d.pwr := rfl
@[simp] theorem Dev.setPg_clk (d : Dev) (b : Blk) (x : PageSt) : (d.setPg b x).clk = d.clk := rfl
@[simp] theorem Dev.setPg_tb (d : Dev) (b : Blk) (x : PageSt) : (d.setPg b x).tb = d.tb := rfl
@[simp] theorem Dev.setPg_flt (d : Dev) (b : Blk) (x : PageSt) : (d.setPg b x).flt = d.flt := rfl
@[simp] theorem Dev.setPg_lnd (d : Dev) (b : Blk) (x : PageSt) : (d.setPg b x).lnd = d.lnd := rfl
@[simp] theorem Dev.setPg_mon (d : Dev) (b : Blk) (x : PageSt) : (d.setPg b x).mon = d.mon := rfl
@[simp] theorem Dev.setPg_log (d : Dev) (b : Blk) (x : PageSt) : (d.setPg b x).log = d.log := rfl
@[simp] theorem Dev.setPg_net (d : Dev) (b : Blk) (x : PageSt) : (d.setPg b x).net = d.net := rfl
@[simp] theorem Dev.setPg_trg (d : Dev) (b : Blk) (x : PageSt) : (d.setPg b x).trg = d.trg := rfl
@[simp] theorem Dev.setPg_ptp (d : Dev) (b : Blk) (x : PageSt) : (d.setPg b x).ptp = d.ptp := rfl
@[simp] theorem Dev.setPg_srv (d : Dev) (b : Blk) (x : PageSt) : (d.setPg b x).srv = d.srv := rfl
@[simp] theorem Dev.setPg_ref (d : Dev) (b : Blk) (x : PageSt) : (d.setPg b x).ref = d.ref := rfl
@[simp] theorem Dev.setPg_mcs (d : Dev) (b : Blk) (x : PageSt) : (d.setPg b x).mcs = d.mcs := rfl
@[simp] theorem Dev.setPg_fb (d : Dev) (b : Blk) (x : PageSt) : (d.setPg b x).fb = d.fb := rfl
@[simp] theorem Dev.setPg_chan (d : Dev) (b : Blk) (x : PageSt) : (d.setPg b x).chan = d.chan := rfl
@[simp] theorem Dev.setPg_rte (d : Dev) (b : Blk) (x : PageSt) : (d.setPg b x).rte = d.rte := rfl
@[simp] theorem Dev.setPg_sap (d : Dev) (b : Blk) (x : PageSt) : (d.setPg b x).sap = d.sap := rfl
@[simp] theorem Dev.setPg_sapg (d : Dev) (b : Blk) (x : PageSt) : (d.setPg b x).sapg = d.sapg := rfl
@[simp] theorem Dev.setPg_tx (d : Dev) (b : Blk) (x : PageSt) : (d.setPg b x).tx = d.tx := rfl
@[simp] theorem Dev.setPg_txe (d : Dev) (b : Blk) (x : PageSt) : (d.setPg b x).txe = d.txe := rfl
@[simp] theorem Dev.setPg_rx (d : Dev) (b : Blk) (x : PageSt) : (d.setPg b x).rx = d.rx := rfl
@[simp] theorem Dev.setPg_rxe (d : Dev) (b : Blk) (x : PageSt) : (d.setPg b x).rxe = d.rxe := rfl
@[simp] theorem Dev.setPg_otpOk (d : Dev) (b : Blk) (x : PageSt) : (d.setPg b x).otpOk = d.otpOk := rfl
@[simp] theorem Dev.setPg_rails (d : Dev) (b : Blk) (x : PageSt) : (d.setPg b x).rails = d.rails := rfl
@[simp] theorem Dev.setPg_phyPads (d : Dev) (b : Blk) (x : PageSt) : (d.setPg b x).phyPads = d.phyPads := rfl
@[simp] theorem Dev.setPg_freeCtr (d : Dev) (b : Blk) (x : PageSt) : (d.setPg b x).freeCtr = d.freeCtr := rfl

/-! ### Dev.setPost -/

@[simp] theorem Dev.setPost_regs (d : Dev) (b : Blk) (p : Option Posted) : (d.setPost b p).regs = d.regs := rfl
@[simp] theorem Dev.setPost_eff (d : Dev) (b : Blk) (p : Option Posted) : (d.setPost b p).eff = d.eff := rfl
@[simp] theorem Dev.setPost_parityBad (d : Dev) (b : Blk) (p : Option Posted) : (d.setPost b p).parityBad = d.parityBad := rfl
@[simp] theorem Dev.setPost_scrubAt (d : Dev) (b : Blk) (p : Option Posted) : (d.setPost b p).scrubAt = d.scrubAt := rfl
@[simp] theorem Dev.setPost_page (d : Dev) (b : Blk) (p : Option Posted) : (d.setPost b p).page = d.page := rfl
@[simp] theorem Dev.setPost_lines (d : Dev) (b : Blk) (p : Option Posted) : (d.setPost b p).lines = d.lines := rfl
@[simp] theorem Dev.setPost_owed (d : Dev) (b : Blk) (p : Option Posted) : (d.setPost b p).owed = d.owed := rfl
@[simp] theorem Dev.setPost_hwSet (d : Dev) (b : Blk) (p : Option Posted) : (d.setPost b p).hwSet = d.hwSet := rfl
@[simp] theorem Dev.setPost_sealed (d : Dev) (b : Blk) (p : Option Posted) : (d.setPost b p).sealed = d.sealed := rfl
@[simp] theorem Dev.setPost_rshadow (d : Dev) (b : Blk) (p : Option Posted) : (d.setPost b p).rshadow = d.rshadow := rfl
@[simp] theorem Dev.setPost_wshadow (d : Dev) (b : Blk) (p : Option Posted) : (d.setPost b p).wshadow = d.wshadow := rfl
@[simp] theorem Dev.setPost_tshadow (d : Dev) (b : Blk) (p : Option Posted) : (d.setPost b p).tshadow = d.tshadow := rfl
@[simp] theorem Dev.setPost_perGal (d : Dev) (b : Blk) (p : Option Posted) : (d.setPost b p).perGal = d.perGal := rfl
@[simp] theorem Dev.setPost_gal (d : Dev) (b : Blk) (p : Option Posted) : (d.setPost b p).gal = d.gal := rfl
@[simp] theorem Dev.setPost_hif (d : Dev) (b : Blk) (p : Option Posted) : (d.setPost b p).hif = d.hif := rfl
@[simp] theorem Dev.setPost_evc (d : Dev) (b : Blk) (p : Option Posted) : (d.setPost b p).evc = d.evc := rfl
@[simp] theorem Dev.setPost_pwr (d : Dev) (b : Blk) (p : Option Posted) : (d.setPost b p).pwr = d.pwr := rfl
@[simp] theorem Dev.setPost_clk (d : Dev) (b : Blk) (p : Option Posted) : (d.setPost b p).clk = d.clk := rfl
@[simp] theorem Dev.setPost_tb (d : Dev) (b : Blk) (p : Option Posted) : (d.setPost b p).tb = d.tb := rfl
@[simp] theorem Dev.setPost_flt (d : Dev) (b : Blk) (p : Option Posted) : (d.setPost b p).flt = d.flt := rfl
@[simp] theorem Dev.setPost_lnd (d : Dev) (b : Blk) (p : Option Posted) : (d.setPost b p).lnd = d.lnd := rfl
@[simp] theorem Dev.setPost_mon (d : Dev) (b : Blk) (p : Option Posted) : (d.setPost b p).mon = d.mon := rfl
@[simp] theorem Dev.setPost_log (d : Dev) (b : Blk) (p : Option Posted) : (d.setPost b p).log = d.log := rfl
@[simp] theorem Dev.setPost_net (d : Dev) (b : Blk) (p : Option Posted) : (d.setPost b p).net = d.net := rfl
@[simp] theorem Dev.setPost_trg (d : Dev) (b : Blk) (p : Option Posted) : (d.setPost b p).trg = d.trg := rfl
@[simp] theorem Dev.setPost_ptp (d : Dev) (b : Blk) (p : Option Posted) : (d.setPost b p).ptp = d.ptp := rfl
@[simp] theorem Dev.setPost_srv (d : Dev) (b : Blk) (p : Option Posted) : (d.setPost b p).srv = d.srv := rfl
@[simp] theorem Dev.setPost_ref (d : Dev) (b : Blk) (p : Option Posted) : (d.setPost b p).ref = d.ref := rfl
@[simp] theorem Dev.setPost_mcs (d : Dev) (b : Blk) (p : Option Posted) : (d.setPost b p).mcs = d.mcs := rfl
@[simp] theorem Dev.setPost_fb (d : Dev) (b : Blk) (p : Option Posted) : (d.setPost b p).fb = d.fb := rfl
@[simp] theorem Dev.setPost_chan (d : Dev) (b : Blk) (p : Option Posted) : (d.setPost b p).chan = d.chan := rfl
@[simp] theorem Dev.setPost_rte (d : Dev) (b : Blk) (p : Option Posted) : (d.setPost b p).rte = d.rte := rfl
@[simp] theorem Dev.setPost_sap (d : Dev) (b : Blk) (p : Option Posted) : (d.setPost b p).sap = d.sap := rfl
@[simp] theorem Dev.setPost_sapg (d : Dev) (b : Blk) (p : Option Posted) : (d.setPost b p).sapg = d.sapg := rfl
@[simp] theorem Dev.setPost_tx (d : Dev) (b : Blk) (p : Option Posted) : (d.setPost b p).tx = d.tx := rfl
@[simp] theorem Dev.setPost_txe (d : Dev) (b : Blk) (p : Option Posted) : (d.setPost b p).txe = d.txe := rfl
@[simp] theorem Dev.setPost_rx (d : Dev) (b : Blk) (p : Option Posted) : (d.setPost b p).rx = d.rx := rfl
@[simp] theorem Dev.setPost_rxe (d : Dev) (b : Blk) (p : Option Posted) : (d.setPost b p).rxe = d.rxe := rfl
@[simp] theorem Dev.setPost_otpOk (d : Dev) (b : Blk) (p : Option Posted) : (d.setPost b p).otpOk = d.otpOk := rfl
@[simp] theorem Dev.setPost_rails (d : Dev) (b : Blk) (p : Option Posted) : (d.setPost b p).rails = d.rails := rfl
@[simp] theorem Dev.setPost_phyPads (d : Dev) (b : Blk) (p : Option Posted) : (d.setPost b p).phyPads = d.phyPads := rfl
@[simp] theorem Dev.setPost_freeCtr (d : Dev) (b : Blk) (p : Option Posted) : (d.setPost b p).freeCtr = d.freeCtr := rfl

/-! ### Dev.setWsh -/

@[simp] theorem Dev.setWsh_regs (d : Dev) (g a : Nat) (m : SMap Word) : (d.setWsh g a m).regs = d.regs := rfl
@[simp] theorem Dev.setWsh_eff (d : Dev) (g a : Nat) (m : SMap Word) : (d.setWsh g a m).eff = d.eff := rfl
@[simp] theorem Dev.setWsh_parityBad (d : Dev) (g a : Nat) (m : SMap Word) : (d.setWsh g a m).parityBad = d.parityBad := rfl
@[simp] theorem Dev.setWsh_scrubAt (d : Dev) (g a : Nat) (m : SMap Word) : (d.setWsh g a m).scrubAt = d.scrubAt := rfl
@[simp] theorem Dev.setWsh_page (d : Dev) (g a : Nat) (m : SMap Word) : (d.setWsh g a m).page = d.page := rfl
@[simp] theorem Dev.setWsh_lines (d : Dev) (g a : Nat) (m : SMap Word) : (d.setWsh g a m).lines = d.lines := rfl
@[simp] theorem Dev.setWsh_owed (d : Dev) (g a : Nat) (m : SMap Word) : (d.setWsh g a m).owed = d.owed := rfl
@[simp] theorem Dev.setWsh_hwSet (d : Dev) (g a : Nat) (m : SMap Word) : (d.setWsh g a m).hwSet = d.hwSet := rfl
@[simp] theorem Dev.setWsh_posted (d : Dev) (g a : Nat) (m : SMap Word) : (d.setWsh g a m).posted = d.posted := rfl
@[simp] theorem Dev.setWsh_sealed (d : Dev) (g a : Nat) (m : SMap Word) : (d.setWsh g a m).sealed = d.sealed := rfl
@[simp] theorem Dev.setWsh_rshadow (d : Dev) (g a : Nat) (m : SMap Word) : (d.setWsh g a m).rshadow = d.rshadow := rfl
@[simp] theorem Dev.setWsh_tshadow (d : Dev) (g a : Nat) (m : SMap Word) : (d.setWsh g a m).tshadow = d.tshadow := rfl
@[simp] theorem Dev.setWsh_perGal (d : Dev) (g a : Nat) (m : SMap Word) : (d.setWsh g a m).perGal = d.perGal := rfl
@[simp] theorem Dev.setWsh_gal (d : Dev) (g a : Nat) (m : SMap Word) : (d.setWsh g a m).gal = d.gal := rfl
@[simp] theorem Dev.setWsh_hif (d : Dev) (g a : Nat) (m : SMap Word) : (d.setWsh g a m).hif = d.hif := rfl
@[simp] theorem Dev.setWsh_evc (d : Dev) (g a : Nat) (m : SMap Word) : (d.setWsh g a m).evc = d.evc := rfl
@[simp] theorem Dev.setWsh_pwr (d : Dev) (g a : Nat) (m : SMap Word) : (d.setWsh g a m).pwr = d.pwr := rfl
@[simp] theorem Dev.setWsh_clk (d : Dev) (g a : Nat) (m : SMap Word) : (d.setWsh g a m).clk = d.clk := rfl
@[simp] theorem Dev.setWsh_tb (d : Dev) (g a : Nat) (m : SMap Word) : (d.setWsh g a m).tb = d.tb := rfl
@[simp] theorem Dev.setWsh_flt (d : Dev) (g a : Nat) (m : SMap Word) : (d.setWsh g a m).flt = d.flt := rfl
@[simp] theorem Dev.setWsh_lnd (d : Dev) (g a : Nat) (m : SMap Word) : (d.setWsh g a m).lnd = d.lnd := rfl
@[simp] theorem Dev.setWsh_mon (d : Dev) (g a : Nat) (m : SMap Word) : (d.setWsh g a m).mon = d.mon := rfl
@[simp] theorem Dev.setWsh_log (d : Dev) (g a : Nat) (m : SMap Word) : (d.setWsh g a m).log = d.log := rfl
@[simp] theorem Dev.setWsh_net (d : Dev) (g a : Nat) (m : SMap Word) : (d.setWsh g a m).net = d.net := rfl
@[simp] theorem Dev.setWsh_trg (d : Dev) (g a : Nat) (m : SMap Word) : (d.setWsh g a m).trg = d.trg := rfl
@[simp] theorem Dev.setWsh_ptp (d : Dev) (g a : Nat) (m : SMap Word) : (d.setWsh g a m).ptp = d.ptp := rfl
@[simp] theorem Dev.setWsh_srv (d : Dev) (g a : Nat) (m : SMap Word) : (d.setWsh g a m).srv = d.srv := rfl
@[simp] theorem Dev.setWsh_ref (d : Dev) (g a : Nat) (m : SMap Word) : (d.setWsh g a m).ref = d.ref := rfl
@[simp] theorem Dev.setWsh_mcs (d : Dev) (g a : Nat) (m : SMap Word) : (d.setWsh g a m).mcs = d.mcs := rfl
@[simp] theorem Dev.setWsh_fb (d : Dev) (g a : Nat) (m : SMap Word) : (d.setWsh g a m).fb = d.fb := rfl
@[simp] theorem Dev.setWsh_chan (d : Dev) (g a : Nat) (m : SMap Word) : (d.setWsh g a m).chan = d.chan := rfl
@[simp] theorem Dev.setWsh_rte (d : Dev) (g a : Nat) (m : SMap Word) : (d.setWsh g a m).rte = d.rte := rfl
@[simp] theorem Dev.setWsh_sap (d : Dev) (g a : Nat) (m : SMap Word) : (d.setWsh g a m).sap = d.sap := rfl
@[simp] theorem Dev.setWsh_sapg (d : Dev) (g a : Nat) (m : SMap Word) : (d.setWsh g a m).sapg = d.sapg := rfl
@[simp] theorem Dev.setWsh_tx (d : Dev) (g a : Nat) (m : SMap Word) : (d.setWsh g a m).tx = d.tx := rfl
@[simp] theorem Dev.setWsh_txe (d : Dev) (g a : Nat) (m : SMap Word) : (d.setWsh g a m).txe = d.txe := rfl
@[simp] theorem Dev.setWsh_rx (d : Dev) (g a : Nat) (m : SMap Word) : (d.setWsh g a m).rx = d.rx := rfl
@[simp] theorem Dev.setWsh_rxe (d : Dev) (g a : Nat) (m : SMap Word) : (d.setWsh g a m).rxe = d.rxe := rfl
@[simp] theorem Dev.setWsh_otpOk (d : Dev) (g a : Nat) (m : SMap Word) : (d.setWsh g a m).otpOk = d.otpOk := rfl
@[simp] theorem Dev.setWsh_rails (d : Dev) (g a : Nat) (m : SMap Word) : (d.setWsh g a m).rails = d.rails := rfl
@[simp] theorem Dev.setWsh_phyPads (d : Dev) (g a : Nat) (m : SMap Word) : (d.setWsh g a m).phyPads = d.phyPads := rfl
@[simp] theorem Dev.setWsh_freeCtr (d : Dev) (g a : Nat) (m : SMap Word) : (d.setWsh g a m).freeCtr = d.freeCtr := rfl

/-! ### Dev.setTsh -/

@[simp] theorem Dev.setTsh_regs (d : Dev) (g : Nat) (t : Tbl) (m : SMap Word) : (d.setTsh g t m).regs = d.regs := rfl
@[simp] theorem Dev.setTsh_eff (d : Dev) (g : Nat) (t : Tbl) (m : SMap Word) : (d.setTsh g t m).eff = d.eff := rfl
@[simp] theorem Dev.setTsh_parityBad (d : Dev) (g : Nat) (t : Tbl) (m : SMap Word) : (d.setTsh g t m).parityBad = d.parityBad := rfl
@[simp] theorem Dev.setTsh_scrubAt (d : Dev) (g : Nat) (t : Tbl) (m : SMap Word) : (d.setTsh g t m).scrubAt = d.scrubAt := rfl
@[simp] theorem Dev.setTsh_page (d : Dev) (g : Nat) (t : Tbl) (m : SMap Word) : (d.setTsh g t m).page = d.page := rfl
@[simp] theorem Dev.setTsh_lines (d : Dev) (g : Nat) (t : Tbl) (m : SMap Word) : (d.setTsh g t m).lines = d.lines := rfl
@[simp] theorem Dev.setTsh_owed (d : Dev) (g : Nat) (t : Tbl) (m : SMap Word) : (d.setTsh g t m).owed = d.owed := rfl
@[simp] theorem Dev.setTsh_hwSet (d : Dev) (g : Nat) (t : Tbl) (m : SMap Word) : (d.setTsh g t m).hwSet = d.hwSet := rfl
@[simp] theorem Dev.setTsh_posted (d : Dev) (g : Nat) (t : Tbl) (m : SMap Word) : (d.setTsh g t m).posted = d.posted := rfl
@[simp] theorem Dev.setTsh_sealed (d : Dev) (g : Nat) (t : Tbl) (m : SMap Word) : (d.setTsh g t m).sealed = d.sealed := rfl
@[simp] theorem Dev.setTsh_rshadow (d : Dev) (g : Nat) (t : Tbl) (m : SMap Word) : (d.setTsh g t m).rshadow = d.rshadow := rfl
@[simp] theorem Dev.setTsh_wshadow (d : Dev) (g : Nat) (t : Tbl) (m : SMap Word) : (d.setTsh g t m).wshadow = d.wshadow := rfl
@[simp] theorem Dev.setTsh_perGal (d : Dev) (g : Nat) (t : Tbl) (m : SMap Word) : (d.setTsh g t m).perGal = d.perGal := rfl
@[simp] theorem Dev.setTsh_gal (d : Dev) (g : Nat) (t : Tbl) (m : SMap Word) : (d.setTsh g t m).gal = d.gal := rfl
@[simp] theorem Dev.setTsh_hif (d : Dev) (g : Nat) (t : Tbl) (m : SMap Word) : (d.setTsh g t m).hif = d.hif := rfl
@[simp] theorem Dev.setTsh_evc (d : Dev) (g : Nat) (t : Tbl) (m : SMap Word) : (d.setTsh g t m).evc = d.evc := rfl
@[simp] theorem Dev.setTsh_pwr (d : Dev) (g : Nat) (t : Tbl) (m : SMap Word) : (d.setTsh g t m).pwr = d.pwr := rfl
@[simp] theorem Dev.setTsh_clk (d : Dev) (g : Nat) (t : Tbl) (m : SMap Word) : (d.setTsh g t m).clk = d.clk := rfl
@[simp] theorem Dev.setTsh_tb (d : Dev) (g : Nat) (t : Tbl) (m : SMap Word) : (d.setTsh g t m).tb = d.tb := rfl
@[simp] theorem Dev.setTsh_flt (d : Dev) (g : Nat) (t : Tbl) (m : SMap Word) : (d.setTsh g t m).flt = d.flt := rfl
@[simp] theorem Dev.setTsh_lnd (d : Dev) (g : Nat) (t : Tbl) (m : SMap Word) : (d.setTsh g t m).lnd = d.lnd := rfl
@[simp] theorem Dev.setTsh_mon (d : Dev) (g : Nat) (t : Tbl) (m : SMap Word) : (d.setTsh g t m).mon = d.mon := rfl
@[simp] theorem Dev.setTsh_log (d : Dev) (g : Nat) (t : Tbl) (m : SMap Word) : (d.setTsh g t m).log = d.log := rfl
@[simp] theorem Dev.setTsh_net (d : Dev) (g : Nat) (t : Tbl) (m : SMap Word) : (d.setTsh g t m).net = d.net := rfl
@[simp] theorem Dev.setTsh_trg (d : Dev) (g : Nat) (t : Tbl) (m : SMap Word) : (d.setTsh g t m).trg = d.trg := rfl
@[simp] theorem Dev.setTsh_ptp (d : Dev) (g : Nat) (t : Tbl) (m : SMap Word) : (d.setTsh g t m).ptp = d.ptp := rfl
@[simp] theorem Dev.setTsh_srv (d : Dev) (g : Nat) (t : Tbl) (m : SMap Word) : (d.setTsh g t m).srv = d.srv := rfl
@[simp] theorem Dev.setTsh_ref (d : Dev) (g : Nat) (t : Tbl) (m : SMap Word) : (d.setTsh g t m).ref = d.ref := rfl
@[simp] theorem Dev.setTsh_mcs (d : Dev) (g : Nat) (t : Tbl) (m : SMap Word) : (d.setTsh g t m).mcs = d.mcs := rfl
@[simp] theorem Dev.setTsh_fb (d : Dev) (g : Nat) (t : Tbl) (m : SMap Word) : (d.setTsh g t m).fb = d.fb := rfl
@[simp] theorem Dev.setTsh_chan (d : Dev) (g : Nat) (t : Tbl) (m : SMap Word) : (d.setTsh g t m).chan = d.chan := rfl
@[simp] theorem Dev.setTsh_rte (d : Dev) (g : Nat) (t : Tbl) (m : SMap Word) : (d.setTsh g t m).rte = d.rte := rfl
@[simp] theorem Dev.setTsh_sap (d : Dev) (g : Nat) (t : Tbl) (m : SMap Word) : (d.setTsh g t m).sap = d.sap := rfl
@[simp] theorem Dev.setTsh_sapg (d : Dev) (g : Nat) (t : Tbl) (m : SMap Word) : (d.setTsh g t m).sapg = d.sapg := rfl
@[simp] theorem Dev.setTsh_tx (d : Dev) (g : Nat) (t : Tbl) (m : SMap Word) : (d.setTsh g t m).tx = d.tx := rfl
@[simp] theorem Dev.setTsh_txe (d : Dev) (g : Nat) (t : Tbl) (m : SMap Word) : (d.setTsh g t m).txe = d.txe := rfl
@[simp] theorem Dev.setTsh_rx (d : Dev) (g : Nat) (t : Tbl) (m : SMap Word) : (d.setTsh g t m).rx = d.rx := rfl
@[simp] theorem Dev.setTsh_rxe (d : Dev) (g : Nat) (t : Tbl) (m : SMap Word) : (d.setTsh g t m).rxe = d.rxe := rfl
@[simp] theorem Dev.setTsh_otpOk (d : Dev) (g : Nat) (t : Tbl) (m : SMap Word) : (d.setTsh g t m).otpOk = d.otpOk := rfl
@[simp] theorem Dev.setTsh_rails (d : Dev) (g : Nat) (t : Tbl) (m : SMap Word) : (d.setTsh g t m).rails = d.rails := rfl
@[simp] theorem Dev.setTsh_phyPads (d : Dev) (g : Nat) (t : Tbl) (m : SMap Word) : (d.setTsh g t m).phyPads = d.phyPads := rfl
@[simp] theorem Dev.setTsh_freeCtr (d : Dev) (g : Nat) (t : Tbl) (m : SMap Word) : (d.setTsh g t m).freeCtr = d.freeCtr := rfl

/-! ### Dev.setTgt -/

@[simp] theorem Dev.setTgt_regs (d : Dev) (t : Nat) (x : Tgt) : (d.setTgt t x).regs = d.regs := rfl
@[simp] theorem Dev.setTgt_eff (d : Dev) (t : Nat) (x : Tgt) : (d.setTgt t x).eff = d.eff := rfl
@[simp] theorem Dev.setTgt_parityBad (d : Dev) (t : Nat) (x : Tgt) : (d.setTgt t x).parityBad = d.parityBad := rfl
@[simp] theorem Dev.setTgt_scrubAt (d : Dev) (t : Nat) (x : Tgt) : (d.setTgt t x).scrubAt = d.scrubAt := rfl
@[simp] theorem Dev.setTgt_page (d : Dev) (t : Nat) (x : Tgt) : (d.setTgt t x).page = d.page := rfl
@[simp] theorem Dev.setTgt_lines (d : Dev) (t : Nat) (x : Tgt) : (d.setTgt t x).lines = d.lines := rfl
@[simp] theorem Dev.setTgt_owed (d : Dev) (t : Nat) (x : Tgt) : (d.setTgt t x).owed = d.owed := rfl
@[simp] theorem Dev.setTgt_hwSet (d : Dev) (t : Nat) (x : Tgt) : (d.setTgt t x).hwSet = d.hwSet := rfl
@[simp] theorem Dev.setTgt_posted (d : Dev) (t : Nat) (x : Tgt) : (d.setTgt t x).posted = d.posted := rfl
@[simp] theorem Dev.setTgt_sealed (d : Dev) (t : Nat) (x : Tgt) : (d.setTgt t x).sealed = d.sealed := rfl
@[simp] theorem Dev.setTgt_rshadow (d : Dev) (t : Nat) (x : Tgt) : (d.setTgt t x).rshadow = d.rshadow := rfl
@[simp] theorem Dev.setTgt_wshadow (d : Dev) (t : Nat) (x : Tgt) : (d.setTgt t x).wshadow = d.wshadow := rfl
@[simp] theorem Dev.setTgt_tshadow (d : Dev) (t : Nat) (x : Tgt) : (d.setTgt t x).tshadow = d.tshadow := rfl
@[simp] theorem Dev.setTgt_perGal (d : Dev) (t : Nat) (x : Tgt) : (d.setTgt t x).perGal = d.perGal := rfl
@[simp] theorem Dev.setTgt_gal (d : Dev) (t : Nat) (x : Tgt) : (d.setTgt t x).gal = d.gal := rfl
@[simp] theorem Dev.setTgt_hif (d : Dev) (t : Nat) (x : Tgt) : (d.setTgt t x).hif = d.hif := rfl
@[simp] theorem Dev.setTgt_pwr (d : Dev) (t : Nat) (x : Tgt) : (d.setTgt t x).pwr = d.pwr := rfl
@[simp] theorem Dev.setTgt_clk (d : Dev) (t : Nat) (x : Tgt) : (d.setTgt t x).clk = d.clk := rfl
@[simp] theorem Dev.setTgt_tb (d : Dev) (t : Nat) (x : Tgt) : (d.setTgt t x).tb = d.tb := rfl
@[simp] theorem Dev.setTgt_flt (d : Dev) (t : Nat) (x : Tgt) : (d.setTgt t x).flt = d.flt := rfl
@[simp] theorem Dev.setTgt_lnd (d : Dev) (t : Nat) (x : Tgt) : (d.setTgt t x).lnd = d.lnd := rfl
@[simp] theorem Dev.setTgt_mon (d : Dev) (t : Nat) (x : Tgt) : (d.setTgt t x).mon = d.mon := rfl
@[simp] theorem Dev.setTgt_log (d : Dev) (t : Nat) (x : Tgt) : (d.setTgt t x).log = d.log := rfl
@[simp] theorem Dev.setTgt_net (d : Dev) (t : Nat) (x : Tgt) : (d.setTgt t x).net = d.net := rfl
@[simp] theorem Dev.setTgt_trg (d : Dev) (t : Nat) (x : Tgt) : (d.setTgt t x).trg = d.trg := rfl
@[simp] theorem Dev.setTgt_ptp (d : Dev) (t : Nat) (x : Tgt) : (d.setTgt t x).ptp = d.ptp := rfl
@[simp] theorem Dev.setTgt_srv (d : Dev) (t : Nat) (x : Tgt) : (d.setTgt t x).srv = d.srv := rfl
@[simp] theorem Dev.setTgt_ref (d : Dev) (t : Nat) (x : Tgt) : (d.setTgt t x).ref = d.ref := rfl
@[simp] theorem Dev.setTgt_mcs (d : Dev) (t : Nat) (x : Tgt) : (d.setTgt t x).mcs = d.mcs := rfl
@[simp] theorem Dev.setTgt_fb (d : Dev) (t : Nat) (x : Tgt) : (d.setTgt t x).fb = d.fb := rfl
@[simp] theorem Dev.setTgt_chan (d : Dev) (t : Nat) (x : Tgt) : (d.setTgt t x).chan = d.chan := rfl
@[simp] theorem Dev.setTgt_rte (d : Dev) (t : Nat) (x : Tgt) : (d.setTgt t x).rte = d.rte := rfl
@[simp] theorem Dev.setTgt_sap (d : Dev) (t : Nat) (x : Tgt) : (d.setTgt t x).sap = d.sap := rfl
@[simp] theorem Dev.setTgt_sapg (d : Dev) (t : Nat) (x : Tgt) : (d.setTgt t x).sapg = d.sapg := rfl
@[simp] theorem Dev.setTgt_tx (d : Dev) (t : Nat) (x : Tgt) : (d.setTgt t x).tx = d.tx := rfl
@[simp] theorem Dev.setTgt_txe (d : Dev) (t : Nat) (x : Tgt) : (d.setTgt t x).txe = d.txe := rfl
@[simp] theorem Dev.setTgt_rx (d : Dev) (t : Nat) (x : Tgt) : (d.setTgt t x).rx = d.rx := rfl
@[simp] theorem Dev.setTgt_rxe (d : Dev) (t : Nat) (x : Tgt) : (d.setTgt t x).rxe = d.rxe := rfl
@[simp] theorem Dev.setTgt_otpOk (d : Dev) (t : Nat) (x : Tgt) : (d.setTgt t x).otpOk = d.otpOk := rfl
@[simp] theorem Dev.setTgt_rails (d : Dev) (t : Nat) (x : Tgt) : (d.setTgt t x).rails = d.rails := rfl
@[simp] theorem Dev.setTgt_phyPads (d : Dev) (t : Nat) (x : Tgt) : (d.setTgt t x).phyPads = d.phyPads := rfl
@[simp] theorem Dev.setTgt_freeCtr (d : Dev) (t : Nat) (x : Tgt) : (d.setTgt t x).freeCtr = d.freeCtr := rfl

/-! ### Dev.setNetp -/

@[simp] theorem Dev.setNetp_regs (d : Dev) (p : Nat) (x : NetP) : (d.setNetp p x).regs = d.regs := rfl
@[simp] theorem Dev.setNetp_eff (d : Dev) (p : Nat) (x : NetP) : (d.setNetp p x).eff = d.eff := rfl
@[simp] theorem Dev.setNetp_parityBad (d : Dev) (p : Nat) (x : NetP) : (d.setNetp p x).parityBad = d.parityBad := rfl
@[simp] theorem Dev.setNetp_scrubAt (d : Dev) (p : Nat) (x : NetP) : (d.setNetp p x).scrubAt = d.scrubAt := rfl
@[simp] theorem Dev.setNetp_page (d : Dev) (p : Nat) (x : NetP) : (d.setNetp p x).page = d.page := rfl
@[simp] theorem Dev.setNetp_lines (d : Dev) (p : Nat) (x : NetP) : (d.setNetp p x).lines = d.lines := rfl
@[simp] theorem Dev.setNetp_owed (d : Dev) (p : Nat) (x : NetP) : (d.setNetp p x).owed = d.owed := rfl
@[simp] theorem Dev.setNetp_hwSet (d : Dev) (p : Nat) (x : NetP) : (d.setNetp p x).hwSet = d.hwSet := rfl
@[simp] theorem Dev.setNetp_posted (d : Dev) (p : Nat) (x : NetP) : (d.setNetp p x).posted = d.posted := rfl
@[simp] theorem Dev.setNetp_sealed (d : Dev) (p : Nat) (x : NetP) : (d.setNetp p x).sealed = d.sealed := rfl
@[simp] theorem Dev.setNetp_rshadow (d : Dev) (p : Nat) (x : NetP) : (d.setNetp p x).rshadow = d.rshadow := rfl
@[simp] theorem Dev.setNetp_wshadow (d : Dev) (p : Nat) (x : NetP) : (d.setNetp p x).wshadow = d.wshadow := rfl
@[simp] theorem Dev.setNetp_tshadow (d : Dev) (p : Nat) (x : NetP) : (d.setNetp p x).tshadow = d.tshadow := rfl
@[simp] theorem Dev.setNetp_perGal (d : Dev) (p : Nat) (x : NetP) : (d.setNetp p x).perGal = d.perGal := rfl
@[simp] theorem Dev.setNetp_gal (d : Dev) (p : Nat) (x : NetP) : (d.setNetp p x).gal = d.gal := rfl
@[simp] theorem Dev.setNetp_hif (d : Dev) (p : Nat) (x : NetP) : (d.setNetp p x).hif = d.hif := rfl
@[simp] theorem Dev.setNetp_evc (d : Dev) (p : Nat) (x : NetP) : (d.setNetp p x).evc = d.evc := rfl
@[simp] theorem Dev.setNetp_pwr (d : Dev) (p : Nat) (x : NetP) : (d.setNetp p x).pwr = d.pwr := rfl
@[simp] theorem Dev.setNetp_clk (d : Dev) (p : Nat) (x : NetP) : (d.setNetp p x).clk = d.clk := rfl
@[simp] theorem Dev.setNetp_tb (d : Dev) (p : Nat) (x : NetP) : (d.setNetp p x).tb = d.tb := rfl
@[simp] theorem Dev.setNetp_flt (d : Dev) (p : Nat) (x : NetP) : (d.setNetp p x).flt = d.flt := rfl
@[simp] theorem Dev.setNetp_lnd (d : Dev) (p : Nat) (x : NetP) : (d.setNetp p x).lnd = d.lnd := rfl
@[simp] theorem Dev.setNetp_mon (d : Dev) (p : Nat) (x : NetP) : (d.setNetp p x).mon = d.mon := rfl
@[simp] theorem Dev.setNetp_log (d : Dev) (p : Nat) (x : NetP) : (d.setNetp p x).log = d.log := rfl
@[simp] theorem Dev.setNetp_trg (d : Dev) (p : Nat) (x : NetP) : (d.setNetp p x).trg = d.trg := rfl
@[simp] theorem Dev.setNetp_ptp (d : Dev) (p : Nat) (x : NetP) : (d.setNetp p x).ptp = d.ptp := rfl
@[simp] theorem Dev.setNetp_srv (d : Dev) (p : Nat) (x : NetP) : (d.setNetp p x).srv = d.srv := rfl
@[simp] theorem Dev.setNetp_ref (d : Dev) (p : Nat) (x : NetP) : (d.setNetp p x).ref = d.ref := rfl
@[simp] theorem Dev.setNetp_mcs (d : Dev) (p : Nat) (x : NetP) : (d.setNetp p x).mcs = d.mcs := rfl
@[simp] theorem Dev.setNetp_fb (d : Dev) (p : Nat) (x : NetP) : (d.setNetp p x).fb = d.fb := rfl
@[simp] theorem Dev.setNetp_chan (d : Dev) (p : Nat) (x : NetP) : (d.setNetp p x).chan = d.chan := rfl
@[simp] theorem Dev.setNetp_rte (d : Dev) (p : Nat) (x : NetP) : (d.setNetp p x).rte = d.rte := rfl
@[simp] theorem Dev.setNetp_sap (d : Dev) (p : Nat) (x : NetP) : (d.setNetp p x).sap = d.sap := rfl
@[simp] theorem Dev.setNetp_sapg (d : Dev) (p : Nat) (x : NetP) : (d.setNetp p x).sapg = d.sapg := rfl
@[simp] theorem Dev.setNetp_tx (d : Dev) (p : Nat) (x : NetP) : (d.setNetp p x).tx = d.tx := rfl
@[simp] theorem Dev.setNetp_txe (d : Dev) (p : Nat) (x : NetP) : (d.setNetp p x).txe = d.txe := rfl
@[simp] theorem Dev.setNetp_rx (d : Dev) (p : Nat) (x : NetP) : (d.setNetp p x).rx = d.rx := rfl
@[simp] theorem Dev.setNetp_rxe (d : Dev) (p : Nat) (x : NetP) : (d.setNetp p x).rxe = d.rxe := rfl
@[simp] theorem Dev.setNetp_otpOk (d : Dev) (p : Nat) (x : NetP) : (d.setNetp p x).otpOk = d.otpOk := rfl
@[simp] theorem Dev.setNetp_rails (d : Dev) (p : Nat) (x : NetP) : (d.setNetp p x).rails = d.rails := rfl
@[simp] theorem Dev.setNetp_phyPads (d : Dev) (p : Nat) (x : NetP) : (d.setNetp p x).phyPads = d.phyPads := rfl
@[simp] theorem Dev.setNetp_freeCtr (d : Dev) (p : Nat) (x : NetP) : (d.setNetp p x).freeCtr = d.freeCtr := rfl

/-! ### Dev.setHead -/

@[simp] theorem Dev.setHead_regs (d : Dev) (c : Nat) (x : Option OutHead) : (d.setHead c x).regs = d.regs := rfl
@[simp] theorem Dev.setHead_eff (d : Dev) (c : Nat) (x : Option OutHead) : (d.setHead c x).eff = d.eff := rfl
@[simp] theorem Dev.setHead_parityBad (d : Dev) (c : Nat) (x : Option OutHead) : (d.setHead c x).parityBad = d.parityBad := rfl
@[simp] theorem Dev.setHead_scrubAt (d : Dev) (c : Nat) (x : Option OutHead) : (d.setHead c x).scrubAt = d.scrubAt := rfl
@[simp] theorem Dev.setHead_page (d : Dev) (c : Nat) (x : Option OutHead) : (d.setHead c x).page = d.page := rfl
@[simp] theorem Dev.setHead_lines (d : Dev) (c : Nat) (x : Option OutHead) : (d.setHead c x).lines = d.lines := rfl
@[simp] theorem Dev.setHead_owed (d : Dev) (c : Nat) (x : Option OutHead) : (d.setHead c x).owed = d.owed := rfl
@[simp] theorem Dev.setHead_hwSet (d : Dev) (c : Nat) (x : Option OutHead) : (d.setHead c x).hwSet = d.hwSet := rfl
@[simp] theorem Dev.setHead_posted (d : Dev) (c : Nat) (x : Option OutHead) : (d.setHead c x).posted = d.posted := rfl
@[simp] theorem Dev.setHead_sealed (d : Dev) (c : Nat) (x : Option OutHead) : (d.setHead c x).sealed = d.sealed := rfl
@[simp] theorem Dev.setHead_rshadow (d : Dev) (c : Nat) (x : Option OutHead) : (d.setHead c x).rshadow = d.rshadow := rfl
@[simp] theorem Dev.setHead_wshadow (d : Dev) (c : Nat) (x : Option OutHead) : (d.setHead c x).wshadow = d.wshadow := rfl
@[simp] theorem Dev.setHead_tshadow (d : Dev) (c : Nat) (x : Option OutHead) : (d.setHead c x).tshadow = d.tshadow := rfl
@[simp] theorem Dev.setHead_perGal (d : Dev) (c : Nat) (x : Option OutHead) : (d.setHead c x).perGal = d.perGal := rfl
@[simp] theorem Dev.setHead_gal (d : Dev) (c : Nat) (x : Option OutHead) : (d.setHead c x).gal = d.gal := rfl
@[simp] theorem Dev.setHead_hif (d : Dev) (c : Nat) (x : Option OutHead) : (d.setHead c x).hif = d.hif := rfl
@[simp] theorem Dev.setHead_evc (d : Dev) (c : Nat) (x : Option OutHead) : (d.setHead c x).evc = d.evc := rfl
@[simp] theorem Dev.setHead_pwr (d : Dev) (c : Nat) (x : Option OutHead) : (d.setHead c x).pwr = d.pwr := rfl
@[simp] theorem Dev.setHead_clk (d : Dev) (c : Nat) (x : Option OutHead) : (d.setHead c x).clk = d.clk := rfl
@[simp] theorem Dev.setHead_tb (d : Dev) (c : Nat) (x : Option OutHead) : (d.setHead c x).tb = d.tb := rfl
@[simp] theorem Dev.setHead_flt (d : Dev) (c : Nat) (x : Option OutHead) : (d.setHead c x).flt = d.flt := rfl
@[simp] theorem Dev.setHead_lnd (d : Dev) (c : Nat) (x : Option OutHead) : (d.setHead c x).lnd = d.lnd := rfl
@[simp] theorem Dev.setHead_mon (d : Dev) (c : Nat) (x : Option OutHead) : (d.setHead c x).mon = d.mon := rfl
@[simp] theorem Dev.setHead_log (d : Dev) (c : Nat) (x : Option OutHead) : (d.setHead c x).log = d.log := rfl
@[simp] theorem Dev.setHead_trg (d : Dev) (c : Nat) (x : Option OutHead) : (d.setHead c x).trg = d.trg := rfl
@[simp] theorem Dev.setHead_ptp (d : Dev) (c : Nat) (x : Option OutHead) : (d.setHead c x).ptp = d.ptp := rfl
@[simp] theorem Dev.setHead_srv (d : Dev) (c : Nat) (x : Option OutHead) : (d.setHead c x).srv = d.srv := rfl
@[simp] theorem Dev.setHead_ref (d : Dev) (c : Nat) (x : Option OutHead) : (d.setHead c x).ref = d.ref := rfl
@[simp] theorem Dev.setHead_mcs (d : Dev) (c : Nat) (x : Option OutHead) : (d.setHead c x).mcs = d.mcs := rfl
@[simp] theorem Dev.setHead_fb (d : Dev) (c : Nat) (x : Option OutHead) : (d.setHead c x).fb = d.fb := rfl
@[simp] theorem Dev.setHead_chan (d : Dev) (c : Nat) (x : Option OutHead) : (d.setHead c x).chan = d.chan := rfl
@[simp] theorem Dev.setHead_rte (d : Dev) (c : Nat) (x : Option OutHead) : (d.setHead c x).rte = d.rte := rfl
@[simp] theorem Dev.setHead_sap (d : Dev) (c : Nat) (x : Option OutHead) : (d.setHead c x).sap = d.sap := rfl
@[simp] theorem Dev.setHead_sapg (d : Dev) (c : Nat) (x : Option OutHead) : (d.setHead c x).sapg = d.sapg := rfl
@[simp] theorem Dev.setHead_tx (d : Dev) (c : Nat) (x : Option OutHead) : (d.setHead c x).tx = d.tx := rfl
@[simp] theorem Dev.setHead_txe (d : Dev) (c : Nat) (x : Option OutHead) : (d.setHead c x).txe = d.txe := rfl
@[simp] theorem Dev.setHead_rx (d : Dev) (c : Nat) (x : Option OutHead) : (d.setHead c x).rx = d.rx := rfl
@[simp] theorem Dev.setHead_rxe (d : Dev) (c : Nat) (x : Option OutHead) : (d.setHead c x).rxe = d.rxe := rfl
@[simp] theorem Dev.setHead_otpOk (d : Dev) (c : Nat) (x : Option OutHead) : (d.setHead c x).otpOk = d.otpOk := rfl
@[simp] theorem Dev.setHead_rails (d : Dev) (c : Nat) (x : Option OutHead) : (d.setHead c x).rails = d.rails := rfl
@[simp] theorem Dev.setHead_phyPads (d : Dev) (c : Nat) (x : Option OutHead) : (d.setHead c x).phyPads = d.phyPads := rfl
@[simp] theorem Dev.setHead_freeCtr (d : Dev) (c : Nat) (x : Option OutHead) : (d.setHead c x).freeCtr = d.freeCtr := rfl

/-! ### Dev.setHb -/

@[simp] theorem Dev.setHb_regs (d : Dev) (b : Nat) (x : Hbuf) : (d.setHb b x).regs = d.regs := rfl
@[simp] theorem Dev.setHb_eff (d : Dev) (b : Nat) (x : Hbuf) : (d.setHb b x).eff = d.eff := rfl
@[simp] theorem Dev.setHb_parityBad (d : Dev) (b : Nat) (x : Hbuf) : (d.setHb b x).parityBad = d.parityBad := rfl
@[simp] theorem Dev.setHb_scrubAt (d : Dev) (b : Nat) (x : Hbuf) : (d.setHb b x).scrubAt = d.scrubAt := rfl
@[simp] theorem Dev.setHb_page (d : Dev) (b : Nat) (x : Hbuf) : (d.setHb b x).page = d.page := rfl
@[simp] theorem Dev.setHb_lines (d : Dev) (b : Nat) (x : Hbuf) : (d.setHb b x).lines = d.lines := rfl
@[simp] theorem Dev.setHb_owed (d : Dev) (b : Nat) (x : Hbuf) : (d.setHb b x).owed = d.owed := rfl
@[simp] theorem Dev.setHb_hwSet (d : Dev) (b : Nat) (x : Hbuf) : (d.setHb b x).hwSet = d.hwSet := rfl
@[simp] theorem Dev.setHb_posted (d : Dev) (b : Nat) (x : Hbuf) : (d.setHb b x).posted = d.posted := rfl
@[simp] theorem Dev.setHb_sealed (d : Dev) (b : Nat) (x : Hbuf) : (d.setHb b x).sealed = d.sealed := rfl
@[simp] theorem Dev.setHb_rshadow (d : Dev) (b : Nat) (x : Hbuf) : (d.setHb b x).rshadow = d.rshadow := rfl
@[simp] theorem Dev.setHb_wshadow (d : Dev) (b : Nat) (x : Hbuf) : (d.setHb b x).wshadow = d.wshadow := rfl
@[simp] theorem Dev.setHb_tshadow (d : Dev) (b : Nat) (x : Hbuf) : (d.setHb b x).tshadow = d.tshadow := rfl
@[simp] theorem Dev.setHb_perGal (d : Dev) (b : Nat) (x : Hbuf) : (d.setHb b x).perGal = d.perGal := rfl
@[simp] theorem Dev.setHb_gal (d : Dev) (b : Nat) (x : Hbuf) : (d.setHb b x).gal = d.gal := rfl
@[simp] theorem Dev.setHb_hif (d : Dev) (b : Nat) (x : Hbuf) : (d.setHb b x).hif = d.hif := rfl
@[simp] theorem Dev.setHb_evc (d : Dev) (b : Nat) (x : Hbuf) : (d.setHb b x).evc = d.evc := rfl
@[simp] theorem Dev.setHb_pwr (d : Dev) (b : Nat) (x : Hbuf) : (d.setHb b x).pwr = d.pwr := rfl
@[simp] theorem Dev.setHb_clk (d : Dev) (b : Nat) (x : Hbuf) : (d.setHb b x).clk = d.clk := rfl
@[simp] theorem Dev.setHb_tb (d : Dev) (b : Nat) (x : Hbuf) : (d.setHb b x).tb = d.tb := rfl
@[simp] theorem Dev.setHb_flt (d : Dev) (b : Nat) (x : Hbuf) : (d.setHb b x).flt = d.flt := rfl
@[simp] theorem Dev.setHb_mon (d : Dev) (b : Nat) (x : Hbuf) : (d.setHb b x).mon = d.mon := rfl
@[simp] theorem Dev.setHb_log (d : Dev) (b : Nat) (x : Hbuf) : (d.setHb b x).log = d.log := rfl
@[simp] theorem Dev.setHb_net (d : Dev) (b : Nat) (x : Hbuf) : (d.setHb b x).net = d.net := rfl
@[simp] theorem Dev.setHb_trg (d : Dev) (b : Nat) (x : Hbuf) : (d.setHb b x).trg = d.trg := rfl
@[simp] theorem Dev.setHb_ptp (d : Dev) (b : Nat) (x : Hbuf) : (d.setHb b x).ptp = d.ptp := rfl
@[simp] theorem Dev.setHb_srv (d : Dev) (b : Nat) (x : Hbuf) : (d.setHb b x).srv = d.srv := rfl
@[simp] theorem Dev.setHb_ref (d : Dev) (b : Nat) (x : Hbuf) : (d.setHb b x).ref = d.ref := rfl
@[simp] theorem Dev.setHb_mcs (d : Dev) (b : Nat) (x : Hbuf) : (d.setHb b x).mcs = d.mcs := rfl
@[simp] theorem Dev.setHb_fb (d : Dev) (b : Nat) (x : Hbuf) : (d.setHb b x).fb = d.fb := rfl
@[simp] theorem Dev.setHb_chan (d : Dev) (b : Nat) (x : Hbuf) : (d.setHb b x).chan = d.chan := rfl
@[simp] theorem Dev.setHb_rte (d : Dev) (b : Nat) (x : Hbuf) : (d.setHb b x).rte = d.rte := rfl
@[simp] theorem Dev.setHb_sap (d : Dev) (b : Nat) (x : Hbuf) : (d.setHb b x).sap = d.sap := rfl
@[simp] theorem Dev.setHb_sapg (d : Dev) (b : Nat) (x : Hbuf) : (d.setHb b x).sapg = d.sapg := rfl
@[simp] theorem Dev.setHb_tx (d : Dev) (b : Nat) (x : Hbuf) : (d.setHb b x).tx = d.tx := rfl
@[simp] theorem Dev.setHb_txe (d : Dev) (b : Nat) (x : Hbuf) : (d.setHb b x).txe = d.txe := rfl
@[simp] theorem Dev.setHb_rx (d : Dev) (b : Nat) (x : Hbuf) : (d.setHb b x).rx = d.rx := rfl
@[simp] theorem Dev.setHb_rxe (d : Dev) (b : Nat) (x : Hbuf) : (d.setHb b x).rxe = d.rxe := rfl
@[simp] theorem Dev.setHb_otpOk (d : Dev) (b : Nat) (x : Hbuf) : (d.setHb b x).otpOk = d.otpOk := rfl
@[simp] theorem Dev.setHb_rails (d : Dev) (b : Nat) (x : Hbuf) : (d.setHb b x).rails = d.rails := rfl
@[simp] theorem Dev.setHb_phyPads (d : Dev) (b : Nat) (x : Hbuf) : (d.setHb b x).phyPads = d.phyPads := rfl
@[simp] theorem Dev.setHb_freeCtr (d : Dev) (b : Nat) (x : Hbuf) : (d.setHb b x).freeCtr = d.freeCtr := rfl

/-! ### Dev.setExt -/

@[simp] theorem Dev.setExt_regs (d : Dev) (c : Nat) (x : Ext) : (d.setExt c x).regs = d.regs := rfl
@[simp] theorem Dev.setExt_eff (d : Dev) (c : Nat) (x : Ext) : (d.setExt c x).eff = d.eff := rfl
@[simp] theorem Dev.setExt_parityBad (d : Dev) (c : Nat) (x : Ext) : (d.setExt c x).parityBad = d.parityBad := rfl
@[simp] theorem Dev.setExt_scrubAt (d : Dev) (c : Nat) (x : Ext) : (d.setExt c x).scrubAt = d.scrubAt := rfl
@[simp] theorem Dev.setExt_page (d : Dev) (c : Nat) (x : Ext) : (d.setExt c x).page = d.page := rfl
@[simp] theorem Dev.setExt_lines (d : Dev) (c : Nat) (x : Ext) : (d.setExt c x).lines = d.lines := rfl
@[simp] theorem Dev.setExt_owed (d : Dev) (c : Nat) (x : Ext) : (d.setExt c x).owed = d.owed := rfl
@[simp] theorem Dev.setExt_hwSet (d : Dev) (c : Nat) (x : Ext) : (d.setExt c x).hwSet = d.hwSet := rfl
@[simp] theorem Dev.setExt_posted (d : Dev) (c : Nat) (x : Ext) : (d.setExt c x).posted = d.posted := rfl
@[simp] theorem Dev.setExt_sealed (d : Dev) (c : Nat) (x : Ext) : (d.setExt c x).sealed = d.sealed := rfl
@[simp] theorem Dev.setExt_rshadow (d : Dev) (c : Nat) (x : Ext) : (d.setExt c x).rshadow = d.rshadow := rfl
@[simp] theorem Dev.setExt_wshadow (d : Dev) (c : Nat) (x : Ext) : (d.setExt c x).wshadow = d.wshadow := rfl
@[simp] theorem Dev.setExt_tshadow (d : Dev) (c : Nat) (x : Ext) : (d.setExt c x).tshadow = d.tshadow := rfl
@[simp] theorem Dev.setExt_perGal (d : Dev) (c : Nat) (x : Ext) : (d.setExt c x).perGal = d.perGal := rfl
@[simp] theorem Dev.setExt_gal (d : Dev) (c : Nat) (x : Ext) : (d.setExt c x).gal = d.gal := rfl
@[simp] theorem Dev.setExt_hif (d : Dev) (c : Nat) (x : Ext) : (d.setExt c x).hif = d.hif := rfl
@[simp] theorem Dev.setExt_evc (d : Dev) (c : Nat) (x : Ext) : (d.setExt c x).evc = d.evc := rfl
@[simp] theorem Dev.setExt_pwr (d : Dev) (c : Nat) (x : Ext) : (d.setExt c x).pwr = d.pwr := rfl
@[simp] theorem Dev.setExt_clk (d : Dev) (c : Nat) (x : Ext) : (d.setExt c x).clk = d.clk := rfl
@[simp] theorem Dev.setExt_tb (d : Dev) (c : Nat) (x : Ext) : (d.setExt c x).tb = d.tb := rfl
@[simp] theorem Dev.setExt_flt (d : Dev) (c : Nat) (x : Ext) : (d.setExt c x).flt = d.flt := rfl
@[simp] theorem Dev.setExt_mon (d : Dev) (c : Nat) (x : Ext) : (d.setExt c x).mon = d.mon := rfl
@[simp] theorem Dev.setExt_log (d : Dev) (c : Nat) (x : Ext) : (d.setExt c x).log = d.log := rfl
@[simp] theorem Dev.setExt_net (d : Dev) (c : Nat) (x : Ext) : (d.setExt c x).net = d.net := rfl
@[simp] theorem Dev.setExt_trg (d : Dev) (c : Nat) (x : Ext) : (d.setExt c x).trg = d.trg := rfl
@[simp] theorem Dev.setExt_ptp (d : Dev) (c : Nat) (x : Ext) : (d.setExt c x).ptp = d.ptp := rfl
@[simp] theorem Dev.setExt_srv (d : Dev) (c : Nat) (x : Ext) : (d.setExt c x).srv = d.srv := rfl
@[simp] theorem Dev.setExt_ref (d : Dev) (c : Nat) (x : Ext) : (d.setExt c x).ref = d.ref := rfl
@[simp] theorem Dev.setExt_mcs (d : Dev) (c : Nat) (x : Ext) : (d.setExt c x).mcs = d.mcs := rfl
@[simp] theorem Dev.setExt_fb (d : Dev) (c : Nat) (x : Ext) : (d.setExt c x).fb = d.fb := rfl
@[simp] theorem Dev.setExt_chan (d : Dev) (c : Nat) (x : Ext) : (d.setExt c x).chan = d.chan := rfl
@[simp] theorem Dev.setExt_rte (d : Dev) (c : Nat) (x : Ext) : (d.setExt c x).rte = d.rte := rfl
@[simp] theorem Dev.setExt_sap (d : Dev) (c : Nat) (x : Ext) : (d.setExt c x).sap = d.sap := rfl
@[simp] theorem Dev.setExt_sapg (d : Dev) (c : Nat) (x : Ext) : (d.setExt c x).sapg = d.sapg := rfl
@[simp] theorem Dev.setExt_tx (d : Dev) (c : Nat) (x : Ext) : (d.setExt c x).tx = d.tx := rfl
@[simp] theorem Dev.setExt_txe (d : Dev) (c : Nat) (x : Ext) : (d.setExt c x).txe = d.txe := rfl
@[simp] theorem Dev.setExt_rx (d : Dev) (c : Nat) (x : Ext) : (d.setExt c x).rx = d.rx := rfl
@[simp] theorem Dev.setExt_rxe (d : Dev) (c : Nat) (x : Ext) : (d.setExt c x).rxe = d.rxe := rfl
@[simp] theorem Dev.setExt_otpOk (d : Dev) (c : Nat) (x : Ext) : (d.setExt c x).otpOk = d.otpOk := rfl
@[simp] theorem Dev.setExt_rails (d : Dev) (c : Nat) (x : Ext) : (d.setExt c x).rails = d.rails := rfl
@[simp] theorem Dev.setExt_phyPads (d : Dev) (c : Nat) (x : Ext) : (d.setExt c x).phyPads = d.phyPads := rfl
@[simp] theorem Dev.setExt_freeCtr (d : Dev) (c : Nat) (x : Ext) : (d.setExt c x).freeCtr = d.freeCtr := rfl

/-! ### Dev.setCor -/

@[simp] theorem Dev.setCor_regs (d : Dev) (c : Nat) (x : Cor) : (d.setCor c x).regs = d.regs := rfl
@[simp] theorem Dev.setCor_eff (d : Dev) (c : Nat) (x : Cor) : (d.setCor c x).eff = d.eff := rfl
@[simp] theorem Dev.setCor_parityBad (d : Dev) (c : Nat) (x : Cor) : (d.setCor c x).parityBad = d.parityBad := rfl
@[simp] theorem Dev.setCor_scrubAt (d : Dev) (c : Nat) (x : Cor) : (d.setCor c x).scrubAt = d.scrubAt := rfl
@[simp] theorem Dev.setCor_page (d : Dev) (c : Nat) (x : Cor) : (d.setCor c x).page = d.page := rfl
@[simp] theorem Dev.setCor_lines (d : Dev) (c : Nat) (x : Cor) : (d.setCor c x).lines = d.lines := rfl
@[simp] theorem Dev.setCor_owed (d : Dev) (c : Nat) (x : Cor) : (d.setCor c x).owed = d.owed := rfl
@[simp] theorem Dev.setCor_hwSet (d : Dev) (c : Nat) (x : Cor) : (d.setCor c x).hwSet = d.hwSet := rfl
@[simp] theorem Dev.setCor_posted (d : Dev) (c : Nat) (x : Cor) : (d.setCor c x).posted = d.posted := rfl
@[simp] theorem Dev.setCor_sealed (d : Dev) (c : Nat) (x : Cor) : (d.setCor c x).sealed = d.sealed := rfl
@[simp] theorem Dev.setCor_rshadow (d : Dev) (c : Nat) (x : Cor) : (d.setCor c x).rshadow = d.rshadow := rfl
@[simp] theorem Dev.setCor_wshadow (d : Dev) (c : Nat) (x : Cor) : (d.setCor c x).wshadow = d.wshadow := rfl
@[simp] theorem Dev.setCor_tshadow (d : Dev) (c : Nat) (x : Cor) : (d.setCor c x).tshadow = d.tshadow := rfl
@[simp] theorem Dev.setCor_perGal (d : Dev) (c : Nat) (x : Cor) : (d.setCor c x).perGal = d.perGal := rfl
@[simp] theorem Dev.setCor_gal (d : Dev) (c : Nat) (x : Cor) : (d.setCor c x).gal = d.gal := rfl
@[simp] theorem Dev.setCor_hif (d : Dev) (c : Nat) (x : Cor) : (d.setCor c x).hif = d.hif := rfl
@[simp] theorem Dev.setCor_evc (d : Dev) (c : Nat) (x : Cor) : (d.setCor c x).evc = d.evc := rfl
@[simp] theorem Dev.setCor_pwr (d : Dev) (c : Nat) (x : Cor) : (d.setCor c x).pwr = d.pwr := rfl
@[simp] theorem Dev.setCor_clk (d : Dev) (c : Nat) (x : Cor) : (d.setCor c x).clk = d.clk := rfl
@[simp] theorem Dev.setCor_tb (d : Dev) (c : Nat) (x : Cor) : (d.setCor c x).tb = d.tb := rfl
@[simp] theorem Dev.setCor_flt (d : Dev) (c : Nat) (x : Cor) : (d.setCor c x).flt = d.flt := rfl
@[simp] theorem Dev.setCor_mon (d : Dev) (c : Nat) (x : Cor) : (d.setCor c x).mon = d.mon := rfl
@[simp] theorem Dev.setCor_log (d : Dev) (c : Nat) (x : Cor) : (d.setCor c x).log = d.log := rfl
@[simp] theorem Dev.setCor_net (d : Dev) (c : Nat) (x : Cor) : (d.setCor c x).net = d.net := rfl
@[simp] theorem Dev.setCor_trg (d : Dev) (c : Nat) (x : Cor) : (d.setCor c x).trg = d.trg := rfl
@[simp] theorem Dev.setCor_ptp (d : Dev) (c : Nat) (x : Cor) : (d.setCor c x).ptp = d.ptp := rfl
@[simp] theorem Dev.setCor_srv (d : Dev) (c : Nat) (x : Cor) : (d.setCor c x).srv = d.srv := rfl
@[simp] theorem Dev.setCor_ref (d : Dev) (c : Nat) (x : Cor) : (d.setCor c x).ref = d.ref := rfl
@[simp] theorem Dev.setCor_mcs (d : Dev) (c : Nat) (x : Cor) : (d.setCor c x).mcs = d.mcs := rfl
@[simp] theorem Dev.setCor_fb (d : Dev) (c : Nat) (x : Cor) : (d.setCor c x).fb = d.fb := rfl
@[simp] theorem Dev.setCor_chan (d : Dev) (c : Nat) (x : Cor) : (d.setCor c x).chan = d.chan := rfl
@[simp] theorem Dev.setCor_rte (d : Dev) (c : Nat) (x : Cor) : (d.setCor c x).rte = d.rte := rfl
@[simp] theorem Dev.setCor_sap (d : Dev) (c : Nat) (x : Cor) : (d.setCor c x).sap = d.sap := rfl
@[simp] theorem Dev.setCor_sapg (d : Dev) (c : Nat) (x : Cor) : (d.setCor c x).sapg = d.sapg := rfl
@[simp] theorem Dev.setCor_tx (d : Dev) (c : Nat) (x : Cor) : (d.setCor c x).tx = d.tx := rfl
@[simp] theorem Dev.setCor_txe (d : Dev) (c : Nat) (x : Cor) : (d.setCor c x).txe = d.txe := rfl
@[simp] theorem Dev.setCor_rx (d : Dev) (c : Nat) (x : Cor) : (d.setCor c x).rx = d.rx := rfl
@[simp] theorem Dev.setCor_rxe (d : Dev) (c : Nat) (x : Cor) : (d.setCor c x).rxe = d.rxe := rfl
@[simp] theorem Dev.setCor_otpOk (d : Dev) (c : Nat) (x : Cor) : (d.setCor c x).otpOk = d.otpOk := rfl
@[simp] theorem Dev.setCor_rails (d : Dev) (c : Nat) (x : Cor) : (d.setCor c x).rails = d.rails := rfl
@[simp] theorem Dev.setCor_phyPads (d : Dev) (c : Nat) (x : Cor) : (d.setCor c x).phyPads = d.phyPads := rfl
@[simp] theorem Dev.setCor_freeCtr (d : Dev) (c : Nat) (x : Cor) : (d.setCor c x).freeCtr = d.freeCtr := rfl

/-! ### Dev.setMcs -/

@[simp] theorem Dev.setMcs_regs (d : Dev) (n : Nat) (x : Mcs) : (d.setMcs n x).regs = d.regs := rfl
@[simp] theorem Dev.setMcs_eff (d : Dev) (n : Nat) (x : Mcs) : (d.setMcs n x).eff = d.eff := rfl
@[simp] theorem Dev.setMcs_parityBad (d : Dev) (n : Nat) (x : Mcs) : (d.setMcs n x).parityBad = d.parityBad := rfl
@[simp] theorem Dev.setMcs_scrubAt (d : Dev) (n : Nat) (x : Mcs) : (d.setMcs n x).scrubAt = d.scrubAt := rfl
@[simp] theorem Dev.setMcs_page (d : Dev) (n : Nat) (x : Mcs) : (d.setMcs n x).page = d.page := rfl
@[simp] theorem Dev.setMcs_lines (d : Dev) (n : Nat) (x : Mcs) : (d.setMcs n x).lines = d.lines := rfl
@[simp] theorem Dev.setMcs_owed (d : Dev) (n : Nat) (x : Mcs) : (d.setMcs n x).owed = d.owed := rfl
@[simp] theorem Dev.setMcs_hwSet (d : Dev) (n : Nat) (x : Mcs) : (d.setMcs n x).hwSet = d.hwSet := rfl
@[simp] theorem Dev.setMcs_posted (d : Dev) (n : Nat) (x : Mcs) : (d.setMcs n x).posted = d.posted := rfl
@[simp] theorem Dev.setMcs_sealed (d : Dev) (n : Nat) (x : Mcs) : (d.setMcs n x).sealed = d.sealed := rfl
@[simp] theorem Dev.setMcs_rshadow (d : Dev) (n : Nat) (x : Mcs) : (d.setMcs n x).rshadow = d.rshadow := rfl
@[simp] theorem Dev.setMcs_wshadow (d : Dev) (n : Nat) (x : Mcs) : (d.setMcs n x).wshadow = d.wshadow := rfl
@[simp] theorem Dev.setMcs_tshadow (d : Dev) (n : Nat) (x : Mcs) : (d.setMcs n x).tshadow = d.tshadow := rfl
@[simp] theorem Dev.setMcs_perGal (d : Dev) (n : Nat) (x : Mcs) : (d.setMcs n x).perGal = d.perGal := rfl
@[simp] theorem Dev.setMcs_gal (d : Dev) (n : Nat) (x : Mcs) : (d.setMcs n x).gal = d.gal := rfl
@[simp] theorem Dev.setMcs_hif (d : Dev) (n : Nat) (x : Mcs) : (d.setMcs n x).hif = d.hif := rfl
@[simp] theorem Dev.setMcs_evc (d : Dev) (n : Nat) (x : Mcs) : (d.setMcs n x).evc = d.evc := rfl
@[simp] theorem Dev.setMcs_pwr (d : Dev) (n : Nat) (x : Mcs) : (d.setMcs n x).pwr = d.pwr := rfl
@[simp] theorem Dev.setMcs_clk (d : Dev) (n : Nat) (x : Mcs) : (d.setMcs n x).clk = d.clk := rfl
@[simp] theorem Dev.setMcs_tb (d : Dev) (n : Nat) (x : Mcs) : (d.setMcs n x).tb = d.tb := rfl
@[simp] theorem Dev.setMcs_flt (d : Dev) (n : Nat) (x : Mcs) : (d.setMcs n x).flt = d.flt := rfl
@[simp] theorem Dev.setMcs_lnd (d : Dev) (n : Nat) (x : Mcs) : (d.setMcs n x).lnd = d.lnd := rfl
@[simp] theorem Dev.setMcs_mon (d : Dev) (n : Nat) (x : Mcs) : (d.setMcs n x).mon = d.mon := rfl
@[simp] theorem Dev.setMcs_log (d : Dev) (n : Nat) (x : Mcs) : (d.setMcs n x).log = d.log := rfl
@[simp] theorem Dev.setMcs_net (d : Dev) (n : Nat) (x : Mcs) : (d.setMcs n x).net = d.net := rfl
@[simp] theorem Dev.setMcs_trg (d : Dev) (n : Nat) (x : Mcs) : (d.setMcs n x).trg = d.trg := rfl
@[simp] theorem Dev.setMcs_ptp (d : Dev) (n : Nat) (x : Mcs) : (d.setMcs n x).ptp = d.ptp := rfl
@[simp] theorem Dev.setMcs_srv (d : Dev) (n : Nat) (x : Mcs) : (d.setMcs n x).srv = d.srv := rfl
@[simp] theorem Dev.setMcs_ref (d : Dev) (n : Nat) (x : Mcs) : (d.setMcs n x).ref = d.ref := rfl
@[simp] theorem Dev.setMcs_fb (d : Dev) (n : Nat) (x : Mcs) : (d.setMcs n x).fb = d.fb := rfl
@[simp] theorem Dev.setMcs_chan (d : Dev) (n : Nat) (x : Mcs) : (d.setMcs n x).chan = d.chan := rfl
@[simp] theorem Dev.setMcs_rte (d : Dev) (n : Nat) (x : Mcs) : (d.setMcs n x).rte = d.rte := rfl
@[simp] theorem Dev.setMcs_sap (d : Dev) (n : Nat) (x : Mcs) : (d.setMcs n x).sap = d.sap := rfl
@[simp] theorem Dev.setMcs_sapg (d : Dev) (n : Nat) (x : Mcs) : (d.setMcs n x).sapg = d.sapg := rfl
@[simp] theorem Dev.setMcs_tx (d : Dev) (n : Nat) (x : Mcs) : (d.setMcs n x).tx = d.tx := rfl
@[simp] theorem Dev.setMcs_txe (d : Dev) (n : Nat) (x : Mcs) : (d.setMcs n x).txe = d.txe := rfl
@[simp] theorem Dev.setMcs_rx (d : Dev) (n : Nat) (x : Mcs) : (d.setMcs n x).rx = d.rx := rfl
@[simp] theorem Dev.setMcs_rxe (d : Dev) (n : Nat) (x : Mcs) : (d.setMcs n x).rxe = d.rxe := rfl
@[simp] theorem Dev.setMcs_otpOk (d : Dev) (n : Nat) (x : Mcs) : (d.setMcs n x).otpOk = d.otpOk := rfl
@[simp] theorem Dev.setMcs_rails (d : Dev) (n : Nat) (x : Mcs) : (d.setMcs n x).rails = d.rails := rfl
@[simp] theorem Dev.setMcs_phyPads (d : Dev) (n : Nat) (x : Mcs) : (d.setMcs n x).phyPads = d.phyPads := rfl
@[simp] theorem Dev.setMcs_freeCtr (d : Dev) (n : Nat) (x : Mcs) : (d.setMcs n x).freeCtr = d.freeCtr := rfl

/-! ### Dev.setRin -/

@[simp] theorem Dev.setRin_regs (d : Dev) (i : Nat) (x : RefIn) : (d.setRin i x).regs = d.regs := rfl
@[simp] theorem Dev.setRin_eff (d : Dev) (i : Nat) (x : RefIn) : (d.setRin i x).eff = d.eff := rfl
@[simp] theorem Dev.setRin_parityBad (d : Dev) (i : Nat) (x : RefIn) : (d.setRin i x).parityBad = d.parityBad := rfl
@[simp] theorem Dev.setRin_scrubAt (d : Dev) (i : Nat) (x : RefIn) : (d.setRin i x).scrubAt = d.scrubAt := rfl
@[simp] theorem Dev.setRin_page (d : Dev) (i : Nat) (x : RefIn) : (d.setRin i x).page = d.page := rfl
@[simp] theorem Dev.setRin_lines (d : Dev) (i : Nat) (x : RefIn) : (d.setRin i x).lines = d.lines := rfl
@[simp] theorem Dev.setRin_owed (d : Dev) (i : Nat) (x : RefIn) : (d.setRin i x).owed = d.owed := rfl
@[simp] theorem Dev.setRin_hwSet (d : Dev) (i : Nat) (x : RefIn) : (d.setRin i x).hwSet = d.hwSet := rfl
@[simp] theorem Dev.setRin_posted (d : Dev) (i : Nat) (x : RefIn) : (d.setRin i x).posted = d.posted := rfl
@[simp] theorem Dev.setRin_sealed (d : Dev) (i : Nat) (x : RefIn) : (d.setRin i x).sealed = d.sealed := rfl
@[simp] theorem Dev.setRin_rshadow (d : Dev) (i : Nat) (x : RefIn) : (d.setRin i x).rshadow = d.rshadow := rfl
@[simp] theorem Dev.setRin_wshadow (d : Dev) (i : Nat) (x : RefIn) : (d.setRin i x).wshadow = d.wshadow := rfl
@[simp] theorem Dev.setRin_tshadow (d : Dev) (i : Nat) (x : RefIn) : (d.setRin i x).tshadow = d.tshadow := rfl
@[simp] theorem Dev.setRin_perGal (d : Dev) (i : Nat) (x : RefIn) : (d.setRin i x).perGal = d.perGal := rfl
@[simp] theorem Dev.setRin_gal (d : Dev) (i : Nat) (x : RefIn) : (d.setRin i x).gal = d.gal := rfl
@[simp] theorem Dev.setRin_hif (d : Dev) (i : Nat) (x : RefIn) : (d.setRin i x).hif = d.hif := rfl
@[simp] theorem Dev.setRin_evc (d : Dev) (i : Nat) (x : RefIn) : (d.setRin i x).evc = d.evc := rfl
@[simp] theorem Dev.setRin_pwr (d : Dev) (i : Nat) (x : RefIn) : (d.setRin i x).pwr = d.pwr := rfl
@[simp] theorem Dev.setRin_clk (d : Dev) (i : Nat) (x : RefIn) : (d.setRin i x).clk = d.clk := rfl
@[simp] theorem Dev.setRin_tb (d : Dev) (i : Nat) (x : RefIn) : (d.setRin i x).tb = d.tb := rfl
@[simp] theorem Dev.setRin_flt (d : Dev) (i : Nat) (x : RefIn) : (d.setRin i x).flt = d.flt := rfl
@[simp] theorem Dev.setRin_lnd (d : Dev) (i : Nat) (x : RefIn) : (d.setRin i x).lnd = d.lnd := rfl
@[simp] theorem Dev.setRin_mon (d : Dev) (i : Nat) (x : RefIn) : (d.setRin i x).mon = d.mon := rfl
@[simp] theorem Dev.setRin_log (d : Dev) (i : Nat) (x : RefIn) : (d.setRin i x).log = d.log := rfl
@[simp] theorem Dev.setRin_net (d : Dev) (i : Nat) (x : RefIn) : (d.setRin i x).net = d.net := rfl
@[simp] theorem Dev.setRin_trg (d : Dev) (i : Nat) (x : RefIn) : (d.setRin i x).trg = d.trg := rfl
@[simp] theorem Dev.setRin_ptp (d : Dev) (i : Nat) (x : RefIn) : (d.setRin i x).ptp = d.ptp := rfl
@[simp] theorem Dev.setRin_srv (d : Dev) (i : Nat) (x : RefIn) : (d.setRin i x).srv = d.srv := rfl
@[simp] theorem Dev.setRin_mcs (d : Dev) (i : Nat) (x : RefIn) : (d.setRin i x).mcs = d.mcs := rfl
@[simp] theorem Dev.setRin_fb (d : Dev) (i : Nat) (x : RefIn) : (d.setRin i x).fb = d.fb := rfl
@[simp] theorem Dev.setRin_chan (d : Dev) (i : Nat) (x : RefIn) : (d.setRin i x).chan = d.chan := rfl
@[simp] theorem Dev.setRin_rte (d : Dev) (i : Nat) (x : RefIn) : (d.setRin i x).rte = d.rte := rfl
@[simp] theorem Dev.setRin_sap (d : Dev) (i : Nat) (x : RefIn) : (d.setRin i x).sap = d.sap := rfl
@[simp] theorem Dev.setRin_sapg (d : Dev) (i : Nat) (x : RefIn) : (d.setRin i x).sapg = d.sapg := rfl
@[simp] theorem Dev.setRin_tx (d : Dev) (i : Nat) (x : RefIn) : (d.setRin i x).tx = d.tx := rfl
@[simp] theorem Dev.setRin_txe (d : Dev) (i : Nat) (x : RefIn) : (d.setRin i x).txe = d.txe := rfl
@[simp] theorem Dev.setRin_rx (d : Dev) (i : Nat) (x : RefIn) : (d.setRin i x).rx = d.rx := rfl
@[simp] theorem Dev.setRin_rxe (d : Dev) (i : Nat) (x : RefIn) : (d.setRin i x).rxe = d.rxe := rfl
@[simp] theorem Dev.setRin_otpOk (d : Dev) (i : Nat) (x : RefIn) : (d.setRin i x).otpOk = d.otpOk := rfl
@[simp] theorem Dev.setRin_rails (d : Dev) (i : Nat) (x : RefIn) : (d.setRin i x).rails = d.rails := rfl
@[simp] theorem Dev.setRin_phyPads (d : Dev) (i : Nat) (x : RefIn) : (d.setRin i x).phyPads = d.phyPads := rfl
@[simp] theorem Dev.setRin_freeCtr (d : Dev) (i : Nat) (x : RefIn) : (d.setRin i x).freeCtr = d.freeCtr := rfl

/-! ### Dev.setRx -/

@[simp] theorem Dev.setRx_regs (d : Dev) (n : Nat) (x : RxS) : (d.setRx n x).regs = d.regs := rfl
@[simp] theorem Dev.setRx_eff (d : Dev) (n : Nat) (x : RxS) : (d.setRx n x).eff = d.eff := rfl
@[simp] theorem Dev.setRx_parityBad (d : Dev) (n : Nat) (x : RxS) : (d.setRx n x).parityBad = d.parityBad := rfl
@[simp] theorem Dev.setRx_scrubAt (d : Dev) (n : Nat) (x : RxS) : (d.setRx n x).scrubAt = d.scrubAt := rfl
@[simp] theorem Dev.setRx_page (d : Dev) (n : Nat) (x : RxS) : (d.setRx n x).page = d.page := rfl
@[simp] theorem Dev.setRx_lines (d : Dev) (n : Nat) (x : RxS) : (d.setRx n x).lines = d.lines := rfl
@[simp] theorem Dev.setRx_owed (d : Dev) (n : Nat) (x : RxS) : (d.setRx n x).owed = d.owed := rfl
@[simp] theorem Dev.setRx_hwSet (d : Dev) (n : Nat) (x : RxS) : (d.setRx n x).hwSet = d.hwSet := rfl
@[simp] theorem Dev.setRx_posted (d : Dev) (n : Nat) (x : RxS) : (d.setRx n x).posted = d.posted := rfl
@[simp] theorem Dev.setRx_sealed (d : Dev) (n : Nat) (x : RxS) : (d.setRx n x).sealed = d.sealed := rfl
@[simp] theorem Dev.setRx_rshadow (d : Dev) (n : Nat) (x : RxS) : (d.setRx n x).rshadow = d.rshadow := rfl
@[simp] theorem Dev.setRx_wshadow (d : Dev) (n : Nat) (x : RxS) : (d.setRx n x).wshadow = d.wshadow := rfl
@[simp] theorem Dev.setRx_tshadow (d : Dev) (n : Nat) (x : RxS) : (d.setRx n x).tshadow = d.tshadow := rfl
@[simp] theorem Dev.setRx_perGal (d : Dev) (n : Nat) (x : RxS) : (d.setRx n x).perGal = d.perGal := rfl
@[simp] theorem Dev.setRx_gal (d : Dev) (n : Nat) (x : RxS) : (d.setRx n x).gal = d.gal := rfl
@[simp] theorem Dev.setRx_hif (d : Dev) (n : Nat) (x : RxS) : (d.setRx n x).hif = d.hif := rfl
@[simp] theorem Dev.setRx_evc (d : Dev) (n : Nat) (x : RxS) : (d.setRx n x).evc = d.evc := rfl
@[simp] theorem Dev.setRx_pwr (d : Dev) (n : Nat) (x : RxS) : (d.setRx n x).pwr = d.pwr := rfl
@[simp] theorem Dev.setRx_clk (d : Dev) (n : Nat) (x : RxS) : (d.setRx n x).clk = d.clk := rfl
@[simp] theorem Dev.setRx_tb (d : Dev) (n : Nat) (x : RxS) : (d.setRx n x).tb = d.tb := rfl
@[simp] theorem Dev.setRx_flt (d : Dev) (n : Nat) (x : RxS) : (d.setRx n x).flt = d.flt := rfl
@[simp] theorem Dev.setRx_lnd (d : Dev) (n : Nat) (x : RxS) : (d.setRx n x).lnd = d.lnd := rfl
@[simp] theorem Dev.setRx_mon (d : Dev) (n : Nat) (x : RxS) : (d.setRx n x).mon = d.mon := rfl
@[simp] theorem Dev.setRx_log (d : Dev) (n : Nat) (x : RxS) : (d.setRx n x).log = d.log := rfl
@[simp] theorem Dev.setRx_net (d : Dev) (n : Nat) (x : RxS) : (d.setRx n x).net = d.net := rfl
@[simp] theorem Dev.setRx_trg (d : Dev) (n : Nat) (x : RxS) : (d.setRx n x).trg = d.trg := rfl
@[simp] theorem Dev.setRx_ptp (d : Dev) (n : Nat) (x : RxS) : (d.setRx n x).ptp = d.ptp := rfl
@[simp] theorem Dev.setRx_srv (d : Dev) (n : Nat) (x : RxS) : (d.setRx n x).srv = d.srv := rfl
@[simp] theorem Dev.setRx_ref (d : Dev) (n : Nat) (x : RxS) : (d.setRx n x).ref = d.ref := rfl
@[simp] theorem Dev.setRx_mcs (d : Dev) (n : Nat) (x : RxS) : (d.setRx n x).mcs = d.mcs := rfl
@[simp] theorem Dev.setRx_fb (d : Dev) (n : Nat) (x : RxS) : (d.setRx n x).fb = d.fb := rfl
@[simp] theorem Dev.setRx_chan (d : Dev) (n : Nat) (x : RxS) : (d.setRx n x).chan = d.chan := rfl
@[simp] theorem Dev.setRx_rte (d : Dev) (n : Nat) (x : RxS) : (d.setRx n x).rte = d.rte := rfl
@[simp] theorem Dev.setRx_sap (d : Dev) (n : Nat) (x : RxS) : (d.setRx n x).sap = d.sap := rfl
@[simp] theorem Dev.setRx_sapg (d : Dev) (n : Nat) (x : RxS) : (d.setRx n x).sapg = d.sapg := rfl
@[simp] theorem Dev.setRx_tx (d : Dev) (n : Nat) (x : RxS) : (d.setRx n x).tx = d.tx := rfl
@[simp] theorem Dev.setRx_txe (d : Dev) (n : Nat) (x : RxS) : (d.setRx n x).txe = d.txe := rfl
@[simp] theorem Dev.setRx_rxe (d : Dev) (n : Nat) (x : RxS) : (d.setRx n x).rxe = d.rxe := rfl
@[simp] theorem Dev.setRx_otpOk (d : Dev) (n : Nat) (x : RxS) : (d.setRx n x).otpOk = d.otpOk := rfl
@[simp] theorem Dev.setRx_rails (d : Dev) (n : Nat) (x : RxS) : (d.setRx n x).rails = d.rails := rfl
@[simp] theorem Dev.setRx_phyPads (d : Dev) (n : Nat) (x : RxS) : (d.setRx n x).phyPads = d.phyPads := rfl
@[simp] theorem Dev.setRx_freeCtr (d : Dev) (n : Nat) (x : RxS) : (d.setRx n x).freeCtr = d.freeCtr := rfl

/-! ### Dev.setTx -/

@[simp] theorem Dev.setTx_regs (d : Dev) (n : Nat) (x : TxS) : (d.setTx n x).regs = d.regs := rfl
@[simp] theorem Dev.setTx_eff (d : Dev) (n : Nat) (x : TxS) : (d.setTx n x).eff = d.eff := rfl
@[simp] theorem Dev.setTx_parityBad (d : Dev) (n : Nat) (x : TxS) : (d.setTx n x).parityBad = d.parityBad := rfl
@[simp] theorem Dev.setTx_scrubAt (d : Dev) (n : Nat) (x : TxS) : (d.setTx n x).scrubAt = d.scrubAt := rfl
@[simp] theorem Dev.setTx_page (d : Dev) (n : Nat) (x : TxS) : (d.setTx n x).page = d.page := rfl
@[simp] theorem Dev.setTx_lines (d : Dev) (n : Nat) (x : TxS) : (d.setTx n x).lines = d.lines := rfl
@[simp] theorem Dev.setTx_owed (d : Dev) (n : Nat) (x : TxS) : (d.setTx n x).owed = d.owed := rfl
@[simp] theorem Dev.setTx_hwSet (d : Dev) (n : Nat) (x : TxS) : (d.setTx n x).hwSet = d.hwSet := rfl
@[simp] theorem Dev.setTx_posted (d : Dev) (n : Nat) (x : TxS) : (d.setTx n x).posted = d.posted := rfl
@[simp] theorem Dev.setTx_sealed (d : Dev) (n : Nat) (x : TxS) : (d.setTx n x).sealed = d.sealed := rfl
@[simp] theorem Dev.setTx_rshadow (d : Dev) (n : Nat) (x : TxS) : (d.setTx n x).rshadow = d.rshadow := rfl
@[simp] theorem Dev.setTx_wshadow (d : Dev) (n : Nat) (x : TxS) : (d.setTx n x).wshadow = d.wshadow := rfl
@[simp] theorem Dev.setTx_tshadow (d : Dev) (n : Nat) (x : TxS) : (d.setTx n x).tshadow = d.tshadow := rfl
@[simp] theorem Dev.setTx_perGal (d : Dev) (n : Nat) (x : TxS) : (d.setTx n x).perGal = d.perGal := rfl
@[simp] theorem Dev.setTx_gal (d : Dev) (n : Nat) (x : TxS) : (d.setTx n x).gal = d.gal := rfl
@[simp] theorem Dev.setTx_hif (d : Dev) (n : Nat) (x : TxS) : (d.setTx n x).hif = d.hif := rfl
@[simp] theorem Dev.setTx_evc (d : Dev) (n : Nat) (x : TxS) : (d.setTx n x).evc = d.evc := rfl
@[simp] theorem Dev.setTx_pwr (d : Dev) (n : Nat) (x : TxS) : (d.setTx n x).pwr = d.pwr := rfl
@[simp] theorem Dev.setTx_clk (d : Dev) (n : Nat) (x : TxS) : (d.setTx n x).clk = d.clk := rfl
@[simp] theorem Dev.setTx_tb (d : Dev) (n : Nat) (x : TxS) : (d.setTx n x).tb = d.tb := rfl
@[simp] theorem Dev.setTx_flt (d : Dev) (n : Nat) (x : TxS) : (d.setTx n x).flt = d.flt := rfl
@[simp] theorem Dev.setTx_lnd (d : Dev) (n : Nat) (x : TxS) : (d.setTx n x).lnd = d.lnd := rfl
@[simp] theorem Dev.setTx_mon (d : Dev) (n : Nat) (x : TxS) : (d.setTx n x).mon = d.mon := rfl
@[simp] theorem Dev.setTx_log (d : Dev) (n : Nat) (x : TxS) : (d.setTx n x).log = d.log := rfl
@[simp] theorem Dev.setTx_net (d : Dev) (n : Nat) (x : TxS) : (d.setTx n x).net = d.net := rfl
@[simp] theorem Dev.setTx_trg (d : Dev) (n : Nat) (x : TxS) : (d.setTx n x).trg = d.trg := rfl
@[simp] theorem Dev.setTx_ptp (d : Dev) (n : Nat) (x : TxS) : (d.setTx n x).ptp = d.ptp := rfl
@[simp] theorem Dev.setTx_srv (d : Dev) (n : Nat) (x : TxS) : (d.setTx n x).srv = d.srv := rfl
@[simp] theorem Dev.setTx_ref (d : Dev) (n : Nat) (x : TxS) : (d.setTx n x).ref = d.ref := rfl
@[simp] theorem Dev.setTx_mcs (d : Dev) (n : Nat) (x : TxS) : (d.setTx n x).mcs = d.mcs := rfl
@[simp] theorem Dev.setTx_fb (d : Dev) (n : Nat) (x : TxS) : (d.setTx n x).fb = d.fb := rfl
@[simp] theorem Dev.setTx_chan (d : Dev) (n : Nat) (x : TxS) : (d.setTx n x).chan = d.chan := rfl
@[simp] theorem Dev.setTx_rte (d : Dev) (n : Nat) (x : TxS) : (d.setTx n x).rte = d.rte := rfl
@[simp] theorem Dev.setTx_sap (d : Dev) (n : Nat) (x : TxS) : (d.setTx n x).sap = d.sap := rfl
@[simp] theorem Dev.setTx_sapg (d : Dev) (n : Nat) (x : TxS) : (d.setTx n x).sapg = d.sapg := rfl
@[simp] theorem Dev.setTx_txe (d : Dev) (n : Nat) (x : TxS) : (d.setTx n x).txe = d.txe := rfl
@[simp] theorem Dev.setTx_rx (d : Dev) (n : Nat) (x : TxS) : (d.setTx n x).rx = d.rx := rfl
@[simp] theorem Dev.setTx_rxe (d : Dev) (n : Nat) (x : TxS) : (d.setTx n x).rxe = d.rxe := rfl
@[simp] theorem Dev.setTx_otpOk (d : Dev) (n : Nat) (x : TxS) : (d.setTx n x).otpOk = d.otpOk := rfl
@[simp] theorem Dev.setTx_rails (d : Dev) (n : Nat) (x : TxS) : (d.setTx n x).rails = d.rails := rfl
@[simp] theorem Dev.setTx_phyPads (d : Dev) (n : Nat) (x : TxS) : (d.setTx n x).phyPads = d.phyPads := rfl
@[simp] theorem Dev.setTx_freeCtr (d : Dev) (n : Nat) (x : TxS) : (d.setTx n x).freeCtr = d.freeCtr := rfl

/-! ### Dev.setSap -/

@[simp] theorem Dev.setSap_regs (d : Dev) (n : Nat) (x : SapS) : (d.setSap n x).regs = d.regs := rfl
@[simp] theorem Dev.setSap_eff (d : Dev) (n : Nat) (x : SapS) : (d.setSap n x).eff = d.eff := rfl
@[simp] theorem Dev.setSap_parityBad (d : Dev) (n : Nat) (x : SapS) : (d.setSap n x).parityBad = d.parityBad := rfl
@[simp] theorem Dev.setSap_scrubAt (d : Dev) (n : Nat) (x : SapS) : (d.setSap n x).scrubAt = d.scrubAt := rfl
@[simp] theorem Dev.setSap_page (d : Dev) (n : Nat) (x : SapS) : (d.setSap n x).page = d.page := rfl
@[simp] theorem Dev.setSap_lines (d : Dev) (n : Nat) (x : SapS) : (d.setSap n x).lines = d.lines := rfl
@[simp] theorem Dev.setSap_owed (d : Dev) (n : Nat) (x : SapS) : (d.setSap n x).owed = d.owed := rfl
@[simp] theorem Dev.setSap_hwSet (d : Dev) (n : Nat) (x : SapS) : (d.setSap n x).hwSet = d.hwSet := rfl
@[simp] theorem Dev.setSap_posted (d : Dev) (n : Nat) (x : SapS) : (d.setSap n x).posted = d.posted := rfl
@[simp] theorem Dev.setSap_sealed (d : Dev) (n : Nat) (x : SapS) : (d.setSap n x).sealed = d.sealed := rfl
@[simp] theorem Dev.setSap_rshadow (d : Dev) (n : Nat) (x : SapS) : (d.setSap n x).rshadow = d.rshadow := rfl
@[simp] theorem Dev.setSap_wshadow (d : Dev) (n : Nat) (x : SapS) : (d.setSap n x).wshadow = d.wshadow := rfl
@[simp] theorem Dev.setSap_tshadow (d : Dev) (n : Nat) (x : SapS) : (d.setSap n x).tshadow = d.tshadow := rfl
@[simp] theorem Dev.setSap_perGal (d : Dev) (n : Nat) (x : SapS) : (d.setSap n x).perGal = d.perGal := rfl
@[simp] theorem Dev.setSap_gal (d : Dev) (n : Nat) (x : SapS) : (d.setSap n x).gal = d.gal := rfl
@[simp] theorem Dev.setSap_hif (d : Dev) (n : Nat) (x : SapS) : (d.setSap n x).hif = d.hif := rfl
@[simp] theorem Dev.setSap_evc (d : Dev) (n : Nat) (x : SapS) : (d.setSap n x).evc = d.evc := rfl
@[simp] theorem Dev.setSap_pwr (d : Dev) (n : Nat) (x : SapS) : (d.setSap n x).pwr = d.pwr := rfl
@[simp] theorem Dev.setSap_clk (d : Dev) (n : Nat) (x : SapS) : (d.setSap n x).clk = d.clk := rfl
@[simp] theorem Dev.setSap_tb (d : Dev) (n : Nat) (x : SapS) : (d.setSap n x).tb = d.tb := rfl
@[simp] theorem Dev.setSap_flt (d : Dev) (n : Nat) (x : SapS) : (d.setSap n x).flt = d.flt := rfl
@[simp] theorem Dev.setSap_lnd (d : Dev) (n : Nat) (x : SapS) : (d.setSap n x).lnd = d.lnd := rfl
@[simp] theorem Dev.setSap_mon (d : Dev) (n : Nat) (x : SapS) : (d.setSap n x).mon = d.mon := rfl
@[simp] theorem Dev.setSap_log (d : Dev) (n : Nat) (x : SapS) : (d.setSap n x).log = d.log := rfl
@[simp] theorem Dev.setSap_net (d : Dev) (n : Nat) (x : SapS) : (d.setSap n x).net = d.net := rfl
@[simp] theorem Dev.setSap_trg (d : Dev) (n : Nat) (x : SapS) : (d.setSap n x).trg = d.trg := rfl
@[simp] theorem Dev.setSap_ptp (d : Dev) (n : Nat) (x : SapS) : (d.setSap n x).ptp = d.ptp := rfl
@[simp] theorem Dev.setSap_srv (d : Dev) (n : Nat) (x : SapS) : (d.setSap n x).srv = d.srv := rfl
@[simp] theorem Dev.setSap_ref (d : Dev) (n : Nat) (x : SapS) : (d.setSap n x).ref = d.ref := rfl
@[simp] theorem Dev.setSap_mcs (d : Dev) (n : Nat) (x : SapS) : (d.setSap n x).mcs = d.mcs := rfl
@[simp] theorem Dev.setSap_fb (d : Dev) (n : Nat) (x : SapS) : (d.setSap n x).fb = d.fb := rfl
@[simp] theorem Dev.setSap_chan (d : Dev) (n : Nat) (x : SapS) : (d.setSap n x).chan = d.chan := rfl
@[simp] theorem Dev.setSap_rte (d : Dev) (n : Nat) (x : SapS) : (d.setSap n x).rte = d.rte := rfl
@[simp] theorem Dev.setSap_sapg (d : Dev) (n : Nat) (x : SapS) : (d.setSap n x).sapg = d.sapg := rfl
@[simp] theorem Dev.setSap_tx (d : Dev) (n : Nat) (x : SapS) : (d.setSap n x).tx = d.tx := rfl
@[simp] theorem Dev.setSap_txe (d : Dev) (n : Nat) (x : SapS) : (d.setSap n x).txe = d.txe := rfl
@[simp] theorem Dev.setSap_rx (d : Dev) (n : Nat) (x : SapS) : (d.setSap n x).rx = d.rx := rfl
@[simp] theorem Dev.setSap_rxe (d : Dev) (n : Nat) (x : SapS) : (d.setSap n x).rxe = d.rxe := rfl
@[simp] theorem Dev.setSap_otpOk (d : Dev) (n : Nat) (x : SapS) : (d.setSap n x).otpOk = d.otpOk := rfl
@[simp] theorem Dev.setSap_rails (d : Dev) (n : Nat) (x : SapS) : (d.setSap n x).rails = d.rails := rfl
@[simp] theorem Dev.setSap_phyPads (d : Dev) (n : Nat) (x : SapS) : (d.setSap n x).phyPads = d.phyPads := rfl
@[simp] theorem Dev.setSap_freeCtr (d : Dev) (n : Nat) (x : SapS) : (d.setSap n x).freeCtr = d.freeCtr := rfl

/-! ### Dev.setPtp -/

@[simp] theorem Dev.setPtp_regs (d : Dev) (n : Nat) (x : Ptp) : (d.setPtp n x).regs = d.regs := rfl
@[simp] theorem Dev.setPtp_eff (d : Dev) (n : Nat) (x : Ptp) : (d.setPtp n x).eff = d.eff := rfl
@[simp] theorem Dev.setPtp_parityBad (d : Dev) (n : Nat) (x : Ptp) : (d.setPtp n x).parityBad = d.parityBad := rfl
@[simp] theorem Dev.setPtp_scrubAt (d : Dev) (n : Nat) (x : Ptp) : (d.setPtp n x).scrubAt = d.scrubAt := rfl
@[simp] theorem Dev.setPtp_page (d : Dev) (n : Nat) (x : Ptp) : (d.setPtp n x).page = d.page := rfl
@[simp] theorem Dev.setPtp_lines (d : Dev) (n : Nat) (x : Ptp) : (d.setPtp n x).lines = d.lines := rfl
@[simp] theorem Dev.setPtp_owed (d : Dev) (n : Nat) (x : Ptp) : (d.setPtp n x).owed = d.owed := rfl
@[simp] theorem Dev.setPtp_hwSet (d : Dev) (n : Nat) (x : Ptp) : (d.setPtp n x).hwSet = d.hwSet := rfl
@[simp] theorem Dev.setPtp_posted (d : Dev) (n : Nat) (x : Ptp) : (d.setPtp n x).posted = d.posted := rfl
@[simp] theorem Dev.setPtp_sealed (d : Dev) (n : Nat) (x : Ptp) : (d.setPtp n x).sealed = d.sealed := rfl
@[simp] theorem Dev.setPtp_rshadow (d : Dev) (n : Nat) (x : Ptp) : (d.setPtp n x).rshadow = d.rshadow := rfl
@[simp] theorem Dev.setPtp_wshadow (d : Dev) (n : Nat) (x : Ptp) : (d.setPtp n x).wshadow = d.wshadow := rfl
@[simp] theorem Dev.setPtp_tshadow (d : Dev) (n : Nat) (x : Ptp) : (d.setPtp n x).tshadow = d.tshadow := rfl
@[simp] theorem Dev.setPtp_perGal (d : Dev) (n : Nat) (x : Ptp) : (d.setPtp n x).perGal = d.perGal := rfl
@[simp] theorem Dev.setPtp_gal (d : Dev) (n : Nat) (x : Ptp) : (d.setPtp n x).gal = d.gal := rfl
@[simp] theorem Dev.setPtp_hif (d : Dev) (n : Nat) (x : Ptp) : (d.setPtp n x).hif = d.hif := rfl
@[simp] theorem Dev.setPtp_evc (d : Dev) (n : Nat) (x : Ptp) : (d.setPtp n x).evc = d.evc := rfl
@[simp] theorem Dev.setPtp_pwr (d : Dev) (n : Nat) (x : Ptp) : (d.setPtp n x).pwr = d.pwr := rfl
@[simp] theorem Dev.setPtp_clk (d : Dev) (n : Nat) (x : Ptp) : (d.setPtp n x).clk = d.clk := rfl
@[simp] theorem Dev.setPtp_tb (d : Dev) (n : Nat) (x : Ptp) : (d.setPtp n x).tb = d.tb := rfl
@[simp] theorem Dev.setPtp_flt (d : Dev) (n : Nat) (x : Ptp) : (d.setPtp n x).flt = d.flt := rfl
@[simp] theorem Dev.setPtp_lnd (d : Dev) (n : Nat) (x : Ptp) : (d.setPtp n x).lnd = d.lnd := rfl
@[simp] theorem Dev.setPtp_mon (d : Dev) (n : Nat) (x : Ptp) : (d.setPtp n x).mon = d.mon := rfl
@[simp] theorem Dev.setPtp_log (d : Dev) (n : Nat) (x : Ptp) : (d.setPtp n x).log = d.log := rfl
@[simp] theorem Dev.setPtp_net (d : Dev) (n : Nat) (x : Ptp) : (d.setPtp n x).net = d.net := rfl
@[simp] theorem Dev.setPtp_trg (d : Dev) (n : Nat) (x : Ptp) : (d.setPtp n x).trg = d.trg := rfl
@[simp] theorem Dev.setPtp_srv (d : Dev) (n : Nat) (x : Ptp) : (d.setPtp n x).srv = d.srv := rfl
@[simp] theorem Dev.setPtp_ref (d : Dev) (n : Nat) (x : Ptp) : (d.setPtp n x).ref = d.ref := rfl
@[simp] theorem Dev.setPtp_mcs (d : Dev) (n : Nat) (x : Ptp) : (d.setPtp n x).mcs = d.mcs := rfl
@[simp] theorem Dev.setPtp_fb (d : Dev) (n : Nat) (x : Ptp) : (d.setPtp n x).fb = d.fb := rfl
@[simp] theorem Dev.setPtp_chan (d : Dev) (n : Nat) (x : Ptp) : (d.setPtp n x).chan = d.chan := rfl
@[simp] theorem Dev.setPtp_rte (d : Dev) (n : Nat) (x : Ptp) : (d.setPtp n x).rte = d.rte := rfl
@[simp] theorem Dev.setPtp_sap (d : Dev) (n : Nat) (x : Ptp) : (d.setPtp n x).sap = d.sap := rfl
@[simp] theorem Dev.setPtp_sapg (d : Dev) (n : Nat) (x : Ptp) : (d.setPtp n x).sapg = d.sapg := rfl
@[simp] theorem Dev.setPtp_tx (d : Dev) (n : Nat) (x : Ptp) : (d.setPtp n x).tx = d.tx := rfl
@[simp] theorem Dev.setPtp_txe (d : Dev) (n : Nat) (x : Ptp) : (d.setPtp n x).txe = d.txe := rfl
@[simp] theorem Dev.setPtp_rx (d : Dev) (n : Nat) (x : Ptp) : (d.setPtp n x).rx = d.rx := rfl
@[simp] theorem Dev.setPtp_rxe (d : Dev) (n : Nat) (x : Ptp) : (d.setPtp n x).rxe = d.rxe := rfl
@[simp] theorem Dev.setPtp_otpOk (d : Dev) (n : Nat) (x : Ptp) : (d.setPtp n x).otpOk = d.otpOk := rfl
@[simp] theorem Dev.setPtp_rails (d : Dev) (n : Nat) (x : Ptp) : (d.setPtp n x).rails = d.rails := rfl
@[simp] theorem Dev.setPtp_phyPads (d : Dev) (n : Nat) (x : Ptp) : (d.setPtp n x).phyPads = d.phyPads := rfl
@[simp] theorem Dev.setPtp_freeCtr (d : Dev) (n : Nat) (x : Ptp) : (d.setPtp n x).freeCtr = d.freeCtr := rfl

/-! ### Dev.setSrv -/

@[simp] theorem Dev.setSrv_regs (d : Dev) (n : Nat) (x : Srv) : (d.setSrv n x).regs = d.regs := rfl
@[simp] theorem Dev.setSrv_eff (d : Dev) (n : Nat) (x : Srv) : (d.setSrv n x).eff = d.eff := rfl
@[simp] theorem Dev.setSrv_parityBad (d : Dev) (n : Nat) (x : Srv) : (d.setSrv n x).parityBad = d.parityBad := rfl
@[simp] theorem Dev.setSrv_scrubAt (d : Dev) (n : Nat) (x : Srv) : (d.setSrv n x).scrubAt = d.scrubAt := rfl
@[simp] theorem Dev.setSrv_page (d : Dev) (n : Nat) (x : Srv) : (d.setSrv n x).page = d.page := rfl
@[simp] theorem Dev.setSrv_lines (d : Dev) (n : Nat) (x : Srv) : (d.setSrv n x).lines = d.lines := rfl
@[simp] theorem Dev.setSrv_owed (d : Dev) (n : Nat) (x : Srv) : (d.setSrv n x).owed = d.owed := rfl
@[simp] theorem Dev.setSrv_hwSet (d : Dev) (n : Nat) (x : Srv) : (d.setSrv n x).hwSet = d.hwSet := rfl
@[simp] theorem Dev.setSrv_posted (d : Dev) (n : Nat) (x : Srv) : (d.setSrv n x).posted = d.posted := rfl
@[simp] theorem Dev.setSrv_sealed (d : Dev) (n : Nat) (x : Srv) : (d.setSrv n x).sealed = d.sealed := rfl
@[simp] theorem Dev.setSrv_rshadow (d : Dev) (n : Nat) (x : Srv) : (d.setSrv n x).rshadow = d.rshadow := rfl
@[simp] theorem Dev.setSrv_wshadow (d : Dev) (n : Nat) (x : Srv) : (d.setSrv n x).wshadow = d.wshadow := rfl
@[simp] theorem Dev.setSrv_tshadow (d : Dev) (n : Nat) (x : Srv) : (d.setSrv n x).tshadow = d.tshadow := rfl
@[simp] theorem Dev.setSrv_perGal (d : Dev) (n : Nat) (x : Srv) : (d.setSrv n x).perGal = d.perGal := rfl
@[simp] theorem Dev.setSrv_gal (d : Dev) (n : Nat) (x : Srv) : (d.setSrv n x).gal = d.gal := rfl
@[simp] theorem Dev.setSrv_hif (d : Dev) (n : Nat) (x : Srv) : (d.setSrv n x).hif = d.hif := rfl
@[simp] theorem Dev.setSrv_evc (d : Dev) (n : Nat) (x : Srv) : (d.setSrv n x).evc = d.evc := rfl
@[simp] theorem Dev.setSrv_pwr (d : Dev) (n : Nat) (x : Srv) : (d.setSrv n x).pwr = d.pwr := rfl
@[simp] theorem Dev.setSrv_clk (d : Dev) (n : Nat) (x : Srv) : (d.setSrv n x).clk = d.clk := rfl
@[simp] theorem Dev.setSrv_tb (d : Dev) (n : Nat) (x : Srv) : (d.setSrv n x).tb = d.tb := rfl
@[simp] theorem Dev.setSrv_flt (d : Dev) (n : Nat) (x : Srv) : (d.setSrv n x).flt = d.flt := rfl
@[simp] theorem Dev.setSrv_lnd (d : Dev) (n : Nat) (x : Srv) : (d.setSrv n x).lnd = d.lnd := rfl
@[simp] theorem Dev.setSrv_mon (d : Dev) (n : Nat) (x : Srv) : (d.setSrv n x).mon = d.mon := rfl
@[simp] theorem Dev.setSrv_log (d : Dev) (n : Nat) (x : Srv) : (d.setSrv n x).log = d.log := rfl
@[simp] theorem Dev.setSrv_net (d : Dev) (n : Nat) (x : Srv) : (d.setSrv n x).net = d.net := rfl
@[simp] theorem Dev.setSrv_trg (d : Dev) (n : Nat) (x : Srv) : (d.setSrv n x).trg = d.trg := rfl
@[simp] theorem Dev.setSrv_ptp (d : Dev) (n : Nat) (x : Srv) : (d.setSrv n x).ptp = d.ptp := rfl
@[simp] theorem Dev.setSrv_mcs (d : Dev) (n : Nat) (x : Srv) : (d.setSrv n x).mcs = d.mcs := rfl
@[simp] theorem Dev.setSrv_fb (d : Dev) (n : Nat) (x : Srv) : (d.setSrv n x).fb = d.fb := rfl
@[simp] theorem Dev.setSrv_chan (d : Dev) (n : Nat) (x : Srv) : (d.setSrv n x).chan = d.chan := rfl
@[simp] theorem Dev.setSrv_rte (d : Dev) (n : Nat) (x : Srv) : (d.setSrv n x).rte = d.rte := rfl
@[simp] theorem Dev.setSrv_sap (d : Dev) (n : Nat) (x : Srv) : (d.setSrv n x).sap = d.sap := rfl
@[simp] theorem Dev.setSrv_sapg (d : Dev) (n : Nat) (x : Srv) : (d.setSrv n x).sapg = d.sapg := rfl
@[simp] theorem Dev.setSrv_tx (d : Dev) (n : Nat) (x : Srv) : (d.setSrv n x).tx = d.tx := rfl
@[simp] theorem Dev.setSrv_txe (d : Dev) (n : Nat) (x : Srv) : (d.setSrv n x).txe = d.txe := rfl
@[simp] theorem Dev.setSrv_rx (d : Dev) (n : Nat) (x : Srv) : (d.setSrv n x).rx = d.rx := rfl
@[simp] theorem Dev.setSrv_rxe (d : Dev) (n : Nat) (x : Srv) : (d.setSrv n x).rxe = d.rxe := rfl
@[simp] theorem Dev.setSrv_otpOk (d : Dev) (n : Nat) (x : Srv) : (d.setSrv n x).otpOk = d.otpOk := rfl
@[simp] theorem Dev.setSrv_rails (d : Dev) (n : Nat) (x : Srv) : (d.setSrv n x).rails = d.rails := rfl
@[simp] theorem Dev.setSrv_phyPads (d : Dev) (n : Nat) (x : Srv) : (d.setSrv n x).phyPads = d.phyPads := rfl
@[simp] theorem Dev.setSrv_freeCtr (d : Dev) (n : Nat) (x : Srv) : (d.setSrv n x).freeCtr = d.freeCtr := rfl

/-! ### Dev.setAt -/

@[simp] theorem Dev.setAt_regs (d : Dev) (x : View) : (d.setAt x).regs = d.regs := rfl
@[simp] theorem Dev.setAt_eff (d : Dev) (x : View) : (d.setAt x).eff = d.eff := rfl
@[simp] theorem Dev.setAt_parityBad (d : Dev) (x : View) : (d.setAt x).parityBad = d.parityBad := rfl
@[simp] theorem Dev.setAt_scrubAt (d : Dev) (x : View) : (d.setAt x).scrubAt = d.scrubAt := rfl
@[simp] theorem Dev.setAt_page (d : Dev) (x : View) : (d.setAt x).page = d.page := rfl
@[simp] theorem Dev.setAt_lines (d : Dev) (x : View) : (d.setAt x).lines = d.lines := rfl
@[simp] theorem Dev.setAt_owed (d : Dev) (x : View) : (d.setAt x).owed = d.owed := rfl
@[simp] theorem Dev.setAt_hwSet (d : Dev) (x : View) : (d.setAt x).hwSet = d.hwSet := rfl
@[simp] theorem Dev.setAt_posted (d : Dev) (x : View) : (d.setAt x).posted = d.posted := rfl
@[simp] theorem Dev.setAt_sealed (d : Dev) (x : View) : (d.setAt x).sealed = d.sealed := rfl
@[simp] theorem Dev.setAt_rshadow (d : Dev) (x : View) : (d.setAt x).rshadow = d.rshadow := rfl
@[simp] theorem Dev.setAt_wshadow (d : Dev) (x : View) : (d.setAt x).wshadow = d.wshadow := rfl
@[simp] theorem Dev.setAt_tshadow (d : Dev) (x : View) : (d.setAt x).tshadow = d.tshadow := rfl
@[simp] theorem Dev.setAt_perGal (d : Dev) (x : View) : (d.setAt x).perGal = d.perGal := rfl
@[simp] theorem Dev.setAt_gal (d : Dev) (x : View) : (d.setAt x).gal = d.gal := rfl
@[simp] theorem Dev.setAt_hif (d : Dev) (x : View) : (d.setAt x).hif = d.hif := rfl
@[simp] theorem Dev.setAt_evc (d : Dev) (x : View) : (d.setAt x).evc = d.evc := rfl
@[simp] theorem Dev.setAt_pwr (d : Dev) (x : View) : (d.setAt x).pwr = d.pwr := rfl
@[simp] theorem Dev.setAt_clk (d : Dev) (x : View) : (d.setAt x).clk = d.clk := rfl
@[simp] theorem Dev.setAt_flt (d : Dev) (x : View) : (d.setAt x).flt = d.flt := rfl
@[simp] theorem Dev.setAt_lnd (d : Dev) (x : View) : (d.setAt x).lnd = d.lnd := rfl
@[simp] theorem Dev.setAt_mon (d : Dev) (x : View) : (d.setAt x).mon = d.mon := rfl
@[simp] theorem Dev.setAt_log (d : Dev) (x : View) : (d.setAt x).log = d.log := rfl
@[simp] theorem Dev.setAt_net (d : Dev) (x : View) : (d.setAt x).net = d.net := rfl
@[simp] theorem Dev.setAt_trg (d : Dev) (x : View) : (d.setAt x).trg = d.trg := rfl
@[simp] theorem Dev.setAt_ptp (d : Dev) (x : View) : (d.setAt x).ptp = d.ptp := rfl
@[simp] theorem Dev.setAt_srv (d : Dev) (x : View) : (d.setAt x).srv = d.srv := rfl
@[simp] theorem Dev.setAt_ref (d : Dev) (x : View) : (d.setAt x).ref = d.ref := rfl
@[simp] theorem Dev.setAt_mcs (d : Dev) (x : View) : (d.setAt x).mcs = d.mcs := rfl
@[simp] theorem Dev.setAt_fb (d : Dev) (x : View) : (d.setAt x).fb = d.fb := rfl
@[simp] theorem Dev.setAt_chan (d : Dev) (x : View) : (d.setAt x).chan = d.chan := rfl
@[simp] theorem Dev.setAt_rte (d : Dev) (x : View) : (d.setAt x).rte = d.rte := rfl
@[simp] theorem Dev.setAt_sap (d : Dev) (x : View) : (d.setAt x).sap = d.sap := rfl
@[simp] theorem Dev.setAt_sapg (d : Dev) (x : View) : (d.setAt x).sapg = d.sapg := rfl
@[simp] theorem Dev.setAt_tx (d : Dev) (x : View) : (d.setAt x).tx = d.tx := rfl
@[simp] theorem Dev.setAt_txe (d : Dev) (x : View) : (d.setAt x).txe = d.txe := rfl
@[simp] theorem Dev.setAt_rx (d : Dev) (x : View) : (d.setAt x).rx = d.rx := rfl
@[simp] theorem Dev.setAt_rxe (d : Dev) (x : View) : (d.setAt x).rxe = d.rxe := rfl
@[simp] theorem Dev.setAt_otpOk (d : Dev) (x : View) : (d.setAt x).otpOk = d.otpOk := rfl
@[simp] theorem Dev.setAt_rails (d : Dev) (x : View) : (d.setAt x).rails = d.rails := rfl
@[simp] theorem Dev.setAt_phyPads (d : Dev) (x : View) : (d.setAt x).phyPads = d.phyPads := rfl
@[simp] theorem Dev.setAt_freeCtr (d : Dev) (x : View) : (d.setAt x).freeCtr = d.freeCtr := rfl

/-! ### Dev.setTrig -/

@[simp] theorem Dev.setTrig_regs (d : Dev) (n : Nat) (x : Trig) : (d.setTrig n x).regs = d.regs := rfl
@[simp] theorem Dev.setTrig_eff (d : Dev) (n : Nat) (x : Trig) : (d.setTrig n x).eff = d.eff := rfl
@[simp] theorem Dev.setTrig_parityBad (d : Dev) (n : Nat) (x : Trig) : (d.setTrig n x).parityBad = d.parityBad := rfl
@[simp] theorem Dev.setTrig_scrubAt (d : Dev) (n : Nat) (x : Trig) : (d.setTrig n x).scrubAt = d.scrubAt := rfl
@[simp] theorem Dev.setTrig_page (d : Dev) (n : Nat) (x : Trig) : (d.setTrig n x).page = d.page := rfl
@[simp] theorem Dev.setTrig_lines (d : Dev) (n : Nat) (x : Trig) : (d.setTrig n x).lines = d.lines := rfl
@[simp] theorem Dev.setTrig_owed (d : Dev) (n : Nat) (x : Trig) : (d.setTrig n x).owed = d.owed := rfl
@[simp] theorem Dev.setTrig_hwSet (d : Dev) (n : Nat) (x : Trig) : (d.setTrig n x).hwSet = d.hwSet := rfl
@[simp] theorem Dev.setTrig_posted (d : Dev) (n : Nat) (x : Trig) : (d.setTrig n x).posted = d.posted := rfl
@[simp] theorem Dev.setTrig_sealed (d : Dev) (n : Nat) (x : Trig) : (d.setTrig n x).sealed = d.sealed := rfl
@[simp] theorem Dev.setTrig_rshadow (d : Dev) (n : Nat) (x : Trig) : (d.setTrig n x).rshadow = d.rshadow := rfl
@[simp] theorem Dev.setTrig_wshadow (d : Dev) (n : Nat) (x : Trig) : (d.setTrig n x).wshadow = d.wshadow := rfl
@[simp] theorem Dev.setTrig_tshadow (d : Dev) (n : Nat) (x : Trig) : (d.setTrig n x).tshadow = d.tshadow := rfl
@[simp] theorem Dev.setTrig_perGal (d : Dev) (n : Nat) (x : Trig) : (d.setTrig n x).perGal = d.perGal := rfl
@[simp] theorem Dev.setTrig_gal (d : Dev) (n : Nat) (x : Trig) : (d.setTrig n x).gal = d.gal := rfl
@[simp] theorem Dev.setTrig_hif (d : Dev) (n : Nat) (x : Trig) : (d.setTrig n x).hif = d.hif := rfl
@[simp] theorem Dev.setTrig_evc (d : Dev) (n : Nat) (x : Trig) : (d.setTrig n x).evc = d.evc := rfl
@[simp] theorem Dev.setTrig_pwr (d : Dev) (n : Nat) (x : Trig) : (d.setTrig n x).pwr = d.pwr := rfl
@[simp] theorem Dev.setTrig_clk (d : Dev) (n : Nat) (x : Trig) : (d.setTrig n x).clk = d.clk := rfl
@[simp] theorem Dev.setTrig_tb (d : Dev) (n : Nat) (x : Trig) : (d.setTrig n x).tb = d.tb := rfl
@[simp] theorem Dev.setTrig_flt (d : Dev) (n : Nat) (x : Trig) : (d.setTrig n x).flt = d.flt := rfl
@[simp] theorem Dev.setTrig_lnd (d : Dev) (n : Nat) (x : Trig) : (d.setTrig n x).lnd = d.lnd := rfl
@[simp] theorem Dev.setTrig_mon (d : Dev) (n : Nat) (x : Trig) : (d.setTrig n x).mon = d.mon := rfl
@[simp] theorem Dev.setTrig_log (d : Dev) (n : Nat) (x : Trig) : (d.setTrig n x).log = d.log := rfl
@[simp] theorem Dev.setTrig_net (d : Dev) (n : Nat) (x : Trig) : (d.setTrig n x).net = d.net := rfl
@[simp] theorem Dev.setTrig_ptp (d : Dev) (n : Nat) (x : Trig) : (d.setTrig n x).ptp = d.ptp := rfl
@[simp] theorem Dev.setTrig_srv (d : Dev) (n : Nat) (x : Trig) : (d.setTrig n x).srv = d.srv := rfl
@[simp] theorem Dev.setTrig_ref (d : Dev) (n : Nat) (x : Trig) : (d.setTrig n x).ref = d.ref := rfl
@[simp] theorem Dev.setTrig_mcs (d : Dev) (n : Nat) (x : Trig) : (d.setTrig n x).mcs = d.mcs := rfl
@[simp] theorem Dev.setTrig_fb (d : Dev) (n : Nat) (x : Trig) : (d.setTrig n x).fb = d.fb := rfl
@[simp] theorem Dev.setTrig_chan (d : Dev) (n : Nat) (x : Trig) : (d.setTrig n x).chan = d.chan := rfl
@[simp] theorem Dev.setTrig_rte (d : Dev) (n : Nat) (x : Trig) : (d.setTrig n x).rte = d.rte := rfl
@[simp] theorem Dev.setTrig_sap (d : Dev) (n : Nat) (x : Trig) : (d.setTrig n x).sap = d.sap := rfl
@[simp] theorem Dev.setTrig_sapg (d : Dev) (n : Nat) (x : Trig) : (d.setTrig n x).sapg = d.sapg := rfl
@[simp] theorem Dev.setTrig_tx (d : Dev) (n : Nat) (x : Trig) : (d.setTrig n x).tx = d.tx := rfl
@[simp] theorem Dev.setTrig_txe (d : Dev) (n : Nat) (x : Trig) : (d.setTrig n x).txe = d.txe := rfl
@[simp] theorem Dev.setTrig_rx (d : Dev) (n : Nat) (x : Trig) : (d.setTrig n x).rx = d.rx := rfl
@[simp] theorem Dev.setTrig_rxe (d : Dev) (n : Nat) (x : Trig) : (d.setTrig n x).rxe = d.rxe := rfl
@[simp] theorem Dev.setTrig_otpOk (d : Dev) (n : Nat) (x : Trig) : (d.setTrig n x).otpOk = d.otpOk := rfl
@[simp] theorem Dev.setTrig_rails (d : Dev) (n : Nat) (x : Trig) : (d.setTrig n x).rails = d.rails := rfl
@[simp] theorem Dev.setTrig_phyPads (d : Dev) (n : Nat) (x : Trig) : (d.setTrig n x).phyPads = d.phyPads := rfl
@[simp] theorem Dev.setTrig_freeCtr (d : Dev) (n : Nat) (x : Trig) : (d.setTrig n x).freeCtr = d.freeCtr := rfl

/-! ### Dev.setCapt -/

@[simp] theorem Dev.setCapt_regs (d : Dev) (c : Nat) (x : Capt) : (d.setCapt c x).regs = d.regs := rfl
@[simp] theorem Dev.setCapt_eff (d : Dev) (c : Nat) (x : Capt) : (d.setCapt c x).eff = d.eff := rfl
@[simp] theorem Dev.setCapt_parityBad (d : Dev) (c : Nat) (x : Capt) : (d.setCapt c x).parityBad = d.parityBad := rfl
@[simp] theorem Dev.setCapt_scrubAt (d : Dev) (c : Nat) (x : Capt) : (d.setCapt c x).scrubAt = d.scrubAt := rfl
@[simp] theorem Dev.setCapt_page (d : Dev) (c : Nat) (x : Capt) : (d.setCapt c x).page = d.page := rfl
@[simp] theorem Dev.setCapt_lines (d : Dev) (c : Nat) (x : Capt) : (d.setCapt c x).lines = d.lines := rfl
@[simp] theorem Dev.setCapt_owed (d : Dev) (c : Nat) (x : Capt) : (d.setCapt c x).owed = d.owed := rfl
@[simp] theorem Dev.setCapt_hwSet (d : Dev) (c : Nat) (x : Capt) : (d.setCapt c x).hwSet = d.hwSet := rfl
@[simp] theorem Dev.setCapt_posted (d : Dev) (c : Nat) (x : Capt) : (d.setCapt c x).posted = d.posted := rfl
@[simp] theorem Dev.setCapt_sealed (d : Dev) (c : Nat) (x : Capt) : (d.setCapt c x).sealed = d.sealed := rfl
@[simp] theorem Dev.setCapt_rshadow (d : Dev) (c : Nat) (x : Capt) : (d.setCapt c x).rshadow = d.rshadow := rfl
@[simp] theorem Dev.setCapt_wshadow (d : Dev) (c : Nat) (x : Capt) : (d.setCapt c x).wshadow = d.wshadow := rfl
@[simp] theorem Dev.setCapt_tshadow (d : Dev) (c : Nat) (x : Capt) : (d.setCapt c x).tshadow = d.tshadow := rfl
@[simp] theorem Dev.setCapt_perGal (d : Dev) (c : Nat) (x : Capt) : (d.setCapt c x).perGal = d.perGal := rfl
@[simp] theorem Dev.setCapt_gal (d : Dev) (c : Nat) (x : Capt) : (d.setCapt c x).gal = d.gal := rfl
@[simp] theorem Dev.setCapt_hif (d : Dev) (c : Nat) (x : Capt) : (d.setCapt c x).hif = d.hif := rfl
@[simp] theorem Dev.setCapt_evc (d : Dev) (c : Nat) (x : Capt) : (d.setCapt c x).evc = d.evc := rfl
@[simp] theorem Dev.setCapt_pwr (d : Dev) (c : Nat) (x : Capt) : (d.setCapt c x).pwr = d.pwr := rfl
@[simp] theorem Dev.setCapt_clk (d : Dev) (c : Nat) (x : Capt) : (d.setCapt c x).clk = d.clk := rfl
@[simp] theorem Dev.setCapt_tb (d : Dev) (c : Nat) (x : Capt) : (d.setCapt c x).tb = d.tb := rfl
@[simp] theorem Dev.setCapt_flt (d : Dev) (c : Nat) (x : Capt) : (d.setCapt c x).flt = d.flt := rfl
@[simp] theorem Dev.setCapt_lnd (d : Dev) (c : Nat) (x : Capt) : (d.setCapt c x).lnd = d.lnd := rfl
@[simp] theorem Dev.setCapt_mon (d : Dev) (c : Nat) (x : Capt) : (d.setCapt c x).mon = d.mon := rfl
@[simp] theorem Dev.setCapt_log (d : Dev) (c : Nat) (x : Capt) : (d.setCapt c x).log = d.log := rfl
@[simp] theorem Dev.setCapt_net (d : Dev) (c : Nat) (x : Capt) : (d.setCapt c x).net = d.net := rfl
@[simp] theorem Dev.setCapt_ptp (d : Dev) (c : Nat) (x : Capt) : (d.setCapt c x).ptp = d.ptp := rfl
@[simp] theorem Dev.setCapt_srv (d : Dev) (c : Nat) (x : Capt) : (d.setCapt c x).srv = d.srv := rfl
@[simp] theorem Dev.setCapt_ref (d : Dev) (c : Nat) (x : Capt) : (d.setCapt c x).ref = d.ref := rfl
@[simp] theorem Dev.setCapt_mcs (d : Dev) (c : Nat) (x : Capt) : (d.setCapt c x).mcs = d.mcs := rfl
@[simp] theorem Dev.setCapt_fb (d : Dev) (c : Nat) (x : Capt) : (d.setCapt c x).fb = d.fb := rfl
@[simp] theorem Dev.setCapt_chan (d : Dev) (c : Nat) (x : Capt) : (d.setCapt c x).chan = d.chan := rfl
@[simp] theorem Dev.setCapt_rte (d : Dev) (c : Nat) (x : Capt) : (d.setCapt c x).rte = d.rte := rfl
@[simp] theorem Dev.setCapt_sap (d : Dev) (c : Nat) (x : Capt) : (d.setCapt c x).sap = d.sap := rfl
@[simp] theorem Dev.setCapt_sapg (d : Dev) (c : Nat) (x : Capt) : (d.setCapt c x).sapg = d.sapg := rfl
@[simp] theorem Dev.setCapt_tx (d : Dev) (c : Nat) (x : Capt) : (d.setCapt c x).tx = d.tx := rfl
@[simp] theorem Dev.setCapt_txe (d : Dev) (c : Nat) (x : Capt) : (d.setCapt c x).txe = d.txe := rfl
@[simp] theorem Dev.setCapt_rx (d : Dev) (c : Nat) (x : Capt) : (d.setCapt c x).rx = d.rx := rfl
@[simp] theorem Dev.setCapt_rxe (d : Dev) (c : Nat) (x : Capt) : (d.setCapt c x).rxe = d.rxe := rfl
@[simp] theorem Dev.setCapt_otpOk (d : Dev) (c : Nat) (x : Capt) : (d.setCapt c x).otpOk = d.otpOk := rfl
@[simp] theorem Dev.setCapt_rails (d : Dev) (c : Nat) (x : Capt) : (d.setCapt c x).rails = d.rails := rfl
@[simp] theorem Dev.setCapt_phyPads (d : Dev) (c : Nat) (x : Capt) : (d.setCapt c x).phyPads = d.phyPads := rfl
@[simp] theorem Dev.setCapt_freeCtr (d : Dev) (c : Nat) (x : Capt) : (d.setCapt c x).freeCtr = d.freeCtr := rfl

/-! ### Dev.evcMap -/

@[simp] theorem Dev.evcMap_regs (d : Dev) (f : EvcSt → EvcSt) : (d.evcMap f).regs = d.regs := rfl
@[simp] theorem Dev.evcMap_eff (d : Dev) (f : EvcSt → EvcSt) : (d.evcMap f).eff = d.eff := rfl
@[simp] theorem Dev.evcMap_parityBad (d : Dev) (f : EvcSt → EvcSt) : (d.evcMap f).parityBad = d.parityBad := rfl
@[simp] theorem Dev.evcMap_scrubAt (d : Dev) (f : EvcSt → EvcSt) : (d.evcMap f).scrubAt = d.scrubAt := rfl
@[simp] theorem Dev.evcMap_page (d : Dev) (f : EvcSt → EvcSt) : (d.evcMap f).page = d.page := rfl
@[simp] theorem Dev.evcMap_lines (d : Dev) (f : EvcSt → EvcSt) : (d.evcMap f).lines = d.lines := rfl
@[simp] theorem Dev.evcMap_owed (d : Dev) (f : EvcSt → EvcSt) : (d.evcMap f).owed = d.owed := rfl
@[simp] theorem Dev.evcMap_hwSet (d : Dev) (f : EvcSt → EvcSt) : (d.evcMap f).hwSet = d.hwSet := rfl
@[simp] theorem Dev.evcMap_posted (d : Dev) (f : EvcSt → EvcSt) : (d.evcMap f).posted = d.posted := rfl
@[simp] theorem Dev.evcMap_sealed (d : Dev) (f : EvcSt → EvcSt) : (d.evcMap f).sealed = d.sealed := rfl
@[simp] theorem Dev.evcMap_rshadow (d : Dev) (f : EvcSt → EvcSt) : (d.evcMap f).rshadow = d.rshadow := rfl
@[simp] theorem Dev.evcMap_wshadow (d : Dev) (f : EvcSt → EvcSt) : (d.evcMap f).wshadow = d.wshadow := rfl
@[simp] theorem Dev.evcMap_tshadow (d : Dev) (f : EvcSt → EvcSt) : (d.evcMap f).tshadow = d.tshadow := rfl
@[simp] theorem Dev.evcMap_perGal (d : Dev) (f : EvcSt → EvcSt) : (d.evcMap f).perGal = d.perGal := rfl
@[simp] theorem Dev.evcMap_gal (d : Dev) (f : EvcSt → EvcSt) : (d.evcMap f).gal = d.gal := rfl
@[simp] theorem Dev.evcMap_hif (d : Dev) (f : EvcSt → EvcSt) : (d.evcMap f).hif = d.hif := rfl
@[simp] theorem Dev.evcMap_pwr (d : Dev) (f : EvcSt → EvcSt) : (d.evcMap f).pwr = d.pwr := rfl
@[simp] theorem Dev.evcMap_clk (d : Dev) (f : EvcSt → EvcSt) : (d.evcMap f).clk = d.clk := rfl
@[simp] theorem Dev.evcMap_tb (d : Dev) (f : EvcSt → EvcSt) : (d.evcMap f).tb = d.tb := rfl
@[simp] theorem Dev.evcMap_flt (d : Dev) (f : EvcSt → EvcSt) : (d.evcMap f).flt = d.flt := rfl
@[simp] theorem Dev.evcMap_lnd (d : Dev) (f : EvcSt → EvcSt) : (d.evcMap f).lnd = d.lnd := rfl
@[simp] theorem Dev.evcMap_mon (d : Dev) (f : EvcSt → EvcSt) : (d.evcMap f).mon = d.mon := rfl
@[simp] theorem Dev.evcMap_log (d : Dev) (f : EvcSt → EvcSt) : (d.evcMap f).log = d.log := rfl
@[simp] theorem Dev.evcMap_net (d : Dev) (f : EvcSt → EvcSt) : (d.evcMap f).net = d.net := rfl
@[simp] theorem Dev.evcMap_trg (d : Dev) (f : EvcSt → EvcSt) : (d.evcMap f).trg = d.trg := rfl
@[simp] theorem Dev.evcMap_ptp (d : Dev) (f : EvcSt → EvcSt) : (d.evcMap f).ptp = d.ptp := rfl
@[simp] theorem Dev.evcMap_srv (d : Dev) (f : EvcSt → EvcSt) : (d.evcMap f).srv = d.srv := rfl
@[simp] theorem Dev.evcMap_ref (d : Dev) (f : EvcSt → EvcSt) : (d.evcMap f).ref = d.ref := rfl
@[simp] theorem Dev.evcMap_mcs (d : Dev) (f : EvcSt → EvcSt) : (d.evcMap f).mcs = d.mcs := rfl
@[simp] theorem Dev.evcMap_fb (d : Dev) (f : EvcSt → EvcSt) : (d.evcMap f).fb = d.fb := rfl
@[simp] theorem Dev.evcMap_chan (d : Dev) (f : EvcSt → EvcSt) : (d.evcMap f).chan = d.chan := rfl
@[simp] theorem Dev.evcMap_rte (d : Dev) (f : EvcSt → EvcSt) : (d.evcMap f).rte = d.rte := rfl
@[simp] theorem Dev.evcMap_sap (d : Dev) (f : EvcSt → EvcSt) : (d.evcMap f).sap = d.sap := rfl
@[simp] theorem Dev.evcMap_sapg (d : Dev) (f : EvcSt → EvcSt) : (d.evcMap f).sapg = d.sapg := rfl
@[simp] theorem Dev.evcMap_tx (d : Dev) (f : EvcSt → EvcSt) : (d.evcMap f).tx = d.tx := rfl
@[simp] theorem Dev.evcMap_txe (d : Dev) (f : EvcSt → EvcSt) : (d.evcMap f).txe = d.txe := rfl
@[simp] theorem Dev.evcMap_rx (d : Dev) (f : EvcSt → EvcSt) : (d.evcMap f).rx = d.rx := rfl
@[simp] theorem Dev.evcMap_rxe (d : Dev) (f : EvcSt → EvcSt) : (d.evcMap f).rxe = d.rxe := rfl
@[simp] theorem Dev.evcMap_otpOk (d : Dev) (f : EvcSt → EvcSt) : (d.evcMap f).otpOk = d.otpOk := rfl
@[simp] theorem Dev.evcMap_rails (d : Dev) (f : EvcSt → EvcSt) : (d.evcMap f).rails = d.rails := rfl
@[simp] theorem Dev.evcMap_phyPads (d : Dev) (f : EvcSt → EvcSt) : (d.evcMap f).phyPads = d.phyPads := rfl
@[simp] theorem Dev.evcMap_freeCtr (d : Dev) (f : EvcSt → EvcSt) : (d.evcMap f).freeCtr = d.freeCtr := rfl

/-! ### Dev.hifMap -/

@[simp] theorem Dev.hifMap_regs (d : Dev) (f : HifSt → HifSt) : (d.hifMap f).regs = d.regs := rfl
@[simp] theorem Dev.hifMap_eff (d : Dev) (f : HifSt → HifSt) : (d.hifMap f).eff = d.eff := rfl
@[simp] theorem Dev.hifMap_parityBad (d : Dev) (f : HifSt → HifSt) : (d.hifMap f).parityBad = d.parityBad := rfl
@[simp] theorem Dev.hifMap_scrubAt (d : Dev) (f : HifSt → HifSt) : (d.hifMap f).scrubAt = d.scrubAt := rfl
@[simp] theorem Dev.hifMap_page (d : Dev) (f : HifSt → HifSt) : (d.hifMap f).page = d.page := rfl
@[simp] theorem Dev.hifMap_lines (d : Dev) (f : HifSt → HifSt) : (d.hifMap f).lines = d.lines := rfl
@[simp] theorem Dev.hifMap_owed (d : Dev) (f : HifSt → HifSt) : (d.hifMap f).owed = d.owed := rfl
@[simp] theorem Dev.hifMap_hwSet (d : Dev) (f : HifSt → HifSt) : (d.hifMap f).hwSet = d.hwSet := rfl
@[simp] theorem Dev.hifMap_posted (d : Dev) (f : HifSt → HifSt) : (d.hifMap f).posted = d.posted := rfl
@[simp] theorem Dev.hifMap_sealed (d : Dev) (f : HifSt → HifSt) : (d.hifMap f).sealed = d.sealed := rfl
@[simp] theorem Dev.hifMap_rshadow (d : Dev) (f : HifSt → HifSt) : (d.hifMap f).rshadow = d.rshadow := rfl
@[simp] theorem Dev.hifMap_wshadow (d : Dev) (f : HifSt → HifSt) : (d.hifMap f).wshadow = d.wshadow := rfl
@[simp] theorem Dev.hifMap_tshadow (d : Dev) (f : HifSt → HifSt) : (d.hifMap f).tshadow = d.tshadow := rfl
@[simp] theorem Dev.hifMap_perGal (d : Dev) (f : HifSt → HifSt) : (d.hifMap f).perGal = d.perGal := rfl
@[simp] theorem Dev.hifMap_gal (d : Dev) (f : HifSt → HifSt) : (d.hifMap f).gal = d.gal := rfl
@[simp] theorem Dev.hifMap_evc (d : Dev) (f : HifSt → HifSt) : (d.hifMap f).evc = d.evc := rfl
@[simp] theorem Dev.hifMap_pwr (d : Dev) (f : HifSt → HifSt) : (d.hifMap f).pwr = d.pwr := rfl
@[simp] theorem Dev.hifMap_clk (d : Dev) (f : HifSt → HifSt) : (d.hifMap f).clk = d.clk := rfl
@[simp] theorem Dev.hifMap_tb (d : Dev) (f : HifSt → HifSt) : (d.hifMap f).tb = d.tb := rfl
@[simp] theorem Dev.hifMap_flt (d : Dev) (f : HifSt → HifSt) : (d.hifMap f).flt = d.flt := rfl
@[simp] theorem Dev.hifMap_lnd (d : Dev) (f : HifSt → HifSt) : (d.hifMap f).lnd = d.lnd := rfl
@[simp] theorem Dev.hifMap_mon (d : Dev) (f : HifSt → HifSt) : (d.hifMap f).mon = d.mon := rfl
@[simp] theorem Dev.hifMap_log (d : Dev) (f : HifSt → HifSt) : (d.hifMap f).log = d.log := rfl
@[simp] theorem Dev.hifMap_net (d : Dev) (f : HifSt → HifSt) : (d.hifMap f).net = d.net := rfl
@[simp] theorem Dev.hifMap_trg (d : Dev) (f : HifSt → HifSt) : (d.hifMap f).trg = d.trg := rfl
@[simp] theorem Dev.hifMap_ptp (d : Dev) (f : HifSt → HifSt) : (d.hifMap f).ptp = d.ptp := rfl
@[simp] theorem Dev.hifMap_srv (d : Dev) (f : HifSt → HifSt) : (d.hifMap f).srv = d.srv := rfl
@[simp] theorem Dev.hifMap_ref (d : Dev) (f : HifSt → HifSt) : (d.hifMap f).ref = d.ref := rfl
@[simp] theorem Dev.hifMap_mcs (d : Dev) (f : HifSt → HifSt) : (d.hifMap f).mcs = d.mcs := rfl
@[simp] theorem Dev.hifMap_fb (d : Dev) (f : HifSt → HifSt) : (d.hifMap f).fb = d.fb := rfl
@[simp] theorem Dev.hifMap_chan (d : Dev) (f : HifSt → HifSt) : (d.hifMap f).chan = d.chan := rfl
@[simp] theorem Dev.hifMap_rte (d : Dev) (f : HifSt → HifSt) : (d.hifMap f).rte = d.rte := rfl
@[simp] theorem Dev.hifMap_sap (d : Dev) (f : HifSt → HifSt) : (d.hifMap f).sap = d.sap := rfl
@[simp] theorem Dev.hifMap_sapg (d : Dev) (f : HifSt → HifSt) : (d.hifMap f).sapg = d.sapg := rfl
@[simp] theorem Dev.hifMap_tx (d : Dev) (f : HifSt → HifSt) : (d.hifMap f).tx = d.tx := rfl
@[simp] theorem Dev.hifMap_txe (d : Dev) (f : HifSt → HifSt) : (d.hifMap f).txe = d.txe := rfl
@[simp] theorem Dev.hifMap_rx (d : Dev) (f : HifSt → HifSt) : (d.hifMap f).rx = d.rx := rfl
@[simp] theorem Dev.hifMap_rxe (d : Dev) (f : HifSt → HifSt) : (d.hifMap f).rxe = d.rxe := rfl
@[simp] theorem Dev.hifMap_otpOk (d : Dev) (f : HifSt → HifSt) : (d.hifMap f).otpOk = d.otpOk := rfl
@[simp] theorem Dev.hifMap_rails (d : Dev) (f : HifSt → HifSt) : (d.hifMap f).rails = d.rails := rfl
@[simp] theorem Dev.hifMap_phyPads (d : Dev) (f : HifSt → HifSt) : (d.hifMap f).phyPads = d.phyPads := rfl
@[simp] theorem Dev.hifMap_freeCtr (d : Dev) (f : HifSt → HifSt) : (d.hifMap f).freeCtr = d.freeCtr := rfl

/-! ### Dev.fltMap -/

@[simp] theorem Dev.fltMap_regs (d : Dev) (f : FltSt → FltSt) : (d.fltMap f).regs = d.regs := rfl
@[simp] theorem Dev.fltMap_eff (d : Dev) (f : FltSt → FltSt) : (d.fltMap f).eff = d.eff := rfl
@[simp] theorem Dev.fltMap_parityBad (d : Dev) (f : FltSt → FltSt) : (d.fltMap f).parityBad = d.parityBad := rfl
@[simp] theorem Dev.fltMap_scrubAt (d : Dev) (f : FltSt → FltSt) : (d.fltMap f).scrubAt = d.scrubAt := rfl
@[simp] theorem Dev.fltMap_page (d : Dev) (f : FltSt → FltSt) : (d.fltMap f).page = d.page := rfl
@[simp] theorem Dev.fltMap_lines (d : Dev) (f : FltSt → FltSt) : (d.fltMap f).lines = d.lines := rfl
@[simp] theorem Dev.fltMap_owed (d : Dev) (f : FltSt → FltSt) : (d.fltMap f).owed = d.owed := rfl
@[simp] theorem Dev.fltMap_hwSet (d : Dev) (f : FltSt → FltSt) : (d.fltMap f).hwSet = d.hwSet := rfl
@[simp] theorem Dev.fltMap_posted (d : Dev) (f : FltSt → FltSt) : (d.fltMap f).posted = d.posted := rfl
@[simp] theorem Dev.fltMap_sealed (d : Dev) (f : FltSt → FltSt) : (d.fltMap f).sealed = d.sealed := rfl
@[simp] theorem Dev.fltMap_rshadow (d : Dev) (f : FltSt → FltSt) : (d.fltMap f).rshadow = d.rshadow := rfl
@[simp] theorem Dev.fltMap_wshadow (d : Dev) (f : FltSt → FltSt) : (d.fltMap f).wshadow = d.wshadow := rfl
@[simp] theorem Dev.fltMap_tshadow (d : Dev) (f : FltSt → FltSt) : (d.fltMap f).tshadow = d.tshadow := rfl
@[simp] theorem Dev.fltMap_perGal (d : Dev) (f : FltSt → FltSt) : (d.fltMap f).perGal = d.perGal := rfl
@[simp] theorem Dev.fltMap_gal (d : Dev) (f : FltSt → FltSt) : (d.fltMap f).gal = d.gal := rfl
@[simp] theorem Dev.fltMap_hif (d : Dev) (f : FltSt → FltSt) : (d.fltMap f).hif = d.hif := rfl
@[simp] theorem Dev.fltMap_evc (d : Dev) (f : FltSt → FltSt) : (d.fltMap f).evc = d.evc := rfl
@[simp] theorem Dev.fltMap_pwr (d : Dev) (f : FltSt → FltSt) : (d.fltMap f).pwr = d.pwr := rfl
@[simp] theorem Dev.fltMap_clk (d : Dev) (f : FltSt → FltSt) : (d.fltMap f).clk = d.clk := rfl
@[simp] theorem Dev.fltMap_tb (d : Dev) (f : FltSt → FltSt) : (d.fltMap f).tb = d.tb := rfl
@[simp] theorem Dev.fltMap_lnd (d : Dev) (f : FltSt → FltSt) : (d.fltMap f).lnd = d.lnd := rfl
@[simp] theorem Dev.fltMap_mon (d : Dev) (f : FltSt → FltSt) : (d.fltMap f).mon = d.mon := rfl
@[simp] theorem Dev.fltMap_log (d : Dev) (f : FltSt → FltSt) : (d.fltMap f).log = d.log := rfl
@[simp] theorem Dev.fltMap_net (d : Dev) (f : FltSt → FltSt) : (d.fltMap f).net = d.net := rfl
@[simp] theorem Dev.fltMap_trg (d : Dev) (f : FltSt → FltSt) : (d.fltMap f).trg = d.trg := rfl
@[simp] theorem Dev.fltMap_ptp (d : Dev) (f : FltSt → FltSt) : (d.fltMap f).ptp = d.ptp := rfl
@[simp] theorem Dev.fltMap_srv (d : Dev) (f : FltSt → FltSt) : (d.fltMap f).srv = d.srv := rfl
@[simp] theorem Dev.fltMap_ref (d : Dev) (f : FltSt → FltSt) : (d.fltMap f).ref = d.ref := rfl
@[simp] theorem Dev.fltMap_mcs (d : Dev) (f : FltSt → FltSt) : (d.fltMap f).mcs = d.mcs := rfl
@[simp] theorem Dev.fltMap_fb (d : Dev) (f : FltSt → FltSt) : (d.fltMap f).fb = d.fb := rfl
@[simp] theorem Dev.fltMap_chan (d : Dev) (f : FltSt → FltSt) : (d.fltMap f).chan = d.chan := rfl
@[simp] theorem Dev.fltMap_rte (d : Dev) (f : FltSt → FltSt) : (d.fltMap f).rte = d.rte := rfl
@[simp] theorem Dev.fltMap_sap (d : Dev) (f : FltSt → FltSt) : (d.fltMap f).sap = d.sap := rfl
@[simp] theorem Dev.fltMap_sapg (d : Dev) (f : FltSt → FltSt) : (d.fltMap f).sapg = d.sapg := rfl
@[simp] theorem Dev.fltMap_tx (d : Dev) (f : FltSt → FltSt) : (d.fltMap f).tx = d.tx := rfl
@[simp] theorem Dev.fltMap_txe (d : Dev) (f : FltSt → FltSt) : (d.fltMap f).txe = d.txe := rfl
@[simp] theorem Dev.fltMap_rx (d : Dev) (f : FltSt → FltSt) : (d.fltMap f).rx = d.rx := rfl
@[simp] theorem Dev.fltMap_rxe (d : Dev) (f : FltSt → FltSt) : (d.fltMap f).rxe = d.rxe := rfl
@[simp] theorem Dev.fltMap_otpOk (d : Dev) (f : FltSt → FltSt) : (d.fltMap f).otpOk = d.otpOk := rfl
@[simp] theorem Dev.fltMap_rails (d : Dev) (f : FltSt → FltSt) : (d.fltMap f).rails = d.rails := rfl
@[simp] theorem Dev.fltMap_phyPads (d : Dev) (f : FltSt → FltSt) : (d.fltMap f).phyPads = d.phyPads := rfl
@[simp] theorem Dev.fltMap_freeCtr (d : Dev) (f : FltSt → FltSt) : (d.fltMap f).freeCtr = d.freeCtr := rfl

/-! ### Dev.galMap -/

@[simp] theorem Dev.galMap_regs (d : Dev) (f : GalSt → GalSt) : (d.galMap f).regs = d.regs := rfl
@[simp] theorem Dev.galMap_eff (d : Dev) (f : GalSt → GalSt) : (d.galMap f).eff = d.eff := rfl
@[simp] theorem Dev.galMap_parityBad (d : Dev) (f : GalSt → GalSt) : (d.galMap f).parityBad = d.parityBad := rfl
@[simp] theorem Dev.galMap_scrubAt (d : Dev) (f : GalSt → GalSt) : (d.galMap f).scrubAt = d.scrubAt := rfl
@[simp] theorem Dev.galMap_page (d : Dev) (f : GalSt → GalSt) : (d.galMap f).page = d.page := rfl
@[simp] theorem Dev.galMap_lines (d : Dev) (f : GalSt → GalSt) : (d.galMap f).lines = d.lines := rfl
@[simp] theorem Dev.galMap_owed (d : Dev) (f : GalSt → GalSt) : (d.galMap f).owed = d.owed := rfl
@[simp] theorem Dev.galMap_hwSet (d : Dev) (f : GalSt → GalSt) : (d.galMap f).hwSet = d.hwSet := rfl
@[simp] theorem Dev.galMap_posted (d : Dev) (f : GalSt → GalSt) : (d.galMap f).posted = d.posted := rfl
@[simp] theorem Dev.galMap_sealed (d : Dev) (f : GalSt → GalSt) : (d.galMap f).sealed = d.sealed := rfl
@[simp] theorem Dev.galMap_rshadow (d : Dev) (f : GalSt → GalSt) : (d.galMap f).rshadow = d.rshadow := rfl
@[simp] theorem Dev.galMap_wshadow (d : Dev) (f : GalSt → GalSt) : (d.galMap f).wshadow = d.wshadow := rfl
@[simp] theorem Dev.galMap_tshadow (d : Dev) (f : GalSt → GalSt) : (d.galMap f).tshadow = d.tshadow := rfl
@[simp] theorem Dev.galMap_perGal (d : Dev) (f : GalSt → GalSt) : (d.galMap f).perGal = d.perGal := rfl
@[simp] theorem Dev.galMap_hif (d : Dev) (f : GalSt → GalSt) : (d.galMap f).hif = d.hif := rfl
@[simp] theorem Dev.galMap_evc (d : Dev) (f : GalSt → GalSt) : (d.galMap f).evc = d.evc := rfl
@[simp] theorem Dev.galMap_pwr (d : Dev) (f : GalSt → GalSt) : (d.galMap f).pwr = d.pwr := rfl
@[simp] theorem Dev.galMap_clk (d : Dev) (f : GalSt → GalSt) : (d.galMap f).clk = d.clk := rfl
@[simp] theorem Dev.galMap_tb (d : Dev) (f : GalSt → GalSt) : (d.galMap f).tb = d.tb := rfl
@[simp] theorem Dev.galMap_flt (d : Dev) (f : GalSt → GalSt) : (d.galMap f).flt = d.flt := rfl
@[simp] theorem Dev.galMap_lnd (d : Dev) (f : GalSt → GalSt) : (d.galMap f).lnd = d.lnd := rfl
@[simp] theorem Dev.galMap_mon (d : Dev) (f : GalSt → GalSt) : (d.galMap f).mon = d.mon := rfl
@[simp] theorem Dev.galMap_log (d : Dev) (f : GalSt → GalSt) : (d.galMap f).log = d.log := rfl
@[simp] theorem Dev.galMap_net (d : Dev) (f : GalSt → GalSt) : (d.galMap f).net = d.net := rfl
@[simp] theorem Dev.galMap_trg (d : Dev) (f : GalSt → GalSt) : (d.galMap f).trg = d.trg := rfl
@[simp] theorem Dev.galMap_ptp (d : Dev) (f : GalSt → GalSt) : (d.galMap f).ptp = d.ptp := rfl
@[simp] theorem Dev.galMap_srv (d : Dev) (f : GalSt → GalSt) : (d.galMap f).srv = d.srv := rfl
@[simp] theorem Dev.galMap_ref (d : Dev) (f : GalSt → GalSt) : (d.galMap f).ref = d.ref := rfl
@[simp] theorem Dev.galMap_mcs (d : Dev) (f : GalSt → GalSt) : (d.galMap f).mcs = d.mcs := rfl
@[simp] theorem Dev.galMap_fb (d : Dev) (f : GalSt → GalSt) : (d.galMap f).fb = d.fb := rfl
@[simp] theorem Dev.galMap_chan (d : Dev) (f : GalSt → GalSt) : (d.galMap f).chan = d.chan := rfl
@[simp] theorem Dev.galMap_rte (d : Dev) (f : GalSt → GalSt) : (d.galMap f).rte = d.rte := rfl
@[simp] theorem Dev.galMap_sap (d : Dev) (f : GalSt → GalSt) : (d.galMap f).sap = d.sap := rfl
@[simp] theorem Dev.galMap_sapg (d : Dev) (f : GalSt → GalSt) : (d.galMap f).sapg = d.sapg := rfl
@[simp] theorem Dev.galMap_tx (d : Dev) (f : GalSt → GalSt) : (d.galMap f).tx = d.tx := rfl
@[simp] theorem Dev.galMap_txe (d : Dev) (f : GalSt → GalSt) : (d.galMap f).txe = d.txe := rfl
@[simp] theorem Dev.galMap_rx (d : Dev) (f : GalSt → GalSt) : (d.galMap f).rx = d.rx := rfl
@[simp] theorem Dev.galMap_rxe (d : Dev) (f : GalSt → GalSt) : (d.galMap f).rxe = d.rxe := rfl
@[simp] theorem Dev.galMap_otpOk (d : Dev) (f : GalSt → GalSt) : (d.galMap f).otpOk = d.otpOk := rfl
@[simp] theorem Dev.galMap_rails (d : Dev) (f : GalSt → GalSt) : (d.galMap f).rails = d.rails := rfl
@[simp] theorem Dev.galMap_phyPads (d : Dev) (f : GalSt → GalSt) : (d.galMap f).phyPads = d.phyPads := rfl
@[simp] theorem Dev.galMap_freeCtr (d : Dev) (f : GalSt → GalSt) : (d.galMap f).freeCtr = d.freeCtr := rfl

/-! ### Dev.lndMap -/

@[simp] theorem Dev.lndMap_regs (d : Dev) (f : LndSt → LndSt) : (d.lndMap f).regs = d.regs := rfl
@[simp] theorem Dev.lndMap_eff (d : Dev) (f : LndSt → LndSt) : (d.lndMap f).eff = d.eff := rfl
@[simp] theorem Dev.lndMap_parityBad (d : Dev) (f : LndSt → LndSt) : (d.lndMap f).parityBad = d.parityBad := rfl
@[simp] theorem Dev.lndMap_scrubAt (d : Dev) (f : LndSt → LndSt) : (d.lndMap f).scrubAt = d.scrubAt := rfl
@[simp] theorem Dev.lndMap_page (d : Dev) (f : LndSt → LndSt) : (d.lndMap f).page = d.page := rfl
@[simp] theorem Dev.lndMap_lines (d : Dev) (f : LndSt → LndSt) : (d.lndMap f).lines = d.lines := rfl
@[simp] theorem Dev.lndMap_owed (d : Dev) (f : LndSt → LndSt) : (d.lndMap f).owed = d.owed := rfl
@[simp] theorem Dev.lndMap_hwSet (d : Dev) (f : LndSt → LndSt) : (d.lndMap f).hwSet = d.hwSet := rfl
@[simp] theorem Dev.lndMap_posted (d : Dev) (f : LndSt → LndSt) : (d.lndMap f).posted = d.posted := rfl
@[simp] theorem Dev.lndMap_sealed (d : Dev) (f : LndSt → LndSt) : (d.lndMap f).sealed = d.sealed := rfl
@[simp] theorem Dev.lndMap_rshadow (d : Dev) (f : LndSt → LndSt) : (d.lndMap f).rshadow = d.rshadow := rfl
@[simp] theorem Dev.lndMap_wshadow (d : Dev) (f : LndSt → LndSt) : (d.lndMap f).wshadow = d.wshadow := rfl
@[simp] theorem Dev.lndMap_tshadow (d : Dev) (f : LndSt → LndSt) : (d.lndMap f).tshadow = d.tshadow := rfl
@[simp] theorem Dev.lndMap_perGal (d : Dev) (f : LndSt → LndSt) : (d.lndMap f).perGal = d.perGal := rfl
@[simp] theorem Dev.lndMap_gal (d : Dev) (f : LndSt → LndSt) : (d.lndMap f).gal = d.gal := rfl
@[simp] theorem Dev.lndMap_hif (d : Dev) (f : LndSt → LndSt) : (d.lndMap f).hif = d.hif := rfl
@[simp] theorem Dev.lndMap_evc (d : Dev) (f : LndSt → LndSt) : (d.lndMap f).evc = d.evc := rfl
@[simp] theorem Dev.lndMap_pwr (d : Dev) (f : LndSt → LndSt) : (d.lndMap f).pwr = d.pwr := rfl
@[simp] theorem Dev.lndMap_clk (d : Dev) (f : LndSt → LndSt) : (d.lndMap f).clk = d.clk := rfl
@[simp] theorem Dev.lndMap_tb (d : Dev) (f : LndSt → LndSt) : (d.lndMap f).tb = d.tb := rfl
@[simp] theorem Dev.lndMap_flt (d : Dev) (f : LndSt → LndSt) : (d.lndMap f).flt = d.flt := rfl
@[simp] theorem Dev.lndMap_mon (d : Dev) (f : LndSt → LndSt) : (d.lndMap f).mon = d.mon := rfl
@[simp] theorem Dev.lndMap_log (d : Dev) (f : LndSt → LndSt) : (d.lndMap f).log = d.log := rfl
@[simp] theorem Dev.lndMap_net (d : Dev) (f : LndSt → LndSt) : (d.lndMap f).net = d.net := rfl
@[simp] theorem Dev.lndMap_trg (d : Dev) (f : LndSt → LndSt) : (d.lndMap f).trg = d.trg := rfl
@[simp] theorem Dev.lndMap_ptp (d : Dev) (f : LndSt → LndSt) : (d.lndMap f).ptp = d.ptp := rfl
@[simp] theorem Dev.lndMap_srv (d : Dev) (f : LndSt → LndSt) : (d.lndMap f).srv = d.srv := rfl
@[simp] theorem Dev.lndMap_ref (d : Dev) (f : LndSt → LndSt) : (d.lndMap f).ref = d.ref := rfl
@[simp] theorem Dev.lndMap_mcs (d : Dev) (f : LndSt → LndSt) : (d.lndMap f).mcs = d.mcs := rfl
@[simp] theorem Dev.lndMap_fb (d : Dev) (f : LndSt → LndSt) : (d.lndMap f).fb = d.fb := rfl
@[simp] theorem Dev.lndMap_chan (d : Dev) (f : LndSt → LndSt) : (d.lndMap f).chan = d.chan := rfl
@[simp] theorem Dev.lndMap_rte (d : Dev) (f : LndSt → LndSt) : (d.lndMap f).rte = d.rte := rfl
@[simp] theorem Dev.lndMap_sap (d : Dev) (f : LndSt → LndSt) : (d.lndMap f).sap = d.sap := rfl
@[simp] theorem Dev.lndMap_sapg (d : Dev) (f : LndSt → LndSt) : (d.lndMap f).sapg = d.sapg := rfl
@[simp] theorem Dev.lndMap_tx (d : Dev) (f : LndSt → LndSt) : (d.lndMap f).tx = d.tx := rfl
@[simp] theorem Dev.lndMap_txe (d : Dev) (f : LndSt → LndSt) : (d.lndMap f).txe = d.txe := rfl
@[simp] theorem Dev.lndMap_rx (d : Dev) (f : LndSt → LndSt) : (d.lndMap f).rx = d.rx := rfl
@[simp] theorem Dev.lndMap_rxe (d : Dev) (f : LndSt → LndSt) : (d.lndMap f).rxe = d.rxe := rfl
@[simp] theorem Dev.lndMap_otpOk (d : Dev) (f : LndSt → LndSt) : (d.lndMap f).otpOk = d.otpOk := rfl
@[simp] theorem Dev.lndMap_rails (d : Dev) (f : LndSt → LndSt) : (d.lndMap f).rails = d.rails := rfl
@[simp] theorem Dev.lndMap_phyPads (d : Dev) (f : LndSt → LndSt) : (d.lndMap f).phyPads = d.phyPads := rfl
@[simp] theorem Dev.lndMap_freeCtr (d : Dev) (f : LndSt → LndSt) : (d.lndMap f).freeCtr = d.freeCtr := rfl

/-! ### Dev.logMap -/

@[simp] theorem Dev.logMap_regs (d : Dev) (f : LogSt → LogSt) : (d.logMap f).regs = d.regs := rfl
@[simp] theorem Dev.logMap_eff (d : Dev) (f : LogSt → LogSt) : (d.logMap f).eff = d.eff := rfl
@[simp] theorem Dev.logMap_parityBad (d : Dev) (f : LogSt → LogSt) : (d.logMap f).parityBad = d.parityBad := rfl
@[simp] theorem Dev.logMap_scrubAt (d : Dev) (f : LogSt → LogSt) : (d.logMap f).scrubAt = d.scrubAt := rfl
@[simp] theorem Dev.logMap_page (d : Dev) (f : LogSt → LogSt) : (d.logMap f).page = d.page := rfl
@[simp] theorem Dev.logMap_lines (d : Dev) (f : LogSt → LogSt) : (d.logMap f).lines = d.lines := rfl
@[simp] theorem Dev.logMap_owed (d : Dev) (f : LogSt → LogSt) : (d.logMap f).owed = d.owed := rfl
@[simp] theorem Dev.logMap_hwSet (d : Dev) (f : LogSt → LogSt) : (d.logMap f).hwSet = d.hwSet := rfl
@[simp] theorem Dev.logMap_posted (d : Dev) (f : LogSt → LogSt) : (d.logMap f).posted = d.posted := rfl
@[simp] theorem Dev.logMap_sealed (d : Dev) (f : LogSt → LogSt) : (d.logMap f).sealed = d.sealed := rfl
@[simp] theorem Dev.logMap_rshadow (d : Dev) (f : LogSt → LogSt) : (d.logMap f).rshadow = d.rshadow := rfl
@[simp] theorem Dev.logMap_wshadow (d : Dev) (f : LogSt → LogSt) : (d.logMap f).wshadow = d.wshadow := rfl
@[simp] theorem Dev.logMap_tshadow (d : Dev) (f : LogSt → LogSt) : (d.logMap f).tshadow = d.tshadow := rfl
@[simp] theorem Dev.logMap_perGal (d : Dev) (f : LogSt → LogSt) : (d.logMap f).perGal = d.perGal := rfl
@[simp] theorem Dev.logMap_gal (d : Dev) (f : LogSt → LogSt) : (d.logMap f).gal = d.gal := rfl
@[simp] theorem Dev.logMap_hif (d : Dev) (f : LogSt → LogSt) : (d.logMap f).hif = d.hif := rfl
@[simp] theorem Dev.logMap_evc (d : Dev) (f : LogSt → LogSt) : (d.logMap f).evc = d.evc := rfl
@[simp] theorem Dev.logMap_pwr (d : Dev) (f : LogSt → LogSt) : (d.logMap f).pwr = d.pwr := rfl
@[simp] theorem Dev.logMap_clk (d : Dev) (f : LogSt → LogSt) : (d.logMap f).clk = d.clk := rfl
@[simp] theorem Dev.logMap_tb (d : Dev) (f : LogSt → LogSt) : (d.logMap f).tb = d.tb := rfl
@[simp] theorem Dev.logMap_flt (d : Dev) (f : LogSt → LogSt) : (d.logMap f).flt = d.flt := rfl
@[simp] theorem Dev.logMap_lnd (d : Dev) (f : LogSt → LogSt) : (d.logMap f).lnd = d.lnd := rfl
@[simp] theorem Dev.logMap_mon (d : Dev) (f : LogSt → LogSt) : (d.logMap f).mon = d.mon := rfl
@[simp] theorem Dev.logMap_net (d : Dev) (f : LogSt → LogSt) : (d.logMap f).net = d.net := rfl
@[simp] theorem Dev.logMap_trg (d : Dev) (f : LogSt → LogSt) : (d.logMap f).trg = d.trg := rfl
@[simp] theorem Dev.logMap_ptp (d : Dev) (f : LogSt → LogSt) : (d.logMap f).ptp = d.ptp := rfl
@[simp] theorem Dev.logMap_srv (d : Dev) (f : LogSt → LogSt) : (d.logMap f).srv = d.srv := rfl
@[simp] theorem Dev.logMap_ref (d : Dev) (f : LogSt → LogSt) : (d.logMap f).ref = d.ref := rfl
@[simp] theorem Dev.logMap_mcs (d : Dev) (f : LogSt → LogSt) : (d.logMap f).mcs = d.mcs := rfl
@[simp] theorem Dev.logMap_fb (d : Dev) (f : LogSt → LogSt) : (d.logMap f).fb = d.fb := rfl
@[simp] theorem Dev.logMap_chan (d : Dev) (f : LogSt → LogSt) : (d.logMap f).chan = d.chan := rfl
@[simp] theorem Dev.logMap_rte (d : Dev) (f : LogSt → LogSt) : (d.logMap f).rte = d.rte := rfl
@[simp] theorem Dev.logMap_sap (d : Dev) (f : LogSt → LogSt) : (d.logMap f).sap = d.sap := rfl
@[simp] theorem Dev.logMap_sapg (d : Dev) (f : LogSt → LogSt) : (d.logMap f).sapg = d.sapg := rfl
@[simp] theorem Dev.logMap_tx (d : Dev) (f : LogSt → LogSt) : (d.logMap f).tx = d.tx := rfl
@[simp] theorem Dev.logMap_txe (d : Dev) (f : LogSt → LogSt) : (d.logMap f).txe = d.txe := rfl
@[simp] theorem Dev.logMap_rx (d : Dev) (f : LogSt → LogSt) : (d.logMap f).rx = d.rx := rfl
@[simp] theorem Dev.logMap_rxe (d : Dev) (f : LogSt → LogSt) : (d.logMap f).rxe = d.rxe := rfl
@[simp] theorem Dev.logMap_otpOk (d : Dev) (f : LogSt → LogSt) : (d.logMap f).otpOk = d.otpOk := rfl
@[simp] theorem Dev.logMap_rails (d : Dev) (f : LogSt → LogSt) : (d.logMap f).rails = d.rails := rfl
@[simp] theorem Dev.logMap_phyPads (d : Dev) (f : LogSt → LogSt) : (d.logMap f).phyPads = d.phyPads := rfl
@[simp] theorem Dev.logMap_freeCtr (d : Dev) (f : LogSt → LogSt) : (d.logMap f).freeCtr = d.freeCtr := rfl

/-! ### Dev.monMap -/

@[simp] theorem Dev.monMap_regs (d : Dev) (f : MonSt → MonSt) : (d.monMap f).regs = d.regs := rfl
@[simp] theorem Dev.monMap_eff (d : Dev) (f : MonSt → MonSt) : (d.monMap f).eff = d.eff := rfl
@[simp] theorem Dev.monMap_parityBad (d : Dev) (f : MonSt → MonSt) : (d.monMap f).parityBad = d.parityBad := rfl
@[simp] theorem Dev.monMap_scrubAt (d : Dev) (f : MonSt → MonSt) : (d.monMap f).scrubAt = d.scrubAt := rfl
@[simp] theorem Dev.monMap_page (d : Dev) (f : MonSt → MonSt) : (d.monMap f).page = d.page := rfl
@[simp] theorem Dev.monMap_lines (d : Dev) (f : MonSt → MonSt) : (d.monMap f).lines = d.lines := rfl
@[simp] theorem Dev.monMap_owed (d : Dev) (f : MonSt → MonSt) : (d.monMap f).owed = d.owed := rfl
@[simp] theorem Dev.monMap_hwSet (d : Dev) (f : MonSt → MonSt) : (d.monMap f).hwSet = d.hwSet := rfl
@[simp] theorem Dev.monMap_posted (d : Dev) (f : MonSt → MonSt) : (d.monMap f).posted = d.posted := rfl
@[simp] theorem Dev.monMap_sealed (d : Dev) (f : MonSt → MonSt) : (d.monMap f).sealed = d.sealed := rfl
@[simp] theorem Dev.monMap_rshadow (d : Dev) (f : MonSt → MonSt) : (d.monMap f).rshadow = d.rshadow := rfl
@[simp] theorem Dev.monMap_wshadow (d : Dev) (f : MonSt → MonSt) : (d.monMap f).wshadow = d.wshadow := rfl
@[simp] theorem Dev.monMap_tshadow (d : Dev) (f : MonSt → MonSt) : (d.monMap f).tshadow = d.tshadow := rfl
@[simp] theorem Dev.monMap_perGal (d : Dev) (f : MonSt → MonSt) : (d.monMap f).perGal = d.perGal := rfl
@[simp] theorem Dev.monMap_gal (d : Dev) (f : MonSt → MonSt) : (d.monMap f).gal = d.gal := rfl
@[simp] theorem Dev.monMap_hif (d : Dev) (f : MonSt → MonSt) : (d.monMap f).hif = d.hif := rfl
@[simp] theorem Dev.monMap_evc (d : Dev) (f : MonSt → MonSt) : (d.monMap f).evc = d.evc := rfl
@[simp] theorem Dev.monMap_pwr (d : Dev) (f : MonSt → MonSt) : (d.monMap f).pwr = d.pwr := rfl
@[simp] theorem Dev.monMap_clk (d : Dev) (f : MonSt → MonSt) : (d.monMap f).clk = d.clk := rfl
@[simp] theorem Dev.monMap_tb (d : Dev) (f : MonSt → MonSt) : (d.monMap f).tb = d.tb := rfl
@[simp] theorem Dev.monMap_flt (d : Dev) (f : MonSt → MonSt) : (d.monMap f).flt = d.flt := rfl
@[simp] theorem Dev.monMap_lnd (d : Dev) (f : MonSt → MonSt) : (d.monMap f).lnd = d.lnd := rfl
@[simp] theorem Dev.monMap_log (d : Dev) (f : MonSt → MonSt) : (d.monMap f).log = d.log := rfl
@[simp] theorem Dev.monMap_net (d : Dev) (f : MonSt → MonSt) : (d.monMap f).net = d.net := rfl
@[simp] theorem Dev.monMap_trg (d : Dev) (f : MonSt → MonSt) : (d.monMap f).trg = d.trg := rfl
@[simp] theorem Dev.monMap_ptp (d : Dev) (f : MonSt → MonSt) : (d.monMap f).ptp = d.ptp := rfl
@[simp] theorem Dev.monMap_srv (d : Dev) (f : MonSt → MonSt) : (d.monMap f).srv = d.srv := rfl
@[simp] theorem Dev.monMap_ref (d : Dev) (f : MonSt → MonSt) : (d.monMap f).ref = d.ref := rfl
@[simp] theorem Dev.monMap_mcs (d : Dev) (f : MonSt → MonSt) : (d.monMap f).mcs = d.mcs := rfl
@[simp] theorem Dev.monMap_fb (d : Dev) (f : MonSt → MonSt) : (d.monMap f).fb = d.fb := rfl
@[simp] theorem Dev.monMap_chan (d : Dev) (f : MonSt → MonSt) : (d.monMap f).chan = d.chan := rfl
@[simp] theorem Dev.monMap_rte (d : Dev) (f : MonSt → MonSt) : (d.monMap f).rte = d.rte := rfl
@[simp] theorem Dev.monMap_sap (d : Dev) (f : MonSt → MonSt) : (d.monMap f).sap = d.sap := rfl
@[simp] theorem Dev.monMap_sapg (d : Dev) (f : MonSt → MonSt) : (d.monMap f).sapg = d.sapg := rfl
@[simp] theorem Dev.monMap_tx (d : Dev) (f : MonSt → MonSt) : (d.monMap f).tx = d.tx := rfl
@[simp] theorem Dev.monMap_txe (d : Dev) (f : MonSt → MonSt) : (d.monMap f).txe = d.txe := rfl
@[simp] theorem Dev.monMap_rx (d : Dev) (f : MonSt → MonSt) : (d.monMap f).rx = d.rx := rfl
@[simp] theorem Dev.monMap_rxe (d : Dev) (f : MonSt → MonSt) : (d.monMap f).rxe = d.rxe := rfl
@[simp] theorem Dev.monMap_otpOk (d : Dev) (f : MonSt → MonSt) : (d.monMap f).otpOk = d.otpOk := rfl
@[simp] theorem Dev.monMap_rails (d : Dev) (f : MonSt → MonSt) : (d.monMap f).rails = d.rails := rfl
@[simp] theorem Dev.monMap_phyPads (d : Dev) (f : MonSt → MonSt) : (d.monMap f).phyPads = d.phyPads := rfl
@[simp] theorem Dev.monMap_freeCtr (d : Dev) (f : MonSt → MonSt) : (d.monMap f).freeCtr = d.freeCtr := rfl

/-! ### Dev.netMap -/

@[simp] theorem Dev.netMap_regs (d : Dev) (f : NetSt → NetSt) : (d.netMap f).regs = d.regs := rfl
@[simp] theorem Dev.netMap_eff (d : Dev) (f : NetSt → NetSt) : (d.netMap f).eff = d.eff := rfl
@[simp] theorem Dev.netMap_parityBad (d : Dev) (f : NetSt → NetSt) : (d.netMap f).parityBad = d.parityBad := rfl
@[simp] theorem Dev.netMap_scrubAt (d : Dev) (f : NetSt → NetSt) : (d.netMap f).scrubAt = d.scrubAt := rfl
@[simp] theorem Dev.netMap_page (d : Dev) (f : NetSt → NetSt) : (d.netMap f).page = d.page := rfl
@[simp] theorem Dev.netMap_lines (d : Dev) (f : NetSt → NetSt) : (d.netMap f).lines = d.lines := rfl
@[simp] theorem Dev.netMap_owed (d : Dev) (f : NetSt → NetSt) : (d.netMap f).owed = d.owed := rfl
@[simp] theorem Dev.netMap_hwSet (d : Dev) (f : NetSt → NetSt) : (d.netMap f).hwSet = d.hwSet := rfl
@[simp] theorem Dev.netMap_posted (d : Dev) (f : NetSt → NetSt) : (d.netMap f).posted = d.posted := rfl
@[simp] theorem Dev.netMap_sealed (d : Dev) (f : NetSt → NetSt) : (d.netMap f).sealed = d.sealed := rfl
@[simp] theorem Dev.netMap_rshadow (d : Dev) (f : NetSt → NetSt) : (d.netMap f).rshadow = d.rshadow := rfl
@[simp] theorem Dev.netMap_wshadow (d : Dev) (f : NetSt → NetSt) : (d.netMap f).wshadow = d.wshadow := rfl
@[simp] theorem Dev.netMap_tshadow (d : Dev) (f : NetSt → NetSt) : (d.netMap f).tshadow = d.tshadow := rfl
@[simp] theorem Dev.netMap_perGal (d : Dev) (f : NetSt → NetSt) : (d.netMap f).perGal = d.perGal := rfl
@[simp] theorem Dev.netMap_gal (d : Dev) (f : NetSt → NetSt) : (d.netMap f).gal = d.gal := rfl
@[simp] theorem Dev.netMap_hif (d : Dev) (f : NetSt → NetSt) : (d.netMap f).hif = d.hif := rfl
@[simp] theorem Dev.netMap_evc (d : Dev) (f : NetSt → NetSt) : (d.netMap f).evc = d.evc := rfl
@[simp] theorem Dev.netMap_pwr (d : Dev) (f : NetSt → NetSt) : (d.netMap f).pwr = d.pwr := rfl
@[simp] theorem Dev.netMap_clk (d : Dev) (f : NetSt → NetSt) : (d.netMap f).clk = d.clk := rfl
@[simp] theorem Dev.netMap_tb (d : Dev) (f : NetSt → NetSt) : (d.netMap f).tb = d.tb := rfl
@[simp] theorem Dev.netMap_flt (d : Dev) (f : NetSt → NetSt) : (d.netMap f).flt = d.flt := rfl
@[simp] theorem Dev.netMap_lnd (d : Dev) (f : NetSt → NetSt) : (d.netMap f).lnd = d.lnd := rfl
@[simp] theorem Dev.netMap_mon (d : Dev) (f : NetSt → NetSt) : (d.netMap f).mon = d.mon := rfl
@[simp] theorem Dev.netMap_log (d : Dev) (f : NetSt → NetSt) : (d.netMap f).log = d.log := rfl
@[simp] theorem Dev.netMap_trg (d : Dev) (f : NetSt → NetSt) : (d.netMap f).trg = d.trg := rfl
@[simp] theorem Dev.netMap_ptp (d : Dev) (f : NetSt → NetSt) : (d.netMap f).ptp = d.ptp := rfl
@[simp] theorem Dev.netMap_srv (d : Dev) (f : NetSt → NetSt) : (d.netMap f).srv = d.srv := rfl
@[simp] theorem Dev.netMap_ref (d : Dev) (f : NetSt → NetSt) : (d.netMap f).ref = d.ref := rfl
@[simp] theorem Dev.netMap_mcs (d : Dev) (f : NetSt → NetSt) : (d.netMap f).mcs = d.mcs := rfl
@[simp] theorem Dev.netMap_fb (d : Dev) (f : NetSt → NetSt) : (d.netMap f).fb = d.fb := rfl
@[simp] theorem Dev.netMap_chan (d : Dev) (f : NetSt → NetSt) : (d.netMap f).chan = d.chan := rfl
@[simp] theorem Dev.netMap_rte (d : Dev) (f : NetSt → NetSt) : (d.netMap f).rte = d.rte := rfl
@[simp] theorem Dev.netMap_sap (d : Dev) (f : NetSt → NetSt) : (d.netMap f).sap = d.sap := rfl
@[simp] theorem Dev.netMap_sapg (d : Dev) (f : NetSt → NetSt) : (d.netMap f).sapg = d.sapg := rfl
@[simp] theorem Dev.netMap_tx (d : Dev) (f : NetSt → NetSt) : (d.netMap f).tx = d.tx := rfl
@[simp] theorem Dev.netMap_txe (d : Dev) (f : NetSt → NetSt) : (d.netMap f).txe = d.txe := rfl
@[simp] theorem Dev.netMap_rx (d : Dev) (f : NetSt → NetSt) : (d.netMap f).rx = d.rx := rfl
@[simp] theorem Dev.netMap_rxe (d : Dev) (f : NetSt → NetSt) : (d.netMap f).rxe = d.rxe := rfl
@[simp] theorem Dev.netMap_otpOk (d : Dev) (f : NetSt → NetSt) : (d.netMap f).otpOk = d.otpOk := rfl
@[simp] theorem Dev.netMap_rails (d : Dev) (f : NetSt → NetSt) : (d.netMap f).rails = d.rails := rfl
@[simp] theorem Dev.netMap_phyPads (d : Dev) (f : NetSt → NetSt) : (d.netMap f).phyPads = d.phyPads := rfl
@[simp] theorem Dev.netMap_freeCtr (d : Dev) (f : NetSt → NetSt) : (d.netMap f).freeCtr = d.freeCtr := rfl

/-! ### Dev.pwrMap -/

@[simp] theorem Dev.pwrMap_regs (d : Dev) (f : PwrSt → PwrSt) : (d.pwrMap f).regs = d.regs := rfl
@[simp] theorem Dev.pwrMap_eff (d : Dev) (f : PwrSt → PwrSt) : (d.pwrMap f).eff = d.eff := rfl
@[simp] theorem Dev.pwrMap_parityBad (d : Dev) (f : PwrSt → PwrSt) : (d.pwrMap f).parityBad = d.parityBad := rfl
@[simp] theorem Dev.pwrMap_scrubAt (d : Dev) (f : PwrSt → PwrSt) : (d.pwrMap f).scrubAt = d.scrubAt := rfl
@[simp] theorem Dev.pwrMap_page (d : Dev) (f : PwrSt → PwrSt) : (d.pwrMap f).page = d.page := rfl
@[simp] theorem Dev.pwrMap_lines (d : Dev) (f : PwrSt → PwrSt) : (d.pwrMap f).lines = d.lines := rfl
@[simp] theorem Dev.pwrMap_owed (d : Dev) (f : PwrSt → PwrSt) : (d.pwrMap f).owed = d.owed := rfl
@[simp] theorem Dev.pwrMap_hwSet (d : Dev) (f : PwrSt → PwrSt) : (d.pwrMap f).hwSet = d.hwSet := rfl
@[simp] theorem Dev.pwrMap_posted (d : Dev) (f : PwrSt → PwrSt) : (d.pwrMap f).posted = d.posted := rfl
@[simp] theorem Dev.pwrMap_sealed (d : Dev) (f : PwrSt → PwrSt) : (d.pwrMap f).sealed = d.sealed := rfl
@[simp] theorem Dev.pwrMap_rshadow (d : Dev) (f : PwrSt → PwrSt) : (d.pwrMap f).rshadow = d.rshadow := rfl
@[simp] theorem Dev.pwrMap_wshadow (d : Dev) (f : PwrSt → PwrSt) : (d.pwrMap f).wshadow = d.wshadow := rfl
@[simp] theorem Dev.pwrMap_tshadow (d : Dev) (f : PwrSt → PwrSt) : (d.pwrMap f).tshadow = d.tshadow := rfl
@[simp] theorem Dev.pwrMap_perGal (d : Dev) (f : PwrSt → PwrSt) : (d.pwrMap f).perGal = d.perGal := rfl
@[simp] theorem Dev.pwrMap_gal (d : Dev) (f : PwrSt → PwrSt) : (d.pwrMap f).gal = d.gal := rfl
@[simp] theorem Dev.pwrMap_hif (d : Dev) (f : PwrSt → PwrSt) : (d.pwrMap f).hif = d.hif := rfl
@[simp] theorem Dev.pwrMap_evc (d : Dev) (f : PwrSt → PwrSt) : (d.pwrMap f).evc = d.evc := rfl
@[simp] theorem Dev.pwrMap_clk (d : Dev) (f : PwrSt → PwrSt) : (d.pwrMap f).clk = d.clk := rfl
@[simp] theorem Dev.pwrMap_tb (d : Dev) (f : PwrSt → PwrSt) : (d.pwrMap f).tb = d.tb := rfl
@[simp] theorem Dev.pwrMap_flt (d : Dev) (f : PwrSt → PwrSt) : (d.pwrMap f).flt = d.flt := rfl
@[simp] theorem Dev.pwrMap_lnd (d : Dev) (f : PwrSt → PwrSt) : (d.pwrMap f).lnd = d.lnd := rfl
@[simp] theorem Dev.pwrMap_mon (d : Dev) (f : PwrSt → PwrSt) : (d.pwrMap f).mon = d.mon := rfl
@[simp] theorem Dev.pwrMap_log (d : Dev) (f : PwrSt → PwrSt) : (d.pwrMap f).log = d.log := rfl
@[simp] theorem Dev.pwrMap_net (d : Dev) (f : PwrSt → PwrSt) : (d.pwrMap f).net = d.net := rfl
@[simp] theorem Dev.pwrMap_trg (d : Dev) (f : PwrSt → PwrSt) : (d.pwrMap f).trg = d.trg := rfl
@[simp] theorem Dev.pwrMap_ptp (d : Dev) (f : PwrSt → PwrSt) : (d.pwrMap f).ptp = d.ptp := rfl
@[simp] theorem Dev.pwrMap_srv (d : Dev) (f : PwrSt → PwrSt) : (d.pwrMap f).srv = d.srv := rfl
@[simp] theorem Dev.pwrMap_ref (d : Dev) (f : PwrSt → PwrSt) : (d.pwrMap f).ref = d.ref := rfl
@[simp] theorem Dev.pwrMap_mcs (d : Dev) (f : PwrSt → PwrSt) : (d.pwrMap f).mcs = d.mcs := rfl
@[simp] theorem Dev.pwrMap_fb (d : Dev) (f : PwrSt → PwrSt) : (d.pwrMap f).fb = d.fb := rfl
@[simp] theorem Dev.pwrMap_chan (d : Dev) (f : PwrSt → PwrSt) : (d.pwrMap f).chan = d.chan := rfl
@[simp] theorem Dev.pwrMap_rte (d : Dev) (f : PwrSt → PwrSt) : (d.pwrMap f).rte = d.rte := rfl
@[simp] theorem Dev.pwrMap_sap (d : Dev) (f : PwrSt → PwrSt) : (d.pwrMap f).sap = d.sap := rfl
@[simp] theorem Dev.pwrMap_sapg (d : Dev) (f : PwrSt → PwrSt) : (d.pwrMap f).sapg = d.sapg := rfl
@[simp] theorem Dev.pwrMap_tx (d : Dev) (f : PwrSt → PwrSt) : (d.pwrMap f).tx = d.tx := rfl
@[simp] theorem Dev.pwrMap_txe (d : Dev) (f : PwrSt → PwrSt) : (d.pwrMap f).txe = d.txe := rfl
@[simp] theorem Dev.pwrMap_rx (d : Dev) (f : PwrSt → PwrSt) : (d.pwrMap f).rx = d.rx := rfl
@[simp] theorem Dev.pwrMap_rxe (d : Dev) (f : PwrSt → PwrSt) : (d.pwrMap f).rxe = d.rxe := rfl
@[simp] theorem Dev.pwrMap_otpOk (d : Dev) (f : PwrSt → PwrSt) : (d.pwrMap f).otpOk = d.otpOk := rfl
@[simp] theorem Dev.pwrMap_rails (d : Dev) (f : PwrSt → PwrSt) : (d.pwrMap f).rails = d.rails := rfl
@[simp] theorem Dev.pwrMap_phyPads (d : Dev) (f : PwrSt → PwrSt) : (d.pwrMap f).phyPads = d.phyPads := rfl
@[simp] theorem Dev.pwrMap_freeCtr (d : Dev) (f : PwrSt → PwrSt) : (d.pwrMap f).freeCtr = d.freeCtr := rfl

/-! ### Dev.clkMap -/

@[simp] theorem Dev.clkMap_regs (d : Dev) (f : ClkSt → ClkSt) : (d.clkMap f).regs = d.regs := rfl
@[simp] theorem Dev.clkMap_eff (d : Dev) (f : ClkSt → ClkSt) : (d.clkMap f).eff = d.eff := rfl
@[simp] theorem Dev.clkMap_parityBad (d : Dev) (f : ClkSt → ClkSt) : (d.clkMap f).parityBad = d.parityBad := rfl
@[simp] theorem Dev.clkMap_scrubAt (d : Dev) (f : ClkSt → ClkSt) : (d.clkMap f).scrubAt = d.scrubAt := rfl
@[simp] theorem Dev.clkMap_page (d : Dev) (f : ClkSt → ClkSt) : (d.clkMap f).page = d.page := rfl
@[simp] theorem Dev.clkMap_lines (d : Dev) (f : ClkSt → ClkSt) : (d.clkMap f).lines = d.lines := rfl
@[simp] theorem Dev.clkMap_owed (d : Dev) (f : ClkSt → ClkSt) : (d.clkMap f).owed = d.owed := rfl
@[simp] theorem Dev.clkMap_hwSet (d : Dev) (f : ClkSt → ClkSt) : (d.clkMap f).hwSet = d.hwSet := rfl
@[simp] theorem Dev.clkMap_posted (d : Dev) (f : ClkSt → ClkSt) : (d.clkMap f).posted = d.posted := rfl
@[simp] theorem Dev.clkMap_sealed (d : Dev) (f : ClkSt → ClkSt) : (d.clkMap f).sealed = d.sealed := rfl
@[simp] theorem Dev.clkMap_rshadow (d : Dev) (f : ClkSt → ClkSt) : (d.clkMap f).rshadow = d.rshadow := rfl
@[simp] theorem Dev.clkMap_wshadow (d : Dev) (f : ClkSt → ClkSt) : (d.clkMap f).wshadow = d.wshadow := rfl
@[simp] theorem Dev.clkMap_tshadow (d : Dev) (f : ClkSt → ClkSt) : (d.clkMap f).tshadow = d.tshadow := rfl
@[simp] theorem Dev.clkMap_perGal (d : Dev) (f : ClkSt → ClkSt) : (d.clkMap f).perGal = d.perGal := rfl
@[simp] theorem Dev.clkMap_gal (d : Dev) (f : ClkSt → ClkSt) : (d.clkMap f).gal = d.gal := rfl
@[simp] theorem Dev.clkMap_hif (d : Dev) (f : ClkSt → ClkSt) : (d.clkMap f).hif = d.hif := rfl
@[simp] theorem Dev.clkMap_evc (d : Dev) (f : ClkSt → ClkSt) : (d.clkMap f).evc = d.evc := rfl
@[simp] theorem Dev.clkMap_pwr (d : Dev) (f : ClkSt → ClkSt) : (d.clkMap f).pwr = d.pwr := rfl
@[simp] theorem Dev.clkMap_tb (d : Dev) (f : ClkSt → ClkSt) : (d.clkMap f).tb = d.tb := rfl
@[simp] theorem Dev.clkMap_flt (d : Dev) (f : ClkSt → ClkSt) : (d.clkMap f).flt = d.flt := rfl
@[simp] theorem Dev.clkMap_lnd (d : Dev) (f : ClkSt → ClkSt) : (d.clkMap f).lnd = d.lnd := rfl
@[simp] theorem Dev.clkMap_mon (d : Dev) (f : ClkSt → ClkSt) : (d.clkMap f).mon = d.mon := rfl
@[simp] theorem Dev.clkMap_log (d : Dev) (f : ClkSt → ClkSt) : (d.clkMap f).log = d.log := rfl
@[simp] theorem Dev.clkMap_net (d : Dev) (f : ClkSt → ClkSt) : (d.clkMap f).net = d.net := rfl
@[simp] theorem Dev.clkMap_trg (d : Dev) (f : ClkSt → ClkSt) : (d.clkMap f).trg = d.trg := rfl
@[simp] theorem Dev.clkMap_ptp (d : Dev) (f : ClkSt → ClkSt) : (d.clkMap f).ptp = d.ptp := rfl
@[simp] theorem Dev.clkMap_srv (d : Dev) (f : ClkSt → ClkSt) : (d.clkMap f).srv = d.srv := rfl
@[simp] theorem Dev.clkMap_ref (d : Dev) (f : ClkSt → ClkSt) : (d.clkMap f).ref = d.ref := rfl
@[simp] theorem Dev.clkMap_mcs (d : Dev) (f : ClkSt → ClkSt) : (d.clkMap f).mcs = d.mcs := rfl
@[simp] theorem Dev.clkMap_fb (d : Dev) (f : ClkSt → ClkSt) : (d.clkMap f).fb = d.fb := rfl
@[simp] theorem Dev.clkMap_chan (d : Dev) (f : ClkSt → ClkSt) : (d.clkMap f).chan = d.chan := rfl
@[simp] theorem Dev.clkMap_rte (d : Dev) (f : ClkSt → ClkSt) : (d.clkMap f).rte = d.rte := rfl
@[simp] theorem Dev.clkMap_sap (d : Dev) (f : ClkSt → ClkSt) : (d.clkMap f).sap = d.sap := rfl
@[simp] theorem Dev.clkMap_sapg (d : Dev) (f : ClkSt → ClkSt) : (d.clkMap f).sapg = d.sapg := rfl
@[simp] theorem Dev.clkMap_tx (d : Dev) (f : ClkSt → ClkSt) : (d.clkMap f).tx = d.tx := rfl
@[simp] theorem Dev.clkMap_txe (d : Dev) (f : ClkSt → ClkSt) : (d.clkMap f).txe = d.txe := rfl
@[simp] theorem Dev.clkMap_rx (d : Dev) (f : ClkSt → ClkSt) : (d.clkMap f).rx = d.rx := rfl
@[simp] theorem Dev.clkMap_rxe (d : Dev) (f : ClkSt → ClkSt) : (d.clkMap f).rxe = d.rxe := rfl
@[simp] theorem Dev.clkMap_otpOk (d : Dev) (f : ClkSt → ClkSt) : (d.clkMap f).otpOk = d.otpOk := rfl
@[simp] theorem Dev.clkMap_rails (d : Dev) (f : ClkSt → ClkSt) : (d.clkMap f).rails = d.rails := rfl
@[simp] theorem Dev.clkMap_phyPads (d : Dev) (f : ClkSt → ClkSt) : (d.clkMap f).phyPads = d.phyPads := rfl
@[simp] theorem Dev.clkMap_freeCtr (d : Dev) (f : ClkSt → ClkSt) : (d.clkMap f).freeCtr = d.freeCtr := rfl

/-! ### Dev.refMap -/

@[simp] theorem Dev.refMap_regs (d : Dev) (f : RefSt → RefSt) : (d.refMap f).regs = d.regs := rfl
@[simp] theorem Dev.refMap_eff (d : Dev) (f : RefSt → RefSt) : (d.refMap f).eff = d.eff := rfl
@[simp] theorem Dev.refMap_parityBad (d : Dev) (f : RefSt → RefSt) : (d.refMap f).parityBad = d.parityBad := rfl
@[simp] theorem Dev.refMap_scrubAt (d : Dev) (f : RefSt → RefSt) : (d.refMap f).scrubAt = d.scrubAt := rfl
@[simp] theorem Dev.refMap_page (d : Dev) (f : RefSt → RefSt) : (d.refMap f).page = d.page := rfl
@[simp] theorem Dev.refMap_lines (d : Dev) (f : RefSt → RefSt) : (d.refMap f).lines = d.lines := rfl
@[simp] theorem Dev.refMap_owed (d : Dev) (f : RefSt → RefSt) : (d.refMap f).owed = d.owed := rfl
@[simp] theorem Dev.refMap_hwSet (d : Dev) (f : RefSt → RefSt) : (d.refMap f).hwSet = d.hwSet := rfl
@[simp] theorem Dev.refMap_posted (d : Dev) (f : RefSt → RefSt) : (d.refMap f).posted = d.posted := rfl
@[simp] theorem Dev.refMap_sealed (d : Dev) (f : RefSt → RefSt) : (d.refMap f).sealed = d.sealed := rfl
@[simp] theorem Dev.refMap_rshadow (d : Dev) (f : RefSt → RefSt) : (d.refMap f).rshadow = d.rshadow := rfl
@[simp] theorem Dev.refMap_wshadow (d : Dev) (f : RefSt → RefSt) : (d.refMap f).wshadow = d.wshadow := rfl
@[simp] theorem Dev.refMap_tshadow (d : Dev) (f : RefSt → RefSt) : (d.refMap f).tshadow = d.tshadow := rfl
@[simp] theorem Dev.refMap_perGal (d : Dev) (f : RefSt → RefSt) : (d.refMap f).perGal = d.perGal := rfl
@[simp] theorem Dev.refMap_gal (d : Dev) (f : RefSt → RefSt) : (d.refMap f).gal = d.gal := rfl
@[simp] theorem Dev.refMap_hif (d : Dev) (f : RefSt → RefSt) : (d.refMap f).hif = d.hif := rfl
@[simp] theorem Dev.refMap_evc (d : Dev) (f : RefSt → RefSt) : (d.refMap f).evc = d.evc := rfl
@[simp] theorem Dev.refMap_pwr (d : Dev) (f : RefSt → RefSt) : (d.refMap f).pwr = d.pwr := rfl
@[simp] theorem Dev.refMap_clk (d : Dev) (f : RefSt → RefSt) : (d.refMap f).clk = d.clk := rfl
@[simp] theorem Dev.refMap_tb (d : Dev) (f : RefSt → RefSt) : (d.refMap f).tb = d.tb := rfl
@[simp] theorem Dev.refMap_flt (d : Dev) (f : RefSt → RefSt) : (d.refMap f).flt = d.flt := rfl
@[simp] theorem Dev.refMap_lnd (d : Dev) (f : RefSt → RefSt) : (d.refMap f).lnd = d.lnd := rfl
@[simp] theorem Dev.refMap_mon (d : Dev) (f : RefSt → RefSt) : (d.refMap f).mon = d.mon := rfl
@[simp] theorem Dev.refMap_log (d : Dev) (f : RefSt → RefSt) : (d.refMap f).log = d.log := rfl
@[simp] theorem Dev.refMap_net (d : Dev) (f : RefSt → RefSt) : (d.refMap f).net = d.net := rfl
@[simp] theorem Dev.refMap_trg (d : Dev) (f : RefSt → RefSt) : (d.refMap f).trg = d.trg := rfl
@[simp] theorem Dev.refMap_ptp (d : Dev) (f : RefSt → RefSt) : (d.refMap f).ptp = d.ptp := rfl
@[simp] theorem Dev.refMap_srv (d : Dev) (f : RefSt → RefSt) : (d.refMap f).srv = d.srv := rfl
@[simp] theorem Dev.refMap_mcs (d : Dev) (f : RefSt → RefSt) : (d.refMap f).mcs = d.mcs := rfl
@[simp] theorem Dev.refMap_fb (d : Dev) (f : RefSt → RefSt) : (d.refMap f).fb = d.fb := rfl
@[simp] theorem Dev.refMap_chan (d : Dev) (f : RefSt → RefSt) : (d.refMap f).chan = d.chan := rfl
@[simp] theorem Dev.refMap_rte (d : Dev) (f : RefSt → RefSt) : (d.refMap f).rte = d.rte := rfl
@[simp] theorem Dev.refMap_sap (d : Dev) (f : RefSt → RefSt) : (d.refMap f).sap = d.sap := rfl
@[simp] theorem Dev.refMap_sapg (d : Dev) (f : RefSt → RefSt) : (d.refMap f).sapg = d.sapg := rfl
@[simp] theorem Dev.refMap_tx (d : Dev) (f : RefSt → RefSt) : (d.refMap f).tx = d.tx := rfl
@[simp] theorem Dev.refMap_txe (d : Dev) (f : RefSt → RefSt) : (d.refMap f).txe = d.txe := rfl
@[simp] theorem Dev.refMap_rx (d : Dev) (f : RefSt → RefSt) : (d.refMap f).rx = d.rx := rfl
@[simp] theorem Dev.refMap_rxe (d : Dev) (f : RefSt → RefSt) : (d.refMap f).rxe = d.rxe := rfl
@[simp] theorem Dev.refMap_otpOk (d : Dev) (f : RefSt → RefSt) : (d.refMap f).otpOk = d.otpOk := rfl
@[simp] theorem Dev.refMap_rails (d : Dev) (f : RefSt → RefSt) : (d.refMap f).rails = d.rails := rfl
@[simp] theorem Dev.refMap_phyPads (d : Dev) (f : RefSt → RefSt) : (d.refMap f).phyPads = d.phyPads := rfl
@[simp] theorem Dev.refMap_freeCtr (d : Dev) (f : RefSt → RefSt) : (d.refMap f).freeCtr = d.freeCtr := rfl

/-! ### Dev.rteMap -/

@[simp] theorem Dev.rteMap_regs (d : Dev) (f : RteSt → RteSt) : (d.rteMap f).regs = d.regs := rfl
@[simp] theorem Dev.rteMap_eff (d : Dev) (f : RteSt → RteSt) : (d.rteMap f).eff = d.eff := rfl
@[simp] theorem Dev.rteMap_parityBad (d : Dev) (f : RteSt → RteSt) : (d.rteMap f).parityBad = d.parityBad := rfl
@[simp] theorem Dev.rteMap_scrubAt (d : Dev) (f : RteSt → RteSt) : (d.rteMap f).scrubAt = d.scrubAt := rfl
@[simp] theorem Dev.rteMap_page (d : Dev) (f : RteSt → RteSt) : (d.rteMap f).page = d.page := rfl
@[simp] theorem Dev.rteMap_lines (d : Dev) (f : RteSt → RteSt) : (d.rteMap f).lines = d.lines := rfl
@[simp] theorem Dev.rteMap_owed (d : Dev) (f : RteSt → RteSt) : (d.rteMap f).owed = d.owed := rfl
@[simp] theorem Dev.rteMap_hwSet (d : Dev) (f : RteSt → RteSt) : (d.rteMap f).hwSet = d.hwSet := rfl
@[simp] theorem Dev.rteMap_posted (d : Dev) (f : RteSt → RteSt) : (d.rteMap f).posted = d.posted := rfl
@[simp] theorem Dev.rteMap_sealed (d : Dev) (f : RteSt → RteSt) : (d.rteMap f).sealed = d.sealed := rfl
@[simp] theorem Dev.rteMap_rshadow (d : Dev) (f : RteSt → RteSt) : (d.rteMap f).rshadow = d.rshadow := rfl
@[simp] theorem Dev.rteMap_wshadow (d : Dev) (f : RteSt → RteSt) : (d.rteMap f).wshadow = d.wshadow := rfl
@[simp] theorem Dev.rteMap_tshadow (d : Dev) (f : RteSt → RteSt) : (d.rteMap f).tshadow = d.tshadow := rfl
@[simp] theorem Dev.rteMap_perGal (d : Dev) (f : RteSt → RteSt) : (d.rteMap f).perGal = d.perGal := rfl
@[simp] theorem Dev.rteMap_gal (d : Dev) (f : RteSt → RteSt) : (d.rteMap f).gal = d.gal := rfl
@[simp] theorem Dev.rteMap_hif (d : Dev) (f : RteSt → RteSt) : (d.rteMap f).hif = d.hif := rfl
@[simp] theorem Dev.rteMap_evc (d : Dev) (f : RteSt → RteSt) : (d.rteMap f).evc = d.evc := rfl
@[simp] theorem Dev.rteMap_pwr (d : Dev) (f : RteSt → RteSt) : (d.rteMap f).pwr = d.pwr := rfl
@[simp] theorem Dev.rteMap_clk (d : Dev) (f : RteSt → RteSt) : (d.rteMap f).clk = d.clk := rfl
@[simp] theorem Dev.rteMap_tb (d : Dev) (f : RteSt → RteSt) : (d.rteMap f).tb = d.tb := rfl
@[simp] theorem Dev.rteMap_flt (d : Dev) (f : RteSt → RteSt) : (d.rteMap f).flt = d.flt := rfl
@[simp] theorem Dev.rteMap_lnd (d : Dev) (f : RteSt → RteSt) : (d.rteMap f).lnd = d.lnd := rfl
@[simp] theorem Dev.rteMap_mon (d : Dev) (f : RteSt → RteSt) : (d.rteMap f).mon = d.mon := rfl
@[simp] theorem Dev.rteMap_log (d : Dev) (f : RteSt → RteSt) : (d.rteMap f).log = d.log := rfl
@[simp] theorem Dev.rteMap_net (d : Dev) (f : RteSt → RteSt) : (d.rteMap f).net = d.net := rfl
@[simp] theorem Dev.rteMap_trg (d : Dev) (f : RteSt → RteSt) : (d.rteMap f).trg = d.trg := rfl
@[simp] theorem Dev.rteMap_ptp (d : Dev) (f : RteSt → RteSt) : (d.rteMap f).ptp = d.ptp := rfl
@[simp] theorem Dev.rteMap_srv (d : Dev) (f : RteSt → RteSt) : (d.rteMap f).srv = d.srv := rfl
@[simp] theorem Dev.rteMap_ref (d : Dev) (f : RteSt → RteSt) : (d.rteMap f).ref = d.ref := rfl
@[simp] theorem Dev.rteMap_mcs (d : Dev) (f : RteSt → RteSt) : (d.rteMap f).mcs = d.mcs := rfl
@[simp] theorem Dev.rteMap_fb (d : Dev) (f : RteSt → RteSt) : (d.rteMap f).fb = d.fb := rfl
@[simp] theorem Dev.rteMap_chan (d : Dev) (f : RteSt → RteSt) : (d.rteMap f).chan = d.chan := rfl
@[simp] theorem Dev.rteMap_sap (d : Dev) (f : RteSt → RteSt) : (d.rteMap f).sap = d.sap := rfl
@[simp] theorem Dev.rteMap_sapg (d : Dev) (f : RteSt → RteSt) : (d.rteMap f).sapg = d.sapg := rfl
@[simp] theorem Dev.rteMap_tx (d : Dev) (f : RteSt → RteSt) : (d.rteMap f).tx = d.tx := rfl
@[simp] theorem Dev.rteMap_txe (d : Dev) (f : RteSt → RteSt) : (d.rteMap f).txe = d.txe := rfl
@[simp] theorem Dev.rteMap_rx (d : Dev) (f : RteSt → RteSt) : (d.rteMap f).rx = d.rx := rfl
@[simp] theorem Dev.rteMap_rxe (d : Dev) (f : RteSt → RteSt) : (d.rteMap f).rxe = d.rxe := rfl
@[simp] theorem Dev.rteMap_otpOk (d : Dev) (f : RteSt → RteSt) : (d.rteMap f).otpOk = d.otpOk := rfl
@[simp] theorem Dev.rteMap_rails (d : Dev) (f : RteSt → RteSt) : (d.rteMap f).rails = d.rails := rfl
@[simp] theorem Dev.rteMap_phyPads (d : Dev) (f : RteSt → RteSt) : (d.rteMap f).phyPads = d.phyPads := rfl
@[simp] theorem Dev.rteMap_freeCtr (d : Dev) (f : RteSt → RteSt) : (d.rteMap f).freeCtr = d.freeCtr := rfl

/-! ### Dev.rxeMap -/

@[simp] theorem Dev.rxeMap_regs (d : Dev) (f : RxeSt → RxeSt) : (d.rxeMap f).regs = d.regs := rfl
@[simp] theorem Dev.rxeMap_eff (d : Dev) (f : RxeSt → RxeSt) : (d.rxeMap f).eff = d.eff := rfl
@[simp] theorem Dev.rxeMap_parityBad (d : Dev) (f : RxeSt → RxeSt) : (d.rxeMap f).parityBad = d.parityBad := rfl
@[simp] theorem Dev.rxeMap_scrubAt (d : Dev) (f : RxeSt → RxeSt) : (d.rxeMap f).scrubAt = d.scrubAt := rfl
@[simp] theorem Dev.rxeMap_page (d : Dev) (f : RxeSt → RxeSt) : (d.rxeMap f).page = d.page := rfl
@[simp] theorem Dev.rxeMap_lines (d : Dev) (f : RxeSt → RxeSt) : (d.rxeMap f).lines = d.lines := rfl
@[simp] theorem Dev.rxeMap_owed (d : Dev) (f : RxeSt → RxeSt) : (d.rxeMap f).owed = d.owed := rfl
@[simp] theorem Dev.rxeMap_hwSet (d : Dev) (f : RxeSt → RxeSt) : (d.rxeMap f).hwSet = d.hwSet := rfl
@[simp] theorem Dev.rxeMap_posted (d : Dev) (f : RxeSt → RxeSt) : (d.rxeMap f).posted = d.posted := rfl
@[simp] theorem Dev.rxeMap_sealed (d : Dev) (f : RxeSt → RxeSt) : (d.rxeMap f).sealed = d.sealed := rfl
@[simp] theorem Dev.rxeMap_rshadow (d : Dev) (f : RxeSt → RxeSt) : (d.rxeMap f).rshadow = d.rshadow := rfl
@[simp] theorem Dev.rxeMap_wshadow (d : Dev) (f : RxeSt → RxeSt) : (d.rxeMap f).wshadow = d.wshadow := rfl
@[simp] theorem Dev.rxeMap_tshadow (d : Dev) (f : RxeSt → RxeSt) : (d.rxeMap f).tshadow = d.tshadow := rfl
@[simp] theorem Dev.rxeMap_perGal (d : Dev) (f : RxeSt → RxeSt) : (d.rxeMap f).perGal = d.perGal := rfl
@[simp] theorem Dev.rxeMap_gal (d : Dev) (f : RxeSt → RxeSt) : (d.rxeMap f).gal = d.gal := rfl
@[simp] theorem Dev.rxeMap_hif (d : Dev) (f : RxeSt → RxeSt) : (d.rxeMap f).hif = d.hif := rfl
@[simp] theorem Dev.rxeMap_evc (d : Dev) (f : RxeSt → RxeSt) : (d.rxeMap f).evc = d.evc := rfl
@[simp] theorem Dev.rxeMap_pwr (d : Dev) (f : RxeSt → RxeSt) : (d.rxeMap f).pwr = d.pwr := rfl
@[simp] theorem Dev.rxeMap_clk (d : Dev) (f : RxeSt → RxeSt) : (d.rxeMap f).clk = d.clk := rfl
@[simp] theorem Dev.rxeMap_tb (d : Dev) (f : RxeSt → RxeSt) : (d.rxeMap f).tb = d.tb := rfl
@[simp] theorem Dev.rxeMap_flt (d : Dev) (f : RxeSt → RxeSt) : (d.rxeMap f).flt = d.flt := rfl
@[simp] theorem Dev.rxeMap_lnd (d : Dev) (f : RxeSt → RxeSt) : (d.rxeMap f).lnd = d.lnd := rfl
@[simp] theorem Dev.rxeMap_mon (d : Dev) (f : RxeSt → RxeSt) : (d.rxeMap f).mon = d.mon := rfl
@[simp] theorem Dev.rxeMap_log (d : Dev) (f : RxeSt → RxeSt) : (d.rxeMap f).log = d.log := rfl
@[simp] theorem Dev.rxeMap_net (d : Dev) (f : RxeSt → RxeSt) : (d.rxeMap f).net = d.net := rfl
@[simp] theorem Dev.rxeMap_trg (d : Dev) (f : RxeSt → RxeSt) : (d.rxeMap f).trg = d.trg := rfl
@[simp] theorem Dev.rxeMap_ptp (d : Dev) (f : RxeSt → RxeSt) : (d.rxeMap f).ptp = d.ptp := rfl
@[simp] theorem Dev.rxeMap_srv (d : Dev) (f : RxeSt → RxeSt) : (d.rxeMap f).srv = d.srv := rfl
@[simp] theorem Dev.rxeMap_ref (d : Dev) (f : RxeSt → RxeSt) : (d.rxeMap f).ref = d.ref := rfl
@[simp] theorem Dev.rxeMap_mcs (d : Dev) (f : RxeSt → RxeSt) : (d.rxeMap f).mcs = d.mcs := rfl
@[simp] theorem Dev.rxeMap_fb (d : Dev) (f : RxeSt → RxeSt) : (d.rxeMap f).fb = d.fb := rfl
@[simp] theorem Dev.rxeMap_chan (d : Dev) (f : RxeSt → RxeSt) : (d.rxeMap f).chan = d.chan := rfl
@[simp] theorem Dev.rxeMap_rte (d : Dev) (f : RxeSt → RxeSt) : (d.rxeMap f).rte = d.rte := rfl
@[simp] theorem Dev.rxeMap_sap (d : Dev) (f : RxeSt → RxeSt) : (d.rxeMap f).sap = d.sap := rfl
@[simp] theorem Dev.rxeMap_sapg (d : Dev) (f : RxeSt → RxeSt) : (d.rxeMap f).sapg = d.sapg := rfl
@[simp] theorem Dev.rxeMap_tx (d : Dev) (f : RxeSt → RxeSt) : (d.rxeMap f).tx = d.tx := rfl
@[simp] theorem Dev.rxeMap_txe (d : Dev) (f : RxeSt → RxeSt) : (d.rxeMap f).txe = d.txe := rfl
@[simp] theorem Dev.rxeMap_rx (d : Dev) (f : RxeSt → RxeSt) : (d.rxeMap f).rx = d.rx := rfl
@[simp] theorem Dev.rxeMap_otpOk (d : Dev) (f : RxeSt → RxeSt) : (d.rxeMap f).otpOk = d.otpOk := rfl
@[simp] theorem Dev.rxeMap_rails (d : Dev) (f : RxeSt → RxeSt) : (d.rxeMap f).rails = d.rails := rfl
@[simp] theorem Dev.rxeMap_phyPads (d : Dev) (f : RxeSt → RxeSt) : (d.rxeMap f).phyPads = d.phyPads := rfl
@[simp] theorem Dev.rxeMap_freeCtr (d : Dev) (f : RxeSt → RxeSt) : (d.rxeMap f).freeCtr = d.freeCtr := rfl

/-! ### Dev.sapgMap -/

@[simp] theorem Dev.sapgMap_regs (d : Dev) (f : SapgSt → SapgSt) : (d.sapgMap f).regs = d.regs := rfl
@[simp] theorem Dev.sapgMap_eff (d : Dev) (f : SapgSt → SapgSt) : (d.sapgMap f).eff = d.eff := rfl
@[simp] theorem Dev.sapgMap_parityBad (d : Dev) (f : SapgSt → SapgSt) : (d.sapgMap f).parityBad = d.parityBad := rfl
@[simp] theorem Dev.sapgMap_scrubAt (d : Dev) (f : SapgSt → SapgSt) : (d.sapgMap f).scrubAt = d.scrubAt := rfl
@[simp] theorem Dev.sapgMap_page (d : Dev) (f : SapgSt → SapgSt) : (d.sapgMap f).page = d.page := rfl
@[simp] theorem Dev.sapgMap_lines (d : Dev) (f : SapgSt → SapgSt) : (d.sapgMap f).lines = d.lines := rfl
@[simp] theorem Dev.sapgMap_owed (d : Dev) (f : SapgSt → SapgSt) : (d.sapgMap f).owed = d.owed := rfl
@[simp] theorem Dev.sapgMap_hwSet (d : Dev) (f : SapgSt → SapgSt) : (d.sapgMap f).hwSet = d.hwSet := rfl
@[simp] theorem Dev.sapgMap_posted (d : Dev) (f : SapgSt → SapgSt) : (d.sapgMap f).posted = d.posted := rfl
@[simp] theorem Dev.sapgMap_sealed (d : Dev) (f : SapgSt → SapgSt) : (d.sapgMap f).sealed = d.sealed := rfl
@[simp] theorem Dev.sapgMap_rshadow (d : Dev) (f : SapgSt → SapgSt) : (d.sapgMap f).rshadow = d.rshadow := rfl
@[simp] theorem Dev.sapgMap_wshadow (d : Dev) (f : SapgSt → SapgSt) : (d.sapgMap f).wshadow = d.wshadow := rfl
@[simp] theorem Dev.sapgMap_tshadow (d : Dev) (f : SapgSt → SapgSt) : (d.sapgMap f).tshadow = d.tshadow := rfl
@[simp] theorem Dev.sapgMap_perGal (d : Dev) (f : SapgSt → SapgSt) : (d.sapgMap f).perGal = d.perGal := rfl
@[simp] theorem Dev.sapgMap_gal (d : Dev) (f : SapgSt → SapgSt) : (d.sapgMap f).gal = d.gal := rfl
@[simp] theorem Dev.sapgMap_hif (d : Dev) (f : SapgSt → SapgSt) : (d.sapgMap f).hif = d.hif := rfl
@[simp] theorem Dev.sapgMap_evc (d : Dev) (f : SapgSt → SapgSt) : (d.sapgMap f).evc = d.evc := rfl
@[simp] theorem Dev.sapgMap_pwr (d : Dev) (f : SapgSt → SapgSt) : (d.sapgMap f).pwr = d.pwr := rfl
@[simp] theorem Dev.sapgMap_clk (d : Dev) (f : SapgSt → SapgSt) : (d.sapgMap f).clk = d.clk := rfl
@[simp] theorem Dev.sapgMap_tb (d : Dev) (f : SapgSt → SapgSt) : (d.sapgMap f).tb = d.tb := rfl
@[simp] theorem Dev.sapgMap_flt (d : Dev) (f : SapgSt → SapgSt) : (d.sapgMap f).flt = d.flt := rfl
@[simp] theorem Dev.sapgMap_lnd (d : Dev) (f : SapgSt → SapgSt) : (d.sapgMap f).lnd = d.lnd := rfl
@[simp] theorem Dev.sapgMap_mon (d : Dev) (f : SapgSt → SapgSt) : (d.sapgMap f).mon = d.mon := rfl
@[simp] theorem Dev.sapgMap_log (d : Dev) (f : SapgSt → SapgSt) : (d.sapgMap f).log = d.log := rfl
@[simp] theorem Dev.sapgMap_net (d : Dev) (f : SapgSt → SapgSt) : (d.sapgMap f).net = d.net := rfl
@[simp] theorem Dev.sapgMap_trg (d : Dev) (f : SapgSt → SapgSt) : (d.sapgMap f).trg = d.trg := rfl
@[simp] theorem Dev.sapgMap_ptp (d : Dev) (f : SapgSt → SapgSt) : (d.sapgMap f).ptp = d.ptp := rfl
@[simp] theorem Dev.sapgMap_srv (d : Dev) (f : SapgSt → SapgSt) : (d.sapgMap f).srv = d.srv := rfl
@[simp] theorem Dev.sapgMap_ref (d : Dev) (f : SapgSt → SapgSt) : (d.sapgMap f).ref = d.ref := rfl
@[simp] theorem Dev.sapgMap_mcs (d : Dev) (f : SapgSt → SapgSt) : (d.sapgMap f).mcs = d.mcs := rfl
@[simp] theorem Dev.sapgMap_fb (d : Dev) (f : SapgSt → SapgSt) : (d.sapgMap f).fb = d.fb := rfl
@[simp] theorem Dev.sapgMap_chan (d : Dev) (f : SapgSt → SapgSt) : (d.sapgMap f).chan = d.chan := rfl
@[simp] theorem Dev.sapgMap_rte (d : Dev) (f : SapgSt → SapgSt) : (d.sapgMap f).rte = d.rte := rfl
@[simp] theorem Dev.sapgMap_sap (d : Dev) (f : SapgSt → SapgSt) : (d.sapgMap f).sap = d.sap := rfl
@[simp] theorem Dev.sapgMap_tx (d : Dev) (f : SapgSt → SapgSt) : (d.sapgMap f).tx = d.tx := rfl
@[simp] theorem Dev.sapgMap_txe (d : Dev) (f : SapgSt → SapgSt) : (d.sapgMap f).txe = d.txe := rfl
@[simp] theorem Dev.sapgMap_rx (d : Dev) (f : SapgSt → SapgSt) : (d.sapgMap f).rx = d.rx := rfl
@[simp] theorem Dev.sapgMap_rxe (d : Dev) (f : SapgSt → SapgSt) : (d.sapgMap f).rxe = d.rxe := rfl
@[simp] theorem Dev.sapgMap_otpOk (d : Dev) (f : SapgSt → SapgSt) : (d.sapgMap f).otpOk = d.otpOk := rfl
@[simp] theorem Dev.sapgMap_rails (d : Dev) (f : SapgSt → SapgSt) : (d.sapgMap f).rails = d.rails := rfl
@[simp] theorem Dev.sapgMap_phyPads (d : Dev) (f : SapgSt → SapgSt) : (d.sapgMap f).phyPads = d.phyPads := rfl
@[simp] theorem Dev.sapgMap_freeCtr (d : Dev) (f : SapgSt → SapgSt) : (d.sapgMap f).freeCtr = d.freeCtr := rfl

/-! ### Dev.trgMap -/

@[simp] theorem Dev.trgMap_regs (d : Dev) (f : TrgSt → TrgSt) : (d.trgMap f).regs = d.regs := rfl
@[simp] theorem Dev.trgMap_eff (d : Dev) (f : TrgSt → TrgSt) : (d.trgMap f).eff = d.eff := rfl
@[simp] theorem Dev.trgMap_parityBad (d : Dev) (f : TrgSt → TrgSt) : (d.trgMap f).parityBad = d.parityBad := rfl
@[simp] theorem Dev.trgMap_scrubAt (d : Dev) (f : TrgSt → TrgSt) : (d.trgMap f).scrubAt = d.scrubAt := rfl
@[simp] theorem Dev.trgMap_page (d : Dev) (f : TrgSt → TrgSt) : (d.trgMap f).page = d.page := rfl
@[simp] theorem Dev.trgMap_lines (d : Dev) (f : TrgSt → TrgSt) : (d.trgMap f).lines = d.lines := rfl
@[simp] theorem Dev.trgMap_owed (d : Dev) (f : TrgSt → TrgSt) : (d.trgMap f).owed = d.owed := rfl
@[simp] theorem Dev.trgMap_hwSet (d : Dev) (f : TrgSt → TrgSt) : (d.trgMap f).hwSet = d.hwSet := rfl
@[simp] theorem Dev.trgMap_posted (d : Dev) (f : TrgSt → TrgSt) : (d.trgMap f).posted = d.posted := rfl
@[simp] theorem Dev.trgMap_sealed (d : Dev) (f : TrgSt → TrgSt) : (d.trgMap f).sealed = d.sealed := rfl
@[simp] theorem Dev.trgMap_rshadow (d : Dev) (f : TrgSt → TrgSt) : (d.trgMap f).rshadow = d.rshadow := rfl
@[simp] theorem Dev.trgMap_wshadow (d : Dev) (f : TrgSt → TrgSt) : (d.trgMap f).wshadow = d.wshadow := rfl
@[simp] theorem Dev.trgMap_tshadow (d : Dev) (f : TrgSt → TrgSt) : (d.trgMap f).tshadow = d.tshadow := rfl
@[simp] theorem Dev.trgMap_perGal (d : Dev) (f : TrgSt → TrgSt) : (d.trgMap f).perGal = d.perGal := rfl
@[simp] theorem Dev.trgMap_gal (d : Dev) (f : TrgSt → TrgSt) : (d.trgMap f).gal = d.gal := rfl
@[simp] theorem Dev.trgMap_hif (d : Dev) (f : TrgSt → TrgSt) : (d.trgMap f).hif = d.hif := rfl
@[simp] theorem Dev.trgMap_evc (d : Dev) (f : TrgSt → TrgSt) : (d.trgMap f).evc = d.evc := rfl
@[simp] theorem Dev.trgMap_pwr (d : Dev) (f : TrgSt → TrgSt) : (d.trgMap f).pwr = d.pwr := rfl
@[simp] theorem Dev.trgMap_clk (d : Dev) (f : TrgSt → TrgSt) : (d.trgMap f).clk = d.clk := rfl
@[simp] theorem Dev.trgMap_tb (d : Dev) (f : TrgSt → TrgSt) : (d.trgMap f).tb = d.tb := rfl
@[simp] theorem Dev.trgMap_flt (d : Dev) (f : TrgSt → TrgSt) : (d.trgMap f).flt = d.flt := rfl
@[simp] theorem Dev.trgMap_lnd (d : Dev) (f : TrgSt → TrgSt) : (d.trgMap f).lnd = d.lnd := rfl
@[simp] theorem Dev.trgMap_mon (d : Dev) (f : TrgSt → TrgSt) : (d.trgMap f).mon = d.mon := rfl
@[simp] theorem Dev.trgMap_log (d : Dev) (f : TrgSt → TrgSt) : (d.trgMap f).log = d.log := rfl
@[simp] theorem Dev.trgMap_net (d : Dev) (f : TrgSt → TrgSt) : (d.trgMap f).net = d.net := rfl
@[simp] theorem Dev.trgMap_ptp (d : Dev) (f : TrgSt → TrgSt) : (d.trgMap f).ptp = d.ptp := rfl
@[simp] theorem Dev.trgMap_srv (d : Dev) (f : TrgSt → TrgSt) : (d.trgMap f).srv = d.srv := rfl
@[simp] theorem Dev.trgMap_ref (d : Dev) (f : TrgSt → TrgSt) : (d.trgMap f).ref = d.ref := rfl
@[simp] theorem Dev.trgMap_mcs (d : Dev) (f : TrgSt → TrgSt) : (d.trgMap f).mcs = d.mcs := rfl
@[simp] theorem Dev.trgMap_fb (d : Dev) (f : TrgSt → TrgSt) : (d.trgMap f).fb = d.fb := rfl
@[simp] theorem Dev.trgMap_chan (d : Dev) (f : TrgSt → TrgSt) : (d.trgMap f).chan = d.chan := rfl
@[simp] theorem Dev.trgMap_rte (d : Dev) (f : TrgSt → TrgSt) : (d.trgMap f).rte = d.rte := rfl
@[simp] theorem Dev.trgMap_sap (d : Dev) (f : TrgSt → TrgSt) : (d.trgMap f).sap = d.sap := rfl
@[simp] theorem Dev.trgMap_sapg (d : Dev) (f : TrgSt → TrgSt) : (d.trgMap f).sapg = d.sapg := rfl
@[simp] theorem Dev.trgMap_tx (d : Dev) (f : TrgSt → TrgSt) : (d.trgMap f).tx = d.tx := rfl
@[simp] theorem Dev.trgMap_txe (d : Dev) (f : TrgSt → TrgSt) : (d.trgMap f).txe = d.txe := rfl
@[simp] theorem Dev.trgMap_rx (d : Dev) (f : TrgSt → TrgSt) : (d.trgMap f).rx = d.rx := rfl
@[simp] theorem Dev.trgMap_rxe (d : Dev) (f : TrgSt → TrgSt) : (d.trgMap f).rxe = d.rxe := rfl
@[simp] theorem Dev.trgMap_otpOk (d : Dev) (f : TrgSt → TrgSt) : (d.trgMap f).otpOk = d.otpOk := rfl
@[simp] theorem Dev.trgMap_rails (d : Dev) (f : TrgSt → TrgSt) : (d.trgMap f).rails = d.rails := rfl
@[simp] theorem Dev.trgMap_phyPads (d : Dev) (f : TrgSt → TrgSt) : (d.trgMap f).phyPads = d.phyPads := rfl
@[simp] theorem Dev.trgMap_freeCtr (d : Dev) (f : TrgSt → TrgSt) : (d.trgMap f).freeCtr = d.freeCtr := rfl

/-! ### Dev.txeMap -/

@[simp] theorem Dev.txeMap_regs (d : Dev) (f : TxeSt → TxeSt) : (d.txeMap f).regs = d.regs := rfl
@[simp] theorem Dev.txeMap_eff (d : Dev) (f : TxeSt → TxeSt) : (d.txeMap f).eff = d.eff := rfl
@[simp] theorem Dev.txeMap_parityBad (d : Dev) (f : TxeSt → TxeSt) : (d.txeMap f).parityBad = d.parityBad := rfl
@[simp] theorem Dev.txeMap_scrubAt (d : Dev) (f : TxeSt → TxeSt) : (d.txeMap f).scrubAt = d.scrubAt := rfl
@[simp] theorem Dev.txeMap_page (d : Dev) (f : TxeSt → TxeSt) : (d.txeMap f).page = d.page := rfl
@[simp] theorem Dev.txeMap_lines (d : Dev) (f : TxeSt → TxeSt) : (d.txeMap f).lines = d.lines := rfl
@[simp] theorem Dev.txeMap_owed (d : Dev) (f : TxeSt → TxeSt) : (d.txeMap f).owed = d.owed := rfl
@[simp] theorem Dev.txeMap_hwSet (d : Dev) (f : TxeSt → TxeSt) : (d.txeMap f).hwSet = d.hwSet := rfl
@[simp] theorem Dev.txeMap_posted (d : Dev) (f : TxeSt → TxeSt) : (d.txeMap f).posted = d.posted := rfl
@[simp] theorem Dev.txeMap_sealed (d : Dev) (f : TxeSt → TxeSt) : (d.txeMap f).sealed = d.sealed := rfl
@[simp] theorem Dev.txeMap_rshadow (d : Dev) (f : TxeSt → TxeSt) : (d.txeMap f).rshadow = d.rshadow := rfl
@[simp] theorem Dev.txeMap_wshadow (d : Dev) (f : TxeSt → TxeSt) : (d.txeMap f).wshadow = d.wshadow := rfl
@[simp] theorem Dev.txeMap_tshadow (d : Dev) (f : TxeSt → TxeSt) : (d.txeMap f).tshadow = d.tshadow := rfl
@[simp] theorem Dev.txeMap_perGal (d : Dev) (f : TxeSt → TxeSt) : (d.txeMap f).perGal = d.perGal := rfl
@[simp] theorem Dev.txeMap_gal (d : Dev) (f : TxeSt → TxeSt) : (d.txeMap f).gal = d.gal := rfl
@[simp] theorem Dev.txeMap_hif (d : Dev) (f : TxeSt → TxeSt) : (d.txeMap f).hif = d.hif := rfl
@[simp] theorem Dev.txeMap_evc (d : Dev) (f : TxeSt → TxeSt) : (d.txeMap f).evc = d.evc := rfl
@[simp] theorem Dev.txeMap_pwr (d : Dev) (f : TxeSt → TxeSt) : (d.txeMap f).pwr = d.pwr := rfl
@[simp] theorem Dev.txeMap_clk (d : Dev) (f : TxeSt → TxeSt) : (d.txeMap f).clk = d.clk := rfl
@[simp] theorem Dev.txeMap_tb (d : Dev) (f : TxeSt → TxeSt) : (d.txeMap f).tb = d.tb := rfl
@[simp] theorem Dev.txeMap_flt (d : Dev) (f : TxeSt → TxeSt) : (d.txeMap f).flt = d.flt := rfl
@[simp] theorem Dev.txeMap_lnd (d : Dev) (f : TxeSt → TxeSt) : (d.txeMap f).lnd = d.lnd := rfl
@[simp] theorem Dev.txeMap_mon (d : Dev) (f : TxeSt → TxeSt) : (d.txeMap f).mon = d.mon := rfl
@[simp] theorem Dev.txeMap_log (d : Dev) (f : TxeSt → TxeSt) : (d.txeMap f).log = d.log := rfl
@[simp] theorem Dev.txeMap_net (d : Dev) (f : TxeSt → TxeSt) : (d.txeMap f).net = d.net := rfl
@[simp] theorem Dev.txeMap_trg (d : Dev) (f : TxeSt → TxeSt) : (d.txeMap f).trg = d.trg := rfl
@[simp] theorem Dev.txeMap_ptp (d : Dev) (f : TxeSt → TxeSt) : (d.txeMap f).ptp = d.ptp := rfl
@[simp] theorem Dev.txeMap_srv (d : Dev) (f : TxeSt → TxeSt) : (d.txeMap f).srv = d.srv := rfl
@[simp] theorem Dev.txeMap_ref (d : Dev) (f : TxeSt → TxeSt) : (d.txeMap f).ref = d.ref := rfl
@[simp] theorem Dev.txeMap_mcs (d : Dev) (f : TxeSt → TxeSt) : (d.txeMap f).mcs = d.mcs := rfl
@[simp] theorem Dev.txeMap_fb (d : Dev) (f : TxeSt → TxeSt) : (d.txeMap f).fb = d.fb := rfl
@[simp] theorem Dev.txeMap_chan (d : Dev) (f : TxeSt → TxeSt) : (d.txeMap f).chan = d.chan := rfl
@[simp] theorem Dev.txeMap_rte (d : Dev) (f : TxeSt → TxeSt) : (d.txeMap f).rte = d.rte := rfl
@[simp] theorem Dev.txeMap_sap (d : Dev) (f : TxeSt → TxeSt) : (d.txeMap f).sap = d.sap := rfl
@[simp] theorem Dev.txeMap_sapg (d : Dev) (f : TxeSt → TxeSt) : (d.txeMap f).sapg = d.sapg := rfl
@[simp] theorem Dev.txeMap_tx (d : Dev) (f : TxeSt → TxeSt) : (d.txeMap f).tx = d.tx := rfl
@[simp] theorem Dev.txeMap_rx (d : Dev) (f : TxeSt → TxeSt) : (d.txeMap f).rx = d.rx := rfl
@[simp] theorem Dev.txeMap_rxe (d : Dev) (f : TxeSt → TxeSt) : (d.txeMap f).rxe = d.rxe := rfl
@[simp] theorem Dev.txeMap_otpOk (d : Dev) (f : TxeSt → TxeSt) : (d.txeMap f).otpOk = d.otpOk := rfl
@[simp] theorem Dev.txeMap_rails (d : Dev) (f : TxeSt → TxeSt) : (d.txeMap f).rails = d.rails := rfl
@[simp] theorem Dev.txeMap_phyPads (d : Dev) (f : TxeSt → TxeSt) : (d.txeMap f).phyPads = d.phyPads := rfl
@[simp] theorem Dev.txeMap_freeCtr (d : Dev) (f : TxeSt → TxeSt) : (d.txeMap f).freeCtr = d.freeCtr := rfl

end Sys2Proof.Machine
end

