-- ==== Sys2Proof/Laws/Access.lean ====
section
/-! SUPPORT. The path of a register access: what a write that passes R37 does, as one equation for every command that is one. -/

namespace Sys2Proof.Machine

theorem ofPage_page : ∀ b ∈ Blk.all, Blk.ofPage b.page = some b := by decide
theorem page_lt : ∀ b ∈ Blk.all, b.page < 0x80 := by decide

/-- The place of a register's address is that register. -/
theorem place_addr (b : Blk) (o : Nat) (hb : b ∈ Blk.all) (ho : o < 0x1000) : place (b.addr o) = .reg b o := by
  have h1 := ofPage_page b hb
  have h2 := page_lt b hb
  unfold place Blk.addr
  have h3 : b.page * 0x1000 + o < 0x80000 := by omega
  have h4 : (b.page * 0x1000 + o) / 0x1000 = b.page := by omega
  have h5 : (b.page * 0x1000 + o) % 0x1000 = o := by omega
  simp only [h3, if_true, h4, h5, h1]

theorem reaches_core {s : State} {g : Gal} (h : reaches s g = true) : s.root.coreOn = true := by
  simp only [reaches, Bool.and_eq_true] at h; exact h.1

theorem reaches_host {s : State} {g : Gal} (h : reaches s g = true) : hostOn s.dev g = true := by
  simp only [reaches, Bool.and_eq_true] at h; exact h.2

theorem header_readOnly : ∀ o < 0x40, (headerRegs.find? (·.has o)).all (fun x => !readOnly x.ty || !([0x00C, 0x014, 0x018, 0x01C] : List Nat).contains o) = true := by
  decide

/-- A write of a read-only register has no effect. -/
theorem regWrite_readOnly (r : Root) (m : List Host.Cell) (g : Nat) (b : Blk) (o : Nat) (x : Reg) (w : Word) (d : Dev) (hx : b.reg o = some x)
    (h : readOnly x.ty = true) : regWrite r m g b o x w d = eff d := by
  unfold regWrite
  split
  · rename_i ho
    have k := header_readOnly o ho
    simp only [Blk.reg, ho, if_true] at hx
    simp only [hx, Option.all_some, h] at k
    unfold headerWrite
    split <;> simp_all
  · revert h; cases x.ty <;> simp [readOnly]

/-- A write that passes every check of R37 does what its register's type says. -/
theorem onReg_can (s : State) (g : Gal) (b : Blk) (o : Nat) (w : Word) (x : Reg) (hb : b ∈ Blk.all) (ho : o < 0x1000)
    (hx : b.reg o = some x) (h : canWrite s g b o w = true) :
    onReg g b o w s = .next { s with dev := (regWrite s.root s.mem g b o x w s.dev).1,
                                     mem := memWrites s.mem (regWrite s.root s.mem g b o x w s.dev).2 } := by
  simp only [canWrite, hx, Bool.and_eq_true, Bool.not_eq_true', beq_iff_eq] at h
  obtain ⟨⟨hr, hk⟩, hl, hp⟩ := h
  have e : writeWord s.root s.mem g (b.addr o) w false s.dev = (true, regWrite s.root s.mem g b o x w s.dev) := by
    by_cases hq : (readOnly x.ty && steward s.root s.dev b == g) = true
    · have hi := regWrite_readOnly s.root s.mem g b o x w s.dev hx (by simp only [Bool.and_eq_true] at hq; exact hq.1)
      simp [writeWord, place_addr b o hb ho, hx, writeRight, hq, hi]
    · simp [writeWord, place_addr b o hb ho, hx, writeRight, hq, hk, hl, hp]
  simp only [onReg, onWrite]
  rw [onMem_on (reaches_core hr)]
  simp [reaches_host hr, e]

/-- A register read of `n` bytes by a gallery that reaches the device. -/
theorem onRead_can (s : State) (g : Gal) (a n : Nat) (h : reaches s g = true) (hn : 0 < n) :
    onRead g a n s = .next { s with dev :=
      (let p := readWords s.root g (a / 4 * 4) ((a + n - 1) / 4 - a / 4 + 1) s.dev
       p.2.hifMap fun y => { y with readData := wput y.readData g (p.1.headD 0),
                                    readBytes := lput y.readBytes g (((p.1.flatMap wordBytes).drop (a % 4)).take n) }) } := by
  simp only [onRead]
  rw [onDev_on (reaches_core h)]
  simp [reaches_host h, hn]

/-- A read of one aligned word is one access. -/
theorem readWords_one (r : Root) (g a : Nat) (d : Dev) : readWords r g a 1 d = ([(readWord r g a d).1], (readWord r g a d).2) := rfl

/-- The place of a table word's address is that word. -/
theorem place_table (t : Tbl) (e : Nat) (he : e < t.entries) : place (t.addr e 0) = .table t e 0 := by
  have hb : 0x80000 ≤ t.base := by cases t <;> decide
  have hf : (Tbl.all.find? fun u => u.base ≤ t.addr e 0 && t.addr e 0 < u.base + u.size * u.entries) = some t := by
    cases t <;> simp [Tbl.all, Tbl.addr, Tbl.base, Tbl.size, Tbl.entries, Tbl.geom] at he ⊢ <;> omega
  have hs : 0 < t.size := by cases t <;> decide
  have h3 : ¬ t.addr e 0 < 0x80000 := by simp only [Tbl.addr]; omega
  have h4 : (t.addr e 0 - t.base) = e * t.size := by simp only [Tbl.addr]; omega
  unfold place
  simp only [h3, if_false, hf, h4]
  rw [Nat.mul_div_cancel _ hs, Nat.mul_mod_left]

/-- A commit of word 0 of a table entry that passes every check. -/
theorem onEntry_can (s : State) (g : Gal) (t : Tbl) (e : Nat) (w : Word) (he : e < t.entries) (hs : statusWord t 0 = false)
    (h : canCommit s g t e w = true) :
    onEntry g t e w s = .next { s with dev := entryCommit s.root g t e w s.dev } := by
  simp only [canCommit, Bool.and_eq_true, beq_iff_eq] at h
  obtain ⟨⟨hr, hk⟩, hc⟩ := h
  have e1 : writeWord s.root s.mem g (t.addr e 0) w false s.dev = (true, eff (entryCommit s.root g t e w s.dev)) := by
    simp [writeWord, place_table t e he, hk, hc, hs]
  simp only [onEntry, onWrite]
  rw [onMem_on (reaches_core hr)]
  simp [reaches_host hr, e1, eff]

end Sys2Proof.Machine
end

