-- ==== Sys2Proof/Laws/Footprint.lean ====
section
/-! SUPPORT. The footprint of each shared operation: the fields of the device it can change, and, for the most used, each field it does not. -/

namespace Sys2Proof.Machine

theorem foldl_inv {α β : Type} (P : β → Prop) (f : β → α → β) (l : List α) (b : β) (h0 : P b) (h : ∀ x a, P x → P (f x a)) : P (l.foldl f b) := by
  induction l generalizing b with
  | nil => exact h0
  | cons a t ih => exact ih (f b a) (h b a h0)

/-- `raise` changes evc alone. -/
theorem raise_eq (r : Root) (n : Nat) (d : Dev) : raise r n d = { d with evc := (raise r n d).evc } := by
  unfold raise; dsimp only; split <;> rfl

@[simp] theorem raise_regs (r : Root) (n : Nat) (d : Dev) : (raise r n d).regs = d.regs := by rw [raise_eq]
@[simp] theorem raise_eff (r : Root) (n : Nat) (d : Dev) : (raise r n d).eff = d.eff := by rw [raise_eq]
@[simp] theorem raise_parityBad (r : Root) (n : Nat) (d : Dev) : (raise r n d).parityBad = d.parityBad := by rw [raise_eq]
@[simp] theorem raise_scrubAt (r : Root) (n : Nat) (d : Dev) : (raise r n d).scrubAt = d.scrubAt := by rw [raise_eq]
@[simp] theorem raise_page (r : Root) (n : Nat) (d : Dev) : (raise r n d).page = d.page := by rw [raise_eq]
@[simp] theorem raise_lines (r : Root) (n : Nat) (d : Dev) : (raise r n d).lines = d.lines := by rw [raise_eq]
@[simp] theorem raise_owed (r : Root) (n : Nat) (d : Dev) : (raise r n d).owed = d.owed := by rw [raise_eq]
@[simp] theorem raise_hwSet (r : Root) (n : Nat) (d : Dev) : (raise r n d).hwSet = d.hwSet := by rw [raise_eq]
@[simp] theorem raise_posted (r : Root) (n : Nat) (d : Dev) : (raise r n d).posted = d.posted := by rw [raise_eq]
@[simp] theorem raise_sealed (r : Root) (n : Nat) (d : Dev) : (raise r n d).sealed = d.sealed := by rw [raise_eq]
@[simp] theorem raise_rshadow (r : Root) (n : Nat) (d : Dev) : (raise r n d).rshadow = d.rshadow := by rw [raise_eq]
@[simp] theorem raise_wshadow (r : Root) (n : Nat) (d : Dev) : (raise r n d).wshadow = d.wshadow := by rw [raise_eq]
@[simp] theorem raise_tshadow (r : Root) (n : Nat) (d : Dev) : (raise r n d).tshadow = d.tshadow := by rw [raise_eq]
@[simp] theorem raise_perGal (r : Root) (n : Nat) (d : Dev) : (raise r n d).perGal = d.perGal := by rw [raise_eq]
@[simp] theorem raise_gal (r : Root) (n : Nat) (d : Dev) : (raise r n d).gal = d.gal := by rw [raise_eq]
@[simp] theorem raise_hif (r : Root) (n : Nat) (d : Dev) : (raise r n d).hif = d.hif := by rw [raise_eq]
@[simp] theorem raise_pwr (r : Root) (n : Nat) (d : Dev) : (raise r n d).pwr = d.pwr := by rw [raise_eq]
@[simp] theorem raise_clk (r : Root) (n : Nat) (d : Dev) : (raise r n d).clk = d.clk := by rw [raise_eq]
@[simp] theorem raise_tb (r : Root) (n : Nat) (d : Dev) : (raise r n d).tb = d.tb := by rw [raise_eq]
@[simp] theorem raise_flt (r : Root) (n : Nat) (d : Dev) : (raise r n d).flt = d.flt := by rw [raise_eq]
@[simp] theorem raise_lnd (r : Root) (n : Nat) (d : Dev) : (raise r n d).lnd = d.lnd := by rw [raise_eq]
@[simp] theorem raise_mon (r : Root) (n : Nat) (d : Dev) : (raise r n d).mon = d.mon := by rw [raise_eq]
@[simp] theorem raise_log (r : Root) (n : Nat) (d : Dev) : (raise r n d).log = d.log := by rw [raise_eq]
@[simp] theorem raise_net (r : Root) (n : Nat) (d : Dev) : (raise r n d).net = d.net := by rw [raise_eq]
@[simp] theorem raise_trg (r : Root) (n : Nat) (d : Dev) : (raise r n d).trg = d.trg := by rw [raise_eq]
@[simp] theorem raise_ptp (r : Root) (n : Nat) (d : Dev) : (raise r n d).ptp = d.ptp := by rw [raise_eq]
@[simp] theorem raise_srv (r : Root) (n : Nat) (d : Dev) : (raise r n d).srv = d.srv := by rw [raise_eq]
@[simp] theorem raise_ref (r : Root) (n : Nat) (d : Dev) : (raise r n d).ref = d.ref := by rw [raise_eq]
@[simp] theorem raise_mcs (r : Root) (n : Nat) (d : Dev) : (raise r n d).mcs = d.mcs := by rw [raise_eq]
@[simp] theorem raise_fb (r : Root) (n : Nat) (d : Dev) : (raise r n d).fb = d.fb := by rw [raise_eq]
@[simp] theorem raise_chan (r : Root) (n : Nat) (d : Dev) : (raise r n d).chan = d.chan := by rw [raise_eq]
@[simp] theorem raise_rte (r : Root) (n : Nat) (d : Dev) : (raise r n d).rte = d.rte := by rw [raise_eq]
@[simp] theorem raise_sap (r : Root) (n : Nat) (d : Dev) : (raise r n d).sap = d.sap := by rw [raise_eq]
@[simp] theorem raise_sapg (r : Root) (n : Nat) (d : Dev) : (raise r n d).sapg = d.sapg := by rw [raise_eq]
@[simp] theorem raise_tx (r : Root) (n : Nat) (d : Dev) : (raise r n d).tx = d.tx := by rw [raise_eq]
@[simp] theorem raise_txe (r : Root) (n : Nat) (d : Dev) : (raise r n d).txe = d.txe := by rw [raise_eq]
@[simp] theorem raise_rx (r : Root) (n : Nat) (d : Dev) : (raise r n d).rx = d.rx := by rw [raise_eq]
@[simp] theorem raise_rxe (r : Root) (n : Nat) (d : Dev) : (raise r n d).rxe = d.rxe := by rw [raise_eq]
@[simp] theorem raise_otpOk (r : Root) (n : Nat) (d : Dev) : (raise r n d).otpOk = d.otpOk := by rw [raise_eq]
@[simp] theorem raise_rails (r : Root) (n : Nat) (d : Dev) : (raise r n d).rails = d.rails := by rw [raise_eq]
@[simp] theorem raise_phyPads (r : Root) (n : Nat) (d : Dev) : (raise r n d).phyPads = d.phyPads := by rw [raise_eq]
@[simp] theorem raise_freeCtr (r : Root) (n : Nat) (d : Dev) : (raise r n d).freeCtr = d.freeCtr := by rw [raise_eq]

/-- `raiseIf` changes evc alone. -/
theorem raiseIf_eq (c : Bool) (r : Root) (n : Nat) (d : Dev) : raiseIf c r n d = { d with evc := (raiseIf c r n d).evc } := by
  unfold raiseIf; split
  · exact raise_eq r n d
  · rfl

@[simp] theorem raiseIf_regs (c : Bool) (r : Root) (n : Nat) (d : Dev) : (raiseIf c r n d).regs = d.regs := by rw [raiseIf_eq]
@[simp] theorem raiseIf_eff (c : Bool) (r : Root) (n : Nat) (d : Dev) : (raiseIf c r n d).eff = d.eff := by rw [raiseIf_eq]
@[simp] theorem raiseIf_parityBad (c : Bool) (r : Root) (n : Nat) (d : Dev) : (raiseIf c r n d).parityBad = d.parityBad := by rw [raiseIf_eq]
@[simp] theorem raiseIf_scrubAt (c : Bool) (r : Root) (n : Nat) (d : Dev) : (raiseIf c r n d).scrubAt = d.scrubAt := by rw [raiseIf_eq]
@[simp] theorem raiseIf_page (c : Bool) (r : Root) (n : Nat) (d : Dev) : (raiseIf c r n d).page = d.page := by rw [raiseIf_eq]
@[simp] theorem raiseIf_lines (c : Bool) (r : Root) (n : Nat) (d : Dev) : (raiseIf c r n d).lines = d.lines := by rw [raiseIf_eq]
@[simp] theorem raiseIf_owed (c : Bool) (r : Root) (n : Nat) (d : Dev) : (raiseIf c r n d).owed = d.owed := by rw [raiseIf_eq]
@[simp] theorem raiseIf_hwSet (c : Bool) (r : Root) (n : Nat) (d : Dev) : (raiseIf c r n d).hwSet = d.hwSet := by rw [raiseIf_eq]
@[simp] theorem raiseIf_posted (c : Bool) (r : Root) (n : Nat) (d : Dev) : (raiseIf c r n d).posted = d.posted := by rw [raiseIf_eq]
@[simp] theorem raiseIf_sealed (c : Bool) (r : Root) (n : Nat) (d : Dev) : (raiseIf c r n d).sealed = d.sealed := by rw [raiseIf_eq]
@[simp] theorem raiseIf_rshadow (c : Bool) (r : Root) (n : Nat) (d : Dev) : (raiseIf c r n d).rshadow = d.rshadow := by rw [raiseIf_eq]
@[simp] theorem raiseIf_wshadow (c : Bool) (r : Root) (n : Nat) (d : Dev) : (raiseIf c r n d).wshadow = d.wshadow := by rw [raiseIf_eq]
@[simp] theorem raiseIf_tshadow (c : Bool) (r : Root) (n : Nat) (d : Dev) : (raiseIf c r n d).tshadow = d.tshadow := by rw [raiseIf_eq]
@[simp] theorem raiseIf_perGal (c : Bool) (r : Root) (n : Nat) (d : Dev) : (raiseIf c r n d).perGal = d.perGal := by rw [raiseIf_eq]
@[simp] theorem raiseIf_gal (c : Bool) (r : Root) (n : Nat) (d : Dev) : (raiseIf c r n d).gal = d.gal := by rw [raiseIf_eq]
@[simp] theorem raiseIf_hif (c : Bool) (r : Root) (n : Nat) (d : Dev) : (raiseIf c r n d).hif = d.hif := by rw [raiseIf_eq]
@[simp] theorem raiseIf_pwr (c : Bool) (r : Root) (n : Nat) (d : Dev) : (raiseIf c r n d).pwr = d.pwr := by rw [raiseIf_eq]
@[simp] theorem raiseIf_clk (c : Bool) (r : Root) (n : Nat) (d : Dev) : (raiseIf c r n d).clk = d.clk := by rw [raiseIf_eq]
@[simp] theorem raiseIf_tb (c : Bool) (r : Root) (n : Nat) (d : Dev) : (raiseIf c r n d).tb = d.tb := by rw [raiseIf_eq]
@[simp] theorem raiseIf_flt (c : Bool) (r : Root) (n : Nat) (d : Dev) : (raiseIf c r n d).flt = d.flt := by rw [raiseIf_eq]
@[simp] theorem raiseIf_lnd (c : Bool) (r : Root) (n : Nat) (d : Dev) : (raiseIf c r n d).lnd = d.lnd := by rw [raiseIf_eq]
@[simp] theorem raiseIf_mon (c : Bool) (r : Root) (n : Nat) (d : Dev) : (raiseIf c r n d).mon = d.mon := by rw [raiseIf_eq]
@[simp] theorem raiseIf_log (c : Bool) (r : Root) (n : Nat) (d : Dev) : (raiseIf c r n d).log = d.log := by rw [raiseIf_eq]
@[simp] theorem raiseIf_net (c : Bool) (r : Root) (n : Nat) (d : Dev) : (raiseIf c r n d).net = d.net := by rw [raiseIf_eq]
@[simp] theorem raiseIf_trg (c : Bool) (r : Root) (n : Nat) (d : Dev) : (raiseIf c r n d).trg = d.trg := by rw [raiseIf_eq]
@[simp] theorem raiseIf_ptp (c : Bool) (r : Root) (n : Nat) (d : Dev) : (raiseIf c r n d).ptp = d.ptp := by rw [raiseIf_eq]
@[simp] theorem raiseIf_srv (c : Bool) (r : Root) (n : Nat) (d : Dev) : (raiseIf c r n d).srv = d.srv := by rw [raiseIf_eq]
@[simp] theorem raiseIf_ref (c : Bool) (r : Root) (n : Nat) (d : Dev) : (raiseIf c r n d).ref = d.ref := by rw [raiseIf_eq]
@[simp] theorem raiseIf_mcs (c : Bool) (r : Root) (n : Nat) (d : Dev) : (raiseIf c r n d).mcs = d.mcs := by rw [raiseIf_eq]
@[simp] theorem raiseIf_fb (c : Bool) (r : Root) (n : Nat) (d : Dev) : (raiseIf c r n d).fb = d.fb := by rw [raiseIf_eq]
@[simp] theorem raiseIf_chan (c : Bool) (r : Root) (n : Nat) (d : Dev) : (raiseIf c r n d).chan = d.chan := by rw [raiseIf_eq]
@[simp] theorem raiseIf_rte (c : Bool) (r : Root) (n : Nat) (d : Dev) : (raiseIf c r n d).rte = d.rte := by rw [raiseIf_eq]
@[simp] theorem raiseIf_sap (c : Bool) (r : Root) (n : Nat) (d : Dev) : (raiseIf c r n d).sap = d.sap := by rw [raiseIf_eq]
@[simp] theorem raiseIf_sapg (c : Bool) (r : Root) (n : Nat) (d : Dev) : (raiseIf c r n d).sapg = d.sapg := by rw [raiseIf_eq]
@[simp] theorem raiseIf_tx (c : Bool) (r : Root) (n : Nat) (d : Dev) : (raiseIf c r n d).tx = d.tx := by rw [raiseIf_eq]
@[simp] theorem raiseIf_txe (c : Bool) (r : Root) (n : Nat) (d : Dev) : (raiseIf c r n d).txe = d.txe := by rw [raiseIf_eq]
@[simp] theorem raiseIf_rx (c : Bool) (r : Root) (n : Nat) (d : Dev) : (raiseIf c r n d).rx = d.rx := by rw [raiseIf_eq]
@[simp] theorem raiseIf_rxe (c : Bool) (r : Root) (n : Nat) (d : Dev) : (raiseIf c r n d).rxe = d.rxe := by rw [raiseIf_eq]
@[simp] theorem raiseIf_otpOk (c : Bool) (r : Root) (n : Nat) (d : Dev) : (raiseIf c r n d).otpOk = d.otpOk := by rw [raiseIf_eq]
@[simp] theorem raiseIf_rails (c : Bool) (r : Root) (n : Nat) (d : Dev) : (raiseIf c r n d).rails = d.rails := by rw [raiseIf_eq]
@[simp] theorem raiseIf_phyPads (c : Bool) (r : Root) (n : Nat) (d : Dev) : (raiseIf c r n d).phyPads = d.phyPads := by rw [raiseIf_eq]
@[simp] theorem raiseIf_freeCtr (c : Bool) (r : Root) (n : Nat) (d : Dev) : (raiseIf c r n d).freeCtr = d.freeCtr := by rw [raiseIf_eq]

/-- `lineMove` changes lines alone. -/
theorem lineMove_eq (r : Root) (k : Nat) (was is : Bool) (d : Dev) : lineMove r k was is d = { d with lines := (lineMove r k was is d).lines } := by
  unfold lineMove; dsimp only; split <;> rfl

/-- `linesMove` changes lines alone. -/
theorem linesMove_eq (r : Root) (o d : Dev) : linesMove r o d = { d with lines := (linesMove r o d).lines } := by
  unfold linesMove
  refine foldl_inv (fun x => x = { d with lines := x.lines }) _ _ d rfl ?_
  intro x a h
  try dsimp only
  rw [lineMove_eq r _ _ _ x, h]

/-- `fault` changes page and lines alone. -/
theorem fault_eq (r : Root) (b : Blk) (k : FaultKind) (g a : Nat) (d : Dev) : fault r b k g a d = { d with page := (fault r b k g a d).page, lines := (fault r b k g a d).lines } := by
  unfold fault; dsimp only; rw [linesMove_eq]; rfl

@[simp] theorem fault_regs (r : Root) (b : Blk) (k : FaultKind) (g a : Nat) (d : Dev) : (fault r b k g a d).regs = d.regs := by rw [fault_eq]
@[simp] theorem fault_eff (r : Root) (b : Blk) (k : FaultKind) (g a : Nat) (d : Dev) : (fault r b k g a d).eff = d.eff := by rw [fault_eq]
@[simp] theorem fault_parityBad (r : Root) (b : Blk) (k : FaultKind) (g a : Nat) (d : Dev) : (fault r b k g a d).parityBad = d.parityBad := by rw [fault_eq]
@[simp] theorem fault_scrubAt (r : Root) (b : Blk) (k : FaultKind) (g a : Nat) (d : Dev) : (fault r b k g a d).scrubAt = d.scrubAt := by rw [fault_eq]
@[simp] theorem fault_owed (r : Root) (b : Blk) (k : FaultKind) (g a : Nat) (d : Dev) : (fault r b k g a d).owed = d.owed := by rw [fault_eq]
@[simp] theorem fault_hwSet (r : Root) (b : Blk) (k : FaultKind) (g a : Nat) (d : Dev) : (fault r b k g a d).hwSet = d.hwSet := by rw [fault_eq]
@[simp] theorem fault_posted (r : Root) (b : Blk) (k : FaultKind) (g a : Nat) (d : Dev) : (fault r b k g a d).posted = d.posted := by rw [fault_eq]
@[simp] theorem fault_sealed (r : Root) (b : Blk) (k : FaultKind) (g a : Nat) (d : Dev) : (fault r b k g a d).sealed = d.sealed := by rw [fault_eq]
@[simp] theorem fault_rshadow (r : Root) (b : Blk) (k : FaultKind) (g a : Nat) (d : Dev) : (fault r b k g a d).rshadow = d.rshadow := by rw [fault_eq]
@[simp] theorem fault_wshadow (r : Root) (b : Blk) (k : FaultKind) (g a : Nat) (d : Dev) : (fault r b k g a d).wshadow = d.wshadow := by rw [fault_eq]
@[simp] theorem fault_tshadow (r : Root) (b : Blk) (k : FaultKind) (g a : Nat) (d : Dev) : (fault r b k g a d).tshadow = d.tshadow := by rw [fault_eq]
@[simp] theorem fault_perGal (r : Root) (b : Blk) (k : FaultKind) (g a : Nat) (d : Dev) : (fault r b k g a d).perGal = d.perGal := by rw [fault_eq]
@[simp] theorem fault_gal (r : Root) (b : Blk) (k : FaultKind) (g a : Nat) (d : Dev) : (fault r b k g a d).gal = d.gal := by rw [fault_eq]
@[simp] theorem fault_hif (r : Root) (b : Blk) (k : FaultKind) (g a : Nat) (d : Dev) : (fault r b k g a d).hif = d.hif := by rw [fault_eq]
@[simp] theorem fault_evc (r : Root) (b : Blk) (k : FaultKind) (g a : Nat) (d : Dev) : (fault r b k g a d).evc = d.evc := by rw [fault_eq]
@[simp] theorem fault_pwr (r : Root) (b : Blk) (k : FaultKind) (g a : Nat) (d : Dev) : (fault r b k g a d).pwr = d.pwr := by rw [fault_eq]
@[simp] theorem fault_clk (r : Root) (b : Blk) (k : FaultKind) (g a : Nat) (d : Dev) : (fault r b k g a d).clk = d.clk := by rw [fault_eq]
@[simp] theorem fault_tb (r : Root) (b : Blk) (k : FaultKind) (g a : Nat) (d : Dev) : (fault r b k g a d).tb = d.tb := by rw [fault_eq]
@[simp] theorem fault_flt (r : Root) (b : Blk) (k : FaultKind) (g a : Nat) (d : Dev) : (fault r b k g a d).flt = d.flt := by rw [fault_eq]
@[simp] theorem fault_lnd (r : Root) (b : Blk) (k : FaultKind) (g a : Nat) (d : Dev) : (fault r b k g a d).lnd = d.lnd := by rw [fault_eq]
@[simp] theorem fault_mon (r : Root) (b : Blk) (k : FaultKind) (g a : Nat) (d : Dev) : (fault r b k g a d).mon = d.mon := by rw [fault_eq]
@[simp] theorem fault_log (r : Root) (b : Blk) (k : FaultKind) (g a : Nat) (d : Dev) : (fault r b k g a d).log = d.log := by rw [fault_eq]
@[simp] theorem fault_net (r : Root) (b : Blk) (k : FaultKind) (g a : Nat) (d : Dev) : (fault r b k g a d).net = d.net := by rw [fault_eq]
@[simp] theorem fault_trg (r : Root) (b : Blk) (k : FaultKind) (g a : Nat) (d : Dev) : (fault r b k g a d).trg = d.trg := by rw [fault_eq]
@[simp] theorem fault_ptp (r : Root) (b : Blk) (k : FaultKind) (g a : Nat) (d : Dev) : (fault r b k g a d).ptp = d.ptp := by rw [fault_eq]
@[simp] theorem fault_srv (r : Root) (b : Blk) (k : FaultKind) (g a : Nat) (d : Dev) : (fault r b k g a d).srv = d.srv := by rw [fault_eq]
@[simp] theorem fault_ref (r : Root) (b : Blk) (k : FaultKind) (g a : Nat) (d : Dev) : (fault r b k g a d).ref = d.ref := by rw [fault_eq]
@[simp] theorem fault_mcs (r : Root) (b : Blk) (k : FaultKind) (g a : Nat) (d : Dev) : (fault r b k g a d).mcs = d.mcs := by rw [fault_eq]
@[simp] theorem fault_fb (r : Root) (b : Blk) (k : FaultKind) (g a : Nat) (d : Dev) : (fault r b k g a d).fb = d.fb := by rw [fault_eq]
@[simp] theorem fault_chan (r : Root) (b : Blk) (k : FaultKind) (g a : Nat) (d : Dev) : (fault r b k g a d).chan = d.chan := by rw [fault_eq]
@[simp] theorem fault_rte (r : Root) (b : Blk) (k : FaultKind) (g a : Nat) (d : Dev) : (fault r b k g a d).rte = d.rte := by rw [fault_eq]
@[simp] theorem fault_sap (r : Root) (b : Blk) (k : FaultKind) (g a : Nat) (d : Dev) : (fault r b k g a d).sap = d.sap := by rw [fault_eq]
@[simp] theorem fault_sapg (r : Root) (b : Blk) (k : FaultKind) (g a : Nat) (d : Dev) : (fault r b k g a d).sapg = d.sapg := by rw [fault_eq]
@[simp] theorem fault_tx (r : Root) (b : Blk) (k : FaultKind) (g a : Nat) (d : Dev) : (fault r b k g a d).tx = d.tx := by rw [fault_eq]
@[simp] theorem fault_txe (r : Root) (b : Blk) (k : FaultKind) (g a : Nat) (d : Dev) : (fault r b k g a d).txe = d.txe := by rw [fault_eq]
@[simp] theorem fault_rx (r : Root) (b : Blk) (k : FaultKind) (g a : Nat) (d : Dev) : (fault r b k g a d).rx = d.rx := by rw [fault_eq]
@[simp] theorem fault_rxe (r : Root) (b : Blk) (k : FaultKind) (g a : Nat) (d : Dev) : (fault r b k g a d).rxe = d.rxe := by rw [fault_eq]
@[simp] theorem fault_otpOk (r : Root) (b : Blk) (k : FaultKind) (g a : Nat) (d : Dev) : (fault r b k g a d).otpOk = d.otpOk := by rw [fault_eq]
@[simp] theorem fault_rails (r : Root) (b : Blk) (k : FaultKind) (g a : Nat) (d : Dev) : (fault r b k g a d).rails = d.rails := by rw [fault_eq]
@[simp] theorem fault_phyPads (r : Root) (b : Blk) (k : FaultKind) (g a : Nat) (d : Dev) : (fault r b k g a d).phyPads = d.phyPads := by rw [fault_eq]
@[simp] theorem fault_freeCtr (r : Root) (b : Blk) (k : FaultKind) (g a : Nat) (d : Dev) : (fault r b k g a d).freeCtr = d.freeCtr := by rw [fault_eq]

/-- `parityFault` changes page and lines alone. -/
theorem parityFault_eq (r : Root) (a : Nat) (d : Dev) : parityFault r a d = { d with page := (parityFault r a d).page, lines := (parityFault r a d).lines } := by
  exact fault_eq r _ _ 7 a d

/-- `useWords` changes page and lines alone. -/
theorem useWords_eq (r : Root) (p : Nat → Bool) (d : Dev) : useWords r p d = { d with page := (useWords r p d).page, lines := (useWords r p d).lines } := by
  unfold useWords
  refine foldl_inv (fun x => x = { d with page := x.page, lines := x.lines }) _ _ d rfl ?_
  intro x a h
  try dsimp only
  rw [parityFault_eq r a x, h]

@[simp] theorem useWords_regs (r : Root) (p : Nat → Bool) (d : Dev) : (useWords r p d).regs = d.regs := by rw [useWords_eq]
@[simp] theorem useWords_eff (r : Root) (p : Nat → Bool) (d : Dev) : (useWords r p d).eff = d.eff := by rw [useWords_eq]
@[simp] theorem useWords_parityBad (r : Root) (p : Nat → Bool) (d : Dev) : (useWords r p d).parityBad = d.parityBad := by rw [useWords_eq]
@[simp] theorem useWords_scrubAt (r : Root) (p : Nat → Bool) (d : Dev) : (useWords r p d).scrubAt = d.scrubAt := by rw [useWords_eq]
@[simp] theorem useWords_owed (r : Root) (p : Nat → Bool) (d : Dev) : (useWords r p d).owed = d.owed := by rw [useWords_eq]
@[simp] theorem useWords_hwSet (r : Root) (p : Nat → Bool) (d : Dev) : (useWords r p d).hwSet = d.hwSet := by rw [useWords_eq]
@[simp] theorem useWords_posted (r : Root) (p : Nat → Bool) (d : Dev) : (useWords r p d).posted = d.posted := by rw [useWords_eq]
@[simp] theorem useWords_sealed (r : Root) (p : Nat → Bool) (d : Dev) : (useWords r p d).sealed = d.sealed := by rw [useWords_eq]
@[simp] theorem useWords_rshadow (r : Root) (p : Nat → Bool) (d : Dev) : (useWords r p d).rshadow = d.rshadow := by rw [useWords_eq]
@[simp] theorem useWords_wshadow (r : Root) (p : Nat → Bool) (d : Dev) : (useWords r p d).wshadow = d.wshadow := by rw [useWords_eq]
@[simp] theorem useWords_tshadow (r : Root) (p : Nat → Bool) (d : Dev) : (useWords r p d).tshadow = d.tshadow := by rw [useWords_eq]
@[simp] theorem useWords_perGal (r : Root) (p : Nat → Bool) (d : Dev) : (useWords r p d).perGal = d.perGal := by rw [useWords_eq]
@[simp] theorem useWords_gal (r : Root) (p : Nat → Bool) (d : Dev) : (useWords r p d).gal = d.gal := by rw [useWords_eq]
@[simp] theorem useWords_hif (r : Root) (p : Nat → Bool) (d : Dev) : (useWords r p d).hif = d.hif := by rw [useWords_eq]
@[simp] theorem useWords_evc (r : Root) (p : Nat → Bool) (d : Dev) : (useWords r p d).evc = d.evc := by rw [useWords_eq]
@[simp] theorem useWords_pwr (r : Root) (p : Nat → Bool) (d : Dev) : (useWords r p d).pwr = d.pwr := by rw [useWords_eq]
@[simp] theorem useWords_clk (r : Root) (p : Nat → Bool) (d : Dev) : (useWords r p d).clk = d.clk := by rw [useWords_eq]
@[simp] theorem useWords_tb (r : Root) (p : Nat → Bool) (d : Dev) : (useWords r p d).tb = d.tb := by rw [useWords_eq]
@[simp] theorem useWords_flt (r : Root) (p : Nat → Bool) (d : Dev) : (useWords r p d).flt = d.flt := by rw [useWords_eq]
@[simp] theorem useWords_lnd (r : Root) (p : Nat → Bool) (d : Dev) : (useWords r p d).lnd = d.lnd := by rw [useWords_eq]
@[simp] theorem useWords_mon (r : Root) (p : Nat → Bool) (d : Dev) : (useWords r p d).mon = d.mon := by rw [useWords_eq]
@[simp] theorem useWords_log (r : Root) (p : Nat → Bool) (d : Dev) : (useWords r p d).log = d.log := by rw [useWords_eq]
@[simp] theorem useWords_net (r : Root) (p : Nat → Bool) (d : Dev) : (useWords r p d).net = d.net := by rw [useWords_eq]
@[simp] theorem useWords_trg (r : Root) (p : Nat → Bool) (d : Dev) : (useWords r p d).trg = d.trg := by rw [useWords_eq]
@[simp] theorem useWords_ptp (r : Root) (p : Nat → Bool) (d : Dev) : (useWords r p d).ptp = d.ptp := by rw [useWords_eq]
@[simp] theorem useWords_srv (r : Root) (p : Nat → Bool) (d : Dev) : (useWords r p d).srv = d.srv := by rw [useWords_eq]
@[simp] theorem useWords_ref (r : Root) (p : Nat → Bool) (d : Dev) : (useWords r p d).ref = d.ref := by rw [useWords_eq]
@[simp] theorem useWords_mcs (r : Root) (p : Nat → Bool) (d : Dev) : (useWords r p d).mcs = d.mcs := by rw [useWords_eq]
@[simp] theorem useWords_fb (r : Root) (p : Nat → Bool) (d : Dev) : (useWords r p d).fb = d.fb := by rw [useWords_eq]
@[simp] theorem useWords_chan (r : Root) (p : Nat → Bool) (d : Dev) : (useWords r p d).chan = d.chan := by rw [useWords_eq]
@[simp] theorem useWords_rte (r : Root) (p : Nat → Bool) (d : Dev) : (useWords r p d).rte = d.rte := by rw [useWords_eq]
@[simp] theorem useWords_sap (r : Root) (p : Nat → Bool) (d : Dev) : (useWords r p d).sap = d.sap := by rw [useWords_eq]
@[simp] theorem useWords_sapg (r : Root) (p : Nat → Bool) (d : Dev) : (useWords r p d).sapg = d.sapg := by rw [useWords_eq]
@[simp] theorem useWords_tx (r : Root) (p : Nat → Bool) (d : Dev) : (useWords r p d).tx = d.tx := by rw [useWords_eq]
@[simp] theorem useWords_txe (r : Root) (p : Nat → Bool) (d : Dev) : (useWords r p d).txe = d.txe := by rw [useWords_eq]
@[simp] theorem useWords_rx (r : Root) (p : Nat → Bool) (d : Dev) : (useWords r p d).rx = d.rx := by rw [useWords_eq]
@[simp] theorem useWords_rxe (r : Root) (p : Nat → Bool) (d : Dev) : (useWords r p d).rxe = d.rxe := by rw [useWords_eq]
@[simp] theorem useWords_otpOk (r : Root) (p : Nat → Bool) (d : Dev) : (useWords r p d).otpOk = d.otpOk := by rw [useWords_eq]
@[simp] theorem useWords_rails (r : Root) (p : Nat → Bool) (d : Dev) : (useWords r p d).rails = d.rails := by rw [useWords_eq]
@[simp] theorem useWords_phyPads (r : Root) (p : Nat → Bool) (d : Dev) : (useWords r p d).phyPads = d.phyPads := by rw [useWords_eq]
@[simp] theorem useWords_freeCtr (r : Root) (p : Nat → Bool) (d : Dev) : (useWords r p d).freeCtr = d.freeCtr := by rw [useWords_eq]

/-- `pageUse` changes page and lines alone. -/
theorem pageUse_eq (r : Root) (b : Blk) (os : List Nat) (d : Dev) : pageUse r b os d = { d with page := (pageUse r b os d).page, lines := (pageUse r b os d).lines } := by
  exact useWords_eq r _ d

@[simp] theorem pageUse_regs (r : Root) (b : Blk) (os : List Nat) (d : Dev) : (pageUse r b os d).regs = d.regs := by rw [pageUse_eq]
@[simp] theorem pageUse_eff (r : Root) (b : Blk) (os : List Nat) (d : Dev) : (pageUse r b os d).eff = d.eff := by rw [pageUse_eq]
@[simp] theorem pageUse_parityBad (r : Root) (b : Blk) (os : List Nat) (d : Dev) : (pageUse r b os d).parityBad = d.parityBad := by rw [pageUse_eq]
@[simp] theorem pageUse_scrubAt (r : Root) (b : Blk) (os : List Nat) (d : Dev) : (pageUse r b os d).scrubAt = d.scrubAt := by rw [pageUse_eq]
@[simp] theorem pageUse_owed (r : Root) (b : Blk) (os : List Nat) (d : Dev) : (pageUse r b os d).owed = d.owed := by rw [pageUse_eq]
@[simp] theorem pageUse_hwSet (r : Root) (b : Blk) (os : List Nat) (d : Dev) : (pageUse r b os d).hwSet = d.hwSet := by rw [pageUse_eq]
@[simp] theorem pageUse_posted (r : Root) (b : Blk) (os : List Nat) (d : Dev) : (pageUse r b os d).posted = d.posted := by rw [pageUse_eq]
@[simp] theorem pageUse_sealed (r : Root) (b : Blk) (os : List Nat) (d : Dev) : (pageUse r b os d).sealed = d.sealed := by rw [pageUse_eq]
@[simp] theorem pageUse_rshadow (r : Root) (b : Blk) (os : List Nat) (d : Dev) : (pageUse r b os d).rshadow = d.rshadow := by rw [pageUse_eq]
@[simp] theorem pageUse_wshadow (r : Root) (b : Blk) (os : List Nat) (d : Dev) : (pageUse r b os d).wshadow = d.wshadow := by rw [pageUse_eq]
@[simp] theorem pageUse_tshadow (r : Root) (b : Blk) (os : List Nat) (d : Dev) : (pageUse r b os d).tshadow = d.tshadow := by rw [pageUse_eq]
@[simp] theorem pageUse_perGal (r : Root) (b : Blk) (os : List Nat) (d : Dev) : (pageUse r b os d).perGal = d.perGal := by rw [pageUse_eq]
@[simp] theorem pageUse_gal (r : Root) (b : Blk) (os : List Nat) (d : Dev) : (pageUse r b os d).gal = d.gal := by rw [pageUse_eq]
@[simp] theorem pageUse_hif (r : Root) (b : Blk) (os : List Nat) (d : Dev) : (pageUse r b os d).hif = d.hif := by rw [pageUse_eq]
@[simp] theorem pageUse_evc (r : Root) (b : Blk) (os : List Nat) (d : Dev) : (pageUse r b os d).evc = d.evc := by rw [pageUse_eq]
@[simp] theorem pageUse_pwr (r : Root) (b : Blk) (os : List Nat) (d : Dev) : (pageUse r b os d).pwr = d.pwr := by rw [pageUse_eq]
@[simp] theorem pageUse_clk (r : Root) (b : Blk) (os : List Nat) (d : Dev) : (pageUse r b os d).clk = d.clk := by rw [pageUse_eq]
@[simp] theorem pageUse_tb (r : Root) (b : Blk) (os : List Nat) (d : Dev) : (pageUse r b os d).tb = d.tb := by rw [pageUse_eq]
@[simp] theorem pageUse_flt (r : Root) (b : Blk) (os : List Nat) (d : Dev) : (pageUse r b os d).flt = d.flt := by rw [pageUse_eq]
@[simp] theorem pageUse_lnd (r : Root) (b : Blk) (os : List Nat) (d : Dev) : (pageUse r b os d).lnd = d.lnd := by rw [pageUse_eq]
@[simp] theorem pageUse_mon (r : Root) (b : Blk) (os : List Nat) (d : Dev) : (pageUse r b os d).mon = d.mon := by rw [pageUse_eq]
@[simp] theorem pageUse_log (r : Root) (b : Blk) (os : List Nat) (d : Dev) : (pageUse r b os d).log = d.log := by rw [pageUse_eq]
@[simp] theorem pageUse_net (r : Root) (b : Blk) (os : List Nat) (d : Dev) : (pageUse r b os d).net = d.net := by rw [pageUse_eq]
@[simp] theorem pageUse_trg (r : Root) (b : Blk) (os : List Nat) (d : Dev) : (pageUse r b os d).trg = d.trg := by rw [pageUse_eq]
@[simp] theorem pageUse_ptp (r : Root) (b : Blk) (os : List Nat) (d : Dev) : (pageUse r b os d).ptp = d.ptp := by rw [pageUse_eq]
@[simp] theorem pageUse_srv (r : Root) (b : Blk) (os : List Nat) (d : Dev) : (pageUse r b os d).srv = d.srv := by rw [pageUse_eq]
@[simp] theorem pageUse_ref (r : Root) (b : Blk) (os : List Nat) (d : Dev) : (pageUse r b os d).ref = d.ref := by rw [pageUse_eq]
@[simp] theorem pageUse_mcs (r : Root) (b : Blk) (os : List Nat) (d : Dev) : (pageUse r b os d).mcs = d.mcs := by rw [pageUse_eq]
@[simp] theorem pageUse_fb (r : Root) (b : Blk) (os : List Nat) (d : Dev) : (pageUse r b os d).fb = d.fb := by rw [pageUse_eq]
@[simp] theorem pageUse_chan (r : Root) (b : Blk) (os : List Nat) (d : Dev) : (pageUse r b os d).chan = d.chan := by rw [pageUse_eq]
@[simp] theorem pageUse_rte (r : Root) (b : Blk) (os : List Nat) (d : Dev) : (pageUse r b os d).rte = d.rte := by rw [pageUse_eq]
@[simp] theorem pageUse_sap (r : Root) (b : Blk) (os : List Nat) (d : Dev) : (pageUse r b os d).sap = d.sap := by rw [pageUse_eq]
@[simp] theorem pageUse_sapg (r : Root) (b : Blk) (os : List Nat) (d : Dev) : (pageUse r b os d).sapg = d.sapg := by rw [pageUse_eq]
@[simp] theorem pageUse_tx (r : Root) (b : Blk) (os : List Nat) (d : Dev) : (pageUse r b os d).tx = d.tx := by rw [pageUse_eq]
@[simp] theorem pageUse_txe (r : Root) (b : Blk) (os : List Nat) (d : Dev) : (pageUse r b os d).txe = d.txe := by rw [pageUse_eq]
@[simp] theorem pageUse_rx (r : Root) (b : Blk) (os : List Nat) (d : Dev) : (pageUse r b os d).rx = d.rx := by rw [pageUse_eq]
@[simp] theorem pageUse_rxe (r : Root) (b : Blk) (os : List Nat) (d : Dev) : (pageUse r b os d).rxe = d.rxe := by rw [pageUse_eq]
@[simp] theorem pageUse_otpOk (r : Root) (b : Blk) (os : List Nat) (d : Dev) : (pageUse r b os d).otpOk = d.otpOk := by rw [pageUse_eq]
@[simp] theorem pageUse_rails (r : Root) (b : Blk) (os : List Nat) (d : Dev) : (pageUse r b os d).rails = d.rails := by rw [pageUse_eq]
@[simp] theorem pageUse_phyPads (r : Root) (b : Blk) (os : List Nat) (d : Dev) : (pageUse r b os d).phyPads = d.phyPads := by rw [pageUse_eq]
@[simp] theorem pageUse_freeCtr (r : Root) (b : Blk) (os : List Nat) (d : Dev) : (pageUse r b os d).freeCtr = d.freeCtr := by rw [pageUse_eq]

/-- `entryUse` changes page and lines alone. -/
theorem entryUse_eq (r : Root) (t : Tbl) (e : Nat) (d : Dev) : entryUse r t e d = { d with page := (entryUse r t e d).page, lines := (entryUse r t e d).lines } := by
  exact useWords_eq r _ d

@[simp] theorem entryUse_regs (r : Root) (t : Tbl) (e : Nat) (d : Dev) : (entryUse r t e d).regs = d.regs := by rw [entryUse_eq]
@[simp] theorem entryUse_eff (r : Root) (t : Tbl) (e : Nat) (d : Dev) : (entryUse r t e d).eff = d.eff := by rw [entryUse_eq]
@[simp] theorem entryUse_parityBad (r : Root) (t : Tbl) (e : Nat) (d : Dev) : (entryUse r t e d).parityBad = d.parityBad := by rw [entryUse_eq]
@[simp] theorem entryUse_scrubAt (r : Root) (t : Tbl) (e : Nat) (d : Dev) : (entryUse r t e d).scrubAt = d.scrubAt := by rw [entryUse_eq]
@[simp] theorem entryUse_owed (r : Root) (t : Tbl) (e : Nat) (d : Dev) : (entryUse r t e d).owed = d.owed := by rw [entryUse_eq]
@[simp] theorem entryUse_hwSet (r : Root) (t : Tbl) (e : Nat) (d : Dev) : (entryUse r t e d).hwSet = d.hwSet := by rw [entryUse_eq]
@[simp] theorem entryUse_posted (r : Root) (t : Tbl) (e : Nat) (d : Dev) : (entryUse r t e d).posted = d.posted := by rw [entryUse_eq]
@[simp] theorem entryUse_sealed (r : Root) (t : Tbl) (e : Nat) (d : Dev) : (entryUse r t e d).sealed = d.sealed := by rw [entryUse_eq]
@[simp] theorem entryUse_rshadow (r : Root) (t : Tbl) (e : Nat) (d : Dev) : (entryUse r t e d).rshadow = d.rshadow := by rw [entryUse_eq]
@[simp] theorem entryUse_wshadow (r : Root) (t : Tbl) (e : Nat) (d : Dev) : (entryUse r t e d).wshadow = d.wshadow := by rw [entryUse_eq]
@[simp] theorem entryUse_tshadow (r : Root) (t : Tbl) (e : Nat) (d : Dev) : (entryUse r t e d).tshadow = d.tshadow := by rw [entryUse_eq]
@[simp] theorem entryUse_perGal (r : Root) (t : Tbl) (e : Nat) (d : Dev) : (entryUse r t e d).perGal = d.perGal := by rw [entryUse_eq]
@[simp] theorem entryUse_gal (r : Root) (t : Tbl) (e : Nat) (d : Dev) : (entryUse r t e d).gal = d.gal := by rw [entryUse_eq]
@[simp] theorem entryUse_hif (r : Root) (t : Tbl) (e : Nat) (d : Dev) : (entryUse r t e d).hif = d.hif := by rw [entryUse_eq]
@[simp] theorem entryUse_evc (r : Root) (t : Tbl) (e : Nat) (d : Dev) : (entryUse r t e d).evc = d.evc := by rw [entryUse_eq]
@[simp] theorem entryUse_pwr (r : Root) (t : Tbl) (e : Nat) (d : Dev) : (entryUse r t e d).pwr = d.pwr := by rw [entryUse_eq]
@[simp] theorem entryUse_clk (r : Root) (t : Tbl) (e : Nat) (d : Dev) : (entryUse r t e d).clk = d.clk := by rw [entryUse_eq]
@[simp] theorem entryUse_tb (r : Root) (t : Tbl) (e : Nat) (d : Dev) : (entryUse r t e d).tb = d.tb := by rw [entryUse_eq]
@[simp] theorem entryUse_flt (r : Root) (t : Tbl) (e : Nat) (d : Dev) : (entryUse r t e d).flt = d.flt := by rw [entryUse_eq]
@[simp] theorem entryUse_lnd (r : Root) (t : Tbl) (e : Nat) (d : Dev) : (entryUse r t e d).lnd = d.lnd := by rw [entryUse_eq]
@[simp] theorem entryUse_mon (r : Root) (t : Tbl) (e : Nat) (d : Dev) : (entryUse r t e d).mon = d.mon := by rw [entryUse_eq]
@[simp] theorem entryUse_log (r : Root) (t : Tbl) (e : Nat) (d : Dev) : (entryUse r t e d).log = d.log := by rw [entryUse_eq]
@[simp] theorem entryUse_net (r : Root) (t : Tbl) (e : Nat) (d : Dev) : (entryUse r t e d).net = d.net := by rw [entryUse_eq]
@[simp] theorem entryUse_trg (r : Root) (t : Tbl) (e : Nat) (d : Dev) : (entryUse r t e d).trg = d.trg := by rw [entryUse_eq]
@[simp] theorem entryUse_ptp (r : Root) (t : Tbl) (e : Nat) (d : Dev) : (entryUse r t e d).ptp = d.ptp := by rw [entryUse_eq]
@[simp] theorem entryUse_srv (r : Root) (t : Tbl) (e : Nat) (d : Dev) : (entryUse r t e d).srv = d.srv := by rw [entryUse_eq]
@[simp] theorem entryUse_ref (r : Root) (t : Tbl) (e : Nat) (d : Dev) : (entryUse r t e d).ref = d.ref := by rw [entryUse_eq]
@[simp] theorem entryUse_mcs (r : Root) (t : Tbl) (e : Nat) (d : Dev) : (entryUse r t e d).mcs = d.mcs := by rw [entryUse_eq]
@[simp] theorem entryUse_fb (r : Root) (t : Tbl) (e : Nat) (d : Dev) : (entryUse r t e d).fb = d.fb := by rw [entryUse_eq]
@[simp] theorem entryUse_chan (r : Root) (t : Tbl) (e : Nat) (d : Dev) : (entryUse r t e d).chan = d.chan := by rw [entryUse_eq]
@[simp] theorem entryUse_rte (r : Root) (t : Tbl) (e : Nat) (d : Dev) : (entryUse r t e d).rte = d.rte := by rw [entryUse_eq]
@[simp] theorem entryUse_sap (r : Root) (t : Tbl) (e : Nat) (d : Dev) : (entryUse r t e d).sap = d.sap := by rw [entryUse_eq]
@[simp] theorem entryUse_sapg (r : Root) (t : Tbl) (e : Nat) (d : Dev) : (entryUse r t e d).sapg = d.sapg := by rw [entryUse_eq]
@[simp] theorem entryUse_tx (r : Root) (t : Tbl) (e : Nat) (d : Dev) : (entryUse r t e d).tx = d.tx := by rw [entryUse_eq]
@[simp] theorem entryUse_txe (r : Root) (t : Tbl) (e : Nat) (d : Dev) : (entryUse r t e d).txe = d.txe := by rw [entryUse_eq]
@[simp] theorem entryUse_rx (r : Root) (t : Tbl) (e : Nat) (d : Dev) : (entryUse r t e d).rx = d.rx := by rw [entryUse_eq]
@[simp] theorem entryUse_rxe (r : Root) (t : Tbl) (e : Nat) (d : Dev) : (entryUse r t e d).rxe = d.rxe := by rw [entryUse_eq]
@[simp] theorem entryUse_otpOk (r : Root) (t : Tbl) (e : Nat) (d : Dev) : (entryUse r t e d).otpOk = d.otpOk := by rw [entryUse_eq]
@[simp] theorem entryUse_rails (r : Root) (t : Tbl) (e : Nat) (d : Dev) : (entryUse r t e d).rails = d.rails := by rw [entryUse_eq]
@[simp] theorem entryUse_phyPads (r : Root) (t : Tbl) (e : Nat) (d : Dev) : (entryUse r t e d).phyPads = d.phyPads := by rw [entryUse_eq]
@[simp] theorem entryUse_freeCtr (r : Root) (t : Tbl) (e : Nat) (d : Dev) : (entryUse r t e d).freeCtr = d.freeCtr := by rw [entryUse_eq]

/-- `wakeSettle` changes hif alone. -/
theorem wakeSettle_eq (d : Dev) : wakeSettle d = { d with hif := (wakeSettle d).hif } := by
  rfl

/-- `assertWake` changes hif alone. -/
theorem assertWake_eq (g : Nat) (d : Dev) : assertWake g d = { d with hif := (assertWake g d).hif } := by
  rfl

@[simp] theorem assertWake_regs (g : Nat) (d : Dev) : (assertWake g d).regs = d.regs := by rw [assertWake_eq]
@[simp] theorem assertWake_eff (g : Nat) (d : Dev) : (assertWake g d).eff = d.eff := by rw [assertWake_eq]
@[simp] theorem assertWake_parityBad (g : Nat) (d : Dev) : (assertWake g d).parityBad = d.parityBad := by rw [assertWake_eq]
@[simp] theorem assertWake_scrubAt (g : Nat) (d : Dev) : (assertWake g d).scrubAt = d.scrubAt := by rw [assertWake_eq]
@[simp] theorem assertWake_page (g : Nat) (d : Dev) : (assertWake g d).page = d.page := by rw [assertWake_eq]
@[simp] theorem assertWake_lines (g : Nat) (d : Dev) : (assertWake g d).lines = d.lines := by rw [assertWake_eq]
@[simp] theorem assertWake_owed (g : Nat) (d : Dev) : (assertWake g d).owed = d.owed := by rw [assertWake_eq]
@[simp] theorem assertWake_hwSet (g : Nat) (d : Dev) : (assertWake g d).hwSet = d.hwSet := by rw [assertWake_eq]
@[simp] theorem assertWake_posted (g : Nat) (d : Dev) : (assertWake g d).posted = d.posted := by rw [assertWake_eq]
@[simp] theorem assertWake_sealed (g : Nat) (d : Dev) : (assertWake g d).sealed = d.sealed := by rw [assertWake_eq]
@[simp] theorem assertWake_rshadow (g : Nat) (d : Dev) : (assertWake g d).rshadow = d.rshadow := by rw [assertWake_eq]
@[simp] theorem assertWake_wshadow (g : Nat) (d : Dev) : (assertWake g d).wshadow = d.wshadow := by rw [assertWake_eq]
@[simp] theorem assertWake_tshadow (g : Nat) (d : Dev) : (assertWake g d).tshadow = d.tshadow := by rw [assertWake_eq]
@[simp] theorem assertWake_perGal (g : Nat) (d : Dev) : (assertWake g d).perGal = d.perGal := by rw [assertWake_eq]
@[simp] theorem assertWake_gal (g : Nat) (d : Dev) : (assertWake g d).gal = d.gal := by rw [assertWake_eq]
@[simp] theorem assertWake_evc (g : Nat) (d : Dev) : (assertWake g d).evc = d.evc := by rw [assertWake_eq]
@[simp] theorem assertWake_pwr (g : Nat) (d : Dev) : (assertWake g d).pwr = d.pwr := by rw [assertWake_eq]
@[simp] theorem assertWake_clk (g : Nat) (d : Dev) : (assertWake g d).clk = d.clk := by rw [assertWake_eq]
@[simp] theorem assertWake_tb (g : Nat) (d : Dev) : (assertWake g d).tb = d.tb := by rw [assertWake_eq]
@[simp] theorem assertWake_flt (g : Nat) (d : Dev) : (assertWake g d).flt = d.flt := by rw [assertWake_eq]
@[simp] theorem assertWake_lnd (g : Nat) (d : Dev) : (assertWake g d).lnd = d.lnd := by rw [assertWake_eq]
@[simp] theorem assertWake_mon (g : Nat) (d : Dev) : (assertWake g d).mon = d.mon := by rw [assertWake_eq]
@[simp] theorem assertWake_log (g : Nat) (d : Dev) : (assertWake g d).log = d.log := by rw [assertWake_eq]
@[simp] theorem assertWake_net (g : Nat) (d : Dev) : (assertWake g d).net = d.net := by rw [assertWake_eq]
@[simp] theorem assertWake_trg (g : Nat) (d : Dev) : (assertWake g d).trg = d.trg := by rw [assertWake_eq]
@[simp] theorem assertWake_ptp (g : Nat) (d : Dev) : (assertWake g d).ptp = d.ptp := by rw [assertWake_eq]
@[simp] theorem assertWake_srv (g : Nat) (d : Dev) : (assertWake g d).srv = d.srv := by rw [assertWake_eq]
@[simp] theorem assertWake_ref (g : Nat) (d : Dev) : (assertWake g d).ref = d.ref := by rw [assertWake_eq]
@[simp] theorem assertWake_mcs (g : Nat) (d : Dev) : (assertWake g d).mcs = d.mcs := by rw [assertWake_eq]
@[simp] theorem assertWake_fb (g : Nat) (d : Dev) : (assertWake g d).fb = d.fb := by rw [assertWake_eq]
@[simp] theorem assertWake_chan (g : Nat) (d : Dev) : (assertWake g d).chan = d.chan := by rw [assertWake_eq]
@[simp] theorem assertWake_rte (g : Nat) (d : Dev) : (assertWake g d).rte = d.rte := by rw [assertWake_eq]
@[simp] theorem assertWake_sap (g : Nat) (d : Dev) : (assertWake g d).sap = d.sap := by rw [assertWake_eq]
@[simp] theorem assertWake_sapg (g : Nat) (d : Dev) : (assertWake g d).sapg = d.sapg := by rw [assertWake_eq]
@[simp] theorem assertWake_tx (g : Nat) (d : Dev) : (assertWake g d).tx = d.tx := by rw [assertWake_eq]
@[simp] theorem assertWake_txe (g : Nat) (d : Dev) : (assertWake g d).txe = d.txe := by rw [assertWake_eq]
@[simp] theorem assertWake_rx (g : Nat) (d : Dev) : (assertWake g d).rx = d.rx := by rw [assertWake_eq]
@[simp] theorem assertWake_rxe (g : Nat) (d : Dev) : (assertWake g d).rxe = d.rxe := by rw [assertWake_eq]
@[simp] theorem assertWake_otpOk (g : Nat) (d : Dev) : (assertWake g d).otpOk = d.otpOk := by rw [assertWake_eq]
@[simp] theorem assertWake_rails (g : Nat) (d : Dev) : (assertWake g d).rails = d.rails := by rw [assertWake_eq]
@[simp] theorem assertWake_phyPads (g : Nat) (d : Dev) : (assertWake g d).phyPads = d.phyPads := by rw [assertWake_eq]
@[simp] theorem assertWake_freeCtr (g : Nat) (d : Dev) : (assertWake g d).freeCtr = d.freeCtr := by rw [assertWake_eq]

/-- `wakeGals` changes hif alone. -/
theorem wakeGals_eq (o : Bool) (w : Word) (d : Dev) : wakeGals o w d = { d with hif := (wakeGals o w d).hif } := by
  unfold wakeGals
  refine foldl_inv (fun x => x = { d with hif := x.hif }) _ _ d rfl ?_
  intro x a h
  try dsimp only
  split
  · rw [assertWake_eq a x, h]
  · exact h

@[simp] theorem wakeGals_regs (o : Bool) (w : Word) (d : Dev) : (wakeGals o w d).regs = d.regs := by rw [wakeGals_eq]
@[simp] theorem wakeGals_eff (o : Bool) (w : Word) (d : Dev) : (wakeGals o w d).eff = d.eff := by rw [wakeGals_eq]
@[simp] theorem wakeGals_parityBad (o : Bool) (w : Word) (d : Dev) : (wakeGals o w d).parityBad = d.parityBad := by rw [wakeGals_eq]
@[simp] theorem wakeGals_scrubAt (o : Bool) (w : Word) (d : Dev) : (wakeGals o w d).scrubAt = d.scrubAt := by rw [wakeGals_eq]
@[simp] theorem wakeGals_page (o : Bool) (w : Word) (d : Dev) : (wakeGals o w d).page = d.page := by rw [wakeGals_eq]
@[simp] theorem wakeGals_lines (o : Bool) (w : Word) (d : Dev) : (wakeGals o w d).lines = d.lines := by rw [wakeGals_eq]
@[simp] theorem wakeGals_owed (o : Bool) (w : Word) (d : Dev) : (wakeGals o w d).owed = d.owed := by rw [wakeGals_eq]
@[simp] theorem wakeGals_hwSet (o : Bool) (w : Word) (d : Dev) : (wakeGals o w d).hwSet = d.hwSet := by rw [wakeGals_eq]
@[simp] theorem wakeGals_posted (o : Bool) (w : Word) (d : Dev) : (wakeGals o w d).posted = d.posted := by rw [wakeGals_eq]
@[simp] theorem wakeGals_sealed (o : Bool) (w : Word) (d : Dev) : (wakeGals o w d).sealed = d.sealed := by rw [wakeGals_eq]
@[simp] theorem wakeGals_rshadow (o : Bool) (w : Word) (d : Dev) : (wakeGals o w d).rshadow = d.rshadow := by rw [wakeGals_eq]
@[simp] theorem wakeGals_wshadow (o : Bool) (w : Word) (d : Dev) : (wakeGals o w d).wshadow = d.wshadow := by rw [wakeGals_eq]
@[simp] theorem wakeGals_tshadow (o : Bool) (w : Word) (d : Dev) : (wakeGals o w d).tshadow = d.tshadow := by rw [wakeGals_eq]
@[simp] theorem wakeGals_perGal (o : Bool) (w : Word) (d : Dev) : (wakeGals o w d).perGal = d.perGal := by rw [wakeGals_eq]
@[simp] theorem wakeGals_gal (o : Bool) (w : Word) (d : Dev) : (wakeGals o w d).gal = d.gal := by rw [wakeGals_eq]
@[simp] theorem wakeGals_evc (o : Bool) (w : Word) (d : Dev) : (wakeGals o w d).evc = d.evc := by rw [wakeGals_eq]
@[simp] theorem wakeGals_pwr (o : Bool) (w : Word) (d : Dev) : (wakeGals o w d).pwr = d.pwr := by rw [wakeGals_eq]
@[simp] theorem wakeGals_clk (o : Bool) (w : Word) (d : Dev) : (wakeGals o w d).clk = d.clk := by rw [wakeGals_eq]
@[simp] theorem wakeGals_tb (o : Bool) (w : Word) (d : Dev) : (wakeGals o w d).tb = d.tb := by rw [wakeGals_eq]
@[simp] theorem wakeGals_flt (o : Bool) (w : Word) (d : Dev) : (wakeGals o w d).flt = d.flt := by rw [wakeGals_eq]
@[simp] theorem wakeGals_lnd (o : Bool) (w : Word) (d : Dev) : (wakeGals o w d).lnd = d.lnd := by rw [wakeGals_eq]
@[simp] theorem wakeGals_mon (o : Bool) (w : Word) (d : Dev) : (wakeGals o w d).mon = d.mon := by rw [wakeGals_eq]
@[simp] theorem wakeGals_log (o : Bool) (w : Word) (d : Dev) : (wakeGals o w d).log = d.log := by rw [wakeGals_eq]
@[simp] theorem wakeGals_net (o : Bool) (w : Word) (d : Dev) : (wakeGals o w d).net = d.net := by rw [wakeGals_eq]
@[simp] theorem wakeGals_trg (o : Bool) (w : Word) (d : Dev) : (wakeGals o w d).trg = d.trg := by rw [wakeGals_eq]
@[simp] theorem wakeGals_ptp (o : Bool) (w : Word) (d : Dev) : (wakeGals o w d).ptp = d.ptp := by rw [wakeGals_eq]
@[simp] theorem wakeGals_srv (o : Bool) (w : Word) (d : Dev) : (wakeGals o w d).srv = d.srv := by rw [wakeGals_eq]
@[simp] theorem wakeGals_ref (o : Bool) (w : Word) (d : Dev) : (wakeGals o w d).ref = d.ref := by rw [wakeGals_eq]
@[simp] theorem wakeGals_mcs (o : Bool) (w : Word) (d : Dev) : (wakeGals o w d).mcs = d.mcs := by rw [wakeGals_eq]
@[simp] theorem wakeGals_fb (o : Bool) (w : Word) (d : Dev) : (wakeGals o w d).fb = d.fb := by rw [wakeGals_eq]
@[simp] theorem wakeGals_chan (o : Bool) (w : Word) (d : Dev) : (wakeGals o w d).chan = d.chan := by rw [wakeGals_eq]
@[simp] theorem wakeGals_rte (o : Bool) (w : Word) (d : Dev) : (wakeGals o w d).rte = d.rte := by rw [wakeGals_eq]
@[simp] theorem wakeGals_sap (o : Bool) (w : Word) (d : Dev) : (wakeGals o w d).sap = d.sap := by rw [wakeGals_eq]
@[simp] theorem wakeGals_sapg (o : Bool) (w : Word) (d : Dev) : (wakeGals o w d).sapg = d.sapg := by rw [wakeGals_eq]
@[simp] theorem wakeGals_tx (o : Bool) (w : Word) (d : Dev) : (wakeGals o w d).tx = d.tx := by rw [wakeGals_eq]
@[simp] theorem wakeGals_txe (o : Bool) (w : Word) (d : Dev) : (wakeGals o w d).txe = d.txe := by rw [wakeGals_eq]
@[simp] theorem wakeGals_rx (o : Bool) (w : Word) (d : Dev) : (wakeGals o w d).rx = d.rx := by rw [wakeGals_eq]
@[simp] theorem wakeGals_rxe (o : Bool) (w : Word) (d : Dev) : (wakeGals o w d).rxe = d.rxe := by rw [wakeGals_eq]
@[simp] theorem wakeGals_otpOk (o : Bool) (w : Word) (d : Dev) : (wakeGals o w d).otpOk = d.otpOk := by rw [wakeGals_eq]
@[simp] theorem wakeGals_rails (o : Bool) (w : Word) (d : Dev) : (wakeGals o w d).rails = d.rails := by rw [wakeGals_eq]
@[simp] theorem wakeGals_phyPads (o : Bool) (w : Word) (d : Dev) : (wakeGals o w d).phyPads = d.phyPads := by rw [wakeGals_eq]
@[simp] theorem wakeGals_freeCtr (o : Bool) (w : Word) (d : Dev) : (wakeGals o w d).freeCtr = d.freeCtr := by rw [wakeGals_eq]

/-- `wakeFor` changes hif alone. -/
theorem wakeFor_eq (n : Nat) (d : Dev) : wakeFor n d = { d with hif := (wakeFor n d).hif } := by
  unfold wakeFor
  refine foldl_inv (fun x => x = { d with hif := x.hif }) _ _ d rfl ?_
  intro x a h
  try dsimp only
  split
  · rw [wakeGals_eq false _ x, h]
  · exact h

@[simp] theorem wakeFor_regs (n : Nat) (d : Dev) : (wakeFor n d).regs = d.regs := by rw [wakeFor_eq]
@[simp] theorem wakeFor_eff (n : Nat) (d : Dev) : (wakeFor n d).eff = d.eff := by rw [wakeFor_eq]
@[simp] theorem wakeFor_parityBad (n : Nat) (d : Dev) : (wakeFor n d).parityBad = d.parityBad := by rw [wakeFor_eq]
@[simp] theorem wakeFor_scrubAt (n : Nat) (d : Dev) : (wakeFor n d).scrubAt = d.scrubAt := by rw [wakeFor_eq]
@[simp] theorem wakeFor_page (n : Nat) (d : Dev) : (wakeFor n d).page = d.page := by rw [wakeFor_eq]
@[simp] theorem wakeFor_lines (n : Nat) (d : Dev) : (wakeFor n d).lines = d.lines := by rw [wakeFor_eq]
@[simp] theorem wakeFor_owed (n : Nat) (d : Dev) : (wakeFor n d).owed = d.owed := by rw [wakeFor_eq]
@[simp] theorem wakeFor_hwSet (n : Nat) (d : Dev) : (wakeFor n d).hwSet = d.hwSet := by rw [wakeFor_eq]
@[simp] theorem wakeFor_posted (n : Nat) (d : Dev) : (wakeFor n d).posted = d.posted := by rw [wakeFor_eq]
@[simp] theorem wakeFor_sealed (n : Nat) (d : Dev) : (wakeFor n d).sealed = d.sealed := by rw [wakeFor_eq]
@[simp] theorem wakeFor_rshadow (n : Nat) (d : Dev) : (wakeFor n d).rshadow = d.rshadow := by rw [wakeFor_eq]
@[simp] theorem wakeFor_wshadow (n : Nat) (d : Dev) : (wakeFor n d).wshadow = d.wshadow := by rw [wakeFor_eq]
@[simp] theorem wakeFor_tshadow (n : Nat) (d : Dev) : (wakeFor n d).tshadow = d.tshadow := by rw [wakeFor_eq]
@[simp] theorem wakeFor_perGal (n : Nat) (d : Dev) : (wakeFor n d).perGal = d.perGal := by rw [wakeFor_eq]
@[simp] theorem wakeFor_gal (n : Nat) (d : Dev) : (wakeFor n d).gal = d.gal := by rw [wakeFor_eq]
@[simp] theorem wakeFor_evc (n : Nat) (d : Dev) : (wakeFor n d).evc = d.evc := by rw [wakeFor_eq]
@[simp] theorem wakeFor_pwr (n : Nat) (d : Dev) : (wakeFor n d).pwr = d.pwr := by rw [wakeFor_eq]
@[simp] theorem wakeFor_clk (n : Nat) (d : Dev) : (wakeFor n d).clk = d.clk := by rw [wakeFor_eq]
@[simp] theorem wakeFor_tb (n : Nat) (d : Dev) : (wakeFor n d).tb = d.tb := by rw [wakeFor_eq]
@[simp] theorem wakeFor_flt (n : Nat) (d : Dev) : (wakeFor n d).flt = d.flt := by rw [wakeFor_eq]
@[simp] theorem wakeFor_lnd (n : Nat) (d : Dev) : (wakeFor n d).lnd = d.lnd := by rw [wakeFor_eq]
@[simp] theorem wakeFor_mon (n : Nat) (d : Dev) : (wakeFor n d).mon = d.mon := by rw [wakeFor_eq]
@[simp] theorem wakeFor_log (n : Nat) (d : Dev) : (wakeFor n d).log = d.log := by rw [wakeFor_eq]
@[simp] theorem wakeFor_net (n : Nat) (d : Dev) : (wakeFor n d).net = d.net := by rw [wakeFor_eq]
@[simp] theorem wakeFor_trg (n : Nat) (d : Dev) : (wakeFor n d).trg = d.trg := by rw [wakeFor_eq]
@[simp] theorem wakeFor_ptp (n : Nat) (d : Dev) : (wakeFor n d).ptp = d.ptp := by rw [wakeFor_eq]
@[simp] theorem wakeFor_srv (n : Nat) (d : Dev) : (wakeFor n d).srv = d.srv := by rw [wakeFor_eq]
@[simp] theorem wakeFor_ref (n : Nat) (d : Dev) : (wakeFor n d).ref = d.ref := by rw [wakeFor_eq]
@[simp] theorem wakeFor_mcs (n : Nat) (d : Dev) : (wakeFor n d).mcs = d.mcs := by rw [wakeFor_eq]
@[simp] theorem wakeFor_fb (n : Nat) (d : Dev) : (wakeFor n d).fb = d.fb := by rw [wakeFor_eq]
@[simp] theorem wakeFor_chan (n : Nat) (d : Dev) : (wakeFor n d).chan = d.chan := by rw [wakeFor_eq]
@[simp] theorem wakeFor_rte (n : Nat) (d : Dev) : (wakeFor n d).rte = d.rte := by rw [wakeFor_eq]
@[simp] theorem wakeFor_sap (n : Nat) (d : Dev) : (wakeFor n d).sap = d.sap := by rw [wakeFor_eq]
@[simp] theorem wakeFor_sapg (n : Nat) (d : Dev) : (wakeFor n d).sapg = d.sapg := by rw [wakeFor_eq]
@[simp] theorem wakeFor_tx (n : Nat) (d : Dev) : (wakeFor n d).tx = d.tx := by rw [wakeFor_eq]
@[simp] theorem wakeFor_txe (n : Nat) (d : Dev) : (wakeFor n d).txe = d.txe := by rw [wakeFor_eq]
@[simp] theorem wakeFor_rx (n : Nat) (d : Dev) : (wakeFor n d).rx = d.rx := by rw [wakeFor_eq]
@[simp] theorem wakeFor_rxe (n : Nat) (d : Dev) : (wakeFor n d).rxe = d.rxe := by rw [wakeFor_eq]
@[simp] theorem wakeFor_otpOk (n : Nat) (d : Dev) : (wakeFor n d).otpOk = d.otpOk := by rw [wakeFor_eq]
@[simp] theorem wakeFor_rails (n : Nat) (d : Dev) : (wakeFor n d).rails = d.rails := by rw [wakeFor_eq]
@[simp] theorem wakeFor_phyPads (n : Nat) (d : Dev) : (wakeFor n d).phyPads = d.phyPads := by rw [wakeFor_eq]
@[simp] theorem wakeFor_freeCtr (n : Nat) (d : Dev) : (wakeFor n d).freeCtr = d.freeCtr := by rw [wakeFor_eq]

end Sys2Proof.Machine
end

