-- ==== Sys2Proof/Tests/Slice0.lean ====
section
/-! SUPPORT. Small states that meet the hypotheses of the claims, one theorem or a few for each claim; single commands with results
read off the spec; commands outside the operands they can carry. -/

namespace Sys2Proof.Tests

set_option Elab.async false

open Sys2Proof.Machine

/-! ### Small states -/

/-- A running device: PCIe link up, gallery 0 the steward of every shared page. -/
def base : State :=
  { State.reset with
    root := { Root.reset with ec := 512000000 },
    dev := { hif := { linkUp := true, speed := 4, width := 4 }, gal := { holder := [(0, 0), (1, 0), (2, 0), (3, 0)] } } }

/-- That device with its parts changed. -/
def onD (f : Dev → Dev) : State := { base with dev := f base.dev }
/-- That device with what stands outside its core changed. -/
def onR (f : Root → Root) : State := { base with root := f base.root }
/-- Straps of a bring-up. -/
def straps : Straps := { houseSel := true, xoSel3 := false, xoSel6 := true, qspiMode := true, xoEdge := true }


/-! ### Power -/

def pOff : State := onR fun r => { r with power := .off, ec := 0 }
def pHeld : State := onR fun r => { r with power := .rstHeld, ec := 0 }
/-- Watch entry 15 waits for VIN_OK. -/
def watching (d : Dev) : Dev := d.setPwv .pwr (0x100 + 4 * 15) 0x80000230
def pShelf : State := { onR (fun r => { r with power := .shelf, ec := 0 }) with dev := watching base.dev }
def pDoze : State := { onR (fun r => { r with power := .doze, ec := 0 }) with dev := watching base.dev }
def pEnter (doze : Bool) (latched : Nat) : State :=
  { onR (fun r => { r with power := .entering doze }) with dev := (watching base.dev).pwrMap fun p => { p with latched := latched } }
def pWake (doze : Bool) : State :=
  { onR (fun r => { r with power := .waking doze, ec := 0 }) with dev := (watching base.dev).pwrMap fun p => { p with latched := 0x8000 } }
def pQuiet : State := onR fun r => { r with power := .quiet, quietReq := some false }
def pQuieting : State := onR fun r => { r with quietReq := some true }
/-- SLEEP_CMD posted with TARGET `t`, with watch entry 15 or without, and with entries latched. -/
def pPosted (t : Nat) (watch : Bool) (latched : Nat) : State :=
  onD fun d => ((if watch then watching d else d).setPost .pwr (some { off := 0x040, ws := [wd t] })).pwrMap fun p => { p with latched := latched }
/-- The SYS PLL on XO_IN, with XO_FALLBACK. -/
def pXo : State := onD fun d => (d.setPwv .clk 0x044 1).clkMap fun c => { c with xoSrc := true }

theorem step_runs_front : step { base with pending := [.enLow] } = exec .enLow base := rfl
theorem empty_queue_off : pOff.pending = [] ∧ pOff.root.coreOn = false := by decide
theorem empty_queue_counts : base.pending = [] ∧ base.root.coreOn = true ∧ base.root.ec + 512 < ecMod := by decide
def pLast : State := onR fun r => { r with ec := ecMod - 512 }
theorem empty_queue_wraps : pLast.pending = [] ∧ pLast.root.coreOn = true ∧ ecMod ≤ pLast.root.ec + 512 := by decide
theorem inv_running : pLast.Inv := ⟨by decide, by decide, by decide, trivial⟩
theorem inv_asleep : (pWake true).Inv := ⟨by decide, by decide, by decide, rfl, rfl⟩
theorem frames_apply :
    Instr.storesLanding .quietEnter = false ∧ Instr.movesRoot .xoInLoss = false ∧ exec .xoInLoss base = .next base ∧
      exec .quietEnter base = .next base := ⟨by decide, by decide, rfl, rfl⟩
theorem parts_apply : Part.lnd ∉ Instr.touches .quietEnter ∧ exec .quietEnter base = .next base := ⟨by decide, rfl⟩
theorem off_is_idle : Instr.isPower .routeEvaluation = false ∧ Instr.isPadFrame .routeEvaluation = false ∧ pOff.root.coreOn = false := by decide
theorem quiet_is_idle : Instr.isDatapath .routeEvaluation = true ∧ pQuiet.root.running = false := by decide


/-! ### The register map -/

def rSealed : State := onD fun d => { d with sealed := true }
def rBusy : State := onD fun d => d.setPost (.mcs 0) (some { off := 0x040, ws := [1] })
/-- A page with a fault captured, and armed for injection. -/
def rFault : State := onD fun d => (fault base.root .flt .notSteward 1 0x62048 d).setReg .flt 0x01C 1
/-- Words held for a group of PTP0 and for two entries of the flow table. -/
def rHeld : State :=
  onD fun d => ((d.setWsh 0 ((Blk.ptp 0).addr 0x054) [(1, 7)]).setTsh 0 .flow [(Tbl.flow.addr 3 1, 5), (Tbl.flow.addr 4 1, 6)])
/-- A wrong parity bit at the word the scrub visits next, and at another. -/
def rParity : State := onD fun d => { d.setReg .dev 0x014 0xFFFFFFFF with parityBad := [0x14, 0x62048] }
/-- FLT point 0 armed on a word of DEV. -/
def rInject : State := onD fun d => ((d.setReg .flt 0x01C 1).setReg .flt 0x018 0).setReg .flt 0x050 0x14

def rPosted : State := onD fun d => d.setPost .clk (some { off := 0x044, ws := [1] })


/-! ### Galleries and host links -/

/-- Page 0 free, 1 held by gallery 1, 2 by gallery 0. -/
def gClaims : State := onD fun d => d.galMap fun x => { x with holder := [(1, 1), (2, 0)] }
/-- PART_SEL names corridor 5, an aperture limit, or nothing. -/
def gPart (r : Res) (i : Nat) : State := onD fun d => d.setReg .gal 0x04C (wd (r.info.1 * 65536 + i))
def gAwake : State := onD fun d => d.hifMap fun h => { h with wokenQspi := 0x30, d3hot := 3, cfgWritten := [(0, true), (1, true)] }
/-- Corridor 5 stands in the apertures of gallery 0. -/
def gMapped : State := onD fun d => (d.setCor 5 { st := .active, sizeLog := 1 }).setExt (consCor 5) { start := 0, treads := [7, 9], g := 0, apt := 4096 }



/-! ### Events -/

/-- Sources in every state, with target 1 in their sets, and gallery 0's targets enabled; 49 waits for dispatch. -/
def eSources : State :=
  onD fun d =>
    let d1 := (d.setReg (.evt 0) 0x040 0xFF).hifMap fun h => { h with msixEn := [(0, true)], msix := [(7, 0)] }
    ((((((d1.setSrc 40 { pulses := 1 }).setSrc 41 { st := .pending, pulses := 1, mask := false, set := 0 }).setSrc 42
      { st := .dispatched, tgt := 1, set := 2, mask := false, pulses := 2, dispEC := 5 }).setSrc 43 { st := .active, tgt := 1, pulses := 1, set := 2 }).setSrc 44
      { st := .activePending, tgt := 1, pulses := 1, set := 2 }).setSrc 49 { st := .pending, mask := false, set := 2 })
/-- A delivery of target 1 decided; held or not; and gallery 0 asleep. -/
def eDue (held asleep : Bool) : State :=
  let s := { eSources with dev := eSources.dev.setTgt 1 { made := 3, waiting := [(2, held), (3, false)] } }
  if asleep then { s with dev := s.dev.setReg .gal 0x05C 1 } else s
/-- A delivery decided for gallery 4. -/
def eQspi (held : Bool) : State := onD fun d => d.setTgt 33 { made := 2, waiting := [(2, held)] }
/-- PHY_INT_A asserted, its line sampled low or high. -/
def eLevel (high : Bool) : State := { eSources with dev := { eSources.dev.setSrc 70 { sampled := high } with phyPads := 1 } }
def eSelected : State := { eSources with dev := (eSources.dev.setReg (.evt 0) 0x048 42).setReg (.evt 1) 0x048 5 }



/-! ### Timebase -/

/-- View A fed by software, and a group of its parameters held. -/
def tFeed : State :=
  onD fun d => ((d.setReg .tbe 0x060 7).setWsh 0 (Blk.tbe.addr 0x120) [(1, 9), (3, 100), (4, 5), (7, 3)]).setView 0 { anchorEC := 5, anchorT := 77, rate := 12345 }
/-- Edges stamped on two lines, channel 4 by its falling ones; the OTP without a tap table. -/
def tEdges : State :=
  onD fun d => { ((d.setReg .tbe 0x040 0x10).setReg .trg 0xA00 0xFFFFFFFF) with tb := { d.tb with lastEdge := [(4, 512000000), (16, 512000001)] }, otpOk := 0 }

/-- Every SFD pin enabled with a window of 255 ns; one edge on channel 0, two on channel 1. -/
def tPins : State :=
  onD fun d => { (d.setReg .tbe 0x040 0x1F).setReg .tbe 0x078 0xFF with
    tb := { d.tb with hist := [(0, [{ ec := 511905000, era := 1 }]), (1, [{ ec := 511905000, era := 1 }, { ec := 511905050, era := 1 }])] } }


/-! ### PTP engines and servos -/

/-- A PTP message of type `ty` and sequence `seq`, two-step when `two`, from identity `src`, for identity `req`. -/
def ptpMsg (ty seq src req : Nat) (two : Bool) : PtpRx :=
  { bytes := beBytes 1 ty ++ beBytes 1 0x12 ++ beBytes 2 54 ++ beBytes 2 0 ++ beBytes 2 (if two then 0x200 else 0) ++ beBytes 8 (3 * 65536) ++ beBytes 4 0 ++ beBytes 10 src ++
      beBytes 2 seq ++ beBytes 2 0 ++ beBytes 6 5 ++ beBytes 4 1000 ++ beBytes 10 req,
    stamp := { ec := 511000000, era := 1, point := 1 }, src := [], par := src == 1 }
/-- Engine 0 in state `st`, its parent 1 and its own identity 2, with `m` received. -/
def tEngine (st : Nat) (m : Option PtpRx) (f : Ptp → Ptp) : State :=
  onD fun d =>
    let d1 := ((((d.setReg (.ptp 0) 0x048 1).setReg (.ptp 0) 0x054 2).setReg (.ptp 0) 0x058 0).setReg (.ptp 0) 0x05C 0).setNetp 0 { link := true, speed := 3 }
    d1.setPtp 0 (f { st := st, rxQ := m.toList, parentAddr := [1] })
/-- A two-step Sync waits for its Follow_Up, and a Delay_Req for its answer. -/
def waiting (x : Ptp) : Ptp :=
  { x with waitFU := some { seq := 4, stamp := { ec := 511000000, era := 1 }, t1 := 0, corr := 0 }, dreq := some (4, some { ec := 510000000, era := 1 }) }
/-- A peer delay exchange, its request stamped; or answered too. -/
def peering (answered : Bool) (x : Ptp) : Ptp :=
  { x with pd := some { seq := 4, t1 := some { ec := 500000000, era := 1 }, t2 := if answered then some 100 else none, t4 := { ec := 511000000, era := 1 }, src := 1 } }
/-- Requests to answer, Syncs and responses sent. -/
def answering (x : Ptp) : Ptp :=
  { x with answers := [(1, 4, { ec := 511000000, era := 1 }, 0)], pdAnswers := [(1, 4, 0, some { ec := 511000000, era := 1 })],
           syncOut := [(4, some { ec := 511000000, era := 1 })] }
/-- An engine with ANNOUNCE and SIGNALING for corridor 3 on, or off. -/
def tReports (ty : Nat) (on : Bool) : State :=
  let s := tEngine 2 (some (ptpMsg ty 4 1 2 false)) id
  { s with dev := if on then s.dev.setReg (.ptp 0) 0x068 0x303 else s.dev }
/-- The same with corridor 3 open to records. -/
def tTaken (ty : Nat) : State :=
  let s := tReports ty true
  { s with dev := (s.dev.setCor 3 { st := .active, sizeLog := 2 }).setExt (consCor 3) { start := 8, treads := [4, 5, 6, 10], g := 0, apt := 0 } }
/-- End-to-end engine whose Delay_Req is due; a peer one; a time-transmitter whose Sync falls in the present cycle. -/
def tSends (mech : Nat) : State :=
  let s := tEngine 1 none fun x => { x with dreqAt := some 5 }
  { s with dev := s.dev.setReg (.ptp 0) 0x040 (wd (1 + mech * 64)) }
def tSync : State :=
  let s := tEngine 3 none id
  { s with dev := { s.dev with tb := { s.dev.tb with at' := { anchorEC := 512000000, anchorT := -1, rate := 0 } } } }
def tStale : State := tEngine 2 none fun x => { x with syncEC := 0 }
/-- A late receiver: the interval is the shortest, so the Sync of EC 1 has timed out. -/
def tTimeout (srv : Nat) : State :=
  let s := tStale
  { s with root := { s.root with ec := 4096000000 }, dev := (s.dev.setReg (.ptp 0) 0x060 0x010000F9).setSrv 0 { st := srv } }
/-- A Follow_Up that comes too late for its Sync. -/
def tTooLate : State :=
  tEngine 2 (some { ptpMsg 8 4 1 2 false with stamp := { ec := 409600000000000, era := 1, point := 1 } }) waiting
/-- Engine 0 with more clients than it may serve. -/
def tFull : State := tEngine 3 (some (ptpMsg 1 4 99 2 false)) fun x => { x with served := List.range 64 }
/-- Servo 0 in state `st`. -/
def tServo (st : Nat) (f : Srv → Srv) : State :=
  onD fun d => ((d.setSrv 0 (f { st := st, i := 7, dWin := [1], qWin := [2] })).setPtp 0 { st := 2 }).setReg (.srv 0) 0x040 8


/-! ### The reference selector -/

/-- All inputs enabled, each as `x`; the die temperature valid. -/
def fInputs (x : RefIn) : State :=
  onD fun d =>
    let d1 := (List.range 8).foldl (fun d i => ((d.setReg .ref (0x0A0 + 4 * i) 1).setReg .ref (0x0C0 + 4 * i) 1000000).setRin i x) d
    d1.fltMap fun f => { f with tempValid := true, temp := 400 }
/-- An input of one edge each millisecond, the last at the present EC. -/
def ticking (st timer run : Nat) (lost : Bool) : RefIn :=
  { st := st, timer := timer, run := run, lost := lost, last := some 512000000, rate := some 5000, edges := (List.range 5).map fun k => 512000000 - (k : Int) * 256000000 }
/-- All inputs with a second of ten edges behind them. -/
def fGood (x : RefIn) : State :=
  let s := fInputs { x with edges := (List.range 11).map fun k => 2560000000000 - (k : Int) * 25600000000, last := some 2560000000000, since := 0 }
  { s with root := { s.root with ec := 2560000000000 }, dev := (List.range 8).foldl (fun d i => d.setReg .ref (0x0C0 + 4 * i) 100000000) s.dev }
/-- No input enabled, and the die temperature valid. -/
def fNone : State := onD fun d => d.fltMap fun f => { f with tempValid := true }
/-- The selector in state `st`, following input `sel`, the inputs qualified. -/
def fSel (st sel : Nat) (sw : Bool) (dAt : Int) : State :=
  let s := fInputs (ticking 2 0 0 false)
  { s with dev :=
      { (s.dev.refMap fun x => { x with st := st, sel := sel, target := sel, lossSec := 1, hoEC := 1000, hist := [some (4, 400), some (4, 400)], pps := some 511999000 }) with
        tb := { s.dev.tb with switching := sw, atView := if sel < 2 then sel else 2, at' := { anchorEC := 0, anchorT := dAt, rate := 9 }, a := { rate := 77 }, b := { anchorT := 900000 } } } }
/-- X_TOD armed with its time. -/
def fTod (st : Nat) : State :=
  let s := fSel st 2 false 0
  { s with dev := ((s.dev.setReg .ref 0x160 1).setReg .ref 0x164 1000).setReg .ref 0x168 2 }
/-- A holdover bound past its limit. -/
def fLong (st : Nat) : State :=
  let s := fSel st 2 false 0
  { s with root := { s.root with ec := 2560000000000000 }, dev := s.dev.setReg .ref 0x078 1 }


/-! ### Media clock synthesizers -/

/-- Synthesizer 0 in a state, at 4 GHz, with two bands; output 1 enabled and fed back through pad 0 when `en`. -/
def mSyn (en : Bool) (x : Mcs) (f : Dev → Dev) : State :=
  onD fun d =>
    let d1 := ((((d.setPwv (.mcs 0) 0x04C 0x500000).setReg (.mcs 0) 0x200 (wd (2 ^ 31 + 3000000))).setReg (.mcs 0) 0x204 4200000).setReg (.mcs 0) 0x208 (wd (2 ^ 31 + 4100000))).setReg (.mcs 0) 0x20C 4150000
    let d2 := if en then ((d1.setPwv (.mcs 0) 0x040 5).setPwv (.mcs 0) 0x068 0x823F00A0).setReg (.mcs 0) 0x400 1 else d1
    f (d2.setMcs 0 x)
/-- With a posted write waiting. -/
def mPost (en : Bool) (x : Mcs) (o : Nat) (ws : List Word) : State := mSyn en x fun d => d.setPost (.mcs 0) (some { off := o, ws := ws })
/-- At `hi`, with `ws` posted for FREQ or CTRL. -/
def mAt (st hi o : Nat) (ws : List Word) : State :=
  mSyn false { st := st, lim := (3000000, 4200000) } fun d => (d.setPwv (.mcs 0) 0x04C (wd hi)).setPost (.mcs 0) (some { off := o, ws := ws })
/-- With a feedback stamp. -/
def mFed (x : Mcs) (z : Option Stamp) : State := mSyn true x fun d => { d with fb := [(0, z)] }
/-- A ramp of two segments in progress. -/
def mRamp (seg el act : Nat) : Mcs := { st := 3, rampSt := 1, seg := seg, elapsed := el, prof := [(100, 20), (0, 10)], endAct := act, r := 5 }


/-! ### Time triggers and captures -/

/-- Trigger 5 armed at the AT instant `t` with CTRL word `ctl`; channel 8 captures it. -/
def aTrig (st : TrSt) (ctl : Nat) (t : Int) : State :=
  onD fun d =>
    let d1 := (List.range 4).foldl (fun d i => d.setReg .trg (0x100 + 0x20 * 5 + 4 * i) ((ltWords t).getD i 0)) d
    let d2 := ((d1.setReg .trg (0x110 + 0x20 * 5) (wd ctl)).setReg .trg (0x114 + 0x20 * 5) 1).setReg .trg (0x118 + 0x20 * 5) 0x03E80064
    ((d2.setReg .trg 0xC00 (wd (2 ^ 31 + 5 * 2 ^ 20))).setTrig 5 { st := st, k := 0 }).trgMap fun x => { x with pulse := [(2, [(511990000, 512000000)]), (3, [(511000000, 999999999)])] }
/-- Channel 2 with stamps to capture, the latest captured at `last`, with hold-off `hold`. -/
def aCap (last : Option Nat) (cfg : Nat) : State :=
  onD fun d => (d.setReg .trg (0xA00 + 0x40 * 2) (wd cfg)).setCapt 2
    { queue := [{ ec := 511000000, era := 1, point := 0x12 }, { ec := 511900000, era := 1, point := 0x12 }], last := last.map fun e => { ec := e, era := 1 }, new := true }


/-! ### The Landing, host buffers and corridors -/

/-- Corridor 3 asks for 2^`size` treads; `cfg` its CFG. -/
def lAsks (g : Nat) (cfg : Nat) (x : Cor) : State :=
  onD fun d => (d.setCor 3 { x with st := .admitting, cfg := wd cfg, sizeLog := x.sizeLog }).lndMap fun l => { l with admitQ := [⟨1, g, consCor 3⟩] }
/-- With `n` treads free and `z` still being zeroed. -/
def lShort (n : Nat) (z : List Nat) : State :=
  let s := lAsks 0 0x80000003 { sizeLog := 3 }
  { s with dev := s.dev.lndMap fun l => { l with free := [(100, n)], zeroing := z } }
/-- Host buffer 3 of gallery 0 asks for host-write channels, with its registers as admitted. -/
def lBuf (x : Hbuf) (ena : Bool) : State :=
  onD fun d => ((d.setReg .lnd (0x200 + 0x30) (if ena then 0x84000000 else 0)).setHb 3 { x with st := .admitting, first := 0x2800, count := 4 }).lndMap fun l => { l with admitQ := [⟨1, 0, consHb 3⟩] }
/-- Treads wait to be zeroed, one of them marked bad; words with errors; quarantine. -/
def lDirty : State :=
  { onD (fun d => (d.setReg .lnd 0x040 1).lndMap fun l =>
      { l with zeroing := [6, 7], bad := [6], free := [(100, 10)], ce := [0, 5], ue := [7], ueCnt := 3, ueValid := true, bankCE := [(0, 4)] }) with mem := [(6 * 512, 9), (7 * 512, 8)] }
def lClean : State := { lDirty with dev := lDirty.dev.lndMap fun l => { l with zeroing := [7, 6], scrubWord := 5 } }
def lUe : State := { lDirty with dev := lDirty.dev.lndMap fun l => { l with scrubWord := 7 } }
/-- Host buffer 9 active in the present period. -/
def lRuns (read closing : Bool) (ptr : Nat) : State :=
  onD fun d => (d.setHb 9 { st := .active, read := read, ptr := ptr, depthLog := 4, first := 0x6000, count := 2, closing := closing, pack := 1 }).setExt (consHb 9) { start := 8, treads := [4, 5], g := 1, apt := 0 }
/-- Corridor 3 selected by gallery 0, in state `st` with pointers. -/
def lCor (x : Cor) : State :=
  onD fun d => ((d.setOwn .cor 0x040 0 3).setCor 3 x).setExt (consCor 3) { start := 8, treads := [4, 5, 6, 10], g := 0, apt := 0 }


/-! ### Network ports -/

/-- Port 0 as `x`, its CTRL word `ctl`. -/
def nPort (x : NetP) (ctl : Nat) : State := onD fun d => (d.setReg (.net 0) 0x040 (wd ctl)).setNetp 0 x
/-- An Ethernet frame without FCS, of `n` payload bytes. -/
def ethFrame (dst src ty n : Nat) : List Byte := beBytes 6 dst ++ beBytes 6 src ++ beBytes 2 ty ++ (List.range n).map (BitVec.ofNat 8 ·)
/-- Interface 0 on port 0 for group addresses, with IN corridor 7 and OUT corridor 3; corridor 3 holds one record at RD. -/
def nOut (st : CorSt) (len info : Nat) (f : Dev → Dev) : State :=
  { onD (fun d => f (((((d.setReg .cls 0x100 0x9C000703).setNetp 0 { link := true, speed := 3 }).setReg (.net 0) 0x040 1).setCor 3
      { st := st, out := true, sizeLog := 2, wr := 512, cfg := 0x80000002 }).setExt (consCor 3) { start := 8, treads := [4, 5, 6, 10], g := 0, apt := 0 })) with
    mem := memWrites [] [(4 * 512, leBytes 2 info), (4 * 512 + 6, leBytes 2 len)] }
/-- The head record of corridor 3, `n` bytes long. -/
def outHead (n : Nat) (held : Bool) (elig : Nat) : OutHead :=
  { pos := 0, len := n, vif := 0, stamp := false, ecc := false, frame := ethFrame 1 2 0x88B5 (n - 14), held := held, elig := elig, ports := 1 }
/-- With that head, the port's line as `x`. -/
def nLine (x : NetP) (h : Option OutHead) : State := nOut .active 60 0 fun d => (d.setHead 3 h).setNetp 0 x


/-! ### Transmit streams -/

/-- Word 0 of a stream's entry: two channels of six samples on port 0. -/
def txW0 : Nat := 2 ^ 31 + 2 ^ 26 + 2 ^ 16 + 6 * 64
/-- Stream 5 in state `st`, its next frame `f`, admitted with word 0 `w`; its entry enabled when `ena`; the port's link up when `link`. -/
def xTx (st w : Nat) (f : Int) (ena link readmit : Bool) : State :=
  onD fun d =>
    let ws := [wd w, 0x10000000, 0, 0, 0, 0, 0, 0, 0, 0, 0xE0000101, 0]
    let d1 := ((List.range 12).foldl (fun d i => d.setTw .txs 5 i (ws.getD i 0)) d)
    let d2 := if ena then d1 else d1.setTw .txs 5 0 (wd (w - 2 ^ 31))
    (((d2.setNetp 0 { link := link, speed := 3 }).setReg (.net 0) 0x040 (d2.reg (.net 0) 0x040 ||| 1)).setTx 5 { st := st, adm := ws, g := 0, f0 := f, readmit := readmit }).setExt (consTx 5)
      { start := 20, treads := [30], g := 7, apt := 0 }
/-- Stream 5 asks for admission. -/
def xAsk (w : Nat) (ena : Bool) : State :=
  let s := xTx 1 w 0 ena true false
  { s with dev := (s.dev.setExt (consTx 5) {}).lndMap fun l => { l with admitQ := [⟨1, 0, consTx 5⟩] } }
/-- A stream whose gain has reached 0. -/
def xGone (readmit ena : Bool) : State :=
  let s := xTx 3 txW0 15 ena true readmit
  { s with dev := s.dev.setTx 5 { s.dev.txn 5 with fade := { k := 0, g := 0, s := 0 } } }


/-! ### Receive streams -/

/-- Word 0 of a receive stream's entry: two channels of six samples on port 0, 64 periods deep or less. -/
def rxW0 : Nat := 2 ^ 31 + 2 ^ 26 + 2 ^ 16 + 6 * 64
/-- Stream 5 in state `st`, flowing when `flow`, its buffer holding period 96. -/
def xRx (st : Nat) (ena flow : Bool) (f : RxS → RxS) : State :=
  onD fun d =>
    let ws : List Word := [wd rxW0, 0x00000040, 0x00100000, 0, 0, 0]
    let d1 := ((List.range 6).foldl (fun d i => d.setTw .rxs 5 i (ws.getD i 0)) d)
    let d2 := if ena then d1 else d1.setTw .rxs 5 0 (wd (rxW0 - 2 ^ 31))
    (d2.setRx 5 (f { st := st, adm := ws, ent := ws, g := 0, flowing := flow, slots := [⟨95, false, [1, 2], false⟩, ⟨96, false, [3, 4], false⟩, ⟨97, false, [5, 6], false⟩], shown := some (95, 0), good := [7, 8] })).setExt (consRx 5)
      { start := 20, treads := [30], g := 7, apt := 0 }
/-- Stream 5 asks for admission. -/
def xRxAsk (w1 : Nat) (ena : Bool) : State :=
  let s := xRx 1 ena false id
  { s with dev := ((s.dev.setExt (consRx 5) {}).setRx 5 { st := 1, g := 0, adm := [wd rxW0, wd w1, 0x00100000, 0, 0, 0] }).lndMap fun l => { l with admitQ := [⟨1, 0, consRx 5⟩] } }
/-- Later, so that the pipe of the port has passed. -/
def later (s : State) : State := { s with root := { s.root with ec := 517120000 } }


/-! ### The route engine -/

/-- A contribution of entry `e` from `src` to `dst`, its ramp running over `n` periods. -/
def contr (e src dst n : Nat) : Contr := { e := e, src := src, dst := dst, fade := 10, ramp := { g0 := 4194304, g1 := 2097152, j := 0, n := n }, valid := true }
/-- The engine with contributions, a crossfade in progress or not, a swap pending or not; sources have supplied period 96. -/
def yRte (con : List Contr) (fading : Bool) (pending : Option (Int × Bool)) : State :=
  onD fun d =>
    let d1 := { d with rte := { d.rte with con := con, fading := fading, pending := pending, last := some (95, 0), live := 0 },
                       chan := [(0x10, [⟨96, 0x12345600, 5⟩, ⟨95, 0x100, 4⟩]), (0x11, [⟨96, 0x7FFFFF00, 9⟩])] }
    (((d1.setTw .route1 3 0 0x80001000).setTw .route1 3 1 0x00100001).setTw .route1 3 2 0x400000)
/-- The same with a staged entry that names no destination. -/
def yBad : State := let s := yRte [] false (some (512000000, false)); { s with dev := s.dev.setTw .route1 4 0 0x8000FFFF }
/-- The same while the last evaluated period is the present one. -/
def yDone (pending : Option (Int × Bool)) : State :=
  let s := yRte [contr 1 0x10 0x1000 0] false pending
  { s with dev := s.dev.rteMap fun x => { x with last := some (96, 0) } }


/-! ### Serial audio ports -/

/-- Port 2 with two slots of 16 bits in frames of 64, its CTRL word `ctl`, its state as `f` makes it. -/
def zSap (ctl : Nat) (f : SapS → SapS) : State :=
  onD fun d =>
    let d1 := ((d.setReg (.sap 2) 0x040 2).setReg (.sap 2) 0x048 0x01000040).setReg (.sap 2) 0x044 (wd ctl)
    (d1.setSap 2 (f { slots := 2, bufLog := 1, clk := 0, good := 99, lastEdge := 512000000, fmt := 2, len := 64, inG := { g1 := 4194304 }, outG := { g1 := 4194304 } })).setExt (consSap 2)
      { start := 20, treads := [30, 31], g := 7, apt := 0 }
/-- Port 2 asks for admission. -/
def zAsk (ctl : Nat) (f : Dev → Dev) : State :=
  let s := zSap ctl fun x => { x with st := 1 }
  { s with dev := f ((s.dev.setExt (consSap 2) {}).lndMap fun l => { l with admitQ := [⟨1, 0, consSap 2⟩] }) }
/-- Port 2 running, index `i` of a frame taken, FS as `on`, its last whole frame that of period `k`. -/
def zRun (clk i : Nat) (on : Bool) (k : Int) (g : SapS → SapS) : State :=
  zSap 7 fun x => g { x with
    st := 4, clk := clk, fsOn := on, lastEdge := 511985000, drv := 511984000, lastK := some k, phi0 := some 0, cur := some
      { edge := 506666667, i := i, second := decide (32 ≤ i), k := some 96, fmt := 2, len := 64, slots := 2, live := true, inp := true,
        out := true, drives := true, gin := 4194304, gout := 4194304 } }
/-- That port as an edge finds it. -/
def zSeen (s : State) : Dev :=
  sapFrame s.root 2 [] (pageUse s.root (.sap 2) [0x040, 0x044, 0x048, 0x04C, 0x050] (pageUse s.root .ref [0x040, 0x0B8, 0x198] s.dev))


/-! ### Monitors and telemetry -/

/-- Slot 40 counts the occupancy of corridor 3; it has counted before. -/
def oSlot (ena : Bool) : State :=
  onD fun d => (((d.setTw .monslot 40 0 (if ena then 0x89000000 else 0x09000000)).setTw .monslot 40 1 0x00030000).monMap fun m => { m with count := [(40, 8)] }).setCor 3 { st := .active, sizeLog := 1, wr := 64 }
/-- Corridor 3 takes records, of gallery 0's logs and alarms. -/
def oCor (st : CorSt) (f : Dev → Dev) : State :=
  onD fun d => f (((d.setReg .log 0x060 0xE3030303).setCor 3 { st := st, sizeLog := 2, cfg := 0x80000002 }).setExt (consCor 3)
    { start := 8, treads := [4, 5, 6, 10], g := 0, apt := 0 })
/-- A trace waits for the telemetry writer. -/
def oTrace (st : CorSt) : State := oCor st fun d => d.logMap fun l => { l with queue := [⟨false, 0, 9, 4, 1, 5⟩, ⟨true, 0, 8, 4, 1, 5⟩] }
/-- Alarm entry 4 of gallery 0, its record pending or not. -/
def oAlarm (pending : Bool) : State := oCor .active fun d => (d.setTw .alarm 4 0 (if pending then 0xC0000009 else 0x80000009)).setTw .alarm 4 3 7
/-- The supervisors in a state, and blocks armed. -/
def oSup (st : Nat) : State :=
  onD fun d => { ((d.setReg (.mcs 0) 0x01C 1).fltMap fun f => { f with tempState := st, total := 7 }) with rails := 5 }


/-! ### States and operands that meet the hypotheses of the claims: power, registers, galleries -/

theorem meets_PinsStartAndStop :
    pOff.root.power = .off ∧ bankDown pOff.dev 3 = false ∧ base.root.power ≠ .off ∧ base.root.coreOn = true ∧ pShelf.root.power = .shelf ∧
      pHeld.root.power = .rstHeld ∧ bankDown pHeld.dev 3 = false := by decide

theorem meets_SuppliesAndClocks : pXo.root.coreOn = true ∧ pXo.dev.clk.xoSrc = true ∧ pXo.root.power ≠ .off := by decide

/-- SLEEP_CMD can be written with every TARGET. -/
theorem meets_SleepCommandAndCommit_write : ∀ n < 8, canWrite base 0 .pwr 0x040 (wd n) = true := by decide

/-- A commit waits alone; with an entry that can wake or none, and with entries latched or none. -/
theorem meets_SleepCommandAndCommit_commit :
    (∀ n ∈ [0, 1, 2, 3, 4, 7], (pPosted n true 0).root.coreOn = true ∧ (pPosted n true 0).dev.post .pwr = some { off := 0x040, ws := [wd n] } ∧
      ((pPosted n true 0).dev.posted.any fun p => p.1 != Blk.pwr.page && p.2.isSome) = false) ∧
    ((List.range 16).any fun i => watchActs (watchOf (pPosted 2 false 0).dev i)) = false ∧
    ((List.range 16).any fun i => watchActs (watchOf (pPosted 2 true 0).dev i)) = true ∧ (pPosted 3 true 0x8000).dev.pwr.latched ≠ 0 ∧
    (pPosted 1 true 0).root.running = true := by decide

/-- TARGET 0 committed in QUIET. -/
theorem meets_SleepCommandAndCommit_run :
    let s : State := { pQuiet with dev := pQuiet.dev.setPost .pwr (some { off := 0x040, ws := [0] }) }
    s.root.power = .quiet ∧ s.root.coreOn = true ∧ s.dev.post .pwr = some { off := 0x040, ws := [0] } := ⟨rfl, rfl, rfl⟩

theorem meets_PowerPassages :
    pQuieting.root.power = .run ∧ pQuieting.root.quietReq = some true ∧ pQuiet.root.power = .quiet ∧ pQuiet.root.quietReq = some false ∧
    (pEnter true 3).root.power = .entering true ∧ (pEnter false 0).root.power = .entering false ∧ (pEnter true 3).dev.pwr.latched ≠ 0 ∧
    pDoze.root.power = .doze ∧ watchFires (watchOf pDoze.dev 15) true = true ∧ watchDead pDoze.dev (fld (watchOf pDoze.dev 15) 9 0) true = false ∧
    pShelf.root.power = .shelf ∧ pShelf.root.en = true ∧ watchFires (watchOf pShelf.dev 15) true = true ∧ watchDead pShelf.dev (fld (watchOf pShelf.dev 15) 9 0) true = false ∧
    (pWake true).root.power = .waking true ∧ (pWake true).dev.post .pwr = none ∧ (pWake false).root.power = .waking false := by decide

theorem meets_EcWraps : pLast.root.coreOn = true := by decide


theorem meets_FailedWritesAreReported_busy :
    regRight rBusy.root rBusy.dev 0 (.mcs 0) 0x040 1 = .ok ∧ rBusy.dev.busy (.mcs 0) = true ∧ ((Blk.mcs 0).reg 0x040).map isPw = some true ∧
    ((Blk.mcs 0).reg 0x040).map (fun x => isLo (.mcs 0) x 1) = some false := by decide

theorem meets_FailedWritesAreReported_table :
    place (Tbl.txs.addr 5 0) = .table .txs 5 0 ∧ tableRight base.root base.dev 4 .txs 5 = .outside ∧
    place (Tbl.alarm.addr 127 7) = .table .alarm 127 7 ∧ tableRight base.root base.dev 1 .alarm 127 = .outside ∧
    tableRight base.root base.dev 0 .alarm 127 = .ignored ∧
    (rFault.dev.pg .flt).valid = true ∧ (base.dev.pg .flt).valid = false := by decide

theorem meets_RegisterWritesTake :
    canWrite base 0 (.mcs 7) 0x200 5 = true ∧ ((Blk.mcs 7).reg 0x200).map (·.ty) = some .rw ∧ canWrite base 0 .flt 0x048 0xFFFFFFFF = true ∧
    canWrite base 0 .dev 0x018 7 = true ∧ canWrite base 0 .dev 0x01C 0x10001 = true ∧ canWrite rFault 0 .flt 0x00C 0xFFFFFFFF = true ∧
    (rFault.dev.pg .flt).bits ≠ 0 ∧ (rFault.dev.pg .flt).survives rFault.root 0 4 = true ∧ (rFault.dev.pg .flt).survives rFault.root 1 4 = false ∧
    (rFault.dev.pg .flt).survives { rFault.root with ec := rFault.root.ec + 2 ^ 16 } 0 4 = false := by decide

/-- A write that fails each of the five checks: a reserved page, no steward, no owner, a sealed register, a busy page. -/
theorem meets_FailedWritesAreReported :
    reaches base 0 = true ∧ reaches base 5 = true ∧ place 0x1FFFFC = .reserved ∧ place ((Blk.mcs 0).addr 0x044) = .reg (.mcs 0) 0x044 ∧
    ((Blk.mcs 0).reg 0x044).isSome = true ∧ regRight base.root base.dev 1 (.mcs 0) 0x040 1 = .notSteward ∧
    regRight base.root base.dev 1 .trg 0x110 1 = .outside ∧ regRight rSealed.root rSealed.dev 0 .gal 0x050 1 = .ok ∧ rSealed.dev.sealed = true ∧
    (Blk.gal.reg 0x050).map (fun x => isLo .gal x 1) = some true := by decide

theorem meets_GroupsAndEntriesCommitWhole :
    (Blk.tbe.reg 0x080).map (·.ty) = some (.lwRo 19) ∧ (Blk.tbe.reg 0x084).map (·.ty) = some (.shRo 1) ∧ reaches rHeld 0 = true ∧
    ((Blk.ptp 0).reg 0x058).map (·.ty) = some (.shRw 1) ∧ canWrite rHeld 0 (.ptp 0) 0x058 7 = true ∧
    canWrite rHeld 0 (.ptp 1) 0x054 7 = true ∧ canCommit rHeld 0 .flow 3 5 = true ∧ canCommit rHeld 0 .flow 4095 5 = true ∧
    tornEntries rHeld.dev 0 .flow 3 ≠ [] ∧ ((Blk.mcs 7).reg 0x200).map (·.ty) = some .rw := by decide

theorem meets_PostedWrites :
    (Blk.clk.reg 0x044).map (·.ty) = some .pw ∧ canWrite base 0 .clk 0x044 3 = true ∧ rPosted.root.coreOn = true ∧
    rPosted.dev.post .clk = some { off := 0x044, ws := [1] } ∧ Blk.clk ∈ Blk.all := by decide

theorem meets_ParityIsChecked_scrub :
    rParity.root.coreOn = true ∧ scrubFind 4096 rParity.dev.scrubAt = 0x14 ∧ rParity.dev.rb (ownerBlk 0x14) 0x014 1 = true ∧ 0x14 ∈ rParity.dev.parityBad ∧
    (base.dev.setReg .dev 0x014 0).rb (ownerBlk 0x14) 0x014 1 = false ∧ 0x14 ∉ base.dev.parityBad := by decide

theorem meets_ParityIsChecked_inject :
    injects .flt 0 rInject.dev = true ∧ hasParity (rInject.dev.rf .flt 0x050 20 0 / 4 * 4) = true ∧ injects .flt 0 base.dev = false := by decide

theorem meets_ClaimOperations :
    reaches gClaims 0 = true ∧ gClaims.dev.gal.claimCyc ≠ gClaims.root.ec / cfgUnits + 1 ∧ holderOf gClaims.dev 0 = 7 ∧ holderOf gClaims.dev 2 = 0 ∧
    holderOf gClaims.dev 1 = 1 ∧ gClaims.root.house = 0 := by decide

theorem meets_PartitionSealSleepAndResets_partition :
    canWrite (gPart .corridor 5) 0 .gal 0x050 6 = true ∧ canWrite (gPart .aptLimit 2) 0 .gal 0x050 0x80000000 = true ∧ partSel (gPart .corridor 5).dev = some (.corridor, 5) ∧
    partSel (gPart .aptLimit 2).dev = some (.aptLimit, 2) ∧ partSel (gPart .corridor 300).dev = none ∧ canWrite base 0 .dev 0x044 1 = true ∧
    reaches gAwake 4 = true ∧ bitOf 0x00100000 20 = true ∧ bitOf 0x00100000 4 = false := by decide

theorem meets_PartitionSealSleepAndResets_resets :
    canWrite gAwake 0 .gal 0x054 0x3F = true ∧ gAwake.root.coreOn = true ∧ gAwake.dev.hif.linkUp = true := by decide

/-- A device whose PCIe link is down, and may train. -/
def gDown : State := onD fun d => d.hifMap fun h => { h with linkUp := false }
theorem meets_PcieFunctions :
    gDown.root.coreOn = true ∧ gDown.dev.hif.linkUp = false ∧ gDown.dev.hif.perst = false ∧ gAwake.root.coreOn = true ∧ gAwake.dev.hif.linkUp = true := by decide

/-- A one-word write and a one-word read of the map with the right CRC, and the other frames; a write with a wrong CRC. -/
theorem meets_VelgeletFrames :
    base.root.coreOn = true ∧ bankDown base.dev 3 = false ∧ injects .hif 0 base.dev = false ∧ injects .hif 1 base.dev = false ∧
    injects .hif 1 ((base.dev.setReg .hif 0x018 1).setReg .hif 0x01C 1) = true ∧
    Frame.crcOk { op := .wr, len := 0, addr := 0x1014, data := [5], crc := 0xe8, sck := 250000 } = true ∧
    Frame.crcOk { op := .wr, len := 0, addr := 0x1014, data := [5], crc := 0xe9, sck := 250000 } = false ∧
    Frame.badAddr { op := .wr, len := 0, addr := 0x1014, data := [5], crc := 0, sck := 250000 } = false ∧
    Frame.inApt { op := .wr, len := 0, addr := 0x1014, data := [5], crc := 0, sck := 250000 } = false ∧
    Frame.notReady base.dev 0 { op := .wr, len := 0, addr := 0x1014, data := [5], crc := 0, sck := 250000 } = false ∧
    Frame.badAddr { op := .wr, len := 0, addr := 0x200000, data := [5], crc := 0x6A, sck := 0 } = true ∧
    Frame.crcOk { op := .wr, len := 0, addr := 0x200000, data := [5], crc := 0x6A, sck := 0 } = true := by decide +kernel

theorem meets_VelgeletFrames_others :
    Frame.crcOk { op := .rd, len := 0, addr := 0x1014, data := [], crc := 0x5f, sck := 250000 } = true ∧
    Frame.inApt { op := .rd, len := 0, addr := 0x1014, data := [], crc := 0x5f, sck := 250000 } = false ∧
    Frame.badAddr { op := .rd, len := 0, addr := 0x1014, data := [], crc := 0x5f, sck := 250000 } = false ∧
    Frame.badAddr { op := .rd, len := 0, addr := 0x1015, data := [], crc := 0x58, sck := 0 } = true ∧
    Frame.crcOk { op := .rd, len := 0, addr := 0x1015, data := [], crc := 0x58, sck := 0 } = true ∧
    Frame.notReady (pageUse base.root .hif [0x054] base.dev) 1 { op := .rd, len := 0, addr := 0x1014, data := [], crc := 0, sck := 250000 } = false ∧
    Frame.crcOk { op := .rdLink, len := 0, addr := 0, data := [], crc := 0x56, sck := 0 } = true ∧
    Frame.crcOk { op := .rdLink, len := 0, addr := 1, data := [], crc := 0x51, sck := 0 } = true ∧
    Frame.crcOk { op := .echo, len := 1, addr := 0, data := [], crc := 0xAA, sck := 0 } = true ∧
    Frame.crcOk { op := .echo, len := 0, addr := 0xFFFFFFFF, data := [], crc := 0x16, sck := 0 } = true ∧
    Frame.crcOk { op := .other 5, len := 15, addr := 0, data := [], crc := 0xca, sck := 0 } = true := by decide +kernel

/-- A port without power; a sleeping one, with a frame whose CRC is wrong, one with a bad command, RD_LINK, and another. -/
theorem meets_VelgeletFrames_asleep :
    bankDown { base.dev with rails := 64 } 3 = true ∧ bankDown base.dev 3 = false ∧
    (let f : Frame := { op := .rdLink, len := 0, addr := 0, data := [], crc := 0x56, sck := 0 }
     f.crcOk = true ∧ f.badCmd = false ∧ Frame.crcOk { f with crc := 0 } = false) ∧
    (let f : Frame := { op := .other 5, len := 15, addr := 0, data := [], crc := 0xca, sck := 0 }
     f.crcOk = true ∧ f.badCmd = true) ∧
    (let f : Frame := { op := .echo, len := 0, addr := 0xFFFFFFFF, data := [], crc := 0x16, sck := 0 }
     f.crcOk = true ∧ f.op ≠ .rdLink ∧ f.badCmd = false) := by decide +kernel

theorem meets_ApertureAccesses :
    reaches base 0 = true ∧ aptSegs base.dev 0 0 4 = [(none, 4)] ∧ reaches gMapped 0 = true ∧
    aptSegs gMapped.dev 0 0x1000 4 = [(some (consCor 5, 0), 4)] := by decide

/-! ### Events -/

theorem meets_DispatchAndDelivery_edge :
    eSources.root.coreOn = true ∧ (∀ n ∈ [40, 41, 43], isLevel n = false ∧ 0 < (eSources.dev.src n).pulses) ∧ (eSources.dev.src 40).st = .idle ∧
    (eSources.dev.src 43).st = .active ∧ (eSources.dev.src 41).st = .pending ∧ isLevel 49 = false ∧ (eSources.dev.src 49).pulses = 0 := by decide

/-- Line 70 is high and was sampled low; high and sampled high; low. -/
theorem meets_DispatchAndDelivery_level :
    isLevel 70 = true ∧ lineOf (eLevel false).root (eLevel false).dev 70 = true ∧ ((eLevel false).dev.src 70).sampled = false ∧
    ((eLevel true).dev.src 70).sampled = true ∧ isLevel 71 = true ∧ lineOf (eLevel false).root (eLevel false).dev 71 = false := by decide

theorem meets_DispatchAndDelivery_dispatch :
    (let w := listed eSources.dev (waits eSources.dev); ((w.find? fun k => (eSources.dev.src k).first).or w.head?) = some 49) ∧
    nextTarget eSources.dev (eSources.dev.src 49) = some 1 ∧ listed base.dev (waits base.dev) = [] := by decide

/-- Target 1 has one source since EC 5 and collects one; target 0 has none; a collection of two stays open. -/
theorem meets_DispatchAndDelivery_collect :
    collection eSources.dev 1 = [42] ∧ max 1 (fld (eSources.dev.reg (.evt 0) 0x084) 7 0) ≤ 1 ∧ collection eSources.dev 0 = [] ∧
    (let s : State := { eSources with dev := eSources.dev.setReg (.evt 0) 0x084 0xFFFF0002 }
     collection s.dev 1 = [42] ∧ 1 < max 1 (fld (s.dev.reg (.evt 0) 0x084) 7 0) ∧ s.root.ec < 5 + fld (s.dev.reg (.evt 0) 0x084) 31 16 * 256000) ∧
    holds (eDue false true).dev 1 = true := by decide

/-- Decisions none of which is held, to a target that takes them and to one that blocks them; held ones whose condition has ended, and goes on. -/
theorem meets_DispatchAndDelivery_deliver :
    (let s := eDue false false
     (s.dev.tgt 1).held = false ∧ (s.dev.tgt 1).waiting.find? (!·.2) = some (2, false) ∧ msixBlocked s.dev 1 = false ∧
     msixBlocked (s.dev.hifMap fun h => { h with d3hot := 1 }) 1 = true) ∧
    (let s := eDue true false; (s.dev.tgt 1).held = true ∧ holds s.dev 1 = false) ∧
    (let s := eDue true true; (s.dev.tgt 1).held = true ∧ holds s.dev 1 = true ∧ (s.dev.tgt 1).waiting.find? (!·.2) = some (3, false)) ∧
    (let d := (eDue true true).dev.setTgt 1 { made := 3, waiting := [(3, true)] }; (d.tgt 1).held = true ∧ (d.tgt 1).waiting.find? (!·.2) = none) ∧
    (base.dev.tgt 1).waiting = [] := by decide

/-- A target of a QSPI gallery whose collection closes, with no interrupt pad mapped. -/
theorem meets_DispatchAndDelivery_pad :
    let d := (base.dev.setSrc 40 { st := .dispatched, tgt := 33, set := 2 ^ 33, mask := false, dispEC := 5 }).setReg .hif 0x058 0
    collection d 33 = [40] ∧ holds d 33 = false ∧ irqMap d 33 = 0 ∧ irqMap (d.setReg .hif 0x058 4) 33 = 1 := by decide

theorem meets_ClaimAndComplete :
    reaches eSources 0 = true ∧ reaches eSources 1 = true ∧ atTarget eSources.dev 1 = [42] ∧ atTarget eSources.dev 0 = [] ∧
    canWrite eSources 0 (.evt 0) 0x0E4 43 = true ∧ (eSources.dev.src 43).act = true ∧ (eSources.dev.src 43).tgt = 1 ∧ (eSources.dev.src 43).st = .active ∧
    (eSources.dev.src 44).st = .activePending ∧ (eSources.dev.src 44).tgt = 1 ∧ fld 0x3FF 9 0 = 0x3FF ∧ (eSources.dev.src 511).act = false := by decide

theorem meets_SourceRegisters :
    (∀ e ∈ [none, some (0 : Gal)], canWrite eSelected 0 (lineBlk e) (0x100 + 4 * 15) 0xFFFFFFFF = true ∧ canWrite eSelected 0 (lineBlk e) 0x140 1 = true) ∧
    canWrite eSelected 0 (.evt 0) 0x04C 0x30003 = true ∧ canWrite eSelected 0 (.evt 0) (0x050 + 8) 0xFFFFFFFF = true ∧
    canWrite eSelected 0 (.evt 0) 0x040 0xFF = true ∧ srcSel eSelected.dev 0 = 42 ∧ (eSelected.dev.src 42).setCyc ≠ eSelected.root.cyc + 1 := by decide

/-! ### Timebase -/

theorem meets_ViewSets :
    (∀ k < 4, canWrite tFeed 0 .tbe 0x120 (wd k) = true) ∧ tFeed.dev.feed 0 = true ∧ base.dev.feed 2 = false ∧ canWrite base 0 .tbe 0x220 0 = true ∧
    tFeed.dev.tb.atView = 2 ∧ base.dev.feed 2 = false ∧ tFeed.dev.tb.switching = false ∧ tFeed.dev.tb.eraEC ≠ tFeed.root.ec := by decide

/-- Line 31 stamps anew, line 16 is inside its dead time, line 15 waits for a third edge. -/
theorem meets_StampsAreTaken :
    tEdges.root.coreOn = true ∧ bankDown tEdges.dev 2 = false ∧ stampsEdge tEdges.dev 31 true = true ∧ nget tEdges.dev.tb.lastEdge 31 = 0 ∧
    stampsEdge tEdges.dev 16 true = true ∧ 0 < nget tEdges.dev.tb.lastEdge 16 ∧
    tEdges.root.ec + tdcFine tEdges.root tEdges.dev 255 < nget tEdges.dev.tb.lastEdge 16 - 1 + 2048 ∧
    (refDiv 5 (base.dev.setReg .ref 0x0B4 0x30001)).1 = false ∧ (refDiv 5 base.dev).1 = true ∧ stampsEdge tEdges.dev 4 true = false ∧
    tEdges.dev.rb .tbe 0x040 4 = true ∧ (tEdges.dev.setReg .tbe 0x040 0).rb .tbe 0x040 4 = false ∧ reaches tEdges 5 = true := by decide +kernel

/-- A delimiter of port 1 without its pin, and ones of port 0 with their pin: the window still open, and closed over one edge, two edges and none. -/
theorem meets_StampsAreTaken_sfd :
    (let s := tEdges; s.dev.rb .tbe 0x040 3 = false ∧ s.dev.tb.trackFail = false ∧ injects .tbe 0 s.dev = false ∧ (s.dev.netp 1).awaitTx = []) ∧
    (let s := tPins
     let at' := boundaryStamp s.dev 0 false 0 511905000
     let adj : Int := sgn (fld (phyLat s.dev 0 false 0) 31 20) 12 * 4
     let win : Int := (max 1 (s.dev.rf .tbe 0x078 7 0) * 256 : Nat)
     let edges := fun (ch : Nat) => (lget s.dev.tb.hist ch).filter fun x =>
       x.era == stampEra s.dev at' && decide (at' + adj - win ≤ x.ec ∧ (x.ec : Int) < at' + adj + win)
     (∀ ch < 4, s.dev.rb .tbe 0x040 ch = true) ∧ at' + adj + win ≤ s.root.ec ∧ (s.root.ec : Int) < boundaryStamp s.dev 0 false 0 512000000 + adj + win ∧
     injects .tbe 1 s.dev = false ∧ injects .tbe 1 ((s.dev.setReg .tbe 0x018 1).setReg .tbe 0x01C 1) = true ∧
     (edges 0).length = 1 ∧ (edges 1).length = 2 ∧ edges 2 = []) := by decide +kernel


/-! ### States and operands that meet the hypotheses of the claims: PTP, references, synthesizers, triggers -/

theorem meets_ViewSets_shown :
    let d : Dev := { tFeed.dev with tb := { tFeed.dev.tb with atView := 0 } }
    d.tb.atView = 0 ∧ d.tb.switching = false ∧ d.feed 0 = true := by decide

theorem meets_PtpControl :
    canWrite base 0 (.ptp 1) 0x040 1 = true ∧ base.dev.rb (.ptp 1) 0x040 0 = false ∧ ptpRefuse base.root (base.dev.setReg (.ptp 1) 0x040 1) 1 = 0 ∧
    ptpRefuse base.root (base.dev.setReg (.ptp 1) 0x040 0x301) 1 = 3 ∧ canWrite base 0 (.ptp 1) 0x040 0 = true ∧
    canWrite base 0 (.ptp 0) 0x048 5 = true ∧ canWrite (tEngine 2 none id) 0 (.ptp 0) 0x048 1 = true ∧
    (tEngine 2 none id).dev.reg (.ptp 0) 0x048 ≠ 5 ∧ ((tServo 4 id).dev.srvn 0).st ≠ 0 := by decide

/-- A two-step and a one-step Sync of the parent, one of another identity and one from another port; the one-step Sync has an invalid stamp. -/
theorem meets_PtpReceive_sync :
    let m := ptpMsg 0 4 1 2 true
    let s := tEngine 2 (some m) id
    s.root.coreOn = true ∧ (s.dev.ptpn 0).rxQ = [m] ∧ pType m = 0 ∧ (s.dev.ptpn 0).st = 2 ∧ m.par = true ∧ pSrc m = ptpParent s.dev 0 ∧ pTwoStep m = true ∧
    pTwoStep (ptpMsg 0 4 1 2 false) = false ∧ ptpGood s.dev { ec := 511000000, era := 1, valid := false } = false ∧ (ptpMsg 0 4 9 2 true).par = false ∧
    pSrc { ptpMsg 0 4 9 2 true with par := true } ≠ ptpParent s.dev 0 := by decide

/-- A Follow_Up that arrives inside its window, one past it, one before it in the same era, one of another sequence, one from another port; none
awaited. -/
theorem meets_PtpReceive_followUp :
    let m := ptpMsg 8 4 1 2 false
    let s := tEngine 2 (some m) waiting
    let l := { m with stamp := { ec := 409600000000000, era := 1 } }
    pType m = 8 ∧ m.par = true ∧ pSrc m = ptpParent s.dev 0 ∧ (tTooLate.dev.ptpn 0).rxQ.map (·.stamp.ec) = [l.stamp.ec] ∧
    ((s.dev.ptpn 0).waitFU.map fun y => (decide (pSeq m = y.seq), decide (y.stamp.era = m.stamp.era), decide (y.stamp.ec ≤ m.stamp.ec),
      decide (m.stamp.ec < y.stamp.ec + pow2s (ptpLog s.dev 0 0)), decide (y.stamp.ec + pow2s (ptpLog s.dev 0 0) ≤ l.stamp.ec),
      ptpGood s.dev y.stamp)) = some (true, true, true, true, true, true) ∧
    ptpGood s.dev { ec := 511000000, era := 2 } = false ∧ (510999999 : Nat) < 511000000 ∧ pSeq (ptpMsg 8 5 1 2 false) ≠ 4 ∧ (ptpMsg 8 4 9 2 false).par = false ∧
    ((tEngine 2 none id).dev.ptpn 0).waitFU = none := by decide +kernel

/-- A Delay_Resp that finds its request, one that finds the request before it, one that finds none, one of another identity; with LOG_DREQ taken from
it, with POINT 1 armed, and with a stamp that discards the exchange. -/
theorem meets_PtpReceive_delay :
    let m := ptpMsg 9 4 1 2 false
    let s := tEngine 2 (some m) waiting
    let x := s.dev.ptpn 0
    pType m = 9 ∧ pSeq m = 4 ∧ x.dreq = some (4, some { ec := 510000000, era := 1 }) ∧ dreqOf x m = some (some { ec := 510000000, era := 1 }) ∧
    pReq m = ptpIdent s.dev 0 0x054 ∧ pReq (ptpMsg 9 4 1 3 false) ≠ ptpIdent s.dev 0 0x054 ∧ injects (.ptp 0) 1 s.dev = false ∧
    injects (.ptp 0) 1 ((s.dev.setReg (.ptp 0) 0x018 1).setReg (.ptp 0) 0x01C 1) = true ∧
    dreqOf { x with dreqPrev := some (5, none, 511999000) } (ptpMsg 9 5 1 2 false) = some none ∧ dreqOf x (ptpMsg 9 5 1 2 false) = none ∧ x.dreqPrev = none ∧
    (s.dev.setReg (.ptp 0) 0x040 0x1001).rb (.ptp 0) 0x040 12 = true ∧ ptpGood s.dev { ec := 510000000, era := 2 } = false ∧
    pType (ptpMsg 1 4 99 2 false) = 1 ∧ (tFull.dev.ptpn 0).st = 3 ∧ pSrc (ptpMsg 1 4 99 2 false) ∉ (tFull.dev.ptpn 0).served ∧
    64 ≤ (tFull.dev.ptpn 0).served.length ∧ pSrc (ptpMsg 1 4 63 2 false) ∈ (tFull.dev.ptpn 0).served := by decide +kernel

theorem meets_PtpReceive_peer :
    let s := tEngine 1 (some (ptpMsg 10 4 1 2 false)) (peering true)
    pType (ptpMsg 2 4 1 2 false) = 2 ∧ pType (ptpMsg 3 4 1 2 false) = 3 ∧ pType (ptpMsg 10 4 1 2 false) = 10 ∧
    ((s.dev.ptpn 0).pd.map fun e => (e.seq, e.src, e.t1.isSome, e.t2.isSome)) = some (4, 1, true, true) ∧
    pSrc (ptpMsg 10 4 1 2 false) = 1 ∧ pReq (ptpMsg 10 4 1 2 false) = ptpIdent s.dev 0 0x054 ∧ ptpGood s.dev { ec := 500000000, era := 1 } = true ∧
    ptpGood s.dev { ec := 511000000, era := 1 } = true ∧ ptpGood s.dev { ec := 511000000, era := 2 } = false ∧ (s.dev.ptpn 0).st = 1 ∧
    pReq (ptpMsg 3 4 1 3 false) ≠ ptpIdent s.dev 0 0x054 ∧ pSeq (ptpMsg 3 5 1 2 false) ≠ 4 ∧ ((tServo 3 id).dev.srvn 0).st ≠ 0 := by decide +kernel

theorem meets_PtpReceive_reports :
    pType (ptpMsg 11 4 1 2 false) = 11 ∧ pType (ptpMsg 12 4 1 2 false) = 12 ∧ pType (ptpMsg 13 4 1 2 false) = 13 ∧
    (tReports 11 true).dev.rb (.ptp 0) 0x068 8 = true ∧ (tReports 11 false).dev.rb (.ptp 0) 0x068 8 = false ∧
    (tReports 12 true).dev.rb (.ptp 0) 0x068 9 = true ∧ (tReports 12 false).dev.rb (.ptp 0) 0x068 9 = false ∧
    ((tReports 11 true).dev.cor 3).takes = false ∧ ((tTaken 11).dev.cor 3).takes = true ∧
    ((tTaken 11).dev.cor 3).fits [min ((ptpMsg 11 4 1 2 false).bytes.length + 16) (min (((tTaken 11).dev.cor 3).len - 16) 65528)] = true ∧
    injects .cor 0 (tTaken 11).dev = false ∧ ((tTaken 11).dev.ptpn 0).st = 2 := by decide +kernel

theorem meets_PtpSend_requests :
    ((tSends 0).dev.ptpn 0).dreqAt = some 5 ∧ (tSends 0).dev.rf (.ptp 0) 0x040 7 6 = 0 ∧ ptpParent (tSends 0).dev 0 ≠ 0 ∧
    ((tSends 0).dev.netp (ptpPort (tSends 0).dev 0)).link = true ∧ 0 < pow2s (ptpLog (tSends 0).dev 0 8) ∧ ptpRuns (tSends 1).dev 0 = true ∧
    (tSends 1).dev.rf (.ptp 0) 0x040 7 6 = 1 ∧ ((tSends 1).dev.ptpn 0).pdAt ≤ (tSends 1).root.ec := by decide +kernel

theorem meets_PtpSend_sync :
    (tSync.dev.ptpn 0).st = 3 ∧ (tSync.dev.netp (ptpPort tSync.dev 0)).link = true ∧
    syncSend.cdiv' (tSync.dev.tb.at'.val tSync.root.ec) (pow2s (ptpLog tSync.dev 0 0)) <
      syncSend.cdiv' (tSync.dev.tb.at'.val (tSync.root.ec + 512)) (pow2s (ptpLog tSync.dev 0 0)) := by decide +kernel

theorem meets_PtpSend_answers :
    let s := tEngine 3 none answering
    (s.dev.ptpn 0).syncOut = [(4, some { ec := 511000000, era := 1 })] ∧ (s.dev.ptpn 0).answers = [(1, 4, { ec := 511000000, era := 1 }, 0)] ∧
    (s.dev.ptpn 0).pdAnswers = [(1, 4, 0, some { ec := 511000000, era := 1 })] ∧ ptpGood s.dev { ec := 511000000, era := 1 } = true ∧
    ptpGood s.dev { ec := 511000000, era := 2 } = false := by decide

theorem meets_PtpSend_timeout :
    ((tTimeout 4).dev.ptpn 0).st = 2 ∧
    ((tTimeout 4).dev.ptpn 0).syncEC + max 1 ((tTimeout 4).dev.rf (.ptp 0) 0x060 31 24) * pow2s (ptpLog (tTimeout 4).dev 0 0) ≤ (tTimeout 4).root.ec ∧
    1 ≤ ((tTimeout 4).dev.srvn 0).st ∧ ((tTimeout 4).dev.srvn 0).st ≤ 4 := by decide +kernel

theorem meets_ServoCommands :
    ((tServo 3 fun x => { x with stepDue := some (-5) }).dev.srvn 0).stepDue = some (-5) ∧ (tServo 3 id).dev.feed 0 = false ∧
    ((tServo 3 id).dev.setReg .tbe 0x060 1).feed 0 = true ∧
    max 1 ((tServo 3 id).dev.rf (.srv 0) 0x054 23 16) ≤ ((tServo 3 fun x => { x with lockRun := 255 }).dev.srvn 0).lockRun ∧
    (tServo 4 id).dev.rb (.srv 0) 0x040 3 = true ∧
    max 1 ((tServo 4 id).dev.rf (.srv 0) 0x054 31 24) ≤ ((tServo 4 fun x => { x with narrow := 255 }).dev.srvn 0).narrow ∧
    (let d := (tServo 4 id).dev
     let gain := fun (k lo : Nat) => gainAt (d.rf (.srv 0) 0x048 (lo + 15) lo) (d.rf (.srv 0) 0x04C (lo + 15) lo) k
     ¬(gain 0 0 ≤ d.rf (.srv 0) 0x04C 15 0 ∧ gain 0 16 ≤ d.rf (.srv 0) 0x04C 31 16) ∧
     gain 15 0 ≤ d.rf (.srv 0) 0x04C 15 0 ∧ gain 15 16 ≤ d.rf (.srv 0) 0x04C 31 16) ∧
    canWrite (tServo 0 id) 0 (.srv 0) 0x040 1 = true ∧ (tServo 0 id).dev.rb (.srv 0) 0x040 0 = false ∧ (tServo 0 id).dev.rf (.ptp 0) 0x040 5 4 ≠ 1 ∧
    ((tServo 0 id).dev.ptpn 0).st = 2 ∧ canWrite (tServo 0 id) 0 (.srv 0) 0x040 0 = true ∧ canWrite (tServo 0 id) 0 (.srv 0) 0x07C 1 = true := by decide

/-- Inputs in each state, their timers run out or running, enabled and not; one whose edge is still due, and one without signal; POINTs 0 and 1. -/
theorem meets_RefInputs :
    let s := fInputs (ticking 1 0 0 true)
    s.root.coreOn = true ∧ s.dev.flt.tempValid = true ∧ base.dev.flt.tempValid = false ∧ refEna s.dev 7 = true ∧ refEna fNone.dev 7 = false ∧
    (s.dev.rin 7).st = 1 ∧ (s.dev.rin 7).timer = 0 ∧ (s.dev.rin 7).lost = true ∧ refLos s.root s.dev 7 = false ∧
    ((fInputs (ticking 1 0 0 false)).dev.rin 7).lost = false ∧
    ((fInputs (ticking 2 0 300 false)).dev.rin 7).st = 2 ∧ qualTime s.dev ≤ 300 ∧ ((fInputs (ticking 3 0 0 true)).dev.rin 7).st = 3 ∧
    ((fInputs (ticking 3 0 0 true)).dev.rin 7).timer = 0 ∧ ((fInputs (ticking 4 0 0 true)).dev.rin 7).st = 4 ∧
    refLos (fInputs {}).root (fInputs {}).dev 7 = true ∧ ((fInputs (ticking 0 0 0 false)).dev.rin 7).st = 0 ∧
    refLos s.root (fInputs (ticking 0 0 0 false)).dev 7 = false ∧ injects .ref 0 s.dev = false ∧ s.dev.ref.sel ≠ 7 ∧
    (let d := ((fSel 2 7 false 0).dev.setReg .ref 0x01C 1); d.ref.sel = 7 ∧ injects .ref 0 d = true ∧ injects .ref 1 (d.setReg .ref 0x018 1) = true) := by
  decide +kernel

/-- A second measured without a fault, and one without an edge, for each state the check knows. -/
theorem meets_RefInputs_judged :
    (∀ st ∈ [1, 2, 3, 4], (refJudge (fGood { st := st }).root (fGood { st := st }).dev 2).1 = 0) ∧
    (∀ st ∈ [1, 2, 3, 4], (refJudge (fInputs { st := st, timer := 9 }).root (fInputs { st := st, timer := 9 }).dev 2).1 ≠ 0) := by decide +kernel

theorem meets_RefUpdates :
    let s := fSel 3 2 false 0
    s.root.coreOn = true ∧ s.dev.ref.st = 3 ∧ s.dev.ref.sel = 2 ∧ (s.dev.rin 2).rate = some 5000 ∧ s.dev.feed 2 = false ∧
    (fSel 1 1 false 0).dev.ref.sel < 2 ∧ (fSel 1 1 false 0).dev.tb.atView ≠ 2 ∧ (fSel 3 7 true 400000).dev.tb.switching = true ∧
    (fSel 3 7 true 400000).dev.ref.sel < 8 ∧ (s.dev.rin 0).st = 2 ∧ (s.dev.rin 1).st = 2 ∧ (fSel 4 2 false 0).dev.ref.st = 4 ∧
    (fSel 5 2 false 0).dev.ref.st = 5 ∧ (fTod 1).dev.ref.pps = some 511999000 ∧ (fTod 1).dev.rb .ref 0x160 0 = true ∧ (fTod 1).dev.ref.st ≤ 1 ∧
    (fTod 2).dev.rb .ref 0x160 0 = true ∧ 1 < (fTod 2).dev.ref.st ∧ (s.dev.setReg .tbe 0x060 4).feed 2 = true ∧ (fTod 1).dev.tb.eraEC ≠ (fTod 1).root.ec := by
  decide +kernel

theorem meets_RefUpdates_bounds :
    let near := fSel 3 0 true 0
    let far := fSel 3 0 true 400000
    ((near.dev.view 0).val near.root.ec - near.dev.atNow near.root).natAbs ≤ 1 ∧ near.dev.tb.switching = true ∧ near.dev.ref.st = 3 ∧
    1 < ((far.dev.view 0).val far.root.ec - far.dev.atNow far.root).natAbs ∧
    far.dev.tb.switching = true ∧ ((fLong 4).dev.reg .ref 0x078).toNat * (2000000 * secEC ^ 2) < holdBound (fLong 4).root (fLong 4).dev := by decide +kernel

theorem meets_RefCommands_preferred :
    canWrite (fSel 2 0 false 0) 0 .ref 0x048 7 = true ∧ ((fSel 2 0 false 0).dev.rin 7).st = 2 ∧ (fSel 2 0 false 0).dev.ref.sel = 0 ∧
    (fSel 2 0 false 0).dev.ref.st = 2 ∧ (fSel 3 0 true 0).dev.ref.st = 3 ∧ (fSel 0 0 false 0).dev.ref.st = 0 ∧ (fSel 5 0 false 0).dev.ref.st = 5 ∧
    (fSel 7 0 false 0).dev.ref.st = 7 ∧ canWrite base 0 .ref 0x048 9 = true := by and_intros <;> decide

theorem meets_RefCommands :
    canWrite base 0 .ref 0x160 1 = true ∧ canWrite base 0 .ref 0x090 1 = true ∧ canWrite base 0 .ref 0x090 2 = true ∧
    canWrite base 0 .ref 0x090 4 = true ∧ canWrite base 0 .ref 0x090 8 = true := by decide


/-! ### States and operands that meet the hypotheses of the claims: synthesizers, triggers, captures -/

/-- CTRL waits with EN set: from OFF with a band, with none, outside 70 to 90 Hz per CTRL unit, and with the band of no use. -/
theorem meets_McsPosted_enable :
    let s := mPost false { st := 0 } 0x040 [1]
    s.root.coreOn = true ∧ s.dev.post (.mcs 0) = some { off := 0x040, ws := [1] } ∧ bitOf (s.dev.pwv (.mcs 0) 0x040) 0 = false ∧
    (bandOf s.dev 0 0).isSome = true ∧ 70 ≤ mcsN s.dev 0 / 2 ^ 48 ∧ mcsN s.dev 0 ≤ 90 * 2 ^ 48 ∧
    (bandSelect (s.dev.setPwv (.mcs 0) 0x040 1) 0 (mcsN s.dev 0)).isSome = true ∧
    mcsN (mAt 0 0x450000 0x040 [1]).dev 0 / 2 ^ 48 < 70 ∧ 90 * 2 ^ 48 < mcsN (mAt 0 0x5B0000 0x040 [1]).dev 0 ∧
    bandSelect ((mAt 0 0x590000 0x040 [1]).dev.setPwv (.mcs 0) 0x040 1) 0 (mcsN (mAt 0 0x590000 0x040 [1]).dev 0) = none := by decide

theorem meets_McsPosted_noBand :
    let s : State := onD fun d => d.setPost (.mcs 0) (some { off := 0x040, ws := [1] })
    s.dev.post (.mcs 0) = some { off := 0x040, ws := [1] } ∧ (∀ j < 64, bandOf s.dev 0 j = none) ∧ (s.dev.mcsn 0).st = 0 := by decide

theorem meets_McsPosted_control :
    let on := mPost true { st := 3, rampSt := 1 } 0x040 [4]
    let mode := mPost true { st := 3, disc := 2 } 0x040 [1]
    let pulls : State := let s := mPost true { st := 3 } 0x040 [5]; { s with dev := s.dev.setPwv (.mcs 0) 0x040 1 }
    pulls.dev.post (.mcs 0) = some { off := 0x040, ws := [5] } ∧ fld (pulls.dev.pwv (.mcs 0) 0x040) 2 1 ≠ fld 5 2 1 ∧ bitOf (pulls.dev.pwv (.mcs 0) 0x040) 0 = bitOf 5 0 ∧
    (pulls.dev.mcsn 0).disc = 0 ∧ mode.dev.post (.mcs 0) = some { off := 0x040, ws := [1] } ∧ bitOf (mode.dev.pwv (.mcs 0) 0x040) 0 = bitOf 1 0 ∧ (on.dev.mcsn 0).rampSt = 1 ∧
    on.dev.post (.mcs 0) = some { off := 0x040, ws := [4] } ∧ bitOf (on.dev.pwv (.mcs 0) 0x040) 0 = true ∧ (on.dev.mcsn 0).st = 3 ∧
    ((mPost true { st := 5 } 0x040 [4]).dev.mcsn 0).st = 5 ∧ fld (mode.dev.pwv (.mcs 0) 0x040) 2 1 = 2 ∧ fld 1 2 1 ≠ 2 ∧
    bitOf ((mPost false { st := 3 } 0x040 [4]).dev.pwv (.mcs 0) 0x040) 0 = false := by decide

/-- A FREQ that is taken, one too far, one outside the band, and one during a ramp. -/
theorem meets_McsPosted_freq :
    let f := fun (s : State) => (mcsN s.dev 0 : Int)
    let s := mAt 3 0x500000 0x048 [0, 0x500001]
    s.dev.post (.mcs 0) = some { off := 0x048, ws := [0, 0x500001] } ∧ (s.dev.mcsn 0).st = 3 ∧
    ¬(f s * 200 < ((freqOf 0 0x500001 : Int) - f s).natAbs * 1000000) ∧ f s * 200 < ((freqOf 0 0x510000 : Int) - f s).natAbs * 1000000 ∧
    inBand (s.dev.mcsn 0).lim (freqOf 0 0x500001) 1 = true ∧
    (let e := mAt 3 0x53FD70 0x048 [0, 0x540083]
     ¬(f e * 200 < ((freqOf 0 0x540083 : Int) - f e).natAbs * 1000000) ∧ inBand (e.dev.mcsn 0).lim (freqOf 0 0x540083) 1 = false) ∧
    (mAt 0 0x500000 0x048 [0, 0x600000]).dev.post (.mcs 0) = some { off := 0x048, ws := [0, 0x600000] } ∧ ((mAt 0 0x500000 0x048 [0, 0x600000]).dev.mcsn 0).st = 0 ∧
    ((mPost true (mRamp 0 0 0) 0x048 [0, 0x500001]).dev.mcsn 0).rampSt ≠ 0 := by decide

theorem meets_McsPosted_outputs :
    let s := mPost true { st := 3, disc := 2 } 0x060 [0x80000001]
    s.dev.post (.mcs 0) = some { off := 0x060, ws := [0x80000001] } ∧ bitOf (s.dev.pwv (.mcs 0) 0x060) 31 = false ∧
    bitOf (s.dev.pwv (.mcs 0) 0x068) 31 = true ∧ fld (s.dev.pwv (.mcs 0) 0x068) 9 0 ≠ 1 ∧
    (mPost true { st := 3 } 0x06C [5]).dev.post (.mcs 0) = some { off := 0x06C, ws := [5] } ∧ (s.dev.mcsn 0).st = 3 ∧
    s.dev.pf (.mcs 0) 0x040 8 8 = 0 ∧ (s.dev.mcsn 0).bypass = 0 := by decide

/-- Phase errors that last long enough inside the window and outside it, and ones that do not; a ramp's segment ended and running, for each END. -/
theorem meets_McsRuns :
    let d := (mSyn true { st := 3 } id).dev
    let seen := fun (st n : Nat) (ps : Int) => [({ n := n, ps := ps } : PhaseRun)].foldl (Mcs.judge (lockWin d 0)) { st := st }
    let need := max 1 (d.pf (.mcs 0) 0x058 31 16)
    let loss := max 1 (d.pf (.mcs 0) 0x058 15 12)
    (mSyn true { st := 1 } id).root.coreOn = true ∧ need ≤ (seen 2 need 0).inWin ∧ (seen 2 (need - 1) 0).inWin < need ∧ loss ≤ (seen 3 loss 1000000).outWin ∧
    (seen 3 (loss - 1) 1000000).outWin < loss ∧ ((mSyn true { st := 2 } id).dev.mcsn 0).refLoss = false ∧ (d.mcsn 0).st = 3 ∧
    mcsEn (mSyn true { st := 4 } id).dev 0 = true ∧ mcsEn (mSyn false { st := 4 } id).dev 0 = false ∧
    injects (.mcs 0) 0 d = false ∧ injects (.mcs 0) 0 (d.setReg (.mcs 0) 0x01C 1) = true ∧ injects (.mcs 0) 1 ((d.setReg (.mcs 0) 0x01C 1).setReg (.mcs 0) 0x018 1) = true ∧
    d.pf (.mcs 0) 0x040 5 4 ≠ 1 ∧ (mRamp 0 20 0).rampSt = 1 ∧
    (((mRamp 0 20 0).prof.getD 0 (0, 1)).2 = 20 ∧ (mRamp 0 20 0).seg + 1 < (mRamp 0 20 0).prof.length) ∧
    (∀ act ∈ [0, 1, 2], ((mRamp 1 10 act).prof.getD 1 (0, 1)).2 ≤ (mRamp 1 10 act).elapsed ∧ (mRamp 1 10 act).prof.length ≤ (mRamp 1 10 act).seg + 1 ∧
      (mRamp 1 10 act).endAct = act) := by decide +kernel

theorem meets_McsCommands :
    let s := mSyn true { st := 3 } id
    canWrite s 0 (.mcs 0) 0x05C 1 = true ∧ canWrite s 0 (.mcs 0) 0x05C 2 = true ∧ canWrite s 0 (.mcs 0) 0x05C 4 = true ∧
    canWrite s 0 (.mcs 0) 0x05C 8 = true ∧ canWrite s 0 (.mcs 0) 0x404 63 = true ∧ (s.dev.mcsn 0).st = 3 ∧
    ((mSyn true (mRamp 0 5 0) id).dev.mcsn 0).rampSt = 1 ∧ ((mSyn true { st := 3, disc := 2 } id).dev.mcsn 0).disc = 2 := by and_intros <;> decide

/-- A profile of one segment of 10 ppb in 7 µs is slow enough, lies inside the band, and holds at its end. -/
theorem meets_McsCommands_profile :
    let s := mSyn true { st := 3, lim := (3000000, 4200000) } fun d => (d.setReg (.mcs 0) 0x100 10).setReg (.mcs 0) 0x104 7
    let d := s.dev
    (List.range (d.rf (.mcs 0) 0x0B0 3 0 + 1)).map (fun i => (sgn (d.reg (.mcs 0) (0x100 + 8 * i)).toNat 32, max 1 (d.rf (.mcs 0) (0x104 + 8 * i) 23 0))) = [(10, 7)] ∧
    ((10 : Int) * rUnits - 0).natAbs ≤ 200000 * rUnits * 7 ∧ mcsMode d 0 = 2 ∧
    inBand (d.mcsn 0).lim ((mcsN d 0 : Int) * (2 ^ 48 + (d.mcsn 0).rho) * (1000000000 + 10)).toNat (2 ^ 48 * 1000000000) = true ∧ d.rf (.mcs 0) 0x0B0 9 8 ≠ 1 := by
  decide +kernel

/-- A feedback stamp that is taken; none; one of another era; an output that is not fed back. -/
theorem meets_McsDiscipline :
    let s := mFed { st := 3, disc := 1, inRun := 16, missRun := 16 } (some { ec := 511990000, era := 1 })
    s.root.coreOn = true ∧ (s.dev.mcsn 0).disc = 1 ∧ (fbOutput s.dev 0).isSome = true ∧
    sget (fun _ => none) s.dev.fb (s.dev.rf (.mcs 0) 0x084 3 0) = some { ec := 511990000, era := 1 } ∧ s.root.ec < 511990000 + secEC / 500 ∧
    (s.dev.mcsn 0).taken ≠ some 511990000 ∧ s.dev.sameEra { ec := 511990000, era := 1 } = true ∧ s.dev.sameEra { ec := 511990000, era := 2 } = false ∧
    fbOutput (mSyn false { st := 3, disc := 1 } id).dev 0 = none ∧ 16 ≤ (s.dev.mcsn 0).inRun ∧ 16 ≤ (s.dev.mcsn 0).missRun ∧
    sget (fun _ => none) (mFed { disc := 4 } none).dev.fb 0 = (none : Option Stamp) ∧
    (∀ x ∈ ([{ st := 3, disc := 2 }, { st := 3, disc := 3 }, { st := 3, disc := 4 }, { st := 3, disc := 1, rampSt := 2 }] : List Mcs),
      ((mFed x none).dev.mcsn 0).disc = x.disc ∧ ((mFed x none).dev.mcsn 0).rampSt = x.rampSt ∧ (fbOutput (mFed x none).dev 0).isSome = true) := by decide

/-- Trigger 5 idle with a legal action, with a bad one, with a pad of another gallery, and armed. -/
theorem meets_TimeTriggers_arm :
    canWrite (aTrig .idle 1 5) 0 .trg 0x048 0xFFFFFFFF = true ∧ owner (aTrig .idle 1 5).root (aTrig .idle 1 5).dev .trgSlot 5 = 0 ∧
    trigBad (aTrig .idle 1 5).dev 5 = false ∧ trigNotOwner (aTrig .idle 1 5).root (aTrig .idle 1 5).dev 5 = false ∧
    trigBad (aTrig .idle 9 5).dev 5 = true ∧ ((aTrig .armed 1 5).dev.trig 5).st = .armed ∧ canWrite (aTrig .armed 1 5) 0 .trg 0x054 1 = true := by and_intros <;> decide

/-- Its time stands ahead of the cycle, at its first instant, within it, and behind it, with DROP and without. -/
theorem meets_TimeTriggers_fire :
    let v := fun (s : State) => (timebase s.dev (trigBase s.dev 5)).val s.root.ec
    let e := fun (s : State) => (timebase s.dev (trigBase s.dev 5)).val (s.root.ec + 512)
    (let s := aTrig .armed 1 512010752; e s ≤ trigTime s.dev 5 0) ∧ (let s := aTrig .armed 1 512010240; v s = trigTime s.dev 5 0) ∧
    (let s := aTrig .armed 1 512010751; trigTime s.dev 5 0 < e s ∧ v s < trigTime s.dev 5 0) ∧
    (let s := aTrig .armed 2 511999999; trigTime s.dev 5 0 < v s) ∧
    trigDrop (aTrig .armed 0x101 5).dev 5 = true ∧ trigDrop (aTrig .armed 1 5).dev 5 = false := by decide

/-- Actions that set, clear and pulse a pad; a channel that names the trigger; no earlier action of the cycle on the pad; a pulse that has ended and
one that goes on. -/
theorem meets_TimeTriggers_effects :
    let s := aTrig .armed 2 511999999
    trigAction s.dev 5 = 2 ∧ trigAction (aTrig .armed 3 5).dev 5 = 3 ∧ trigAction (aTrig .armed 1 5).dev 5 = 1 ∧
    fld (capCfg s.dev 8) 28 20 = 5 ∧ bitOf (capCfg s.dev 8) 31 = true ∧ lget s.dev.trg.level (trigArg s.dev 5) = [] ∧
    (511990000, 512000000) ∈ lget s.dev.trg.pulse 2 ∧ (512000000 : Nat) ≤ s.root.ec ∧ s.root.ec < 999999999 ∧
    (511000000, 999999999) ∈ lget s.dev.trg.pulse 3 ∧ ((aTrig .idle 1 5).dev.trig 5).st ≠ .armed := by decide

/-- The oldest stamp stands 2047 units after the latest, within the hold-off, and clear of both. -/
theorem meets_CapturesAreRecorded :
    ((aCap (some 510997953) 0x80000000).dev.capt 2).last = some { ec := 510997953, era := 1 } ∧ 511000000 < 510997953 + 2048 ∧
    fld (capCfg (aCap (some 510000000) 0x80000FFF).dev 2) 11 0 * 25600000 = 4095 * 25600000 ∧ ¬(511000000 < 510000000 + 2048) ∧
    fld (capCfg (aCap (some 510997952) 0x80000000).dev 2) 11 0 = 0 ∧ reaches (aCap none 0x80000000) 5 = true ∧
    ((aCap none 0x80000000).dev.capt 2).queue.length = 2 := by decide

/-! ### The Landing, buffers, corridors -/

/-- One tread too few while enough are being zeroed; enough; refused by the pool's size. -/
theorem meets_LandingAdmissionsAndUpkeep_waits :
    (let s := lShort 4 [1, 2, 3, 4]
     s.dev.lnd.admitQ = [⟨1, 0, consCor 3⟩] ∧ (admitReq s.root s.dev ⟨1, 0, consCor 3⟩).treads = 8 ∧ freeCount s.dev = 4 ∧ s.dev.lnd.zeroing.length = 4) ∧
    freeCount (lShort 8 []).dev = 8 ∧ freeCount (lShort 4 [1, 2]).dev + 2 < 8 := by decide

theorem meets_LandingAdmissionsAndUpkeep_corridor :
    lndCheck (lShort 8 []).dev 0 (corReq (lShort 8 []).root (lShort 8 []).dev 0 3) = 0 ∧ bitOf ((lShort 8 []).dev.cor 3).cfg 31 = true ∧
    lndCheck (lShort 4 [1, 2]).dev 0 (corReq (lShort 4 [1, 2]).root (lShort 4 [1, 2]).dev 0 3) ≠ 0 := by decide +kernel

theorem meets_LandingAdmissionsAndUpkeep_buffer :
    let s := lBuf {} true
    s.root.running = true ∧ s.dev.lnd.admitQ = [⟨1, 0, consHb 3⟩] ∧ hbBusy s.dev 3 = false ∧ lndCheck s.dev 0 (hbReq s.root s.dev 3) = 0 ∧
    bitOf (hbCfg s.dev 3) 31 = true ∧ lndCheck (lBuf { depthLog := 20 } true).dev 0 (hbReq (lBuf { depthLog := 20 } true).root (lBuf { depthLog := 20 } true).dev 3) ≠ 0 := by decide +kernel

theorem meets_LandingAdmissionsAndUpkeep_upkeep :
    lDirty.dev.lnd.zeroing = [6, 7] ∧ lDirty.dev.lnd.bad.contains 6 = true ∧ lClean.dev.lnd.zeroing = [7, 6] ∧ lClean.dev.lnd.bad.contains 7 = false ∧
    lDirty.dev.rb .lnd 0x040 0 = true ∧ base.dev.rb .lnd 0x040 0 = true ∧ (base.dev.setReg .lnd 0x040 0).rb .lnd 0x040 0 = false ∧
    injects .lnd 0 lDirty.dev = false ∧ injects .lnd 1 lDirty.dev = false ∧ injects .lnd 0 (lDirty.dev.setReg .lnd 0x01C 1) = true ∧
    (let d := (base.dev.setExt 5 { start := 3, treads := [4], g := 0, apt := 0 }).lndMap fun l => { l with scrubWord := 192, mapUe := [3], mapCe := [3] }
     entryTread d (192 / 64) = some 4 ∧ (192 / 64 : Nat) ∈ d.lnd.mapUe ∧ (192 / 64 : Nat) ∈ d.lnd.mapCe) ∧ lClean.dev.lnd.scrubWord ∈ lClean.dev.lnd.ce ∧ lUe.dev.lnd.scrubWord ∈ lUe.dev.lnd.ue ∧
    canWrite lDirty 0 .lnd 0x084 1 = true ∧ canWrite lDirty 0 .lnd 0x084 2 = true := by decide

theorem meets_HostBuffers_control :
    canWrite base 5 .lnd (0x200 + 0x10 * 47) 0x80000000 = true ∧ (base.dev.hb 47).st = .idle ∧ canWrite (lRuns true false 0) 0 .lnd (0x200 + 0x10 * 9) 0 = false ∧
    canWrite (lRuns true false 0) 1 .lnd (0x200 + 0x10 * 9) 0 = true ∧ ((lRuns true false 0).dev.hb 9).st = .active ∧
    canWrite (lRuns true false 0) 1 .lnd (0x20C + 0x10 * 9) 7 = true ∧ ((lBuf {} true).dev.hb 3).st = .admitting ∧ bitOf (hbCfg base.dev 47) 30 = false := by and_intros <;> decide

/-- PTR at the first and at the last period of the depth, and just outside. -/
theorem meets_HostBuffers_periods :
    let s := lRuns false false 0
    let k := periodNow s.root s.dev
    s.root.running = true ∧ (s.dev.hb 9).st = .active ∧ newPeriod s.dev (s.dev.hb 9).last k = true ∧
    k = 96 ∧ (s.dev.hb 9).depth = 16 ∧ sgn (pdiff 96 (uns k 32)) 32 = 0 ∧ sgn (pdiff 111 (uns k 32)) 32 = 15 ∧ sgn (pdiff 112 (uns k 32)) 32 = 16 ∧
    sgn (pdiff 95 (uns k 32)) 32 = -1 ∧ ((lRuns true true 0).dev.hb 9).closing = true ∧
    ((lRuns false true 0).dev.hb 9).read = false ∧ ((lRuns true false 0).dev.hb 9).wrote = none ∧ (base.dev.hb 9).st ≠ .active ∧
    newPeriod s.dev (some (96, s.dev.tb.run)) k = false := by decide +kernel

theorem meets_CorridorControl :
    let s := lCor { st := .active, sizeLog := 2, wr := 64, rd := 32, mark := 16, rel := 8, cfg := 0x80000002 }
    canWrite s 0 .cor 0x044 0x80000000 = true ∧ fld (s.dev.own .cor 0x040 0) 7 0 = 3 ∧ canWrite s 0 .cor (0x800 + 8 * 3) 64 = true ∧
    canWrite s 0 .cor (0x804 + 8 * 3) 32 = true ∧ canWrite s 0 .cor 0x054 32 = true ∧ canWrite s 0 .cor 0x058 1 = true ∧ canWrite s 0 .cor 0x058 2 = true ∧
    (alarmEntries s.dev).filter (fun e => bitOf (s.dev.tw .alarm e 0) 30) = [] ∧ (base.dev.cor 3).st = .idle ∧ canWrite s 0 .cor 0x044 0 = true := by and_intros <;> decide

/-- Pointers that keep the order, at its ends, and that break it. -/
theorem meets_CorridorControl_order :
    let x : Cor := { st := .active, sizeLog := 2, wr := 64, rd := 32, mark := 16, rel := 8 }
    ({ x with rd := 64 } : Cor).ordered = true ∧ ({ x with rd := 16 } : Cor).ordered = true ∧ ({ x with rd := 72 } : Cor).ordered = false ∧
    ({ x with rd := 8 } : Cor).ordered = false ∧ ({ x with mark := 32 } : Cor).ordered = true ∧ ({ x with mark := 40 } : Cor).ordered = false ∧
    pdiff 32 x.rel ≤ pdiff x.rd x.rel ∧ pdiff x.rd x.rel < pdiff 40 x.rel := by decide

theorem meets_RecordsAreCommitted :
    ((oCor .active id).dev.cor 3).takes = true ∧ ((oCor .active id).dev.cor 3).fits [16] = true ∧ injects .cor 0 (oCor .active id).dev = false ∧
    (let d := (oCor .active id).dev.setReg .cor 0x01C 1; injects .cor 0 d = true ∧ corInjTarget (oCor .active id).root d = 0) ∧
    ((oCor .idle id).dev.cor 3).takes = false ∧ ({ (oCor .active id).dev.cor 3 with wr := 2040 } : Cor).fits [16] = false := by decide


/-! ### States and operands that meet the hypotheses of the claims: network, streams, routes, serial ports, monitors -/

theorem meets_PortsAndLinks_control :
    let up := nPort { link := true, pcsLock := true, preempt := 1, tries := 2, mdio := some (0, 1), cur := some ⟨3, 0, 64, 0, 64, 100, 64⟩ } 0x141
    canWrite up 0 (.net 0) 0x040 0x301 = true ∧ canWrite up 0 (.net 0) 0x040 0 = true ∧ canWrite up 0 (.net 0) 0x04C (mdioWord 3 9) = true ∧
    canWrite up 0 (.net 0) 0x04C (mdioWord 0 9) = true ∧
    (up.dev.netp 0).mdio ≠ none ∧ (base.dev.netp 0).mdio = none ∧ canWrite base 0 (.net 1) 0x058 1 = true ∧ canWrite base 0 .cls 0x044 1 = true ∧
    canWrite up 0 (.net 0) 0x058 2 = true ∧ (up.dev.netp 0).preempt = 1 ∧ 2 ≤ (up.dev.netp 0).tries ∧ (up.dev.netp 0).cur ≠ none ∧ (base.dev.netp 0).cur = none ∧
    up.dev.rb (.net 0) 0x040 8 = true ∧ (up.dev.netp 0).link = true ∧ base.dev.rb (.net 0) 0x040 8 = false ∧
    ((nPort { link := true, pcsLock := true } 0x41).dev.netp 0).busyTo ≤ base.root.ec := by and_intros <;> decide

theorem meets_PortsAndLinks_links :
    (nPort {} 0x41).dev.rb (.net 0) 0x040 0 = true ∧ (nPort {} 0x41).dev.rf (.net 0) 0x040 2 1 ≠ 3 ∧ ((nPort {} 0x41).dev.netp 0).link = false ∧
    modeSpeed (nPort {} 0x41).dev 0 .other = none ∧ (modeSpeed (nPort {} 0x41).dev 0 .g1).isSome = true ∧
    ((nPort { link := true, pcsLock := true } 0x41).dev.netp 0).pcsLock = true ∧ ((nPort { link := true, pcsLock := true } 0x41).dev.netp 0).link = true ∧
    (base.dev.netp 0).pcsLock = false ∧
    (let d := (nPort { link := true, pcsLock := true } 0x40).dev; d.rb (.net 0) 0x040 0 = false ∧ (d.netp 0).link = true ∧ (d.netp 0).cur = none ∧ (d.netp 0).busyTo ≤ base.root.ec) := by
  decide

/-- A frame on a dead link; a preempted one; one too short; one that an engine, a flow entry, an interface, the default and none takes. -/
theorem meets_FramesAreClassified_lost :
    ((nPort {} 1).dev.netp 0).link = false ∧ ((nPort { link := true } 1).dev.netp 0).preempt = 0 ∧ injects (.net 0) 1 (nPort { link := true } 1).dev = false ∧
    injects (.net 0) 1 (((nPort { link := true } 1).dev.setReg (.net 0) 0x018 1).setReg (.net 0) 0x01C 1) = true ∧
    (let d := (nPort { link := true, pcsLock := true } 0).dev; d.rb (.net 0) 0x040 0 = false ∧ (d.netp 0).pcsLock = true ∧ (d.netp 0).cur = none ∧ (d.netp 0).busyTo ≤ base.root.ec) ∧
    (macFail (nPort { link := true } 1).dev 0 (13 + 4) ((ethFrame 1 2 0x88B5 60).take 13) true true true).isSome = true ∧
    macFail (nPort { link := true } 1).dev 0 (60 + 4) (ethFrame 1 2 0x88B5 46) true true true = none ∧
    (macFail (nPort { link := true } 1).dev 0 (60 + 4) (ethFrame 1 2 0x88B5 46) true false true).isSome = true := by decide +kernel

/-- A flow entry for a destination; an interface that takes groups; the port's default. -/
def nFlow : State :=
  let s := nPort { link := true } 1
  { s with dev := ((s.dev.setTw .flow 4 0 0x8F004000).setTw .flow 4 1 5).setTw .flow 4 2 0x00010000 }
def nDefault : State := let s := nPort { link := true } 1; { s with dev := s.dev.setReg .cls 0x040 0x100 }
theorem meets_FramesAreClassified_claims :
    (let s := { tEngine 2 none id with dev := (tEngine 2 none id).dev.setReg (.ptp 0) 0x040 1 }
     ((ptpFrame (ethFrame 1 2 0x88F7 0 ++ (ptpMsg 0 1 1 2 true).bytes)).bind fun m => (List.range 2).find? fun n =>
      ptpPort s.dev n == 0 && engineTakes s.dev n m) = some 0) ∧
    (flowFind nFlow.dev 0 (parseEth (ethFrame 0x000100000005 2 0x88B5 50))).isSome = true ∧
    (flowFind nDefault.dev 0 (parseEth (ethFrame 1 2 0x88B5 46))) = none ∧ nDefault.dev.rb .cls 0x040 8 = true ∧
    (nPort { link := true } 1).dev.rb .cls 0x040 8 = false ∧
    vifTakes (nOut .active 60 0 id).root (nOut .active 60 0 id).dev 0 (parseEth (ethFrame 0x01005E000001 2 0x88B5 46)) false ++
      vifTakes (nOut .active 60 0 id).root (nOut .active 60 0 id).dev 0 (parseEth (ethFrame 0x01005E000001 2 0x88B5 46)) true ≠ [] := by decide +kernel

theorem meets_OutRecords_consume :
    let s := nOut .active 60 0 id
    s.root.coreOn = true ∧ (s.dev.cor 3).st = .active ∧ (s.dev.cor 3).out = true ∧ s.dev.head 3 = none ∧ vifOf s.dev 3 = some 0 ∧
    headWord s.mem s.dev 3 0 / 2 ^ 48 = 60 ∧ nbit (headWord s.mem s.dev 3 0) 0 = false ∧ nbit (headWord (nOut .active 60 1 id).mem s.dev 3 0) 0 = true ∧
    headWord (nOut .active 0 0 id).mem s.dev 3 0 / 2 ^ 48 = 0 ∧ headWord (nOut .active 10 0 id).mem s.dev 3 0 / 2 ^ 48 = 10 ∧
    headPorts s.dev (headWord s.mem s.dev 3 0 % 65536) 0 = 1 ∧ (s.dev.netp 0).link = true := by decide +kernel

/-- Heads that are late: alone, with a copy gone and another port left, and with the last port; not late; corridors that close with and without a
record that awaits its stamp. -/
theorem meets_OutRecords_stall :
    let s := { nLine { link := true, speed := 3 } (some (outHead 60 false 0)) with
      dev := (nLine { link := true, speed := 3 } (some (outHead 60 false 0))).dev.setReg .shp 0x100 0x00010000 }
    let gone := { outHead 60 false 0 with sent := 2, ports := 3 }
    s.dev.head 3 = some (outHead 60 false 0) ∧ (outHead 60 false 0).held = false ∧ nbit (outHead 60 false 0).ports 0 = true ∧ shp s.dev 0 0 31 16 = 1 ∧
    (outHead 60 false 0).elig + 1 * 256000000 ≤ s.root.ec ∧ onLine s.dev 0 3 = false ∧ (outHead 60 false 0).sent = 0 ∧ inFlight s.dev 3 = false ∧
    gone.sent ≠ 0 ∧ nset gone.ports 0 false ≠ 0 ∧ shp (base.dev.setReg .shp 0x100 0) 0 0 31 16 = 0 ∧
    ((nOut .closing 60 0 id).dev.cor 3).st = .closing ∧ inFlight (nOut .closing 60 0 id).dev 3 = false ∧ (nOut .closing 60 0 id).dev.head 3 = none ∧
    (let h := { outHead 60 false 0 with sent := 1, stamp := true }; h.sent ≠ 0 ∧ h.stamped = false) ∧
    inFlight (nOut .closing 60 0 fun d => d.setNetp 0 { link := true, cur := some ⟨3, 0, 64, 0, 64, 100, 64⟩ }).dev 3 = true := by decide +kernel

/-- A record that wraps, one that is too short, one whose ports are all down, held heads, and corridors that pass nothing. -/
theorem meets_OutRecords_passed :
    headWord (nOut .active 0xFFFF 0 id).mem (nOut .active 0xFFFF 0 id).dev 3 0 / 2 ^ 48 = 0xFFFF ∧ headCause (nOut .active 60 0 id).dev (outHead 60 false 0) = 0 ∧
    headCause (nOut .active 60 0 id).dev { outHead 10 false 0 with frame := [] } ≠ 0 ∧ ((nOut .active 60 0 fun d => d.setNetp 0 {}).dev.netp 0).link = false ∧ (outHead 60 true 0).held = true ∧
    (base.dev.cor 3).st ≠ .active ∧ vifOf base.dev 3 = none := by decide +kernel

/-- A PTP frame that may start; a head frame that may; a frame cut off that resumes; nothing to send. -/
theorem meets_GalleryFrames :
    let ptp := nLine { link := true, speed := 3, ptpQ := [{ eng := 0, type := 0, seq := 1 }] } none
    let line := nLine { link := true, speed := 3 } (some (outHead 60 false 0))
    let d := reckon line.root 0 line.dev
    (line.dev.netp 0).busyTo ≤ line.root.ec ∧ (line.dev.netp 0).cur = none ∧ line.dev.rb (.net 0) 0x040 0 = true ∧ (line.dev.netp 0).ptpQ = [] ∧
    (ptp.dev.netp 0).ptpQ = [{ eng := 0, type := 0, seq := 1 }] ∧
    endsBy ptp.root (reckon ptp.root 0 ptp.dev) 0 (ptpWire ptp.root (reckon ptp.root 0 ptp.dev) 0 { eng := 0, type := 0, seq := 1 } + 20) none = true ∧
    (nextHead line.root d 0).map (fun x => (x.1, x.2.1)) = some (3, outHead 60 false 0) ∧
    (mayStart line.root d 0 (max 64 ((outHead 60 false 0).frame.length + 4)) (minFrag d 0) (gateClose d 0 0 70 (d.atNow line.root))).isSome = true ∧
    (mayStart line.root d 0 64 64 (gateClose d 0 0 70 (d.atNow line.root))).isSome = true ∧
    nextHead ptp.root (reckon ptp.root 0 ptp.dev) 0 = none := by decide +kernel

/-- A fragment that has ended with data left; a frame that a PTP frame cuts off after 464 bytes. -/
theorem meets_GalleryFrames_cut :
    let z : TxCur := ⟨3, 0, 1404, 511000000, 1404, 519000000, 64⟩
    let fits := fun (k : Nat) => z.start + byteUnits base.dev 0 (8 * k + 24) ≤ base.root.ec ∧ z.mf ≤ 8 * k ∧ 8 * k + 64 ≤ z.left ∧ 8 * k < z.data
    (base.dev.netp 0).speed = 0 ∧ fits 58 ∧ ¬fits 59 ∧ base.root.ec < z.done ∧
    (let f : TxCur := ⟨3, 0, 200, 0, 64, 100, 64⟩; f.data ≠ 0 ∧ f.data ≠ f.left ∧ f.done ≤ base.root.ec) := by decide +kernel

theorem meets_GalleryFrames_done :
    let z : TxCur := ⟨3, 0, 64, 0, 64, 512000000, 64⟩
    let s := nLine { link := true, speed := 3, pcsLock := true, cur := some z } (some (outHead 60 false 0))
    (s.dev.netp 0).cur = some z ∧ z.done ≤ s.root.ec ∧ s.dev.rb (.net 0) 0x040 0 = true ∧ (s.dev.setReg (.net 0) 0x040 0).rb (.net 0) 0x040 0 = false ∧
    (s.dev.netp 0).busyTo ≤ s.root.ec ∧ s.dev.head 3 = some (outHead 60 false 0) ∧ (outHead 60 false 0).ports = 2 ^ 0 ∧ (outHead 60 false 0).stamp = false ∧
    (base.dev.netp 0).cur = none := by decide

/-- Word 0 with the same structural fields and with others. -/
theorem meets_TxStreamControl :
    canCommit base 0 .txs 1023 (setBit (wd txW0) 31 true) = true ∧ canCommit (xTx 2 txW0 0 true true false) 0 .txs 5 (setBit (wd txW0) 31 false) = true ∧
    ((xTx 2 txW0 0 true true false).dev.txn 5).st = 2 ∧
    txKey ((commitWords (xTx 2 txW0 0 true true false).dev 0 .txs 5 (wd txW0)).take 12) = txKey ((xTx 2 txW0 0 true true false).dev.txn 5).adm ∧
    txKey ((commitWords (xTx 2 txW0 0 true true false).dev 0 .txs 5 (wd (txW0 + 2 ^ 16))).take 12) ≠ txKey ((xTx 2 txW0 0 true true false).dev.txn 5).adm ∧
    canWrite base 0 .txe 0x048 (wd (2 ^ 31 + 1023)) = true ∧ canWrite base 0 .txe 0x048 (wd (2 ^ 30)) = true := by and_intros <;> decide

theorem meets_TxStreamControl_retime :
    let s := xTx 2 (txW0 + 2 ^ 23) 0 true true false
    owner s.root s.dev .txStream (5 / 16) = 0 ∧ (s.dev.txn 5).carries = true ∧ owner s.root s.dev .txStream 63 ≠ 5 := by decide +kernel

/-- The next frame is due and starts; its start would be too late for another; the link is down; none is due. -/
theorem meets_TxFrames :
    let s := xTx 2 txW0 15 true true false
    s.root.running = true ∧ txDue s.dev 0 5 (s.dev.tb.at'.val s.root.ec) = true ∧ mayLaunch s.dev 0 5 s.root.ec = true ∧ portUp s.dev 0 = true ∧
    portUp (xTx 2 txW0 15 true false false).dev 0 = false ∧ txDue (xTx 2 txW0 100 true true false).dev 0 5 (s.dev.atNow s.root) = false ∧
    (s.dev.txn 5).built = [] ∧ mayLaunch (xTx 2 txW0 9 true true false).dev 0 5 s.root.ec = false ∧
    txDue (xTx 2 txW0 9 true true false).dev 0 5 (s.dev.tb.at'.val s.root.ec) = true := by decide +kernel

theorem meets_TxFrames_skip :
    let s := xTx 2 txW0 9 true true false
    txDue s.dev 0 5 (s.dev.atNow s.root) = true ∧ beforeClose s.dev (s.dev.txn 5) 0 ((s.dev.txn 5).nextOf 0) (s.dev.atNow s.root) = false ∧
    timeGated s.dev (s.dev.txn 5) = false ∧
    (let u := xTx 2 txW0 15 true true false; beforeClose u.dev (u.dev.txn 5) 0 ((u.dev.txn 5).nextOf 0) (u.dev.atNow u.root) = true) := by decide +kernel

theorem meets_TxFrames_ends :
    let s := xGone true true
    (s.dev.txn 5).st = 3 ∧ (s.dev.txn 5).ports.all (s.dev.txn 5).faded = true ∧ (s.dev.txn 5).offWire ≤ s.root.ec ∧
    ((xTx 2 txW0 15 true true false).dev.txn 5).st ≠ 3 ∧ (s.dev.txn 5).readmit = true ∧ s.dev.tf .txs 5 0 31 31 = 1 ∧
    (xAsk txW0 true).dev.lnd.admitQ = [⟨1, 0, consTx 5⟩] ∧ txReason (xAsk txW0 true).root (xAsk txW0 true).dev ((xAsk txW0 true).dev.txn 5) = 0 ∧
    txReason (xAsk (txW0 - 2 ^ 26) true).root (xAsk (txW0 - 2 ^ 26) true).dev ((xAsk (txW0 - 2 ^ 26) true).dev.txn 5) ≠ 0 ∧
    freeCount (xAsk txW0 true).dev ≥ (txReq (xAsk txW0 true).root (xAsk txW0 true).dev ((xAsk txW0 true).dev.txn 5)).treads := by decide +kernel

theorem meets_RxStreamControl :
    canCommit base 0 .rxs 1023 (setBit (wd rxW0) 31 true) = true ∧ canCommit (xRx 2 true true id) 0 .rxs 5 (setBit (wd rxW0) 31 false) = true ∧
    ((xRx 2 true true id).dev.rxn 5).st = 2 ∧ rxKey ((commitWords (xRx 2 true true id).dev 0 .rxs 5 (wd rxW0)).take 6) = rxKey ((xRx 2 true true id).dev.rxn 5).adm ∧
    rxKey ((commitWords (xRx 2 true true id).dev 0 .rxs 5 (wd (rxW0 + 2 ^ 16))).take 6) ≠ rxKey ((xRx 2 true true id).dev.rxn 5).adm ∧
    canWrite base 0 .rxe 0x048 (wd (2 ^ 31 + 1023)) = true := by and_intros <;> decide

/-- A period that is due with its slot filled, and without; the flow idle for the whole depth, and not; nothing due. -/
theorem meets_RxStreams :
    let s := later (xRx 2 true true id)
    let x := s.dev.rxn 5
    let k := periodNow s.root s.dev
    s.root.running = true ∧ x.carries = true ∧ newPeriod s.dev x.shown k = true ∧
    bNow s.dev k + ((x.ports.map fun p => rxPipe s.dev p * nsUnits).foldl max 0 : Nat) ≤ s.dev.atNow s.root ∧
    (x.slots.find? fun z => z.k == k && !z.used).isSome = true ∧ x.flowing = true ∧ ¬(x.depth < rxIdleNow s.root s.dev x) ∧
    (let y := (later (xRx 2 true true fun x => { x with idle := 70, slots := [] })).dev.rxn 5; y.depth < rxIdleNow s.root s.dev y ∧ y.slots = []) ∧
    ((xRx 0 true false id).dev.rxn 5).carries = false := by decide +kernel

theorem meets_RxStreams_ends :
    let s := xRx 3 true true fun x => { x with fade := { k := 0, g := 0, s := 0 }, pres := 96, readmit := true }
    let x := s.dev.rxn 5
    x.st = 3 ∧ x.fade.k ≤ (x.pres : Int) - 1 ∧ x.fade.at ((x.pres : Int) - 1) = 0 ∧ ((xRx 2 true true id).dev.rxn 5).st ≠ 3 ∧
    (xRxAsk 0x40 true).dev.lnd.admitQ = [⟨1, 0, consRx 5⟩] ∧ rxReason (xRxAsk 0x40 true).root 5 (xRxAsk 0x40 true).dev = 0 ∧
    rxReason (xRxAsk 0 true).root 5 (xRxAsk 0 true).dev ≠ 0 ∧
    (let y := (xRxAsk 0x40 true).dev.rxn 5; cdiv (y.n * y.depth * 4) 512 ≤ freeCount (xRxAsk 0x40 true).dev) := by decide +kernel

theorem meets_RouteEngine_evaluation :
    let s := yRte [contr 1 0x10 0x1000 5] false (some (512000000, false))
    s.root.running = true ∧ bNow s.dev (evalNext s.root s.dev) ≤ s.dev.atNow s.root ∧ s.dev.rte.fading = false ∧ s.dev.rte.pending = some (512000000, false) ∧
    (512000000 ≤ bNow s.dev (evalNext s.root s.dev)) ∧ (swapCheck s.dev).1 = 0 ∧ (swapCheck yBad.dev).1 ≠ 0 ∧
    (yDone none).dev.atNow (yDone none).root < bNow (yDone none).dev (evalNext (yDone none).root (yDone none).dev) := by decide +kernel

theorem meets_RouteEngine_fade :
    let s := yRte [contr 1 0x10 0x1000 0] true none
    s.dev.rte.fading = true ∧ (s.dev.rte.con.any fun c => c.ramp.runs) = false ∧
    ((yRte [contr 1 0x10 0x1000 5] true none).dev.rte.con.any fun c => c.ramp.runs) = true := by decide

theorem meets_RouteEngine_commands :
    canWrite base 0 .rte 0x048 1 = true ∧ canWrite base 0 .rte 0x048 2 = true ∧ canWrite base 0 .rte 0x048 4 = true ∧ canWrite base 0 .rte 0x040 5 = true ∧
    canWrite base 0 .rte 0x040 6 = true ∧ anyEnabled base.dev = false ∧ canCommit base 0 .route0 8191 0x80001000 = true ∧
    base.dev.rte.live = 0 ∧ canCommit base 0 .route1 0 5 = true := by and_intros <;> decide +kernel
theorem meets_RouteEngine_enabled : anyEnabled (xTx 2 txW0 15 true true false).dev = true := by decide +kernel

theorem meets_SapControl :
    canWrite base 5 (.sap 31) 0x044 (setBit (setBit 0 16 true) 0 true) = false ∧ canWrite (zSap 0 id) 0 (.sap 2) 0x044 0x10001 = true ∧
    ((zSap 0 id).dev.sapn 2).stopAt = none ∧ ((zSap 0 id).dev.sapn 2).st = 0 ∧ canWrite (zSap 1 id) 0 (.sap 2) 0x044 0x10000 = true ∧
    sapChanged (zSap 1 fun x => { x with st := 5, slots := 3 }).dev 2 = true ∧ sapChanged (zSap 1 fun x => { x with st := 5 }).dev 2 = false ∧
    canWrite base 0 .sapg 0x040 0xFF = true ∧ canWrite base 0 .sapg 0x044 0xFF = true ∧ canWrite base 0 (.sap 2) 0x070 1 = true ∧
    sapCtl (zSap 0x11 id).dev 2 4 = true := by and_intros <;> decide

/-- A port whose start period has come; a faded one; one at the end of its postroll, whose CTRL word keeps it waiting or not; a clock that stops. -/
theorem meets_SapStates :
    let s := zSap 7 fun x => { x with st := 3, k0 := some 96, leadK := 96 }
    let now := periodNow s.root s.dev
    let faded := zSap 7 fun x => { x with st := 5, inG := {}, outG := {} }
    let roll := fun (ctl : Nat) => zSap ctl fun x => { x with st := 6, byGroup := true }
    s.root.running = true ∧ 96 ≤ now ∧ (s.dev.sapn 2).preroll ≤ (s.dev.sapn 2).good ∧ (s.dev.sapn 2).clk = 0 ∧
    ((sapTurn faded.root 2 faded.dev).sapn 2).st = 5 ∧ ((sapTurn faded.root 2 faded.dev).sapn 2).silent = true ∧
    ((sapTurn s.root 2 s.dev).sapn 2).st ≠ 5 ∧
    (let x := (roll 7).dev.sapn 2; x.rollK + (fld x.roll 23 16 : Nat) ≤ now ∧ x.byGroup = true ∧ x.readmit = false) ∧
    sapCtl (roll 7).dev 2 0 = true ∧ sapCtl (roll 0).dev 2 0 = false ∧
    ((zSap 7 fun x => { x with lastEdge := 0 }).dev.sapn 2).lastEdge + sap4T s.dev ≤ s.root.ec ∧
    s.root.ec < (s.dev.sapn 2).lastEdge + sap4T s.dev := by decide +kernel

theorem meets_SapStates_admission :
    (zAsk 1 id).dev.lnd.admitQ = [⟨1, 0, consSap 2⟩] ∧ sapConfigOk (zAsk 1 id).dev 2 = true ∧ ((zAsk 1 id).dev.sapn 2).gate = false ∧
    sapCtl (zAsk 1 id).dev 2 0 = true ∧ sapConfigOk (zAsk 1 fun d => d.setReg (.sap 2) 0x040 0xC0000002).dev 2 = false ∧
    lndCheck (zAsk 1 id).dev 0 { treads := 2, formed := true, owned := owner (zAsk 1 id).root (zAsk 1 id).dev .sap 2 == 0, align := none } = 0 ∧
    (let x := (zAsk 1 id).dev.sapn 2; 2 * cdiv (x.slots * 2 ^ x.bufLog * 4) 512 = 2) ∧ 2 ≤ freeCount (zAsk 1 id).dev := by decide +kernel

/-- A port that an edge finds: not sampling; inside a frame, its first slot's last input bit and its next slot's output bit, with a sample that is
ready, or is not; past the frame's length; without a frame. -/
theorem meets_SapFrames :
    let s := zRun 0 15 true 95 id
    let d := zSeen s
    let p := d.sapn 2
    bankDown { s.dev with rails := 63 } 0 = true ∧ bankDown s.dev 0 = false ∧ p.lastEdge ≤ 512000000 ∧ s.root.ec = 512000000 ∧ p.injStop = 0 ∧
    ¬p.lastEdge ≤ 511000000 ∧ sapSamples p.fmt false = false ∧ sapSamples p.fmt true = true ∧ p.fsOn = true ∧
    (∃ f, p.cur = some f ∧ f.ok = true ∧ f.live = true ∧ f.inp = true ∧ f.out = true ∧ f.drives = true ∧ f.k = some 96 ∧ p.tail = none ∧
      f.i < p.len ∧ slotIndex f.fmt f.len f.slots 0 + sapWidth f.fmt = f.i + 1 ∧ slotIndex f.fmt f.len f.slots 1 = f.i + 1) ∧
    sapTdm p.fmt = true ∧ destSample d (0x2400 + 32 * 2 + 1) 95 = none ∧
    (let u := zSeen { s with dev := { s.dev with rte := { s.dev.rte with hist := [{ k := 95, out := [(0x2441, (0x77770000, 0))] }] } } }
     destSample u (0x2400 + 32 * 2 + 1) 95 = some (0x77770000, some 0) ∧ 0 ≤ u.tb.at'.val (u.sapn 2).drv - 10240 ∧ u.lnd.ue = [] ∧ u.lnd.ce = []) ∧
    (((zSeen (zRun 0 64 true 95 id)).sapn 2).cur.map fun f => decide (p.len ≤ f.i)) = some true ∧
    ((zSeen (zRun 0 15 true 95 fun x => { x with cur := none })).sapn 2).cur = none := by decide +kernel

/-- A port that a frame edge finds: a good frame, of the next period or of the last one; a frame of a wrong length; a faulted one; recovery from a glitch;
an injected stop. -/
theorem meets_SapFrames_edge :
    let x := fun (s : State) => (sapTurn s.root 2 (zSeen s)).sapn 2
    let good := zRun 0 63 false 95 id
    let d := zSeen good
    let ends := fun (s : State) => (x s).cur.map fun f => (f.ok, f.i + 1 == (x s).len, (sapMeasure (zSeen s) 2 512000000 f).2)
    fsActive (x good).fmt true = true ∧ (x good).fsOn = false ∧ (∀ i < 5, injects (.sap 2) i d = false) ∧
    ends good = some (true, true, true) ∧ (x good).st = 4 ∧ (x good).clk = 0 ∧ (x good).faultI = false ∧ (x good).faultO = false ∧ d.tb.eraEC ≤ 512000000 ∧
    (let k := sapPeriodOf d (x good) (d.tb.at'.val 512000000)
     (x good).lastK ≠ some k ∧ (x good).lastK ≠ some (k - 2) ∧ (x (zRun 0 63 false 96 id)).lastK = some k) ∧
    ends (zRun 0 62 false 95 id) = some (true, false, true) ∧
    ends (zRun 0 63 false 95 fun x => { x with cur := x.cur.map fun f => { f with ok := false } }) = some (false, true, true) ∧
    (x (zRun 2 63 false 95 id)).clk = 2 ∧ ends (zRun 2 63 false 95 id) = some (true, true, true) ∧
    injects (.sap 2) 0 (zSeen { good with dev := (good.dev.setReg (.sap 2) 0x01C 1).setReg (.sap 2) 0x018 0 }) = true := by decide +kernel

/-- A slot that counts an occupancy; one of a level whose interval has ended; one of a temperature that is valid; one that is off; snapshots of the
steward's slot and of another's. -/
theorem meets_MonitorsAndTelemetry_slots :
    let s := oSlot true
    let level := { s with dev := { (s.dev.setTw .monslot 40 0 0x87000000) with mon := { s.dev.mon with peak := [(40, 1000)], periods := [(40, 65535)] } } }
    let temp := { s with dev := (s.dev.setTw .monslot 40 0 0x8A000000).fltMap fun f => { f with tempValid := true, temp := 300 } }
    s.root.coreOn = true ∧ s.dev.tf .monslot 40 0 31 31 = 1 ∧ s.dev.tf .monslot 40 0 27 24 = 9 ∧
    (level.dev.tf .monslot 40 0 27 24 = 7 ∧ level.root.running = true ∧ max 1 (level.dev.tf .monslot 40 1 15 0) ≤ nget level.dev.mon.periods 40) ∧
    (temp.dev.tf .monslot 40 0 27 24 = 10 ∧ temp.dev.flt.tempValid = true) ∧
    (oSlot false).dev.tf .monslot 40 0 31 31 = 0 ∧ canWrite s 0 .mon 0x040 0x80000028 = true ∧
    owner s.root s.dev .monSlot 5 = 0 ∧ canWrite s 1 .mon 0x040 40 = true := by decide +kernel

/-- A trace, a log alone or behind a gap, and a fresh alarm wait, with a corridor that takes them; with one that does not; nothing waits. -/
theorem meets_MonitorsAndTelemetry_telemetry :
    let s := oTrace .active
    let log := { s with dev := s.dev.logMap fun l => { l with queue := [⟨true, 0, 8, 4, 1, 5⟩] } }
    let gap := { log with dev := log.dev.logMap fun l => { l with gap := [(0, some ⟨1, 5, 6, 7, 1⟩)] } }
    let room := fun (s : State) (i : Nat) (l : List Nat) => let c := fld (galCor s.dev 0) (i + 7) i
      ((s.dev.cor c).takes && (s.dev.cor c).fits l && !injects .cor 0 s.dev)
    s.dev.log.fresh = [] ∧ s.dev.log.queue = [⟨false, 0, 9, 4, 1, 5⟩, ⟨true, 0, 8, 4, 1, 5⟩] ∧ bitOf (galCor s.dev 0) 29 = true ∧ room s 0 [16] = true ∧
    bitOf (galCor log.dev 0) 30 = true ∧ injects .log 0 log.dev = false ∧ room log 8 [16] = true ∧
    (sget (fun _ => none) gap.dev.log.gap 0).isSome = true ∧ room gap 8 [24, 16] = true ∧
    (let a := oAlarm true
     let u := { a with dev := a.dev.logMap fun l => { l with fresh := [4] } }
     u.dev.log.fresh = [4] ∧ u.dev.tf .alarm 4 0 31 31 = 1 ∧ bitOf (galCor u.dev (u.dev.tf .alarm 4 0 29 27)) 31 = true ∧ room u 16 [16] = true) ∧
    ((oTrace .idle).dev.cor (fld (galCor (oTrace .idle).dev 0) 7 0)).takes = false ∧ base.dev.log.queue = [] ∧
    canWrite (oAlarm true) 0 .log 0x050 4 = true ∧ canWrite base 0 .log (0x100 + 4 * 31) 0xFFFFFFFF = true := by decide +kernel

theorem meets_MonitorsAndTelemetry_alarm :
    let s := oAlarm true
    (alarmEntries s.dev).filter (fun j => bitOf (s.dev.tw .alarm j 0) 30) = [4] ∧ bitOf (s.dev.tw .alarm 4 0) 31 = true ∧
    bitOf (galCor s.dev (s.dev.tf .alarm 4 0 29 27)) 31 = true ∧ (s.dev.cor (fld (galCor s.dev 0) 23 16)).takes = true ∧
    (s.dev.cor (fld (galCor s.dev 0) 23 16)).fits [16] = true ∧ s.dev.tf .alarm 4 0 29 27 = 0 ∧ bitOf (base.dev.tw .alarm 4 0) 31 = false := by decide +kernel

/-- Temperatures at the warning, one above it, and one above the critical one; the supervisors' injections armed, or not. -/
theorem meets_SupervisorsAndOtp :
    let s := oSup 0
    let d := (s.dev.setReg .flt 0x01C 1).setReg .flt 0x018 1
    s.root.coreOn = true ∧ injects .flt 1 s.dev = false ∧ injects .flt 1 d = true ∧
    sgn (s.dev.rf .flt 0x048 15 0) 16 < sgn (s.dev.rf .flt 0x048 31 16) 16 ∧ s.dev.flt.tempState = 0 ∧
    canWrite s 0 .flt 0x044 1 = true ∧ canWrite s 0 .flt 0x044 2 = true ∧ reaches s 5 = true ∧ steward s.root s.dev .flt = 0 ∧ s.dev.armed (.mcs 0) = true := by decide

/-! ### The spec's worked examples -/

/-- 05: a stamp converted to view A, as LT words and as ST32. -/
theorem example_view :
    let v : View := { anchorEC := 256000000000000, anchorT := 1718000000 * secUnits + 250000000 * 256, rate := 2 ^ 30 }
    ltWords (v.val 0xE9FEAB02005C) = [0xD9, 0x0EE6FD01, 0x66669985, 0] ∧ st32 (v.val 0xE9FEAB02005C) = 0x050BEF01 := by decide +kernel

/-- 05: a receive delimiter paired with its pin edge. -/
theorem example_sfd :
    let d : Dev := { (((base.dev.setReg .tbe 0x040 0x11).setReg .tbe 0x30C 0x10004E20).setReg .tbe 0x078 16).setNetp 0 { link := true, speed := 3 } with
      tb := { base.dev.tb with hist := [(0, [{ ec := 255921104, era := base.dev.tb.era }])] } }
    (sfdPair base.root 0 false 256000000 false d).1.map (fun s => (s.ec, s.pin)) = some (255920080, true) := by decide +kernel

/-- 06: the first RATE of a converging servo, and the step that follows. -/
theorem example_servo :
    let d := ((base.dev.setPtp 0 { st := 2 }).setReg (.srv 0) 0x040 7).setSrv 0 { st := 2, first := some (40000 * 256, 0) }
    let e := srvEstimate base.root 0 (40248 * 256) 32000000000 d
    (e.view 0).rate = -558446354 ∧ rateWords (e.view 0).rate = [0xDEB6C8EE, 0xFFFFFFFF] ∧ (e.srvn 0).stepDue = some (40248 * 256) := by decide +kernel

/-- 07: the bound 30 s into holdover, and where it passes 1,000 ns. -/
theorem example_holdover :
    let d := ((base.dev.setReg .ref 0x06C 2).setReg .ref 0x070 10000).setReg .ref 0x074 100000
    let bound := fun (ms : Nat) => holdBound { base.root with ec := ms * 256000000 } d
    bound 30000 = 347 * (2000000 * secEC ^ 2) ∧ bound 73089 / (2000 * secEC ^ 2) = 999990 ∧ bound 73090 / (2000 * secEC ^ 2) = 1000007 := by decide +kernel

/-- 08: FREQ of 24.576 MHz and of 22.5792 MHz. -/
theorem example_freq :
    freqOf 0xC154C986 0x004EA4A8 = 78 * 2 ^ 48 + 181044705020294 ∧ freqOf 0x719F7F8D 0x004840E1 = 72 * 2 ^ 48 + 71337018097549 := by decide

/-- 09: frame pulses of 59.94 Hz, the second and the third. -/
theorem example_periodic :
    let t : Int := 1718000100 * secUnits + 16200000 * 256
    let d := (List.range 4).foldl (fun d i => d.setReg .trg (0x100 + 4 * i) ((ltWords t).getD i 0)) base.dev
    let e := ((d.setReg .trg 0x110 0x02000081).setReg .trg 0x114 1001).setReg .trg 0x118 0xEA6003E8
    trigTime e 0 1 + 10240 = 1718000100 * secUnits + 32883333 * 256 + 85 ∧ trigTime e 0 2 + 10240 = 1718000100 * secUnits + 49566666 * 256 + 171 := by
  decide +kernel

/-- 11: the flow entry of an AES67 stream finds its packets on both ports. -/
theorem example_flow :
    let d := ((base.dev.setTw .flow 7 2 0x138C0000).setTw .flow 7 1 0xEF45010A).setTw .flow 7 0 0x9C030000
    let ip : List Byte := beBytes 2 0x4500 ++ beBytes 2 36 ++ beBytes 4 0 ++ beBytes 4 0x40110000 ++ beBytes 4 0x0A000001 ++ beBytes 4 0xEF45010A ++
      beBytes 2 5004 ++ beBytes 2 5004 ++ beBytes 4 0x00100000 ++ beBytes 8 0
    let frame : List Byte := beBytes 6 0x01005E45010A ++ beBytes 6 2 ++ beBytes 2 0x0800 ++ ip
    (flowFind d 0 (parseEth frame)).isSome = true ∧ (flowFind d 1 (parseEth frame)).isSome = true ∧ flowFind d 0 (parseEth (frame.take 14)) = none := by
  decide +kernel

/-- 11: fragments of 576 and 656 bytes between audio launches at 1 Gb/s. -/
theorem example_preemption :
    let line := fun (ec : Nat) (f : Int) => onR (fun r => { r with ec := ec }) |> fun s => { s with
      dev := ((base.dev.setNetp 0 { link := true, speed := 0, preempt := 2 }).setReg (.net 0) 0x040 0x101).setTx 5
        { st := 2, f0 := f, adm := [wd 0xE53F0040, 0x10000000, 0, 0, 0] } }
    mayStart (line 4096000 0).root (line 4096000 0).dev 0 1518 128 none = some 576 ∧
      mayStart (line 9261398 1).root (line 9261398 1).dev 0 942 128 none = some 656 := by decide +kernel

/-- 12: the required phase and the AUTO phase of a short-flight stream of 64 channels. -/
theorem example_phase :
    let sap := fun (n : Nat) (d : Dev) => ((d.setReg (.sap n) 0x040 0x10000).setReg (.sap n) 0x048 768).setSap n { st := 4, slots := 32, phi := 256000, clk := 0, fmt := 0x10000, len := 768 }
    let d0 := (sap 1 (sap 0 base.dev)).setNetp 0 { link := true, speed := 3 }
    let d := d0.rteMap fun x => { x with con := (List.range 64).map fun i =>
      { e := i, src := 0x2000 + i, dst := 0x1000 + i, fade := 0, ramp := { g0 := 4194304, g1 := 4194304 }, valid := true } }
    let x : TxS := { st := 2, adm := [wd 0xE5BF0040, 0x10000000, 0, 0, 0] }
    x.frameLen = 266 ∧ (requiredPhase d x 0).1.map (fun v => (v - 2048 / 5).floor) = some 380723 := by decide +kernel

/-- 14: evaluations in a sample period at 48 kHz and at 192 kHz; a ramp half way. -/
theorem example_capacity :
    capacity base.dev = 41664 ∧ capacity (base.dev.rteMap fun x => { x with fs := 5 }) = 10416 ∧
      ({ g0 := 0, g1 := 4194304, j := 1920, n := 3840 } : Ramp).now = 2097152 := by decide

/-- 15: slots of 24 bits at offset 1. -/
theorem example_slots :
    [0, 1, 14, 15].map (slotIndex 0x00110010 384 16) = [1, 25, 337, 361] := by decide

/-- 16: logarithmic bins of two per octave from 100 ns, on both sides of their edges. -/
theorem example_bins :
    [99, 100, 141, 142, 199, 200, 1131, 1132, 1599, 1600, 36203, 36204].map (binOf true 2 0 100) = [1, 2, 2, 3, 3, 4, 8, 9, 9, 10, 18, 19] := by decide +kernel

/-- 03: the CRC-8 of the nine ASCII digits. -/
theorem example_crc : crc8 ((List.range 9).map fun i => BitVec.ofNat 8 (0x31 + i)) = 0xF4 := by decide +kernel

/-! ### Single commands, with results read off the rules -/

/-- The state after a command. -/
def after (i : Instr) (s : State) : State := match exec i s with | .next t => t | _ => s

/-- 02: EC read across a carry: gallery 1's shadow keeps the high word of its own read. -/
theorem test_ec_carry :
    let s := after (.lwRead 1 ⟨Blk.tbe.addr 0x080, 4⟩) (onR fun r => { r with ec := 0x12FFFFFE00 })
    wget s.dev.hif.readData 1 = 0xFFFFFE00 ∧ wget (after (.lwRead 1 ⟨Blk.tbe.addr 0x084, 4⟩) { s with root := { s.root with ec := 0x1300000600 } }).dev.hif.readData 1 = 0x12 := by
  decide +kernel

theorem test_ec_wraps : (after .ecWrap pLast).root.ec = 0 ∧ eraNext 65535 = 1 := by decide
theorem test_fault_address :
    ((after (.registerWrite 1 ((Blk.mcs 0).addr 0x040) ⟨1, none⟩ false) base).dev.pg (.mcs 0)).cap = 0x34020040 := by decide +kernel
theorem test_narrow_write : fld ((after (.registerWrite 0 0x20041 ⟨1, none⟩ true) base).dev.pg (.mcs 0)).cap 27 24 = 6 := by decide +kernel
theorem test_posted_keeps_value : (after (.pwWrite 0 (Blk.clk.addr 0x044) 1) base).dev.busy .clk = true := by decide +kernel
theorem test_claim_granted : wget (after (.galClaim 4 0) gClaims).dev.gal.claimRes 4 = 1 := by decide
theorem test_claim_refused : wget (after (.galClaim 4 1) gClaims).dev.gal.claimRes 4 = 0x14 := by decide
theorem test_seal : (after (.devSeal 0) base).dev.sealed = true := by decide +kernel
theorem test_frame_crc : lget (after (.qspiEcho 0 0xFFFFFFFF 0 0x17) base).dev.hif.reply 0 ≠ [] ∧ nget (after (.qspiEcho 0 0xFFFFFFFF 0 0x17) base).dev.hif.crcErrs 4 = 1 := by
  decide +kernel
theorem test_hole_reads_zero : lget (after (.apertureRead 0 0 3) base).dev.hif.aptData 0 = [0, 0, 0] := by decide +kernel
theorem test_edge_merges : ((after (.eventEdge 42) eSources).dev.evc.merged, ((after (.eventEdge 40) eSources).dev.src 40).st) = (1, SrcSt.pending) := by decide +kernel
theorem test_claim_empty : wget (after (.evtClaim 0 0 0) eSources).dev.hif.readData 0 = 0x3FF := by decide +kernel
theorem test_claim_lowest : wget (after (.evtClaim 0 0 1) eSources).dev.hif.readData 0 = 42 := by decide +kernel
theorem test_step_bumps_era : (after (.viewSetStep 0 0) tFeed).dev.tb.era = tFeed.dev.tb.era + 1 := by decide +kernel
theorem test_stamp_missed : (after (.tdcStamp 16 255 true) tEdges).dev.tb.missed = 1 := by decide +kernel
theorem test_taps_fail : (after (.tdcTapMeasure 79) tEdges).dev.tb.trackFail = true ∧ (after (.tdcTapMeasure 80) tEdges).dev.tb.trackFail = false := by decide +kernel
theorem test_lock_after_settling : ((after (.mcsLockAcquired ⟨0, [⟨100000, 0⟩]⟩) (mSyn true { st := 2 } id)).dev.mcsn 0).st = 3 := by decide +kernel
theorem test_ramp_repeats : ((after (.rampSegmentEnd 0) (mSyn true (mRamp 1 10 2) id)).dev.mcsn 0).seg = 0 := by decide +kernel
theorem test_trigger_bad_action : ((after (.triggerArm 0 0 0x20) (aTrig .idle 9 5)).dev.trig 5).refuse = 2 := by decide +kernel
theorem test_level_high : padLevel { base.root with ec := 512010240 } (after (.triggerFire 5) (aTrig .armed 0x02000002 511999999)).dev 2 = true := by decide +kernel
theorem test_capture_sequence : ((after (.capture 2) (aCap none 0x80000000)).dev.capt 2).seq = 1 := by decide +kernel
theorem test_quarantine : (after .treadZeroed lDirty).dev.lnd.quar = [6] ∧ memByte (after .treadZeroed lDirty).mem (6 * 512) = 0 := by decide +kernel
theorem test_pointer_error : ((after (.corRdWrite 0 3 72) (lCor { st := .active, sizeLog := 2, wr := 64, rd := 32 })).dev.cor 3).ptrErr = 1 := by decide +kernel
theorem test_record_sequence : ((after (.corridorRecordCommit 3 1 0 [1, 2, 3]) (oCor .active id)).dev.cor 3).wr = 16 := by decide +kernel
theorem test_link_up : ((after (.linkUp 0 .g1) (nPort {} 0x41)).dev.netp 0).link = true := by decide +kernel
theorem test_mdio_dropped : ((after (.mdioRead 0 0 1) (nPort { mdio := some (0, 1) } 1)).dev.netp 0).drops = 1 := by decide +kernel
theorem test_frame_counted : nget ((after (.frameReceive 0 (ethFrame 1 2 0x88B5 46) true true true false) (nPort { link := true } 1)).dev.netp 0).cnt 7 = 64 := by decide +kernel
theorem test_stream_refused : ((after .admissionComplete (xAsk (txW0 - 2 ^ 26) true)).dev.txn 5).st = 4 := by decide +kernel
theorem test_conceal : ((after (.rxPresent 5) (later (xRx 2 true true fun x => { x with slots := [] }))).dev.rxn 5).concealed = 1 := by decide +kernel
theorem test_swap : (after .routeSwap (yRte [] false (some (512000000, false)))).dev.rte.live = 1 := by decide +kernel
theorem test_rate_held : (after (.rteRateWrite 0 3) (xTx 2 txW0 15 true true false)).dev.rte.fsRefuse = 1 := by decide +kernel
theorem test_sap_glitch : ((after (.sapFrame 2 [] 512000000 true true true) (zRun 0 62 false 95 id)).dev.sapn 2).clk = 2 := by decide +kernel
theorem test_alarm_cleared : (after (.alarmClear 0 4) (oAlarm true)).dev.tw .alarm 4 3 = 0 := by decide +kernel
theorem test_temperature : (after (.tempSupervisorEval 0x7FFF true) (oSup 0)).dev.flt.tempState = 2 := by decide +kernel

/-! ### Operands that no command carries -/

theorem illFormed_power : Instr.wf (.dozeWake ⟨0, true⟩ (2 ^ 32)) = false := by decide
theorem illFormed_register :
    Instr.wf (.registerWrite 0 0x200000 ⟨0, none⟩ false) = false ∧ Instr.wf (.registerWrite 0 0x41 ⟨0, none⟩ false) = false ∧
    Instr.wf (.registerWrite 0 0x44 ⟨0, some 0⟩ false) = false ∧ Instr.wf (.lwRead 0 ⟨0x1FFFFC, 5⟩) = false ∧ Instr.wf (.lwRead 0 ⟨0x40, 0⟩) = false ∧
    Instr.wf (.shWrite 0 (Blk.clk.addr 0x044) 0) = false ∧ Instr.wf (.lwCommit 0 (Blk.clk.addr 0x044) 0) = false ∧
    Instr.wf (.tableEntryCommit 0 (Tbl.txs.addr 5 1) 0) = false ∧ Instr.wf (.pwWrite 0 (Blk.flt.addr 0x048) 0) = false := by decide
theorem illFormed_links :
    Instr.wf (.qspiWr 0 0 [] 0 0) = false ∧ Instr.wf (.qspiWr 0 0 (List.replicate 17 0) 0 0) = false ∧ Instr.wf (.qspiReservedOpcode 0 4 0 0 0) = false ∧
    Instr.wf (.apertureRead 0 0xFFFFFF 2) = false ∧ Instr.wf (.apertureWrite 0 0 []) = false := by decide
theorem illFormed_times :
    Instr.wf (.sfdPairing 0 true ⟨2 ^ 64, false⟩) = false ∧ Instr.wf (.refLosDetect [⟨true, 2 ^ 64⟩]) = false ∧ Instr.wf (.txFrameLaunch 0 0 (2 ^ 64)) = false ∧
    Instr.wf (.sapFrame 0 [] (2 ^ 64) true true true) = false ∧
    Instr.wf (.frameReceive 0 [] true true true false) = false := by decide
theorem wellFormed_samples :
    Instr.wf (.registerWrite 0 0x1FFFFC ⟨0, none⟩ false) = true ∧ Instr.wf (.registerWrite 0 0x48 ⟨0, some 0⟩ false) = true ∧ Instr.wf (.shWrite 0 (Blk.tbe.addr 0x124) 0) = true ∧
    Instr.wf (.tableEntryCommit 0 (Tbl.txs.addr 5 0) 0) = true ∧ Instr.wf (.pwWrite 0 (Blk.clk.addr 0x044) 0) = true ∧
    Instr.wf (.apertureRead 0 0xFFFFFF 1) = true ∧ Instr.wf (.qspiWr 0 0 (List.replicate 16 0) 0 0) = true := by decide


/-! ### Witnesses of further clauses: power, registers, events, stamps -/

/-- RST_N reads 0 at its pad or reads 1, in every state from which a bring-up starts. -/
theorem meets_PinsStartAndStop_held :
    let low := fun (s : State) => { s with root := { s.root with rstLow := true } }
    (∀ s ∈ [pOff, pShelf, pWake false], rstReads0 s = false ∧ rstReads0 (low s) = true) ∧
    (low pShelf).root.power = .shelf ∧ (low (pWake false)).root.power = .waking false ∧ pShelf.root.en = true := by decide

/-- The fallback on XO_FAIL and without it; VIN below its warning and above. -/
theorem meets_SuppliesAndClocks_fallback :
    pXo.dev.pf .clk 0x044 0 0 = 1 ∧ (pXo.dev.setPwv .clk 0x044 0).pf .clk 0x044 0 0 ≠ 1 ∧ base.dev.pwr.vinWarn = false ∧ base.root.power ≠ .off := by decide

/-- A write by one who is no steward, outside the partition, of a read-only register by the page's steward; an entry that sends to a stream that the
writer does not own. -/
theorem meets_FailedWritesAreReported_right :
    writeRight base.root base.dev 1 (.mcs 0) 0x040 .pw 1 = .notSteward ∧ writeRight base.root base.dev 1 .trg 0x110 .rw 1 = .outside ∧
    writeRight base.root base.dev 0 (.mcs 0) 0x044 .ro 1 = .ignored ∧ ((Blk.mcs 0).reg 0x044).map (·.ty) = some .ro ∧
    writeRight rBusy.root rBusy.dev 0 (.mcs 0) 0x040 .pw 1 = .ok ∧ writeRight rSealed.root rSealed.dev 0 .gal 0x050 .lohk 1 = .ok ∧
    place (Tbl.flow.addr 3 0) = .table .flow 3 0 ∧ tableRight base.root base.dev 0 .flow 3 = .ok ∧
    contentOk base.root base.dev 0 .flow (commitWords base.dev 0 .flow 3 0x81014000) = false := by decide +kernel

/-- A plain register, one the device sets in the write's own cycle, and one whose bits it never sets; a page with a fault left and none; ARM ended by
its count, by its mode, and kept. -/
theorem meets_RegisterWritesTake_plain :
    Blk.mcs 7 ∈ Blk.all ∧ (Blk.mcs 7).plain 0x200 = true ∧ hwMask (.mcs 7) 0x200 = 0 ∧ (0x200 : Nat) < 0x1000 ∧ hwMask .ref 0x120 ≠ 0 ∧ Blk.ref.plain 0x120 = true ∧
    nget base.dev.hwSet (Blk.ref.addr 0x120) ≠ base.root.cyc + 1 ∧ Blk.flt.page = 0x62 ∧
    (let c := (rFault.dev.pg .flt).cycle rFault.root
     let left := fun (g i : Nat) (w : Word) => (nbit c.2 i || c.1.any fun f => f.who == g && f.bit == i) && !bitOf w i
     ([1, 2, 3, 4, 5].any fun i => left 1 i 0) = true ∧ (∀ i < 6, left 1 i 0x3E = false) ∧ (∀ i < 6, left 0 i 0 = false)) ∧
    (rFault.dev.pg .flt).later rFault.root 1 = [] ∧ (rFault.dev.pg .flt).later rFault.root 0 ≠ [] ∧
    bitOf (rFault.dev.reg .flt 0x01C) 0 = true ∧ fld (rFault.dev.reg .flt 0x01C) 2 1 = 0 ∧
    bitOf (maskedWord 1 0x60006) 0 = true ∧ fld (maskedWord 1 0x60006) 2 1 = 3 ∧ fld (maskedWord 1 0x20002) 2 1 = 1 ∧ base.dev.injCount .flt = 0 := by
  decide +kernel

/-- A fault of an earlier cycle, which a clear that leaves its bit keeps captured. -/
theorem meets_RegisterWritesTake_older :
    let s : State := { rFault with root := { rFault.root with ec := 600064000 } }
    canWrite s 0 .flt 0x00C 0 = true ∧ nbit ((s.dev.pg .flt).cycle s.root).2 4 = true ∧ (s.dev.pg .flt).later s.root 0 = [] := by decide +kernel

/-- Commits of a plain group and of a posted one; of a view that takes it; a read of one byte. -/
theorem meets_GroupsAreWhole :
    ((Blk.ptp 1).reg 0x054).map (·.ty) = some (.lwRw 3) ∧ canWrite rHeld 0 (.ptp 1) 0x054 7 = true ∧ ((Blk.mcs 0).reg 0x048).map (·.ty) = some (.lwPw 2) ∧
    ((Blk.mcs 0).reg 0x04C).map (·.ty) = some (.shPw 1) ∧ canWrite base 0 (.mcs 0) 0x048 7 = true ∧ canWrite base 0 (.mcs 0) 0x04C 7 = true ∧
    canWrite tFeed 0 .tbe 0x120 0 = true ∧ viewSetRefused tFeed.dev ((0x120 - 0x120) / 0x80) 0 = false ∧ Blk.ptp 1 ∈ Blk.all ∧
    ((Blk.mcs 7).reg 0x200).map (·.ty) = some .rw ∧ (1 : Nat) + 3 ≤ 4 ∧ Blk.mcs 0 ≠ .tbe := by decide

/-- The last entry of the flow table and its last word, with words held for it and for others. -/
theorem meets_TableEntryCommits :
    (4095 : Nat) < Tbl.flow.entries ∧ canCommit rHeld 0 .flow 4095 5 = true ∧ statusWord .flow 1 = false ∧ (1 : Nat) < Tbl.flow.size / 4 ∧
    tableRight base.root base.dev 0 .flow 4095 = .ok ∧ tornEntries rHeld.dev 0 .flow 4095 ≠ [] ∧ tornEntries base.dev 0 .flow 3 = [] ∧
    canCommit base 0 .rxs 5 0x80000000 = true ∧ statusWord .rxs 5 = false ∧ (5 : Nat) < Tbl.rxs.size / 4 := by decide

/-- Elements selected by PART_SEL, and values 6 and above its limit. -/
theorem meets_PartitionSealAndSleep :
    canWrite (gPart .corridor 5) 0 .gal 0x050 6 = true ∧ partSel (gPart .corridor 5).dev = some (.corridor, 5) ∧ Res.corridor ≠ .aptLimit ∧
    canWrite (gPart .aptLimit 2) 0 .gal 0x050 0x80010000 = true ∧ partSel (gPart .aptLimit 2).dev = some (.aptLimit, 2) ∧
    canWrite (gPart .corridor 300) 0 .gal 0x050 1 = true ∧ partSel (gPart .corridor 300).dev = none ∧
    canWrite base 0 .dev 0x044 1 = true ∧ reaches gAwake 4 = true := by decide

/-- Sources dispatched to gallery 0 and claimed at it, before a reset of it. -/
theorem meets_GalleryResets :
    eSources.root.coreOn = true ∧ canWrite eSources 0 .gal 0x054 0x3F = true ∧ eSources.dev.hif.linkUp = true ∧ bitOf 0x3F 5 = true ∧ bitOf 0x1F 5 = false ∧
    (eSources.dev.src 42).tgt / 8 = 0 ∧ (eSources.dev.src 42).st = .dispatched ∧ (eSources.dev.src 43).st = .active ∧ (eSources.dev.src 44).st = .activePending := by
  decide

/-- The bursts of a frame at their ends, and ports in every state that answers in its own way. -/
theorem meets_VelgeletFrames_states :
    (∀ p ∈ [Power.off, .rstHeld, .shelf, .waking false, .doze, .waking true, .entering true, .entering false],
      (onR fun r => { r with power := p }).root.power = p ∧ (p ∈ [.doze, .waking true, .entering true, .entering false] → bankDown base.dev 3 = false)) ∧
    ([5] : List Word).length = 1 ∧ (List.replicate 16 (5 : Word)).length ≤ 16 := by decide

/-- An access that begins on treads and ends past them. -/
theorem meets_ApertureAccesses_mixed :
    reaches gMapped 0 = true ∧ aptResolve gMapped.dev 0 0x1000 ≠ none ∧ aptResolve gMapped.dev 0 0x13FF ≠ none ∧ aptResolve gMapped.dev 0 0x1400 = none ∧
    (List.range 8).any (fun i => (aptResolve gMapped.dev 0 (0x13FC + i)).isNone) = true ∧
    (List.range 4).any (fun i => (aptResolve gMapped.dev 0 (0x13FC + i)).isNone) = false := by decide +kernel

/-- Line 70 has read 0 since it was sampled; it was sampled 1 and stays there; line 71 is low. -/
theorem meets_EdgesMakePending :
    (∀ n ∈ [40, 41, 43], isLevel n = false ∧ 0 < (eSources.dev.src n).pulses) ∧ isLevel 49 = false ∧ (eSources.dev.src 49).pulses = 0 ∧
    isLevel 70 = true ∧ lineOf (eLevel false).root (eLevel false).dev 70 = true ∧ wasLow (eLevel false).dev 70 = true ∧ wasLow (eLevel true).dev 70 = false ∧
    isLevel 71 = true ∧ lineOf (eLevel false).root (eLevel false).dev 71 = false ∧ (eSources.dev.src 40).st = .idle ∧ (eSources.dev.src 43).st = .active ∧
    (eSources.dev.src 41).st = .pending := by decide

/-- A pending bit that an edge set in the write's own cycle, one merged into in it, and one that neither touched. -/
theorem meets_SourceRegisters_merged :
    let s := onD fun d => (d.setSrc 42 { st := .pending, setCyc := base.root.cyc + 1 }).setSrc 43 { st := .pending, mergeCyc := base.root.cyc + 1 }
    (s.dev.src 42).setCyc = s.root.cyc + 1 ∧ (s.dev.src 43).mergeCyc = s.root.cyc + 1 ∧ (s.dev.src 44).setCyc ≠ s.root.cyc + 1 ∧
    (s.dev.src 44).mergeCyc ≠ s.root.cyc + 1 ∧ canWrite s 0 (lineBlk none) 0x104 0 = true ∧ canWrite s 0 (lineBlk (some 0)) 0x104 0 = true := by decide

/-- Delimiters of two ports judged in one cycle: the lower channel takes POINT 1; a transmit stamp that completes a head, one that leaves it waiting for
the other port, and one of a fragment received. -/
theorem meets_StampsAreTaken_heads :
    sfdYields tPins.dev 1 false 511905000 [(0, false, 511905000)] = true ∧ sfdYields tPins.dev 0 false 511905000 [(1, false, 511905000)] = false ∧
    sfdWaiting [.sfdPairing 0 false ⟨511905000, false⟩] = [(0, false, 511905000)] ∧
    (let h := fun (b : Bool) => ({ pos := 0, len := 64, vif := 0, stamp := true, ecc := false, frame := [], held := false, elig := 0, ports := 0, sent := if b then 3 else 1 } : OutHead)
     let s := fun (b : Bool) => onD fun d => (d.setHead 3 (some (h b))).setNetp 0 { link := true, speed := 3, awaitTx := [.gallery 3] }
     let st : Stamp := {}
     ∀ b : Bool, (s b).dev.rb .tbe 0x040 1 = false ∧ ((s b).dev.netp 0).awaitTx = [.gallery 3] ∧ (s b).dev.head 3 = some (h b) ∧ (h b).ports = 0 ∧ (h b).sent ≠ 0 ∧
       ({ h b with stA := some st } : OutHead).stamped = !b) := by decide +kernel


/-! ### Witnesses of further clauses: engines, references, clocks, the Landing -/

/-- A Sync that arrives after its engine's time without one has passed, and one that comes in time. -/
theorem meets_PtpReceive_late :
    syncLate (tTimeout 4).dev 0 4096000000 = true ∧ syncLate (tTimeout 4).dev 0 1 = false ∧ corInjTarget (tTaken 11).root (tTaken 11).dev = 0 ∧
    injects .cor 0 ((tTaken 11).dev.setReg .cor 0x01C 1) = true := by decide +kernel

/-- CTRL posted to a synthesizer that is enabled already; outputs enabled with the discipline ALIGNED and not, with the synthesizer locked and not;
outputs disabled, divided and delayed, enabled and not. -/
theorem meets_McsPosted_again :
    (let s := mPost true { st := 3, disc := 2 } 0x040 [5]
     s.dev.post (.mcs 0) = some { off := 0x040, ws := [5] } ∧ bitOf (s.dev.pwv (.mcs 0) 0x040) 0 = true ∧ bitOf 5 0 = true) ∧
    ((mPost true { st := 2 } 0x060 [0x80000001]).dev.mcsn 0).st ≠ 3 ∧ ((mPost true { st := 2 } 0x060 [0x80000001]).dev.mcsn 0).disc = 0 ∧
    (mPost true { st := 3 } 0x068 [0]).dev.post (.mcs 0) = some { off := 0x068, ws := [0] } ∧
    (let s := mPost true { st := 3 } 0x068 [0x80000001]
     s.dev.post (.mcs 0) = some { off := 0x068, ws := [0x80000001] } ∧ bitOf (s.dev.pwv (.mcs 0) 0x068) 31 = true ∧ fld (s.dev.pwv (.mcs 0) 0x068) 9 0 ≠ 1) ∧
    bitOf ((mPost true { st := 3 } 0x06C [5]).dev.pwv (.mcs 0) 0x068) 31 = true ∧
    (mPost true { st := 3 } 0x064 [0x3FFF]).dev.post (.mcs 0) = some { off := 0x064, ws := [0x3FFF] } ∧
    bitOf ((mPost true { st := 3 } 0x064 [0x3FFF]).dev.pwv (.mcs 0) 0x060) 31 = false := by decide

/-- Runs of phase errors in which no earlier prefix locks or unlocks: a long one outside the window, and a short one inside it. -/
theorem meets_McsRuns_runs :
    let d := (mSyn true { st := 3 } id).dev
    let lockCnt := max 1 (d.pf (.mcs 0) 0x058 31 16)
    let unlockCnt := max 1 (d.pf (.mcs 0) 0x058 15 12)
    let seen := fun (err : List PhaseRun) => err.foldl (Mcs.judge (lockWin d 0)) (d.mcsn 0)
    let a : PhaseRun := { n := 1, ps := 0 }
    let b : PhaseRun := { n := unlockCnt, ps := 1000000 }
    (seen [a]).inWin < lockCnt ∧ (seen [a]).outWin < unlockCnt ∧ unlockCnt ≤ (seen [a, b]).outWin ∧ (seen [b, a]).outWin < unlockCnt ∧
    Mcs.noRef base.root { st := 2, refLoss := true } = true ∧ Mcs.noRef base.root { st := 2, refInj := 512000001 } = true ∧ Mcs.noRef base.root { st := 2 } = false ∧
    (mSyn true { st := 1 } id).dev.mcsn 0 = { st := 1 } := by decide +kernel

/-- A capture whose corridor takes its record, and one without COR_EN. -/
theorem meets_CapturesAreRecorded_corridor :
    let s : State := { aCap none 0xA0003000 with dev := (((aCap none 0xA0003000).dev.setCor 3 { st := .active, sizeLog := 2, cfg := 0x80000002 }).setExt (consCor 3)
      { start := 8, treads := [4, 5, 6, 10], g := 0, apt := 0 }) }
    bitOf (capCfg s.dev 2) 29 = true ∧ fld (capCfg s.dev 2) 19 12 = 3 ∧ bitOf (capCfg (aCap none 0x80000000).dev 2) 29 = false ∧
    (s.dev.cor 3).takes = true ∧ (s.dev.cor 3).fits [32] = true ∧ injects .cor 0 s.dev = false ∧ (s.dev.capt 2).last = none := by decide

/-- An admission whose ENA was cleared in ADMITTING, of a corridor and of a buffer; in QUIET a corridor's goes on and a stream's waits. -/
theorem meets_AdmissionsEnd :
    let c : State := lAsks 0 0x80000003 { sizeLog := 3, quit := true }
    let b : State := lBuf { quit := true } true
    let q : State := { lBuf {} true with root := { (lBuf {} true).root with power := .quiet } }
    let may := fun (s : State) (e : Admit) => s.root.running || decide (0x800 ≤ e.cons ∧ e.cons < 0x900)
    (c.dev.cor 3).quit = true ∧ bitOf (c.dev.cor 3).cfg 31 = true ∧ lndCheck c.dev 0 (corReq c.root c.dev 0 3) = 0 ∧
    (b.dev.hb 3).quit = true ∧ bitOf (hbCfg b.dev 3) 31 = true ∧ bitOf (hbCfg (lBuf {} false).dev 3) 31 = false ∧
    q.dev.lnd.admitQ.find? (may q) = none ∧ (let z := { c with root := { c.root with power := .quiet } }; z.dev.lnd.admitQ.find? (may z) = some ⟨1, 0, consCor 3⟩) ∧
    (let s := lShort 8 []; ¬(freeCount s.dev < 8 ∧ 8 ≤ freeCount s.dev + s.dev.lnd.zeroing.length)) := by decide +kernel

/-- Words the scrub finds bad, soft and clean; away from a tread's first word. -/
theorem meets_LandingUpkeep :
    lDirty.root.coreOn = true ∧ lDirty.dev.lnd.zeroing = 6 :: [7] ∧ lDirty.dev.rb .lnd 0x040 0 = true ∧
    (lUe.dev.lnd.scrubWord = 7 ∧ 7 ∈ lUe.dev.lnd.ue ∧ 7 % 64 ≠ 0) ∧ (lClean.dev.lnd.scrubWord = 5 ∧ 5 ∈ lClean.dev.lnd.ce ∧ 5 ∉ lClean.dev.lnd.ue ∧ injects .lnd 1 lClean.dev = false) ∧
    lDirty.dev.lnd.scrubWord ∉ lDirty.dev.lnd.ue ∧ canWrite lDirty 0 .lnd 0x084 1 = true := by decide

/-- Buffers enabled and disabled in RUN and in QUIET; PTR of a host-read buffer, of a host-write one, and in the cycle that an admission sets it. -/
theorem meets_HostBufferControl :
    let q : State := onR fun r => { r with power := .quiet }
    q.root.power = .quiet ∧ canWrite q 5 .lnd (0x200 + 0x10 * 47) 0x80000000 = true ∧ canWrite q 5 .lnd (0x200 + 0x10 * 47) 0 = true ∧
    q.dev.owed.contains (.hb 47) = false ∧ base.root.power ≠ .quiet ∧ canWrite base 5 .lnd (0x20C + 0x10 * 47) 7 = true ∧ bitOf (hbCfg base.dev 47) 30 = false ∧
    ((lRuns true false 0).dev.hb 9).read = true ∧ nget base.dev.hwSet (Blk.lnd.addr (0x20C + 0x10 * 47)) ≠ base.root.cyc + 1 ∧ (base.dev.hb 47).ptr < 2 ^ 32 ∧
    (let d : Dev := { base.dev with hwSet := [(Blk.lnd.addr (0x20C + 0x10 * 47), base.root.cyc + 1)] }
     nget d.hwSet (Blk.lnd.addr (0x20C + 0x10 * 47)) = base.root.cyc + 1) ∧
    ((lBuf {} true).dev.hb 3).st = .admitting ∧ ((lRuns false false 0).dev.hb 9).st = .active := by decide

/-- A sample whose words are whole, and one that lies in an uncorrectable word; a slot that waits for one channel alone. -/
theorem meets_HostBufferPeriods :
    let s := lRuns false false 96
    let x := s.dev.hb 9
    let bad : Dev := s.dev.lndMap fun l => { l with ue := [4 * 64] }
    s.root.running = true ∧ x.st = .active ∧ x.read = false ∧ x.closing = false ∧ newPeriod s.dev x.last 96 = true ∧ sgn (pdiff x.ptr (uns 96 32)) 32 = 0 ∧
    physAt s.dev (consHb 9) (slotPlace x 96 0) = some 2048 ∧ wordBad s.dev (2048 / 8) = false ∧ wordBad bad (2048 / 8) = true ∧
    s.dev.rte.hist.filter (·.waits) = [] ∧
    (let p : EvalPer := { k := 95, out := [(0x6000, (256, 0)), (0x6001, (512, 0))], hb := [9] }
     let d := (lRuns true false 0).dev
     p.todo = [] ∧ p.lvl = [] ∧ p.waits = true ∧ ({ d.hb 9 with from' := some 95 } : Hbuf).writes p.k = true) ∧
    (lRuns true true 0).dev.hb 9 = { (lRuns true false 0).dev.hb 9 with closing := true } := by decide +kernel

/-- Nothing of the Landing is uncorrectable at reset. -/
theorem meets_RecordsAreCommitted_clean : extentClean (oCor .active id).dev (consCor 3) := fun _ _ _ => rfl

/-- A record that fits before the end of its ring, one that wraps, one cut to the ring; an uncorrectable word under a payload. -/
theorem meets_RecordsAreCommitted_ring :
    let d := (oCor .active id).dev
    let x := d.cor 3
    x.len = 2048 ∧ recSize 16 ≤ x.len - x.wr % x.len ∧ x.fits [min 5000 (min (x.len - 16) 65528)] = true ∧
    (let y := { x with wr := 2040, rd := 2040, mark := 2040, rel := 2040 }; y.fits [16] = true ∧ ¬recSize 16 ≤ y.len - y.wr % y.len) ∧
    (let e : Dev := d.lndMap fun l => { l with ue := [4 * 64 + 1] }
     physAt e (consCor 3) 8 = some 2056 ∧ wordBad e (2056 / 8) = true ∧ (0 : Nat) < recSize 16 - 8 ∧ x.wr % 8 = 0) := by decide +kernel

/-! ### Witnesses of further clauses: ports, streams, routes, serial ports, monitors -/

/-- The end of auto-negotiation on a port that negotiates and on one that does not; a speed change that leaves the flights as they are. -/
theorem meets_Links :
    let s := nPort { link := true, pcsLock := true, speed := 3 } 0x41
    let n := nPort { link := true, pcsLock := true, speed := 3 } 0x01
    s.dev.rb (.net 0) 0x040 6 = true ∧ n.dev.rb (.net 0) 0x040 6 = false ∧ n.dev.rb (.net 0) 0x040 0 = true ∧ (n.dev.netp 0).pcsLock = true ∧
    (modeSpeed s.dev 0 .g1).isSome = true ∧ (modeSpeed s.dev 0 .g10).isSome = true ∧ modeSpeed s.dev 0 .other = none := by decide

/-- A link that falls with one record in hand for it, not held and not sent. -/
theorem meets_Links_head :
    let s := nLine { link := true, pcsLock := true, speed := 3 } (some (outHead 60 false 0))
    s.dev.net.head = [(3, some (outHead 60 false 0))] ∧ (outHead 60 false 0).held = false ∧ (outHead 60 false 0).ports = 2 ^ 0 ∧ (outHead 60 false 0).sent = 0 ∧
    (s.dev.netp 0).link = true ∧ (s.dev.netp 0).pcsLock = true ∧ s.dev.rb (.net 0) 0x040 0 = true := by decide

/-- A port that is disabled with its line free, with a frame in transmission, and with no head that waits for it. -/
theorem meets_PortControl_disable :
    let s := nPort { link := true, pcsLock := true } 0x41
    let b := nPort { link := true, pcsLock := true, busyTo := 512000001 } 0x41
    ¬((s.dev.netp 0).link = true ∧ ((s.dev.netp 0).cur ≠ none ∨ s.root.ec < (s.dev.netp 0).busyTo)) ∧
    ((b.dev.netp 0).link = true ∧ b.root.ec < (b.dev.netp 0).busyTo) ∧ s.dev.net.head = [] ∧ canWrite s 0 (.net 0) 0x040 0x40 = true ∧
    s.root.coreOn = true ∧ ((nPort { mdio := some (0x40000000, 1) } 1).dev.netp 0).mdio = some (0x40000000, 1) ∧ fld 0x40000000 31 30 ≠ 0 := by decide

/-- A late head of which a copy has left, its last port, its stamps complete; a corridor that closes over one record, and one without records. -/
theorem meets_OutRecords_done :
    let h := { outHead 60 false 0 with sent := 2, ports := 1 }
    let s := { nLine { link := true, speed := 3 } (some h) with dev := (nLine { link := true, speed := 3 } (some h)).dev.setReg .shp 0x100 0x00010000 }
    s.dev.head 3 = some h ∧ h.sent ≠ 0 ∧ nset h.ports 0 false = 0 ∧ h.stamped = true ∧ onLine s.dev 0 3 = false ∧ shp s.dev 0 0 31 16 = 1 ∧
    h.elig + 1 * 256000000 ≤ s.root.ec ∧
    (let c := nOut .closing 60 0 id
     (c.dev.cor 3).rd % (c.dev.cor 3).len = 0 ∧ headWord c.mem c.dev 3 0 / 2 ^ 48 = 60 ∧ headWord c.mem c.dev 3 (recSize 60) / 2 ^ 48 = 0 ∧ c.dev.head 3 = none) ∧
    headWord (nOut .closing 0 0 id).mem (nOut .closing 0 0 id).dev 3 0 / 2 ^ 48 = 0 ∧ extentClean s.dev (consCor 3) :=
  ⟨rfl, by decide, rfl, rfl, by decide, by decide +kernel, by decide, by decide +kernel, by decide +kernel, fun _ _ _ => rfl⟩

/-- Streams in QUIET; a stream in ADMITTING; one that has built no frame. -/
theorem meets_TxStreamControl_quiet :
    let q := fun (s : State) => { s with root := { s.root with power := .quiet } }
    let s := q (xTx 2 txW0 0 true true false)
    s.root.power = .quiet ∧ canCommit s 0 .txs 5 (setBit (wd txW0) 31 true) = true ∧ canCommit s 0 .txs 5 (setBit (wd txW0) 31 false) = true ∧
    s.dev.owed.contains (.tx 0 5) = false ∧ (xTx 2 txW0 0 true true false).root.power ≠ .quiet ∧ ((xTx 1 txW0 0 true true false).dev.txn 5).st = 1 ∧
    ((xTx 3 txW0 0 true true false).dev.txn 5).st = 3 ∧ ((xTx 2 txW0 0 true true false).dev.txn 5).unsent = true ∧
    canCommit (q (xRx 2 true true id)) 0 .rxs 5 (setBit (wd rxW0) 31 true) = true ∧ (q (xRx 2 true true id)).root.power = .quiet ∧
    (q (xRx 2 true true id)).dev.owed.contains (.rx 0 5) = false := by and_intros <;> decide +kernel

/-- An admission whose ENA was cleared in ADMITTING, of a transmit stream and of a receive stream. -/
theorem meets_TxFrames_quit :
    (let s := xAsk txW0 true
     let u : State := { s with dev := s.dev.setTx 5 { s.dev.txn 5 with quit := true } }
     (u.dev.txn 5).quit = true ∧ txReason u.root u.dev (u.dev.txn 5) = 0 ∧ u.dev.tf .txs 5 0 31 31 = 1 ∧ (xAsk txW0 false).dev.tf .txs 5 0 31 31 = 0) ∧
    (let s := xRxAsk 0x40 true
     let u : State := { s with dev := s.dev.setRx 5 { s.dev.rxn 5 with quit := true } }
     (u.dev.rxn 5).quit = true ∧ rxReason u.root 5 u.dev = 0 ∧ u.dev.tf .rxs 5 0 31 31 = 1 ∧ (xRxAsk 0x40 false).dev.tf .rxs 5 0 31 31 = 0) ∧
    (∀ start, start ≤ base.root.ec → base.root.ec < base.root.ec + 1) := ⟨by decide +kernel, by decide +kernel, fun _ _ => Nat.lt_succ_self _⟩

/-- Periods with nothing waiting; a destination that nothing reaches, one that mixes, and one whose source has not supplied the period. -/
theorem meets_RoutesAreEvaluated :
    let s := yRte [contr 1 0x10 0x1000 5] false none
    let k := evalNext s.root s.dev
    let d0 := routeSwap s.root (fadeEnd s.root s.dev)
    let mixed := fun (c : Nat) => d0.rte.con.filter fun y => y.active && y.dst == c && !((validRoutes d0 c).drop 8).contains y
    k = 96 ∧ bNow s.dev k ≤ s.dev.atNow s.root ∧ s.dev.rte.hist.filter (·.waits) = [] ∧ mixed 0x1001 = [] ∧ (mixed 0x1000).length = 1 ∧
    awaited d0 0x10 k = false ∧ (∀ j < 48, (s.dev.hb j).writes k = false) ∧
    (let u := lRuns true false 0
     (u.dev.hb 9).writes 97 = true ∧ (u.dev.hb 8).writes 97 = false) := by decide +kernel

/-- A swap pending for a later period, and none; entries of both banks, during a crossfade and without one. -/
theorem meets_RouteCommands :
    let s := yRte [contr 1 0x10 0x1000 5] false (some (999999999, true))
    bNow s.dev (evalNext s.root s.dev) < 999999999 ∧ s.dev.rte.pending = some (999999999, true) ∧ base.dev.rte.pending = none ∧
    (yRte [contr 1 0x10 0x1000 5] true none).dev.rte.fading = true ∧ (yRte [contr 1 0x10 0x1000 5] true none).dev.rte.live = 0 ∧ fld 6 2 0 = 6 ∧ fld 5 2 0 = 5 ∧
    canCommit base 0 (bankTbl 0) 8191 0x80001000 = true ∧ canCommit base 0 (bankTbl 1) 0 5 = true := by and_intros <;> decide +kernel

/-- Ports in every state that a write of CTRL finds, groups that have a timed member and none, and QUIET. -/
theorem meets_SapControl_states :
    (∀ st ∈ [0, 1, 2, 3, 4, 5, 6, 7], (let s := zSap 1 fun x => { x with st := st }; (sapTurn s.root 2 s.dev).sapn 2).st = st) ∧
    canWrite (zSap 0x11 id) 0 (.sap 2) 0x044 (setBit (setBit 0 16 true) 0 true) = true ∧ canWrite (zSap 0x11 id) 0 (.sap 2) 0x044 (setBit (setBit 0 16 true) 0 false) = true ∧
    (let s := zSap 0x11 fun x => { x with st := 2 }
     sapCtl s.dev 2 4 = true ∧ bitOf 0xFF (sapGroup s.dev 2) = true ∧ (groupMembers s.dev (sapGroup s.dev 2) 2).any (fun m => (s.dev.sapn m).phi0.isSome) = false) ∧
    (let s := zSap 0x11 fun x => { x with st := 2, phi0 := some 0 }
     (groupMembers s.dev (sapGroup s.dev 2) 2).any (fun m => (s.dev.sapn m).phi0.isSome) = true) ∧
    (let q := { zSap 0x11 id with root := { (zSap 0x11 id).root with power := .quiet } }
     q.root.power = .quiet ∧ canWrite q 0 (.sap 2) 0x044 0x10001 = true ∧ canWrite q 0 .sapg 0x040 0xFF = true ∧ canWrite q 0 .sapg 0x044 0xFF = true) := by
  and_intros <;> decide +kernel

/-- The clock that stops drives the reference selector, or another's does; an admission whose ENA was cleared. -/
theorem meets_SapStates_clock :
    (let s := zSap 7 fun x => { x with lastEdge := 0 }
     (s.dev.setReg .ref 0x040 0x200).rf .ref 0x040 12 8 = 2 ∧ s.dev.rf .ref 0x040 12 8 ≠ 2 ∧ (s.dev.sapn 2).clk ≠ 1) ∧
    ((zSap 7 fun x => { x with clk := 1 }).dev.sapn 2).clk = 1 ∧
    (let s := zAsk 1 id
     let u : State := { s with dev := s.dev.setSap 2 { s.dev.sapn 2 with quit := true } }
     (u.dev.sapn 2).quit = true ∧ sapConfigOk u.dev 2 = true ∧ sapCtl u.dev 2 0 = true) := by decide +kernel

/-- An edge 4T after the last; a starting port whose period comes with the frame; an edge before the last. -/
theorem meets_SapFrames_starts :
    (let d := zSeen (zRun 0 63 false 95 fun x => { x with lastEdge := 1000 })
     (d.sapn 2).lastEdge + sap4T d ≤ 512000000) ∧
    (let s := zRun 0 63 false 95 fun x => { x with st := 3, k0 := some 96, leadK := 96 }
     let x := (sapTurn s.root 2 (zSeen s)).sapn 2
     let k := sapPeriodOf (zSeen s) x ((zSeen s).tb.at'.val 512000000)
     x.st = 3 ∧ x.k0 = some 96 ∧ 96 ≤ k ∧ x.leadK ≤ k ∧ max 1 (fld ((zSeen s).reg (.sap 2) 0x04C) 31 24) ≤ x.good + 1 ∧ x.cur.isSome = true) ∧
    ((zRun 0 63 false 95 id).dev.sapn 2).lastEdge ≤ 511985000 ∧ ¬((zRun 0 63 false 95 id).dev.sapn 2).lastEdge ≤ 511984999 ∧
    (let s := zRun 0 62 false 95 fun x => { x with tail := none, cur := x.cur.map fun f => { f with second := false } }
     (s.dev.sapn 2).cur.isSome = true) := by decide +kernel

/-- A slot that has taken a value in the snapshot's own cycle, and one that has not. -/
theorem meets_MonitorSlots_late :
    (sget (fun _ => {}) base.dev.mon.late 40).cyc ≠ base.root.cyc + 1 ∧ owner base.root base.dev .monSlot (40 / 8) = 0 ∧
    (let d : Dev := { base.dev with mon := { base.dev.mon with late := [(40, { cyc := base.root.cyc + 1, vals := [5] })] } }
     (sget (fun _ => {}) d.mon.late 40).cyc = base.root.cyc + 1) ∧ bitOf 0x80000028 31 = true ∧ fld 0x80000028 8 0 = 40 := by decide

/-- An alarm that was pending and has room, and none that has; an occurrence of the clearing write's own cycle; entries of the clearing gallery,
of another, and no entry. -/
theorem meets_TelemetryCommands :
    (let d := (oAlarm true).dev
     d.log.fresh = [] ∧ (alarmOwed d).find? (alarmRoom d) = some 4 ∧ d.tf .alarm 4 0 31 31 = 1) ∧
    ((alarmOwed base.dev).find? (alarmRoom base.dev) = none ∧ base.dev.log.fresh = []) ∧
    (let s := oAlarm false
     let o : AlarmOcc := { e := 4, id := 9, g := 0, value := 7 }
     let u : State := { s with dev := s.dev.logMap fun l => { l with occ := [o], occCyc := s.root.cyc + 1 } }
     (u.dev.log.occ.filter (·.e == 4)) = [o] ∧ u.dev.log.occCyc = u.root.cyc + 1 ∧ bitOf (u.dev.tw .alarm 4 0) 31 = true ∧ u.dev.tf .alarm 4 0 29 27 = 0 ∧
     (∀ j ∈ alarmEntries u.dev, j ≠ 4 → j < 127 → u.dev.tf .alarm j 0 11 0 ≠ o.id) ∧ s.dev.log.occCyc ≠ s.root.cyc + 1 ∧ bitOf (s.dev.tw .alarm 5 0) 31 = false) ∧
    injects .log 0 ((oTrace .active).dev.setReg .log 0x01C 1) = true ∧ base.root.house = 0 := by decide +kernel

end Sys2Proof.Tests
end

/-! PROOFS of the family 02_register_pages: first what every command leaves alone beside the device. -/

namespace Sys2Proof.Machine

/-! ### What a command can change of the state (R37, 95) -/

/-- The outcome is a next state that differs from `s` in the device and in writes of the Landing alone. -/
def DevMem (s : State) (o : Host.Outcome State Fault Refusal) : Prop :=
  ∃ d l, o = .next { s with dev := d, mem := memWrites s.mem l }

theorem devMem_dev (s : State) (d : Dev) : DevMem s (.next { s with dev := d }) := ⟨d, [], rfl⟩

theorem devMem_same (s : State) : DevMem s (.next s) := devMem_dev s s.dev

theorem ite_devMem {c : Prop} [Decidable c] {s : State} {x y : Host.Outcome State Fault Refusal} (hx : DevMem s x) (hy : DevMem s y) :
    DevMem s (if c then x else y) := by
  split
  · exact hx
  · exact hy

theorem onDev_devMem (f : Root → Dev → Dev) (s : State) : DevMem s (onDev f s) := ite_devMem (devMem_dev s _) (devMem_same s)

theorem onRun_devMem (f : Root → Dev → Dev) (s : State) : DevMem s (onRun f s) := ite_devMem (devMem_dev s _) (devMem_same s)

theorem onRunMem_devMem (f : Root → List Host.Cell → Dev → Dev × List MemWr) (s : State) : DevMem s (onRunMem f s) :=
  ite_devMem ⟨_, _, rfl⟩ (devMem_same s)

theorem onWrite_devMem (g a : Nat) (w : Word) (narrow : Bool) (s : State) : DevMem s (onWrite g a w narrow s) := onMem_shape _ s

theorem onWrite64_devMem (g a : Nat) (lo hi : Word) (s : State) : DevMem s (onWrite64 g a lo hi s) := onMem_shape _ s

theorem onReg_devMem (g : Nat) (b : Blk) (o : Nat) (w : Word) (s : State) : DevMem s (onReg g b o w s) := onWrite_devMem ..

theorem onEntry_devMem (g : Nat) (t : Tbl) (e : Nat) (w : Word) (s : State) : DevMem s (onEntry g t e w s) := onWrite_devMem ..

theorem onRead_devMem (g a n : Nat) (s : State) : DevMem s (onRead g a n s) := onDev_devMem _ s

/-- The completion of a posted write that is no SLEEP_CMD changes the device alone (R51). -/
theorem pwComplete_dev {b : Blk} (hb : b ≠ .pwr) (s : State) : ∃ d, pwComplete b s = { s with dev := d } := by
  unfold pwComplete
  split
  · exact ⟨s.dev, rfl⟩
  · simp [hb]

theorem onMcsPost_devMem (n o : Nat) (rel : Word → Word → Bool) (s : State) : DevMem s (onMcsPost n o rel s) := by
  obtain ⟨d, hd⟩ := pwComplete_dev (b := .mcs n) (by simp) s
  refine ite_devMem ?_ (devMem_same s)
  simp only [onPost, onRoot, hd]
  split
  · exact devMem_dev s d
  · exact devMem_same s

/-- A frame of a Velgelet acts on the device and the Landing in every power state. -/
theorem onFrame_devMem (q : Nat) (f : Frame) (s : State) : DevMem s (onFrame q f s) := by
  unfold onFrame
  refine ite_devMem (devMem_dev s _) ?_
  split
  · exact onMem_shape _ s
  · exact onMem_shape _ s
  all_goals exact devMem_dev s _

theorem vinWarn_devMem (b : Bool) (s : State) : DevMem s (onRoot (vinWarn b) s) := by
  unfold onRoot vinWarn
  split
  · exact devMem_same s
  · exact devMem_dev s _

/-- A command that does not move what stands outside the core changes the device and the Landing alone. -/
theorem exec_devMem (i : Instr) (s : State) (h : i.movesRoot = false) : DevMem s (exec i s) := by
  cases i with
  | xoInLoss | sysPllUnlock | parityScrub | pcieLinkUp | pcieLinkLoss | functionLevelReset | d3hotEntry | d0Entry | msixMaskChange
  | qspiFrameAbort | eventEdge | sourceDispatch | coalTimeExpiry | deliveryCommit | tdcStamp | tdcTapMeasure | syncRx | followUpRx
  | delayRespRx | delayReqRx | delayRespSend | pdelayReqRx | pdelayRespFuSend | pdelayRespRx | pdelayRespFuRx | delayReqSend
  | pdelayReqSend | syncSend | followUpSend | syncTimeout | servoStep | servoLock | gainNarrow | refCheck | qualTimeExpiry | wtrExpiry
  | refLosDetect | viewXDiscipline | viewXShadowUpdate | atSlewUpdate | viewDisagreeCheck | holdoverRateUpdate | holdoverBoundUpdate
  | xTodApply | mcsVcoSettled | mcsLockAcquired | mcsLockLost | mcsRefLoss | mcsStopComplete | mcsFreqUpdate | rampSegmentEnd
  | mcsDiscInterval | mcsAlignAchieved | mcsNoFeedback | triggerFire | triggerPulseEnd | admissionComplete | landingScrubStep | linkUp
  | mdioComplete | preemptVerifyAnswer | preemptVerifyTimeout | gateEntryAdvance | tempSupervisorEval | supplySupervisorEval
  | injectionTick | apertureRead | monitorIntervalSample =>
    simp only [exec, execXoInLoss, execSysPllUnlock, execParityScrub, execPcieLinkUp, execPcieLinkLoss, execFunctionLevelReset,
      execD3hotEntry, execD0Entry, execMsixMaskChange, execQspiFrameAbort, execEventEdge, execSourceDispatch, execCoalTimeExpiry,
      execDeliveryCommit, execTdcStamp, execTdcTapMeasure, execSyncRx, execFollowUpRx, execDelayRespRx, execDelayReqRx, execDelayRespSend,
      execPdelayReqRx, execPdelayRespFuSend, execPdelayRespRx, execPdelayRespFuRx, execDelayReqSend, execPdelayReqSend, execSyncSend,
      execFollowUpSend, execSyncTimeout, execServoStep, execServoLock, execGainNarrow, execRefCheck, execQualTimeExpiry, execWtrExpiry,
      execRefLosDetect, execViewXDiscipline, execViewXShadowUpdate, execAtSlewUpdate, execViewDisagreeCheck, execHoldoverRateUpdate,
      execHoldoverBoundUpdate, execXTodApply, execMcsVcoSettled, execMcsLockAcquired, execMcsLockLost, execMcsRefLoss, execMcsStopComplete,
      execMcsFreqUpdate, execRampSegmentEnd, execMcsDiscInterval, execMcsAlignAchieved, execMcsNoFeedback, execTriggerFire,
      execTriggerPulseEnd, execAdmissionComplete, execLandingScrubStep, execLinkUp, execMdioComplete, execPreemptVerifyAnswer,
      execPreemptVerifyTimeout, execGateEntryAdvance, execTempSupervisorEval, execSupplySupervisorEval, execInjectionTick,
      execApertureRead, execMonitorIntervalSample]
    exact onDev_devMem _ s
  | apertureWrite | sfdPairing | announceRx | signalingManagementRx | capture | treadZeroed | corridorCloseComplete | corridorRecordCommit
  | outRecordConsume | linkDown | linkSpeedChange | frameReceive | galleryFrameStart | galleryFrameDone | galleryFrameStall
  | telemetryRecordWrite | alarmPendingFlush =>
    simp only [exec, execApertureWrite, execSfdPairing, execAnnounceRx, execSignalingManagementRx, execCapture, execTreadZeroed,
      execCorridorCloseComplete, execCorridorRecordCommit, execOutRecordConsume, execLinkDown, execLinkSpeedChange, execFrameReceive,
      execGalleryFrameStart, execGalleryFrameDone, execGalleryFrameStall, execTelemetryRecordWrite, execAlarmPendingFlush]
    exact onMem_shape _ s
  | txFrameLaunch | txFrameSkip | txDrainComplete | rxPresent | rxFlowStop | naHoldExpiry | rxDrainComplete | routeSwap | routeFadeDone
  | sapFrame | sapClockStop | sapRunStart | sapStopFadeDone | sapPostrollEnd =>
    simp only [exec, execTxFrameLaunch, execTxFrameSkip, execTxDrainComplete, execRxPresent, execRxFlowStop, execNaHoldExpiry,
      execRxDrainComplete, execRouteSwap, execRouteFadeDone, execSapFrame, execSapClockStop, execSapRunStart, execSapStopFadeDone,
      execSapPostrollEnd]
    exact onRun_devMem _ s
  | hbufPeriodTake | hbufPeriodPublish | routeEvaluation =>
    simp only [exec, execHbufPeriodTake, execHbufPeriodPublish, execRouteEvaluation]
    exact onRunMem_devMem _ s
  | sleepCmdRun | sleepCmdQuiet | sleepCmdDoze | sleepCmdShelf | sleepCmdReserved | galReset | galClaim | galRelease | galForce
  | galClaimReservedOp | partDataWrite | devSeal | hostSleepWrite | evtComplete | pendWordWrite | maskWordWrite | srcCtrlWrite
  | srcTgtWrite | tgtEnaWrite | viewSetStep | viewSetRate | viewSetReservedKind | ptpEnable | ptpDisable | parentCommit | servoEnable
  | servoDisable | servoRestart | refPreferredWrite | xTodArm | refForceFree | refClearHist | refClearTable | refAllowStep | mcsRampStart
  | mcsRampStop | mcsReturn | mcsRealign | mclkoSelWrite | triggerArm | triggerDisarm | lndClearUe | lndClearCe | hbufEnable | hbufDisable
  | hbufPtrWrite | corridorEnable | corridorDisable | corRdWrite | corRelWrite | corMarkWrite | corRewind | corClearCnt | netEnable
  | netDisable | mdioWrite | mdioRead | mdioReadInc | mdioReservedOp | netReverify | netClearCnt | clsClearCnt | txeRetime | txeClearCnt
  | rxeClearCnt | routeCommit | routeCheck | rteClearCnt | rteRateWrite | sapEnable | sapDisable | sapGroupStart | sapGroupStop
  | sapClearCnt | monitorSnap | alarmClear | logClassWrite | fltDisarmAll | fltClearCnt =>
    exact onReg_devMem ..
  | txStreamEnable | txStreamDisable | txStreamRestructure | rxStreamEnable | rxStreamDisable | rxStreamRestructure =>
    exact onEntry_devMem ..
  | pageStatusClear | shWrite | lwCommit | tableEntryCommit | pwWrite | injSelWrite | injCtrlWrite =>
    exact onWrite_devMem ..
  | lwRead | evtClaim | tbeSnapRead | captureRecRead | otpDataRead =>
    exact onRead_devMem ..
  | mcsEnable | mcsDisable | mcsDiscModeSet | mcsFreqCommit | mcsOutputEnable | mcsOutputDisable | mcsOutputDivChange
  | mcsOutputDelayChange =>
    exact onMcsPost_devMem _ _ _ s
  | registerWrite g a w narrow =>
    obtain ⟨w, hi⟩ := w
    cases hi with
    | none => exact onWrite_devMem ..
    | some h => exact onWrite64_devMem ..
  | qspiWr | qspiReservedOpcode => exact ite_devMem (devMem_same s) (onFrame_devMem ..)
  | qspiRd | qspiRdLink | qspiEcho => exact onFrame_devMem ..
  | pePerstAssert => exact ite_devMem (onDev_devMem _ s) (devMem_dev s _)
  | pePerstDeassert | phyIntChange | railOut | railInRegulation | bankSupplyRestored => exact devMem_dev s _
  | vinWarnTrip | vinWarnClear => exact vinWarn_devMem _ s
  | powerUp | vinLoss | enLow | enRise | rstAssert | rstRelease | vioUnder | sleepCommit | pwComplete | powerDownComplete | quietEnter
  | quietExit | dozeWake | wakeComplete | watchEntryFire | ecWrap =>
    simp [Instr.movesRoot] at h

/-! ### Commands that move what stands outside the core keep the queue -/

theorem startUp_pending (kw kh : Bool) (st : Straps) (s : State) : (startUp kw kh st s).pending = s.pending := by
  unfold startUp
  split <;> rfl

theorem powerUp_pending (st : Straps) (s : State) : (powerUp st s).pending = s.pending := by
  unfold powerUp
  split
  · exact startUp_pending ..
  · rfl

theorem enLow_pending (s : State) : (enLow s).pending = s.pending := by
  unfold enLow
  split <;> rfl

/-- A start that reports the wake once the core runs. -/
theorem startUp_report_pending (kw kh : Bool) (st : Straps) (src cause ms : Nat) (s : State) :
    (if (startUp kw kh st s).root.power = .run then
      { startUp kw kh st s with dev := wakeReport (startUp kw kh st s).root src cause ms (startUp kw kh st s).dev } else startUp kw kh st s).pending = s.pending := by
  split <;> exact startUp_pending ..

theorem enRise_pending (st : Straps) (s : State) : (enRise st s).pending = s.pending := by
  unfold enRise
  split
  · exact startUp_report_pending ..
  · rfl

theorem wakeComplete_pending (st : Straps) (s : State) : (wakeComplete st s).pending = s.pending := by
  unfold wakeComplete
  split
  · rfl
  · exact startUp_report_pending ..
  · rfl

theorem rstFalls_pending (s : State) : (rstFalls s).pending = s.pending := by
  unfold rstFalls
  split <;> rfl

theorem rstRelease_pending (st : Straps) (s : State) : (rstRelease st s).pending = s.pending := by
  unfold rstRelease
  split
  · dsimp only
    split <;> rfl
  · rfl

theorem vioUnder_pending (b : Nat) (s : State) : (vioUnder b s).pending = s.pending := by
  unfold vioUnder
  split
  · exact rstFalls_pending _
  · rfl

theorem sleepCommit_pending (s : State) : (sleepCommit s).pending = s.pending := by
  unfold sleepCommit
  dsimp only
  repeat' split
  all_goals rfl

theorem pwComplete_pending (b : Blk) (s : State) : (pwComplete b s).pending = s.pending := by
  unfold pwComplete
  split
  · rfl
  · split
    · exact sleepCommit_pending s
    · rfl

theorem powerDown_pending (s : State) : (powerDown s).pending = s.pending := by
  unfold powerDown
  split <;> rfl

theorem quietEnter_pending (s : State) : (quietEnter s).pending = s.pending := by
  unfold quietEnter
  split <;> rfl

theorem quietExit_pending (s : State) : (quietExit s).pending = s.pending := by
  unfold quietExit
  split <;> rfl

theorem dozeWake_pending (i : Nat) (rising : Bool) (ms : Nat) (s : State) : (dozeWake i rising ms s).pending = s.pending := by
  unfold dozeWake
  dsimp only
  split <;> rfl

theorem watchEntry_pending (i : Nat) (rising : Bool) (s : State) : (watchEntry i rising s).pending = s.pending := by
  unfold watchEntry
  dsimp only
  repeat' split
  all_goals rfl

theorem ecWrapped_pending (s : State) : (ecWrapped s).pending = s.pending := by
  unfold ecWrapped
  split <;> rfl

/-- Every command answers a next state with the queue it found. -/
theorem exec_answers (i : Instr) (s : State) : ∃ t, exec i s = .next t ∧ t.pending = s.pending := by
  by_cases h : i.movesRoot = false
  · obtain ⟨d, l, e⟩ := exec_devMem i s h
    exact ⟨_, e, rfl⟩
  · cases i with
    | powerUp st => exact ⟨_, rfl, powerUp_pending st s⟩
    | vinLoss => exact ⟨_, rfl, rfl⟩
    | enLow => exact ⟨_, rfl, enLow_pending s⟩
    | enRise st => exact ⟨_, rfl, enRise_pending st s⟩
    | rstAssert => exact ⟨_, rfl, rstFalls_pending _⟩
    | rstRelease st => exact ⟨_, rfl, rstRelease_pending st s⟩
    | vioUnder b => exact ⟨_, rfl, vioUnder_pending b s⟩
    | sleepCommit => exact ⟨_, rfl, (apply_ite State.pending ..).trans (by rw [sleepCommit_pending, ite_self])⟩
    | pwComplete page =>
      change ∃ t, execPwComplete page s = .next t ∧ _
      unfold execPwComplete
      split
      · exact ⟨_, rfl, rfl⟩
      · exact ⟨_, rfl, (apply_ite State.pending ..).trans (by rw [pwComplete_pending, ite_self])⟩
    | powerDownComplete => exact ⟨_, rfl, powerDown_pending s⟩
    | quietEnter => exact ⟨_, rfl, quietEnter_pending s⟩
    | quietExit => exact ⟨_, rfl, quietExit_pending s⟩
    | dozeWake e ms => exact ⟨_, rfl, dozeWake_pending e.n e.rising ms s⟩
    | wakeComplete st => exact ⟨_, rfl, wakeComplete_pending st s⟩
    | watchEntryFire e => exact ⟨_, rfl, watchEntry_pending e.n e.rising s⟩
    | ecWrap => exact ⟨_, rfl, ecWrapped_pending s⟩
    | _ => exact absurd rfl h

/-- Settles O6: a command either acts on the device and the Landing alone, or it is one of the power commands, each of which keeps the queue. -/
theorem commandsAnswer : Obligations.CommandsAnswer := exec_answers

end Sys2Proof.Machine

/-! Read after write through the accessors of the register map. -/

namespace Sys2Proof.Machine

/-! ### Stored words (R43, R48, R53) -/

theorem setReg_eq (d : Dev) (b : Blk) (o : Nat) (w : Word) :
    d.setReg b o w = { d with regs := (d.setReg b o w).regs, parityBad := (d.setReg b o w).parityBad } := rfl

@[simp] theorem reg_setReg_self (d : Dev) (b : Blk) (o : Nat) (w : Word) : (d.setReg b o w).reg b o = w := sget_sset_self ..

theorem sget_setReg_other (d : Dev) (b : Blk) (o a : Nat) (w : Word) (h : a ≠ b.addr o) :
    sget regReset (d.setReg b o w).regs a = sget regReset d.regs a := sget_sset_other _ _ _ _ _ h

theorem reg_setReg_other (d : Dev) (b : Blk) (o q : Nat) (w : Word) (h : q ≠ o) : (d.setReg b o w).reg b q = d.reg b q :=
  sget_setReg_other d b o _ w (by simpa [Blk.addr] using h)

@[simp] theorem post_setPost_self (d : Dev) (b : Blk) (p : Option Posted) : (d.setPost b p).post b = p := sget_sset_self ..

@[simp] theorem busy_setPost_self (d : Dev) (b : Blk) (p : Option Posted) : (d.setPost b p).busy b = p.isSome := by simp [Dev.busy]

@[simp] theorem pwv_setPwv_self (d : Dev) (b : Blk) (o : Nat) (w : Word) : (d.setPwv b o w).pwv b o = w := sget_sset_self ..

@[simp] theorem wsh_setWsh_self (d : Dev) (g a : Nat) (m : SMap Word) : (d.setWsh g a m).wsh g a = m := sget_sset_self ..

@[simp] theorem tsh_setTsh_self (d : Dev) (g : Nat) (t : Tbl) (m : SMap Word) : (d.setTsh g t m).tsh g t = m := sget_sset_self ..

@[simp] theorem storeWords_nil (b : Blk) (o : Nat) (d : Dev) : storeWords b o [] d = d := rfl

@[simp] theorem storeWords_cons (b : Blk) (o : Nat) (w : Word) (ws : List Word) (d : Dev) :
    storeWords b o (w :: ws) d = storeWords b (o + 4) ws (d.setReg b o w) := rfl

/-- Storing words changes the stored words and their parity alone. -/
theorem storeWords_eq (b : Blk) (o : Nat) (ws : List Word) (d : Dev) :
    storeWords b o ws d = { d with regs := (storeWords b o ws d).regs, parityBad := (storeWords b o ws d).parityBad } := by
  induction ws generalizing o d with
  | nil => rfl
  | cons w ws ih => rw [storeWords_cons, ih, setReg_eq]

/-- Outside the words stored, storage is as it was. -/
theorem sget_storeWords_outside (b : Blk) (o a : Nat) (ws : List Word) (d : Dev) (h : a < b.addr o ∨ b.addr o + 4 * ws.length ≤ a) :
    sget regReset (storeWords b o ws d).regs a = sget regReset d.regs a := by
  induction ws generalizing o d with
  | nil => rfl
  | cons w ws ih =>
    simp only [Blk.addr, List.length_cons] at h
    rw [storeWords_cons, ih _ _ (by simp only [Blk.addr]; omega)]
    exact sget_setReg_other d b o a w (by simp only [Blk.addr]; omega)

/-- Each word stored reads back. -/
theorem reg_storeWords (b : Blk) (o j : Nat) (ws : List Word) (d : Dev) (h : j < ws.length) :
    (storeWords b o ws d).reg b (o + 4 * j) = ws.getD j 0 := by
  induction ws generalizing o d j with
  | nil => simp at h
  | cons w ws ih =>
    rw [storeWords_cons]
    cases j with
    | zero =>
      have := sget_storeWords_outside b (o + 4) (b.addr o) ws (d.setReg b o w) (by simp only [Blk.addr]; omega)
      simpa [Dev.reg] using this.trans (reg_setReg_self d b o w)
    | succ j =>
      have := ih (o + 4) j (d.setReg b o w) (by simpa using h)
      simpa [Nat.mul_add, Nat.add_assoc, Nat.add_comm, Nat.add_left_comm] using this

end Sys2Proof.Machine

/-! Posted writes (R51, R52). -/

namespace Sys2Proof.Machine

/-- A write of a PW register stores the word and posts it (R51). -/
theorem regWrite_pw {r : Root} {m : List Host.Cell} {g : Nat} {b : Blk} {o : Nat} {x : Reg} {w : Word} {d : Dev} (ho : 0x040 ≤ o) (hx : x.ty = .pw)
    (hp : ¬(b = .pwr ∧ o = 0x040)) :
    regWrite r m g b o x w d = eff ((d.setReg b o w).setPost b (some { off := o, ws := [w] })) := by
  simp [regWrite, Nat.not_lt.mpr ho, hx, hp]

/-- The completion of a posted write of a register that no synthesizer keeps: its clock domain takes the word (R51). -/
theorem pwDone_word {b : Blk} (hb : ∀ n, b ≠ .mcs n) (r : Root) (o : Nat) (w : Word) (d : Dev) :
    pwDone r b { off := o, ws := [w] } d = (d.setPost b none).setPwv b o w := by
  unfold pwDone
  split
  · exact absurd rfl (hb _)
  · rfl

theorem pwComplete_posted {b : Blk} {s : State} {p : Posted} (h : s.dev.post b = some p) (hb : ¬(b = .pwr ∧ p.off = 0x040)) :
    pwComplete b s = { s with dev := pwDone s.root b p s.dev } := by
  simp [pwComplete, h, hb]

/-- PW_COMPLETE of an implemented page of a running core. -/
theorem execPwComplete_page {b : Blk} (hb : b ∈ Blk.all) {page : Fin 128} (hp : b.page = page) {s : State} (hc : s.root.coreOn = true) :
    exec (.pwComplete page) s = .next (pwComplete b s) := by
  simp only [exec, execPwComplete, ← hp, ofPage_page b hb]
  simp [onPost, onRoot, hc]

/-- Settles O18: the write stores and posts the word, and PW_COMPLETE hands the word to the clock domain. -/
theorem postedWrites : Obligations.PostedWrites := by
  intro s g w b o x hb ho
  refine ⟨fun h40 hx hty hp hcan => ⟨_, onReg_can s g b o w x hb ho hx hcan, ?_⟩, fun page hpage hc hpost hmcs hp => ?_⟩
  · simp only [regWrite_pw h40 hty hp, eff]
    exact ⟨⟨rfl, rfl, rfl⟩, reg_setReg_self .., rfl, busy_setPost_self .., post_setPost_self .., rfl⟩
  · have e : exec (.pwComplete page) s = .next { s with dev := (s.dev.setPost b none).setPwv b o w } := by
      rw [execPwComplete_page hb hpage hc, pwComplete_posted hpost hp, pwDone_word hmcs]
    exact ⟨_, e, ⟨rfl, rfl, rfl⟩, pwv_setPwv_self .., busy_setPost_self s.dev b none, rfl⟩

end Sys2Proof.Machine

/-! PWR.SLEEP_CMD: its write and its commit (R51, R375 to R377). -/

namespace Sys2Proof.Machine

/-- A write of SLEEP_CMD that passes is posted, and drops what the Foyer had latched. -/
theorem sleepCmd_posts {s : State} {g : Gal} {w : Word} (h : canWrite s g .pwr 0x040 w = true) :
    onReg g .pwr 0x040 w s = .next { s with dev :=
      ((s.dev.setReg .pwr 0x040 w).setPost .pwr (some { off := 0x040, ws := [w] })).pwrMap fun p => { p with latched := 0 } } :=
  onReg_can s g .pwr 0x040 w (r1 0x040 .pw) (by decide) (by decide) (by decide) h

/-- The device once a posted SLEEP_CMD of word `w` has left its page. -/
def sleepTaken (w : Word) (d : Dev) : Dev := ((d.setPost .pwr none).setPwv .pwr 0x040 w).pwrMap fun p => { p with latched := 0 }

@[simp] theorem sleepTaken_post (w : Word) (d : Dev) : (sleepTaken w d).post .pwr = none := post_setPost_self d .pwr none

@[simp] theorem sleepTaken_latched (w : Word) (d : Dev) : (sleepTaken w d).pwr.latched = 0 := rfl

/-- Whether an entry of the watch set can wake the device (R103). -/
def canWake (d : Dev) : Bool := (List.range 16).any fun i => watchActs (watchOf d i)

/-- What the commit of SLEEP_CMD does when no other page is BUSY (R375, R376). -/
theorem sleepCommit_eq {s : State} {w : Word} (hp : s.dev.post .pwr = some { off := 0x040, ws := [w] })
    (hq : (s.dev.posted.any fun p => p.1 != Blk.pwr.page && p.2.isSome) = false) :
    sleepCommit s =
      if 4 ≤ fld w 2 0 then { s with dev := sleepRefuse (fld w 2 0) 2 (sleepTaken w s.dev) }
      else if 2 ≤ fld w 2 0 ∧ ¬ canWake s.dev then { s with dev := sleepRefuse (fld w 2 0) 1 (sleepTaken w s.dev) }
      else if fld w 2 0 = 0 then
        { s with dev := sleepTaken w s.dev, root := { s.root with quietReq := if !s.root.running then some false else s.root.quietReq } }
      else if fld w 2 0 = 1 ∧ !s.root.running then { s with dev := sleepTaken w s.dev }
      else if s.dev.pwr.latched ≠ 0 then { s with dev := sleepAbort s.root (fld w 2 0) s.dev.pwr.latched (sleepTaken w s.dev) }
      else if fld w 2 0 = 1 then { s with dev := sleepTaken w s.dev, root := { s.root with quietReq := some true } }
      else { s with dev := padsDown (sleepTaken w s.dev), root := { s.root with power := .entering (fld w 2 0 == 2), quietReq := none } } := by
  simp only [sleepCommit, hp, hq]
  rfl

/-- A refusal reports result 3 with its reason, and of a TARGET that is a state that state as FROM. -/
theorem sleepRefuse_pwr (t why : Nat) (d : Dev) :
    let p := (sleepRefuse t why d).pwr
    p.result = 3 ∧ p.refuse = why ∧ p.latched = d.pwr.latched ∧ (t < 4 → p.fromSt = t) := by
  unfold sleepRefuse
  split
  next h => exact ⟨rfl, rfl, rfl, fun _ => rfl⟩
  next h => exact ⟨rfl, rfl, rfl, fun h' => absurd h' h⟩

@[simp] theorem sleepRefuse_post (t why : Nat) (d : Dev) (b : Blk) : (sleepRefuse t why d).post b = d.post b := by
  unfold sleepRefuse
  split <;> rfl

/-- An abort reports result 2 with the entries latched, the lowest as CAUSE. -/
theorem sleepAbort_pwr (r : Root) (t fired : Nat) (d : Dev) :
    (sleepAbort r t fired d).pwr =
      { d.pwr with result := 2, refuse := 0, fromSt := t, cause := lowestEntry fired, wakeSet := fired } := raise_pwr ..

@[simp] theorem sleepAbort_post (r : Root) (t fired : Nat) (d : Dev) (b : Blk) : (sleepAbort r t fired d).post b = d.post b :=
  congrArg (fun m => sget (fun _ => none) m b.page) (raise_posted ..)

section
variable {s : State} {w : Word} (hp : s.dev.post .pwr = some { off := 0x040, ws := [w] })
  (hq : (s.dev.posted.any fun p => p.1 != Blk.pwr.page && p.2.isSome) = false)
include hp hq

/-- Whatever the commit decides, the page is no longer BUSY, nothing stays latched, and the Landing and the queue are as they were. -/
theorem sleepCommit_keeps : (sleepCommit s).mem = s.mem ∧ (sleepCommit s).pending = s.pending ∧ (sleepCommit s).dev.post .pwr = none ∧
    (sleepCommit s).dev.pwr.latched = 0 := by
  have refused := fun t why => (sleepRefuse_pwr t why (sleepTaken w s.dev)).2.2.1
  rw [sleepCommit_eq hp hq]
  repeat' split
  all_goals simp [refused, sleepAbort_pwr]
  exact ⟨sleepTaken_post w s.dev, rfl⟩

theorem sleepCommit_reserved (h : 4 ≤ fld w 2 0) :
    sleepCommit s = { s with dev := sleepRefuse (fld w 2 0) 2 (sleepTaken w s.dev) } := by rw [sleepCommit_eq hp hq, if_pos h]

theorem sleepCommit_noWake (h : fld w 2 0 = 2 ∨ fld w 2 0 = 3) (hw : canWake s.dev = false) :
    sleepCommit s = { s with dev := sleepRefuse (fld w 2 0) 1 (sleepTaken w s.dev) } := by
  rw [sleepCommit_eq hp hq, if_neg (by omega), if_pos ⟨by omega, by simp [hw]⟩]

theorem sleepCommit_run (h : fld w 2 0 = 0) :
    sleepCommit s = { s with dev := sleepTaken w s.dev, root := { s.root with quietReq := if !s.root.running then some false else s.root.quietReq } } := by
  rw [sleepCommit_eq hp hq, if_neg (by omega), if_neg (by omega), if_pos h]

/-- Of a state that can be left again, what is latched decides between abort and entry. -/
theorem sleepCommit_leaving (h : (fld w 2 0 = 2 ∨ fld w 2 0 = 3) ∧ canWake s.dev = true ∨ fld w 2 0 = 1 ∧ s.root.running = true) :
    sleepCommit s =
      if s.dev.pwr.latched ≠ 0 then { s with dev := sleepAbort s.root (fld w 2 0) s.dev.pwr.latched (sleepTaken w s.dev) }
      else if fld w 2 0 = 1 then { s with dev := sleepTaken w s.dev, root := { s.root with quietReq := some true } }
      else { s with dev := padsDown (sleepTaken w s.dev), root := { s.root with power := .entering (fld w 2 0 == 2), quietReq := none } } := by
  rw [sleepCommit_eq hp hq, if_neg (by omega), if_neg (by rintro ⟨h2, hw⟩; rcases h with ⟨-, h⟩ | ⟨h, -⟩; exacts [hw h, by omega]),
    if_neg (by omega), if_neg (by rintro ⟨h1, hr⟩; rcases h with ⟨h, -⟩ | ⟨-, h⟩; exacts [by omega, by simp [h] at hr])]

end

/-- Settles O12: the write is `sleepCmd_posts` for each TARGET; the commit is one of the cases of `sleepCommit_eq`. -/
theorem sleepCommandAndCommit : Obligations.SleepCommandAndCommit := by
  refine ⟨fun s g => ?_, fun s w hc hp hq => ?_⟩
  · have posts : ∀ n, canWrite s g .pwr 0x040 (wd n) = true → ∃ t, onReg g .pwr 0x040 (wd n) s = .next t ∧
        (DevOnly s t ∧ t.dev.post .pwr = some { off := 0x040, ws := [wd n] } ∧ t.dev.busy .pwr = true ∧ t.dev.reg .pwr 0x040 = wd n ∧
         t.dev.pwr = { s.dev.pwr with latched := 0 } ∧
         t.dev = { s.dev with regs := t.dev.regs, parityBad := t.dev.parityBad, posted := t.dev.posted, pwr := t.dev.pwr }) := fun n h =>
      let p : Posted := { off := 0x040, ws := [wd n] }
      ⟨_, sleepCmd_posts h, ⟨rfl, rfl, rfl⟩, post_setPost_self (s.dev.setReg .pwr 0x040 (wd n)) .pwr (some p),
        busy_setPost_self (s.dev.setReg .pwr 0x040 (wd n)) .pwr (some p), reg_setReg_self s.dev .pwr 0x040 (wd n), rfl, rfl⟩
    exact ⟨posts 0, posts 1, posts 2, posts 3, fun x => posts (4 + x)⟩
  · obtain ⟨hmem, hpending, hpost, hlatched⟩ := sleepCommit_keeps hp hq
    refine ⟨sleepCommit s, by simp [exec, execSleepCommit, onRoot, hc], hmem, hpending, by rw [Dev.busy, hpost]; rfl, hlatched, ?_⟩
    refine ⟨fun h => ?_, fun h hw => ?_, fun h hl => ?_, fun h hw hl => ?_, fun h hw hl => ?_, fun h hr hl => ?_, fun h hpow => ?_⟩
    · obtain ⟨hres, hwhy, -, -⟩ := sleepRefuse_pwr (fld w 2 0) 2 (sleepTaken w s.dev)
      rw [sleepCommit_reserved hp hq h]
      exact ⟨rfl, hres, hwhy⟩
    · obtain ⟨hres, hwhy, -, hfrom⟩ := sleepRefuse_pwr (fld w 2 0) 1 (sleepTaken w s.dev)
      rw [sleepCommit_noWake hp hq h hw]
      exact ⟨rfl, hres, hwhy, hfrom (by omega)⟩
    · rw [sleepCommit_leaving hp hq h, if_pos hl]
      simp [sleepAbort_pwr]
    · rw [sleepCommit_leaving hp hq (.inl ⟨.inl h, hw⟩), if_neg (by simp [hl]), if_neg (by omega)]
      simp [h]
    · rw [sleepCommit_leaving hp hq (.inl ⟨.inr h, hw⟩), if_neg (by simp [hl]), if_neg (by omega)]
      simp [h]
    · rw [sleepCommit_leaving hp hq (.inr ⟨h, hr⟩), if_neg (by simp [hl]), if_pos h]
    · rw [sleepCommit_run hp hq h]
      simp [Root.running, hpow]

end Sys2Proof.Machine

/-! The bits of a page's faults, and what a fault leaves on its page (R41). -/

namespace Sys2Proof.Machine

/-! ### Bits and fields of numbers -/

theorem nbit_eq_testBit (n i : Nat) : nbit n i = n.testBit i := by
  simp [nbit, Nat.testBit_eq_decide_div_mod_eq, BEq.beq]

/-- Adding `2 ^ i` to a number whose bit `i` is clear leaves every other bit. -/
theorem testBit_add_two_pow {n i j : Nat} (h : n.testBit i = false) (hj : j ≠ i) : (n + 2 ^ i).testBit j = n.testBit j := by
  obtain hlt | hgt := Nat.lt_or_gt_of_ne hj
  · rw [Nat.add_comm, Nat.testBit_two_pow_add_gt hlt]
  · obtain ⟨k, rfl⟩ := Nat.exists_eq_add_of_lt hgt
    have hup : (n + 2 ^ i) / 2 ^ (i + 1) = n / 2 ^ (i + 1) := by
      simp only [Nat.testBit_eq_decide_div_mod_eq, decide_eq_false_iff_not] at h
      rw [Nat.pow_succ, ← Nat.div_div_eq_div_mul, ← Nat.div_div_eq_div_mul, Nat.add_div_right _ (by positivity)]
      omega
    have hk : i + k + 1 = k + (i + 1) := by omega
    rw [hk, ← Nat.testBit_div_two_pow, ← Nat.testBit_div_two_pow, hup]

@[simp] theorem nbit_nset_self (n i : Nat) : nbit (nset n i true) i = true := by
  unfold nset
  split
  next h => simpa using h
  next h =>
    simp only [nbit_eq_testBit] at *
    simpa [Nat.add_comm n, Nat.testBit_two_pow_add_eq] using h

theorem nbit_nset_other {n i j : Nat} (h : j ≠ i) : nbit (nset n i true) j = nbit n j := by
  unfold nset
  split
  next => rfl
  next hi => simpa [nbit_eq_testBit] using testBit_add_two_pow (by simpa [nbit_eq_testBit] using hi) h

theorem nbit_nset (n i j : Nat) : nbit (nset n i true) j = (nbit n j || decide (j = i)) := by
  by_cases h : j = i
  · simp [h]
  · simp [h, nbit_nset_other h]

/-! ### The page under a fault (R38, R41) -/

@[simp] theorem pg_setPg_self (d : Dev) (b : Blk) (x : PageSt) : (d.setPg b x).pg b = x := sget_sset_self ..

theorem pg_setPg_other {d : Dev} {b c : Blk} {x : PageSt} (h : c.page ≠ b.page) : (d.setPg b x).pg c = d.pg c := sget_sset_other _ _ _ _ _ h

@[simp] theorem linesMove_page (r : Root) (o d : Dev) : (linesMove r o d).page = d.page := by rw [linesMove_eq]

@[simp] theorem linesMove_pg (r : Root) (o d : Dev) (b : Blk) : (linesMove r o d).pg b = d.pg b := by simp [Dev.pg]

/-- The word that PAGE_FAULT_ADDR takes (R41). -/
def faultCap (k : FaultKind) (g a : Nat) : Word := wd (g * 2 ^ 29 + 2 ^ 28 + k.code * 2 ^ 24 + a / 4 * 4 % 2 ^ 21)

/-- A fault sets the bit of its kind and is captured while VALID is 0. -/
theorem fault_pg_self (r : Root) (b : Blk) (k : FaultKind) (g a : Nat) (d : Dev) :
    ((fault r b k g a d).pg b).bits = nset (d.pg b).bits k.bit true ∧
    ((fault r b k g a d).pg b).cap = if (d.pg b).valid then (d.pg b).cap else faultCap k g a := by
  simp [fault, faultCap]

theorem fault_pg_other {b c : Blk} (h : c.page ≠ b.page) (r : Root) (k : FaultKind) (g a : Nat) (d : Dev) :
    (fault r b k g a d).pg c = d.pg c := by
  simp [fault, pg_setPg_other h]

theorem nbit_fault_self (r : Root) (b : Blk) (k : FaultKind) (g a : Nat) (d : Dev) :
    nbit ((fault r b k g a d).pg b).bits k.bit = true := by simp [fault_pg_self]

theorem FaultKind.code_le (k : FaultKind) : k.code ≤ 9 := by cases k <;> decide

/-- The fields of the captured word: VALID, GALLERY, KIND and the word's address. -/
theorem faultCap_fields {g a : Nat} (k : FaultKind) (hg : g ≤ 7) (ha : a < 2 ^ 21) :
    bitOf (faultCap k g a) 28 = true ∧ fld (faultCap k g a) 31 29 = g ∧ fld (faultCap k g a) 27 24 = k.code ∧
    fld (faultCap k g a) 20 0 = a / 4 * 4 := by
  have hk := k.code_le
  simp only [faultCap, bitOf, fld, wd, BitVec.toNat_ofNat, beq_iff_eq]
  omega

end Sys2Proof.Machine

/-! The register scrub and the injection tick (R53, R54, R363, R365). -/

namespace Sys2Proof.Machine

theorem nbit_parityFault (r : Root) (a : Nat) (d : Dev) : nbit ((parityFault r a d).pg (ownerBlk a)).bits 2 = true := by
  unfold parityFault
  split
  · exact nbit_fault_self r _ .tableParity 7 a d
  · exact nbit_fault_self r _ .regParity 7 a d

/-- A word with wrong parity that the scrub visits with SCRUB_EN is reported. -/
theorem parityScrub_bad {r : Root} {d : Dev} (hen : d.rb (ownerBlk (scrubFind 4096 d.scrubAt)) 0x014 1 = true)
    (hbad : scrubFind 4096 d.scrubAt ∈ d.parityBad) :
    parityScrub r d = parityFault r (scrubFind 4096 d.scrubAt) { d with scrubAt := scrubFind 4096 d.scrubAt + 4 } := by
  simp [parityScrub, hen, hbad]

theorem parityScrub_good {r : Root} {d : Dev}
    (h : d.rb (ownerBlk (scrubFind 4096 d.scrubAt)) 0x014 1 = false ∨ scrubFind 4096 d.scrubAt ∉ d.parityBad) :
    parityScrub r d = { d with scrubAt := scrubFind 4096 d.scrubAt + 4 } := by
  rcases h with h | h <;> simp [parityScrub, h]

@[simp] theorem parityScrub_scrubAt (r : Root) (d : Dev) : (parityScrub r d).scrubAt = scrubFind 4096 d.scrubAt + 4 := by
  simp [parityScrub, parityFault, apply_ite Dev.scrubAt]

/-- The scrub moves on, and can change the fault state of a page beside. -/
theorem parityScrub_eq (r : Root) (d : Dev) :
    parityScrub r d =
      { d with scrubAt := (parityScrub r d).scrubAt, page := (parityScrub r d).page, lines := (parityScrub r d).lines } := by
  by_cases hen : d.rb (ownerBlk (scrubFind 4096 d.scrubAt)) 0x014 1 = true
  · by_cases hbad : scrubFind 4096 d.scrubAt ∈ d.parityBad
    · rw [parityScrub_bad hen hbad, parityFault_eq]
    · rw [parityScrub_good (.inr hbad)]
  · rw [parityScrub_good (.inl (by simpa using hen))]

@[simp] theorem parityScrub_regs (r : Root) (d : Dev) : (parityScrub r d).regs = d.regs := by rw [parityScrub_eq]

theorem mem_parityBad_spoil {a : Nat} {d : Dev} (h : hasParity a = true) : a ∈ (spoil a d).parityBad := by
  unfold spoil
  split
  next => exact List.mem_cons_self
  next hn => simpa [h] using hn

@[simp] theorem spoil_flt (a : Nat) (d : Dev) : (spoil a d).flt = d.flt := by
  unfold spoil
  split <;> rfl

/-- Whether a page injects is read from its registers. -/
@[simp] theorem injects_pageUse (b c : Blk) (pt : Nat) (r : Root) (os : List Nat) (d : Dev) : injects b pt (pageUse r c os d) = injects b pt d := by
  simp [injects, Dev.armed, Dev.rb, Dev.rf, Dev.reg]

/-- The record of an injection (R360). -/
theorem recordInj_flt (r : Root) (b : Blk) (pt : Nat) (d : Dev) :
    (recordInj r b pt d).flt.total = (d.flt.total + 1) % 2 ^ 32 ∧ (recordInj r b pt d).flt.lastPoint = pt ∧
    (recordInj r b pt d).flt.lastPage = b.page := by
  simp [recordInj]

@[simp] theorem disarm_flt (b : Blk) (d : Dev) : (disarm b d).flt = d.flt := rfl

/-- An opportunity of an armed point counts the injection and notes its page and point. -/
theorem opportunity_flt {r : Root} {b : Blk} {pt : Nat} {d : Dev} (h : injects b pt d = true) :
    (opportunity r b pt d).flt.total = (d.flt.total + 1) % 2 ^ 32 ∧ (opportunity r b pt d).flt.lastPoint = pt ∧
    (opportunity r b pt d).flt.lastPage = b.page := by
  unfold opportunity
  simp only [injects_pageUse, h, if_true, recordInj_flt, apply_ite Dev.flt, disarm_flt, Dev.setReg_flt, pageUse_flt, ite_self]
  exact ⟨trivial, trivial, trivial⟩

/-- An opportunity of a point that is not armed uses the injection registers and does nothing. -/
theorem opportunity_idle {r : Root} {b : Blk} {pt : Nat} {d : Dev} (h : injects b pt d = false) :
    opportunity r b pt d = pageUse r b [0x018, 0x01C] d := by simp [opportunity, h]

/-- The injection tick first uses the register that names its word. -/
theorem injTick_armed {r : Root} {d : Dev} (os : List Nat) (h : injects .flt 0 d = true) :
    injTick r (pageUse r .flt os d) = spoil (d.rf .flt 0x050 20 0 / 4 * 4) (opportunity r .flt 0 (pageUse r .flt os d)) := by
  simp [injTick, h, Dev.rf, Dev.reg]

/-- A tick without an injection changes nothing but what the use of its registers reports. -/
theorem injTick_idle {r : Root} {d : Dev} (os : List Nat) (h : injects .flt 0 d = false) :
    injTick r (pageUse r .flt os d) =
      { d with page := (injTick r (pageUse r .flt os d)).page, lines := (injTick r (pageUse r .flt os d)).lines } := by
  have e : injTick r (pageUse r .flt os d) = pageUse r .flt [0x018, 0x01C] (pageUse r .flt os d) := by
    simp [injTick, opportunity_idle, h]
  rw [e, pageUse_eq, pageUse_eq r .flt os]

/-- Settles O19: the scrub's three cases, and the tick with the point armed and not. -/
theorem parityIsChecked : Obligations.ParityIsChecked := by
  intro s hc
  have scrub : exec .parityScrub s = .next { s with dev := parityScrub s.root s.dev } := onDev_on hc
  have tick : exec .injectionTick s = .next { s with dev := injTick s.root (pageUse s.root .flt [0x050] s.dev) } := by
    simp only [exec, execInjectionTick, onDev_on hc]
  refine ⟨⟨_, scrub, ⟨rfl, rfl, rfl⟩, parityScrub_scrubAt .., parityScrub_regs .., parityScrub_eq .., fun hen hbad => ?_, fun h => ?_⟩,
    _, tick, ⟨rfl, rfl, rfl⟩, fun hinj hpar => ?_, fun hinj => injTick_idle _ hinj⟩
  · rw [parityScrub_bad hen hbad]
    exact nbit_parityFault ..
  · rw [parityScrub_good h]
  · have armed : injects .flt 0 (pageUse s.root .flt [0x050] s.dev) = true := by simpa using hinj
    obtain ⟨htotal, hpoint, hpage⟩ := opportunity_flt (r := s.root) armed
    simp only [injTick_armed _ hinj, spoil_flt]
    exact ⟨mem_parityBad_spoil hpar, by simpa using htotal, hpoint, hpage⟩

end Sys2Proof.Machine

/-! What each operation of the model leaves alone (R37, 95): `of_f` says that `f` changes no part of the device outside its list. -/

/-! ### Parts of a device as values

`p.of d` is the device that agrees with `d` in part `p` and is at reset elsewhere, so that agreement in a part is an equation (`same_iff`) and an
update is seen to leave a part alone by rewriting. -/

namespace Sys2Proof.Machine

/-- Part `p` is another than part `q`. -/
def Part.isnt (p q : Part) : Prop := p ≠ q

/-- Part `p` is none of a list's. -/
def Part.off (p : Part) (l : List Part) : Prop := p ∉ l

theorem Part.off_one {p q : Part} : p.off [q] ↔ p.isnt q := by simp [Part.off, Part.isnt]

theorem Part.off_cons {p q r : Part} {l : List Part} : p.off (q :: r :: l) ↔ p.isnt q ∧ p.off (r :: l) := by simp [Part.off, Part.isnt]

/-- A device reduced to one of its parts. -/
def Part.of (p : Part) (d : Dev) : Dev :=
  match p with
  | .regs => { regs := d.regs } | .eff => { eff := d.eff } | .parityBad => { parityBad := d.parityBad }
  | .scrubAt => { scrubAt := d.scrubAt } | .page => { page := d.page } | .lines => { lines := d.lines } | .owed => { owed := d.owed }
  | .hwSet => { hwSet := d.hwSet } | .posted => { posted := d.posted } | .sealed => { sealed := d.sealed }
  | .rshadow => { rshadow := d.rshadow } | .wshadow => { wshadow := d.wshadow } | .tshadow => { tshadow := d.tshadow }
  | .perGal => { perGal := d.perGal } | .gal => { gal := d.gal } | .hif => { hif := d.hif } | .evc => { evc := d.evc }
  | .pwr => { pwr := d.pwr } | .clk => { clk := d.clk } | .tb => { tb := d.tb } | .flt => { flt := d.flt } | .lnd => { lnd := d.lnd }
  | .mon => { mon := d.mon } | .log => { log := d.log } | .net => { net := d.net } | .trg => { trg := d.trg } | .ptp => { ptp := d.ptp }
  | .srv => { srv := d.srv } | .ref => { ref := d.ref } | .mcs => { mcs := d.mcs } | .fb => { fb := d.fb } | .chan => { chan := d.chan }
  | .rte => { rte := d.rte } | .sap => { sap := d.sap } | .sapg => { sapg := d.sapg } | .tx => { tx := d.tx } | .txe => { txe := d.txe }
  | .rx => { rx := d.rx } | .rxe => { rxe := d.rxe } | .otpOk => { otpOk := d.otpOk } | .rails => { rails := d.rails }
  | .phyPads => { phyPads := d.phyPads } | .freeCtr => { freeCtr := d.freeCtr }

theorem Part.same_iff {p : Part} {a b : Dev} : p.same a b ↔ p.of a = p.of b := by
  cases p <;> simp [Part.same, Part.of]

/-- Devices that agree in a part are one as far as that part goes. -/
theorem Part.of_congr {p : Part} {a b : Dev} (h : p.same a b) : p.of a = p.of b := Part.same_iff.mp h

theorem Part.of_ite {p : Part} (c : Prop) [Decidable c] (a b : Dev) : p.of (if c then a else b) = if c then p.of a else p.of b := apply_ite ..

/-- A device beside what an operation returns with it. -/
theorem Part.of_ite_fst {p : Part} {α : Type} (c : Prop) [Decidable c] (a b : Dev × α) :
    p.of (if c then a else b).1 = if c then p.of a.1 else p.of b.1 := apply_ite (fun x : Dev × α => p.of x.1) ..

theorem Part.of_ite_snd {p : Part} {α : Type} (c : Prop) [Decidable c] (a b : α × Dev) :
    p.of (if c then a else b).2 = if c then p.of a.2 else p.of b.2 := apply_ite (fun x : α × Dev => p.of x.2) ..

theorem Part.of_ite_mid {p : Part} {α β : Type} (c : Prop) [Decidable c] (a b : α × Dev × β) :
    p.of (if c then a else b).2.1 = if c then p.of a.2.1 else p.of b.2.1 := apply_ite (fun x : α × Dev × β => p.of x.2.1) ..

/-- A fold whose every step leaves a part alone leaves it alone. -/
theorem Part.of_foldl {p : Part} {α : Type} {f : Dev → α → Dev} (h : ∀ x a, p.of (f x a) = p.of x) (l : List α) (d : Dev) :
    p.of (l.foldl f d) = p.of d :=
  foldl_inv (fun x => p.of x = p.of d) f l d rfl fun x a hx => (h x a).trans hx

/-- The same of a fold that carries a device in its accumulator. -/
theorem Part.of_foldl_at {p : Part} {α β : Type} (π : β → Dev) {f : β → α → β} (h : ∀ x a, p.of (π (f x a)) = p.of (π x)) (l : List α) (b : β) :
    p.of (π (l.foldl f b)) = p.of (π b) :=
  foldl_inv (fun x => p.of (π x) = p.of (π b)) f l b rfl fun x a hx => (h x a).trans hx

theorem Part.of_foldl_fst {p : Part} {α β : Type} {f : Dev × β → α → Dev × β} (h : ∀ x a, p.of (f x a).1 = p.of x.1) (l : List α) (b : Dev × β) :
    p.of (l.foldl f b).1 = p.of b.1 := Part.of_foldl_at (·.1) h l b

theorem Part.of_foldl_snd {p : Part} {α β : Type} {f : β × Dev → α → β × Dev} (h : ∀ x a, p.of (f x a).2 = p.of x.2) (l : List α) (b : β × Dev) :
    p.of (l.foldl f b).2 = p.of b.2 := Part.of_foldl_at (·.2) h l b

section
variable {p : Part} (d : Dev)

theorem Part.of_with_regs (h : p.isnt .regs) (x) : p.of { d with regs := x } = p.of d := Part.of_congr (by revert h; cases p <;> simp [Part.same, Part.isnt])
theorem Part.of_with_eff (h : p.isnt .eff) (x) : p.of { d with eff := x } = p.of d := Part.of_congr (by revert h; cases p <;> simp [Part.same, Part.isnt])
theorem Part.of_with_parityBad (h : p.isnt .parityBad) (x) : p.of { d with parityBad := x } = p.of d := Part.of_congr (by revert h; cases p <;> simp [Part.same, Part.isnt])
theorem Part.of_with_scrubAt (h : p.isnt .scrubAt) (x) : p.of { d with scrubAt := x } = p.of d := Part.of_congr (by revert h; cases p <;> simp [Part.same, Part.isnt])
theorem Part.of_with_page (h : p.isnt .page) (x) : p.of { d with page := x } = p.of d := Part.of_congr (by revert h; cases p <;> simp [Part.same, Part.isnt])
theorem Part.of_with_lines (h : p.isnt .lines) (x) : p.of { d with lines := x } = p.of d := Part.of_congr (by revert h; cases p <;> simp [Part.same, Part.isnt])
theorem Part.of_with_owed (h : p.isnt .owed) (x) : p.of { d with owed := x } = p.of d := Part.of_congr (by revert h; cases p <;> simp [Part.same, Part.isnt])
theorem Part.of_with_hwSet (h : p.isnt .hwSet) (x) : p.of { d with hwSet := x } = p.of d := Part.of_congr (by revert h; cases p <;> simp [Part.same, Part.isnt])
theorem Part.of_with_posted (h : p.isnt .posted) (x) : p.of { d with posted := x } = p.of d := Part.of_congr (by revert h; cases p <;> simp [Part.same, Part.isnt])
theorem Part.of_with_sealed (h : p.isnt .sealed) (x) : p.of { d with sealed := x } = p.of d := Part.of_congr (by revert h; cases p <;> simp [Part.same, Part.isnt])
theorem Part.of_with_rshadow (h : p.isnt .rshadow) (x) : p.of { d with rshadow := x } = p.of d := Part.of_congr (by revert h; cases p <;> simp [Part.same, Part.isnt])
theorem Part.of_with_wshadow (h : p.isnt .wshadow) (x) : p.of { d with wshadow := x } = p.of d := Part.of_congr (by revert h; cases p <;> simp [Part.same, Part.isnt])
theorem Part.of_with_tshadow (h : p.isnt .tshadow) (x) : p.of { d with tshadow := x } = p.of d := Part.of_congr (by revert h; cases p <;> simp [Part.same, Part.isnt])
theorem Part.of_with_perGal (h : p.isnt .perGal) (x) : p.of { d with perGal := x } = p.of d := Part.of_congr (by revert h; cases p <;> simp [Part.same, Part.isnt])
theorem Part.of_with_gal (h : p.isnt .gal) (x) : p.of { d with gal := x } = p.of d := Part.of_congr (by revert h; cases p <;> simp [Part.same, Part.isnt])
theorem Part.of_with_hif (h : p.isnt .hif) (x) : p.of { d with hif := x } = p.of d := Part.of_congr (by revert h; cases p <;> simp [Part.same, Part.isnt])
theorem Part.of_with_evc (h : p.isnt .evc) (x) : p.of { d with evc := x } = p.of d := Part.of_congr (by revert h; cases p <;> simp [Part.same, Part.isnt])
theorem Part.of_with_pwr (h : p.isnt .pwr) (x) : p.of { d with pwr := x } = p.of d := Part.of_congr (by revert h; cases p <;> simp [Part.same, Part.isnt])
theorem Part.of_with_clk (h : p.isnt .clk) (x) : p.of { d with clk := x } = p.of d := Part.of_congr (by revert h; cases p <;> simp [Part.same, Part.isnt])
theorem Part.of_with_tb (h : p.isnt .tb) (x) : p.of { d with tb := x } = p.of d := Part.of_congr (by revert h; cases p <;> simp [Part.same, Part.isnt])
theorem Part.of_with_flt (h : p.isnt .flt) (x) : p.of { d with flt := x } = p.of d := Part.of_congr (by revert h; cases p <;> simp [Part.same, Part.isnt])
theorem Part.of_with_lnd (h : p.isnt .lnd) (x) : p.of { d with lnd := x } = p.of d := Part.of_congr (by revert h; cases p <;> simp [Part.same, Part.isnt])
theorem Part.of_with_mon (h : p.isnt .mon) (x) : p.of { d with mon := x } = p.of d := Part.of_congr (by revert h; cases p <;> simp [Part.same, Part.isnt])
theorem Part.of_with_log (h : p.isnt .log) (x) : p.of { d with log := x } = p.of d := Part.of_congr (by revert h; cases p <;> simp [Part.same, Part.isnt])
theorem Part.of_with_net (h : p.isnt .net) (x) : p.of { d with net := x } = p.of d := Part.of_congr (by revert h; cases p <;> simp [Part.same, Part.isnt])
theorem Part.of_with_trg (h : p.isnt .trg) (x) : p.of { d with trg := x } = p.of d := Part.of_congr (by revert h; cases p <;> simp [Part.same, Part.isnt])
theorem Part.of_with_ptp (h : p.isnt .ptp) (x) : p.of { d with ptp := x } = p.of d := Part.of_congr (by revert h; cases p <;> simp [Part.same, Part.isnt])
theorem Part.of_with_srv (h : p.isnt .srv) (x) : p.of { d with srv := x } = p.of d := Part.of_congr (by revert h; cases p <;> simp [Part.same, Part.isnt])
theorem Part.of_with_ref (h : p.isnt .ref) (x) : p.of { d with ref := x } = p.of d := Part.of_congr (by revert h; cases p <;> simp [Part.same, Part.isnt])
theorem Part.of_with_mcs (h : p.isnt .mcs) (x) : p.of { d with mcs := x } = p.of d := Part.of_congr (by revert h; cases p <;> simp [Part.same, Part.isnt])
theorem Part.of_with_fb (h : p.isnt .fb) (x) : p.of { d with fb := x } = p.of d := Part.of_congr (by revert h; cases p <;> simp [Part.same, Part.isnt])
theorem Part.of_with_chan (h : p.isnt .chan) (x) : p.of { d with chan := x } = p.of d := Part.of_congr (by revert h; cases p <;> simp [Part.same, Part.isnt])
theorem Part.of_with_rte (h : p.isnt .rte) (x) : p.of { d with rte := x } = p.of d := Part.of_congr (by revert h; cases p <;> simp [Part.same, Part.isnt])
theorem Part.of_with_sap (h : p.isnt .sap) (x) : p.of { d with sap := x } = p.of d := Part.of_congr (by revert h; cases p <;> simp [Part.same, Part.isnt])
theorem Part.of_with_sapg (h : p.isnt .sapg) (x) : p.of { d with sapg := x } = p.of d := Part.of_congr (by revert h; cases p <;> simp [Part.same, Part.isnt])
theorem Part.of_with_tx (h : p.isnt .tx) (x) : p.of { d with tx := x } = p.of d := Part.of_congr (by revert h; cases p <;> simp [Part.same, Part.isnt])
theorem Part.of_with_txe (h : p.isnt .txe) (x) : p.of { d with txe := x } = p.of d := Part.of_congr (by revert h; cases p <;> simp [Part.same, Part.isnt])
theorem Part.of_with_rx (h : p.isnt .rx) (x) : p.of { d with rx := x } = p.of d := Part.of_congr (by revert h; cases p <;> simp [Part.same, Part.isnt])
theorem Part.of_with_rxe (h : p.isnt .rxe) (x) : p.of { d with rxe := x } = p.of d := Part.of_congr (by revert h; cases p <;> simp [Part.same, Part.isnt])
theorem Part.of_with_otpOk (h : p.isnt .otpOk) (x) : p.of { d with otpOk := x } = p.of d := Part.of_congr (by revert h; cases p <;> simp [Part.same, Part.isnt])
theorem Part.of_with_rails (h : p.isnt .rails) (x) : p.of { d with rails := x } = p.of d := Part.of_congr (by revert h; cases p <;> simp [Part.same, Part.isnt])
theorem Part.of_with_phyPads (h : p.isnt .phyPads) (x) : p.of { d with phyPads := x } = p.of d := Part.of_congr (by revert h; cases p <;> simp [Part.same, Part.isnt])
theorem Part.of_with_freeCtr (h : p.isnt .freeCtr) (x) : p.of { d with freeCtr := x } = p.of d := Part.of_congr (by revert h; cases p <;> simp [Part.same, Part.isnt])

end

end Sys2Proof.Machine

namespace Sys2Proof.Machine

section
variable {π : Part}

/-! ### Operations of Machine/Ops -/

theorem of_setAddr (h : π.off [.regs, .parityBad]) (d : Dev) (a : Nat) (w : Word) : π.of (d.setAddr a w) = π.of d :=
  Part.of_congr (by revert h; cases π <;> simp [Part.same, Part.off])

theorem of_setReg (h : π.off [.regs, .parityBad]) (d : Dev) (b : Blk) (o : Nat) (w : Word) : π.of (Dev.setReg d b o w) = π.of d := by
  simp_all only [Part.off_one, Part.off_cons, and_self, Dev.setReg, of_setAddr]

theorem of_setPwv (h : π.off [.eff]) (d : Dev) (b : Blk) (o : Nat) (w : Word) : π.of (Dev.setPwv d b o w) = π.of d := by
  simp_all only [Part.off_one, Dev.setPwv, Part.of_with_eff]

theorem of_setTw (h : π.off [.regs, .parityBad]) (d : Dev) (t : Tbl) (e i : Nat) (w : Word) : π.of (Dev.setTw d t e i w) = π.of d := by
  simp_all only [Part.off_one, Part.off_cons, and_self, Dev.setTw, of_setAddr]

theorem of_setOwn (h : π.off [.parityBad, .perGal]) (d : Dev) (b : Blk) (o g : Nat) (w : Word) : π.of (d.setOwn b o g w) = π.of d :=
  Part.of_congr (by revert h; cases π <;> simp [Part.same, Part.off])

theorem of_drew (h : π.off [.freeCtr]) (d : Dev) : π.of (Dev.drew d) = π.of d := by
  simp_all only [Part.off_one, Dev.drew, Part.of_with_freeCtr]

theorem of_setSrc (h : π.off [.evc]) (d : Dev) (n : Nat) (x : Src) : π.of (Dev.setSrc d n x) = π.of d := by
  simp_all only [Part.off_one, Dev.setSrc, Part.of_with_evc]

theorem of_raise (h : π.off [.evc]) (r : Root) (n : Nat) (d : Dev) : π.of (raise r n d) = π.of d := by
  simp_all only [Part.off_one, raise, of_setSrc, Part.of_ite, ite_self]

theorem of_raiseIf (h : π.off [.evc]) (c : Bool) (r : Root) (n : Nat) (d : Dev) : π.of (raiseIf c r n d) = π.of d := by
  simp_all only [Part.off_one, raiseIf, of_raise, Part.of_ite, ite_self]

theorem of_netMap (h : π.off [.net]) (d : Dev) (f : NetSt → NetSt) : π.of (Dev.netMap d f) = π.of d := by
  simp_all only [Part.off_one, Dev.netMap, Part.of_with_net]

theorem of_setNetp (h : π.off [.net]) (d : Dev) (p : Nat) (x : NetP) : π.of (Dev.setNetp d p x) = π.of d := by
  simp_all only [Part.off_one, Dev.setNetp, of_netMap]

/-! ### Operations of Machine/Flags -/

theorem of_setPg (h : π.off [.page]) (d : Dev) (b : Blk) (x : PageSt) : π.of (Dev.setPg d b x) = π.of d := by
  simp_all only [Part.off_one, Dev.setPg, Part.of_with_page]

theorem of_lineMove (h : π.off [.lines]) (r : Root) (k : Nat) (was is : Bool) (d : Dev) : π.of (lineMove r k was is d) = π.of d := by
  simp_all only [Part.off_one, lineMove, Part.of_with_lines, Part.of_ite, ite_self]

theorem of_linesMove (h : π.off [.lines]) (r : Root) (o d : Dev) : π.of (linesMove r o d) = π.of d := by
  simp_all only [Part.off_one, linesMove, of_lineMove, Part.of_foldl, implies_true]

theorem of_fault (h : π.off [.page, .lines]) (r : Root) (b : Blk) (k : FaultKind) (g a : Nat) (d : Dev) : π.of (fault r b k g a d) = π.of d := by
  simp_all only [Part.off_one, Part.off_cons, fault, of_setPg, of_linesMove]

theorem of_clearFaults (h : π.off [.page, .lines]) (r : Root) (g : Nat) (b : Blk) (w : Word) (d : Dev) : π.of (clearFaults r g b w d) = π.of d := by
  simp_all only [Part.off_one, Part.off_cons, clearFaults, of_setPg, of_linesMove]

theorem of_setPost (h : π.off [.posted]) (d : Dev) (b : Blk) (p : Option Posted) : π.of (Dev.setPost d b p) = π.of d := by
  simp_all only [Part.off_one, Dev.setPost, Part.of_with_posted]

theorem of_parityFault (h : π.off [.page, .lines]) (r : Root) (a : Nat) (d : Dev) : π.of (parityFault r a d) = π.of d := by
  simp_all only [Part.off_one, Part.off_cons, and_self, parityFault, of_fault]

theorem of_useWords (h : π.off [.page, .lines]) (r : Root) (p : Nat → Bool) (d : Dev) : π.of (useWords r p d) = π.of d := by
  simp_all only [Part.off_one, Part.off_cons, and_self, useWords, of_parityFault, Part.of_foldl, implies_true]

theorem of_pageUse (h : π.off [.page, .lines]) (r : Root) (b : Blk) (os : List Nat) (d : Dev) : π.of (pageUse r b os d) = π.of d := by
  simp_all only [Part.off_one, Part.off_cons, and_self, pageUse, of_useWords]

theorem of_entryUse (h : π.off [.page, .lines]) (r : Root) (t : Tbl) (e : Nat) (d : Dev) : π.of (entryUse r t e d) = π.of d := by
  simp_all only [Part.off_one, Part.off_cons, and_self, entryUse, of_useWords]

theorem of_disarm (h : π.off [.regs, .parityBad]) (b : Blk) (d : Dev) : π.of (disarm b d) = π.of d := by
  simp_all only [Part.off_one, Part.off_cons, and_self, disarm, of_setReg]

theorem of_armRule (h : π.off [.regs, .parityBad]) (b : Blk) (d : Dev) : π.of (armRule b d) = π.of d := by
  simp_all only [Part.off_one, Part.off_cons, and_self, armRule, of_disarm, Part.of_ite, ite_self]

theorem of_recordInj (h : π.off [.page, .lines, .evc, .flt]) (r : Root) (b : Blk) (pt : Nat) (d : Dev) : π.of (recordInj r b pt d) = π.of d := by
  simp_all only [Part.off_one, Part.off_cons, and_self, recordInj, of_raiseIf, of_pageUse, Part.of_with_flt]

theorem of_opportunity (h : π.off [.regs, .parityBad, .page, .lines, .evc, .flt]) (r : Root) (b : Blk) (pt : Nat) (d0 : Dev) :
    π.of (opportunity r b pt d0) = π.of d0 := by
  simp_all only [Part.off_one, Part.off_cons, and_self, opportunity, of_setReg, of_pageUse, of_disarm, of_recordInj, Part.of_ite, ite_self]

theorem of_hwSets (h : π.off [.hwSet]) (r : Root) (b : Blk) (o : Nat) (d : Dev) : π.of (hwSets r b o d) = π.of d := by
  simp_all only [Part.off_one, hwSets, Part.of_with_hwSet]

/-! ### Operations of Machine/Time -/

theorem of_rate40 (h : π.off [.freeCtr]) (x : Int) (d : Dev) : π.of (rate40 x d).2 = π.of d := by
  simp_all only [Part.off_one, rate40, of_drew, Part.of_ite_snd, ite_self]

theorem of_eraBump (h : π.off [.evc, .tb]) (r : Root) (c : Nat) (d : Dev) : π.of (eraBump r c d) = π.of d := by
  simp_all only [Part.off_one, Part.off_cons, eraBump, of_raise, Part.of_with_tb, Part.of_ite, ite_self]

theorem of_setTimeState (h : π.off [.evc, .tb]) (r : Root) (n : Nat) (d : Dev) : π.of (setTimeState r n d) = π.of d := by
  simp_all only [Part.off_one, Part.off_cons, setTimeState, of_raise, Part.of_with_tb, Part.of_ite, ite_self]

theorem of_setView (h : π.off [.tb]) (d : Dev) (v : Nat) (x : View) : π.of (Dev.setView d v x) = π.of d := by
  unfold Dev.setView
  split <;> simp_all only [Part.off_one, Part.of_with_tb]

theorem of_setAt (h : π.off [.tb]) (d : Dev) (x : View) : π.of (Dev.setAt d x) = π.of d := by
  simp_all only [Part.off_one, Dev.setAt, Part.of_with_tb]

theorem of_followAt (h : π.off [.tb]) (v : Nat) (d : Dev) : π.of (followAt v d) = π.of d := by
  simp_all only [Part.off_one, followAt, of_setAt, Part.of_ite, ite_self]

theorem of_accRate (h : π.off [.ref]) (r : Root) (v : Nat) (d : Dev) : π.of (accRate r v d) = π.of d := by
  simp_all only [Part.off_one, accRate, Part.of_with_ref]

theorem of_viewRate (h : π.off [.tb, .ref]) (r : Root) (v : Nat) (rate : Int) (d : Dev) : π.of (viewRate r v rate d) = π.of d := by
  simp_all only [Part.off_one, Part.off_cons, viewRate, of_setView, of_followAt, of_accRate, Part.of_ite, ite_self]

theorem of_restartViews (h : π.off [.tb]) (cold : Bool) (d : Dev) : π.of (restartViews cold d) = π.of d := by
  simp_all only [Part.off_one, restartViews, Part.of_with_tb]

theorem of_invalidStamp (h : π.off [.evc, .tb]) (r : Root) (d : Dev) : π.of (invalidStamp r d) = π.of d := by
  simp_all only [Part.off_one, Part.off_cons, invalidStamp, of_raise, Part.of_with_tb]

theorem of_takeStamp (h : π.off [.regs, .parityBad, .page, .lines, .evc, .tb, .flt]) (r : Root) (e : Int) (point speed : Nat) (d : Dev) :
    π.of (takeStamp r e point speed d).2 = π.of d := by
  simp_all only [Part.off_one, Part.off_cons, and_self, takeStamp, of_opportunity, of_invalidStamp, Part.of_ite, ite_self]

/-! ### Operations of Machine/Landing -/

theorem of_lndMap (h : π.off [.lnd]) (d : Dev) (f : LndSt → LndSt) : π.of (Dev.lndMap d f) = π.of d := by
  simp_all only [Part.off_one, Dev.lndMap, Part.of_with_lnd]

theorem of_setExt (h : π.off [.lnd]) (d : Dev) (c : Nat) (x : Ext) : π.of (Dev.setExt d c x) = π.of d := by
  simp_all only [Part.off_one, Dev.setExt, of_lndMap]

theorem of_allocTreads (h : π.off [.lnd, .freeCtr]) (n : Nat) (d : Dev) : π.of (allocTreads n d).2 = π.of d := by
  induction n generalizing d with
  | zero => rfl
  | succ n ih => simp_all only [Part.off_one, Part.off_cons, allocTreads, of_lndMap, of_drew]

theorem of_mapFresh (h : π.off [.lnd]) (p : Nat → Bool) (d : Dev) : π.of (mapFresh p d) = π.of d := by
  simp_all only [Part.off_one, mapFresh, of_lndMap]

theorem of_ceReport (h : π.off [.evc, .lnd]) (r : Root) (w : Nat) (d : Dev) : π.of (ceReport r w d) = π.of d := by
  simp_all only [Part.off_one, Part.off_cons, ceReport, of_raiseIf, of_lndMap]

theorem of_ueReport (h : π.off [.evc, .lnd, .freeCtr]) (r : Root) (w : Nat) (d : Dev) : π.of (ueReport r w d) = π.of d := by
  simp_all only [Part.off_one, Part.off_cons, ueReport, of_drew, of_raise, of_lndMap, Part.of_ite, ite_self]

theorem of_mapReads (h : π.off [.evc, .lnd, .freeCtr]) (r : Root) (p : Nat → Bool) (d : Dev) : π.of (mapReads r p d) = π.of d := by
  unfold mapReads
  refine Part.of_foldl (fun x a => ?_) _ _
  split <;> simp_all only [Part.off_one, Part.off_cons, and_self, of_ueReport]

theorem of_compactMap (h : π.off [.evc, .lnd, .freeCtr]) (r : Root) (d0 : Dev) : π.of (compactMap r d0) = π.of d0 := by
  simp_all only [Part.off_one, Part.off_cons, and_self, compactMap, of_lndMap, of_mapFresh, of_mapReads]

theorem of_giveUp (h : π.off [.evc, .lnd, .freeCtr]) (r : Root) (c : Nat) (d : Dev) : π.of (giveUp r c d) = π.of d := by
  simp_all only [Part.off_one, Part.off_cons, and_self, giveUp, of_lndMap, of_setExt, of_mapFresh, of_mapReads]

theorem of_lndRead (h : π.off [.evc, .lnd, .freeCtr]) (r : Root) (m : List Host.Cell) (c off n : Nat) (d : Dev) :
    π.of (lndRead r m c off n d).2 = π.of d := by
  simp_all only [Part.off_one, Part.off_cons, and_self, lndRead, of_ceReport, of_ueReport, Part.of_ite, ite_self, Part.of_foldl, implies_true]

theorem of_lndWrite (h : π.off [.evc, .lnd, .freeCtr]) (r : Root) (c off : Nat) (bytes : List Byte) (d : Dev) :
    π.of (lndWrite r c off bytes d).1 = π.of d := by
  simp_all only [Part.off_one, Part.off_cons, and_self, lndWrite, of_lndMap, of_ceReport, of_ueReport, Part.of_ite, ite_self, Part.of_foldl,
    implies_true]

theorem of_sampleWrite (h : π.off [.lnd, .freeCtr]) (c n : Nat) (d : Dev) : π.of (sampleWrite c n d) = π.of d := by
  simp_all only [Part.off_one, Part.off_cons, sampleWrite, of_drew, of_lndMap, Part.of_ite, ite_self, Part.of_foldl, implies_true]

theorem of_treadZeroed (h : π.off [.lnd]) (d : Dev) : π.of (treadZeroed d).1 = π.of d := by
  unfold treadZeroed
  split <;> simp_all only [Part.off_one, of_lndMap, Part.of_ite, ite_self]

theorem of_scrubEntry (h : π.off [.evc, .lnd, .freeCtr]) (r : Root) (i : Nat) (d : Dev) : π.of (scrubEntry r i d) = π.of d := by
  unfold scrubEntry
  repeat' split
  all_goals simp_all only [Part.off_one, Part.off_cons, and_self, of_lndMap, of_ceReport, of_mapReads]

theorem of_scrubStep (h : π.off [.regs, .parityBad, .page, .lines, .evc, .flt, .lnd, .freeCtr]) (r : Root) (d : Dev) :
    π.of (scrubStep r d) = π.of d := by
  simp_all only [Part.off_one, Part.off_cons, and_self, scrubStep, of_opportunity, of_lndMap, of_ceReport, of_ueReport, of_scrubEntry, Part.of_ite,
    ite_self]

theorem of_lndRefuse (h : π.off [.evc, .lnd]) (r : Root) (g c reason : Nat) (d : Dev) : π.of (lndRefuse r g c reason d) = π.of d := by
  simp_all only [Part.off_one, Part.off_cons, lndRefuse, of_raise, of_lndMap]

theorem of_lndCommit (h : π.off [.evc, .lnd, .freeCtr]) (r : Root) (g c : Nat) (q : LndReq) (d : Dev) : π.of (lndCommit r g c q d) = π.of d := by
  simp_all only [Part.off_one, Part.off_cons, and_self, lndCommit, of_setExt, of_allocTreads, of_mapFresh, of_compactMap, Part.of_ite, ite_self]

theorem of_enqueueAdmit (h : π.off [.lnd]) (r : Root) (g c : Nat) (d : Dev) : π.of (enqueueAdmit r g c d) = π.of d := by
  simp_all only [Part.off_one, enqueueAdmit, of_lndMap]

theorem of_setCor (h : π.off [.lnd]) (d : Dev) (c : Nat) (x : Cor) : π.of (Dev.setCor d c x) = π.of d := by
  simp_all only [Part.off_one, Dev.setCor, of_lndMap]

theorem of_corOverflow (h : π.off [.evc, .lnd]) (r : Root) (c : Nat) (d : Dev) : π.of (corOverflow r c d) = π.of d := by
  simp_all only [Part.off_one, Part.off_cons, corOverflow, of_raiseIf, of_setCor]

theorem of_produce (h : π.off [.regs, .parityBad, .page, .lines, .evc, .flt, .lnd, .freeCtr]) (r : Root) (c type info : Nat) (payload : List Byte) (d : Dev) :
    π.of (produce r c type info payload d).2.1 = π.of d := by
  simp_all only [Part.off_one, Part.off_cons, and_self, produce, of_raiseIf, of_opportunity, of_ueReport, of_lndWrite, of_setCor, of_corOverflow,
    Part.of_ite, Part.of_ite_mid, ite_self, Part.of_foldl, Part.of_foldl_fst, implies_true]

theorem of_corPtr (h : π.off [.evc, .lnd]) (r : Root) (c : Nat) (p : PtrWrite) (d : Dev) : π.of (corPtr r c p d) = π.of d := by
  simp_all only [Part.off_one, Part.off_cons, corPtr, of_raise, of_setCor, Part.of_ite, ite_self]

theorem of_corStart (h : π.off [.lnd]) (r : Root) (g c : Nat) (d : Dev) : π.of (corStart r g c d) = π.of d := by
  simp_all only [Part.off_one, corStart, of_enqueueAdmit, of_setCor]

theorem of_corCfg (h : π.off [.lnd]) (r : Root) (g c : Nat) (w : Word) (d : Dev) : π.of (corCfg r g c w d) = π.of d := by
  unfold corCfg
  dsimp only
  repeat' split
  all_goals simp_all only [Part.off_one, of_setCor, of_corStart]

theorem of_corClose (h : π.off [.evc, .lnd, .freeCtr]) (r : Root) (c : Nat) (d : Dev) : π.of (corClose r c d) = π.of d := by
  simp_all only [Part.off_one, Part.off_cons, and_self, corClose, of_giveUp, of_setCor, of_corStart, Part.of_ite, ite_self]

theorem of_corAdmitted (h : π.off [.evc, .lnd, .freeCtr]) (r : Root) (g c : Nat) (d : Dev) : π.of (corAdmitted r g c d) = π.of d := by
  simp_all only [Part.off_one, Part.off_cons, and_self, corAdmitted, of_giveUp, of_lndRefuse, of_lndCommit, of_setCor, Part.of_ite, ite_self]

theorem of_lndCmd (h : π.off [.lnd]) (w : Word) (d : Dev) : π.of (lndCmd w d) = π.of d := by
  simp_all only [Part.off_one, lndCmd, of_lndMap, Part.of_ite, ite_self]

/-! ### Operations of Machine/Mon -/

theorem of_logMap (h : π.off [.log]) (d : Dev) (f : LogSt → LogSt) : π.of (Dev.logMap d f) = π.of d := by
  simp_all only [Part.off_one, Dev.logMap, Part.of_with_log]

theorem of_logLost (h : π.off [.evc, .log]) (r : Root) (g ec era : Nat) (d : Dev) : π.of (logLost r g ec era d) = π.of d := by
  simp_all only [Part.off_one, Part.off_cons, logLost, of_raiseIf, of_logMap]

theorem of_teleQueue (h : π.off [.evc, .log]) (r : Root) (x : TeleRec) (d : Dev) : π.of (teleQueue r x d) = π.of d := by
  unfold teleQueue
  dsimp only
  repeat' split
  all_goals simp_all only [Part.off_one, Part.off_cons, and_self, of_logMap, of_logLost]

theorem of_alarmUpdate (h : π.off [.regs, .parityBad, .log]) (r : Root) (e g id : Nat) (value : Word) (taken : Bool) (d : Dev) :
    π.of (alarmUpdate r e g id value taken d) = π.of d := by
  simp_all only [Part.off_one, Part.off_cons, and_self, alarmUpdate, of_setTw, of_logMap, Part.of_foldl, implies_true]

theorem of_alarmPlace (h : π.off [.regs, .parityBad, .evc, .log]) (r : Root) (g id : Nat) (value : Word) (d : Dev) :
    π.of (alarmPlace r g id value d) = π.of d := by
  unfold alarmPlace
  dsimp only
  repeat' split
  all_goals simp_all only [Part.off_one, Part.off_cons, and_self, of_raise, of_logMap, of_alarmUpdate]

theorem of_alarmOccur (h : π.off [.regs, .parityBad, .evc, .log]) (r : Root) (g id : Nat) (value : Word) (d : Dev) :
    π.of (alarmOccur r g id value d) = π.of d := by
  simp_all only [Part.off_one, Part.off_cons, and_self, alarmOccur, of_logMap, of_alarmPlace]

theorem of_teleOccur (h : π.off [.regs, .parityBad, .evc, .log]) (r : Root) (cls g id : Nat) (value : Word) (d : Dev) :
    π.of (teleOccur r cls g id value d) = π.of d := by
  unfold teleOccur
  split <;> simp_all only [Part.off_one, Part.off_cons, and_self, of_teleQueue, of_alarmOccur, Part.of_ite, ite_self]

theorem of_alarmRecord (h : π.off [.regs, .parityBad, .page, .lines, .evc, .flt, .lnd, .log, .freeCtr]) (r : Root) (e : Nat) (d : Dev) :
    π.of (alarmRecord r e d).1 = π.of d := by
  simp_all only [Part.off_one, Part.off_cons, and_self, alarmRecord, of_setTw, of_produce, of_logMap, Part.of_ite_fst, ite_self]

theorem of_flushPending (h : π.off [.regs, .parityBad, .page, .lines, .evc, .flt, .lnd, .log, .freeCtr]) (r : Root) (d : Dev) :
    π.of (flushPending r d).1 = π.of d := by
  simp_all only [Part.off_one, Part.off_cons, and_self, flushPending, of_alarmRecord, Part.of_foldl_fst, implies_true]

theorem of_writeLog (h : π.off [.regs, .parityBad, .page, .lines, .evc, .flt, .lnd, .log, .freeCtr]) (r : Root) (x : TeleRec) (d : Dev) :
    π.of (writeLog r x d).1 = π.of d := by
  simp_all only [Part.off_one, Part.off_cons, and_self, writeLog, of_opportunity, of_corOverflow, of_produce, of_logLost, Part.of_ite,
    Part.of_ite_fst, Part.of_ite_mid, ite_self]
  repeat' split
  all_goals simp_all only [Part.off_one, Part.off_cons, and_self, of_opportunity, of_produce, of_logMap]

theorem of_teleWrite (h : π.off [.regs, .parityBad, .page, .lines, .evc, .flt, .lnd, .log, .freeCtr]) (r : Root) (d : Dev) :
    π.of (teleWrite r d).1 = π.of d := by
  unfold teleWrite
  repeat' split
  all_goals simp_all only [Part.off_one, Part.off_cons, and_self, of_produce, of_logMap, of_alarmRecord, of_writeLog, Part.of_ite, Part.of_ite_fst, ite_self]

theorem of_alarmClear (h : π.off [.regs, .parityBad, .evc, .log]) (r : Root) (g : Nat) (w : Word) (d : Dev) :
    π.of (alarmClear r g w d) = π.of d := by
  simp_all only [Part.off_one, Part.off_cons, and_self, alarmClear, of_setTw, of_logMap, of_alarmPlace, Part.of_ite, ite_self, Part.of_foldl,
    implies_true]

theorem of_monMap (h : π.off [.mon]) (d : Dev) (f : MonSt → MonSt) : π.of (Dev.monMap d f) = π.of d := by
  simp_all only [Part.off_one, Dev.monMap, Part.of_with_mon]

theorem of_setLate (h : π.off [.mon]) (s : Nat) (x : MonLate) (d : Dev) : π.of (setLate s x d) = π.of d := by
  simp_all only [Part.off_one, setLate, Part.of_with_mon]

theorem of_monAdd (h : π.off [.regs, .parityBad, .mon]) (r : Root) (s : Nat) (v : Int) (d : Dev) : π.of (monAdd r s v d) = π.of d := by
  simp_all only [Part.off_one, Part.off_cons, and_self, monAdd, of_setTw, of_setLate, Part.of_with_mon]

theorem of_monDrop (h : π.off [.mon]) (r : Root) (s : Nat) (d : Dev) : π.of (monDrop r s d) = π.of d := by
  simp_all only [Part.off_one, monDrop, of_setLate, Part.of_with_mon]

theorem of_monRecord (h : π.off [.regs, .parityBad, .evc, .mon, .log]) (r : Root) (s : Nat) (raw : Int) (d : Dev) :
    π.of (monRecord r s raw d) = π.of d := by
  simp_all only [Part.off_one, Part.off_cons, and_self, monRecord, of_raiseIf, of_teleOccur, of_monMap, of_monAdd, Part.of_ite, ite_self]

theorem of_monTake (h : π.off [.regs, .parityBad, .evc, .mon, .log]) (r : Root) (qty obj : Nat) (sameEra : Bool) (raw : Int) (d : Dev) :
    π.of (monTake r qty obj sameEra raw d) = π.of d := by
  simp_all only [Part.off_one, Part.off_cons, and_self, monTake, of_monDrop, of_monRecord, Part.of_ite, ite_self, Part.of_foldl, implies_true]

theorem of_monClear (h : π.off [.regs, .parityBad, .mon]) (s : Nat) (d : Dev) : π.of (monClear s d) = π.of d := by
  simp_all only [Part.off_one, Part.off_cons, and_self, monClear, of_setTw, of_monMap, Part.of_foldl, implies_true]

theorem of_monSnap (h : π.off [.regs, .parityBad, .mon]) (r : Root) (g : Nat) (w : Word) (d : Dev) : π.of (monSnap r g w d) = π.of d := by
  simp_all only [Part.off_one, Part.off_cons, and_self, monSnap, of_monMap, of_monAdd, of_monDrop, of_monClear, Part.of_ite, ite_self,
    Part.of_foldl, implies_true]

theorem of_monCommit (h : π.off [.regs, .parityBad, .mon]) (s : Nat) (old new : List Word) (d : Dev) : π.of (monCommit s old new d) = π.of d := by
  simp_all only [Part.off_one, Part.off_cons, and_self, monCommit, of_monMap, of_monClear, Part.of_ite, ite_self]

theorem of_monInterval (h : π.off [.regs, .parityBad, .evc, .mon, .log]) (r : Root) (m : List Host.Cell) (s : Nat) (d : Dev) :
    π.of (monInterval r m s d) = π.of d := by
  unfold monInterval
  dsimp only
  repeat' split
  all_goals simp_all only [Part.off_one, Part.off_cons, and_self, of_monMap, of_monRecord]

/-! ### Operations of Machine/Events -/

theorem of_evcMap (h : π.off [.evc]) (d : Dev) (f : EvcSt → EvcSt) : π.of (Dev.evcMap d f) = π.of d := by
  simp_all only [Part.off_one, Dev.evcMap, Part.of_with_evc]

theorem of_hifMap (h : π.off [.hif]) (d : Dev) (f : HifSt → HifSt) : π.of (Dev.hifMap d f) = π.of d := by
  simp_all only [Part.off_one, Dev.hifMap, Part.of_with_hif]

theorem of_setTgt (h : π.off [.evc]) (d : Dev) (t : Nat) (x : Tgt) : π.of (Dev.setTgt d t x) = π.of d := by
  simp_all only [Part.off_one, Dev.setTgt, of_evcMap]

theorem of_wakeSettle (h : π.off [.hif]) (d : Dev) : π.of (wakeSettle d) = π.of d := by
  simp_all only [Part.off_one, wakeSettle, of_hifMap]

theorem of_assertWake (h : π.off [.hif]) (g : Nat) (d : Dev) : π.of (assertWake g d) = π.of d := by
  simp_all only [Part.off_one, assertWake, of_hifMap, of_wakeSettle]

theorem of_wakeGals (h : π.off [.hif]) (onlyAsleep : Bool) (w : Word) (d : Dev) : π.of (wakeGals onlyAsleep w d) = π.of d := by
  simp_all only [Part.off_one, wakeGals, of_assertWake, Part.of_ite, ite_self, Part.of_foldl, implies_true]

theorem of_watchFire (h : π.off [.hif, .pwr]) (i : Nat) (d : Dev) : π.of (watchFire i d) = π.of d := by
  simp_all only [Part.off_one, Part.off_cons, watchFire, of_wakeGals, Part.of_with_pwr, Part.of_ite, ite_self]

theorem of_foyerSource (h : π.off [.page, .lines, .hif, .pwr]) (r : Root) (n : Nat) (d : Dev) : π.of (foyerSource r n d) = π.of d := by
  simp_all only [Part.off_one, Part.off_cons, and_self, foyerSource, of_pageUse, of_watchFire, Part.of_ite, ite_self, Part.of_foldl, implies_true]

theorem of_toPending (h : π.off [.page, .lines, .hif, .evc, .pwr]) (r : Root) (n : Nat) (first : Bool) (d : Dev) :
    π.of (toPending r n first d) = π.of d := by
  simp_all only [Part.off_one, Part.off_cons, and_self, toPending, of_setSrc, of_foyerSource, Part.of_ite, ite_self]

theorem of_withdraw (h : π.off [.page, .lines, .hif, .evc, .pwr]) (r : Root) (n : Nat) (d : Dev) : π.of (withdraw r n d) = π.of d := by
  simp_all only [Part.off_one, Part.off_cons, and_self, withdraw, of_toPending, Part.of_ite, ite_self]

theorem of_srcEdge (h : π.off [.page, .lines, .hif, .evc, .pwr]) (r : Root) (n : Nat) (d : Dev) : π.of (srcEdge r n d) = π.of d := by
  unfold srcEdge
  dsimp only
  split <;> simp_all only [Part.off_one, Part.off_cons, and_self, of_setSrc, of_evcMap, of_toPending]

theorem of_pendWrite (h : π.off [.page, .lines, .hif, .evc, .pwr]) (r : Root) (n : Nat) (b : Bool) (d : Dev) :
    π.of (pendWrite r n b d) = π.of d := by
  unfold pendWrite
  dsimp only
  split <;> simp_all only [Part.off_one, Part.off_cons, and_self, of_setSrc, of_toPending]

theorem of_maskWrite (h : π.off [.page, .lines, .hif, .evc, .pwr]) (r : Root) (n : Nat) (b : Bool) (d : Dev) :
    π.of (maskWrite r n b d) = π.of d := by
  simp_all only [Part.off_one, Part.off_cons, and_self, maskWrite, of_setSrc, of_withdraw, Part.of_ite, ite_self]

theorem of_completeSrc (h : π.off [.page, .lines, .hif, .evc, .pwr]) (r : Root) (n : Nat) (d : Dev) : π.of (completeSrc r n d) = π.of d := by
  unfold completeSrc
  dsimp only
  split <;> simp_all only [Part.off_one, Part.off_cons, and_self, of_setSrc, of_toPending]

theorem of_edge (h : π.off [.regs, .parityBad, .page, .lines, .hif, .evc, .pwr, .log]) (r : Root) (n : Nat) (d : Dev) :
    π.of (edge r n d) = π.of d := by
  simp_all only [Part.off_one, Part.off_cons, and_self, edge, of_teleOccur, of_srcEdge]

theorem of_lineSampled (h : π.off [.lines, .evc]) (n : Nat) (l : Bool) (d : Dev) : π.of (lineSampled n l d) = π.of d := by
  simp_all only [Part.off_one, Part.off_cons, lineSampled, of_setSrc, Part.of_with_lines]

theorem of_eventEdge (h : π.off [.regs, .parityBad, .page, .lines, .hif, .evc, .pwr, .log]) (r : Root) (n : Nat) (d : Dev) :
    π.of (eventEdge r n d) = π.of d := by
  simp_all only [Part.off_one, Part.off_cons, and_self, eventEdge, of_setSrc, of_edge, of_lineSampled, Part.of_ite, ite_self]

theorem of_commitTo (h : π.off [.hif, .evc]) (r : Root) (t : Nat) (ns : List Nat) (d : Dev) : π.of (commitTo r t ns d) = π.of d := by
  simp_all only [Part.off_one, Part.off_cons, commitTo, of_setSrc, of_hifMap, of_setTgt, Part.of_ite, ite_self, Part.of_foldl, implies_true]

theorem of_heldPme (h : π.off [.hif]) (f : Nat) (d : Dev) : π.of (heldPme f d) = π.of d := by
  simp_all only [Part.off_one, heldPme, of_hifMap, of_assertWake, Part.of_ite, ite_self]

theorem of_heldWakes (h : π.off [.page, .lines, .hif, .pwr]) (r : Root) (t : Nat) (ns : List Nat) (d : Dev) :
    π.of (heldWakes r t ns d) = π.of d := by
  simp_all only [Part.off_one, Part.off_cons, and_self, heldWakes, of_foyerSource, of_heldPme, Part.of_ite, ite_self, Part.of_foldl, implies_true]

theorem of_holdUse (h : π.off [.page, .lines]) (r : Root) (t : Nat) (d : Dev) : π.of (holdUse r t d) = π.of d := by
  simp_all only [Part.off_one, Part.off_cons, and_self, holdUse, of_pageUse]

theorem of_tgtUse (h : π.off [.page, .lines]) (r : Root) (t : Nat) (d : Dev) : π.of (tgtUse r t d) = π.of d := by
  simp_all only [Part.off_one, Part.off_cons, and_self, tgtUse, of_pageUse, of_holdUse]

theorem of_decide (h : π.off [.page, .lines, .hif, .evc, .pwr]) (r : Root) (t : Nat) (d0 : Dev) : π.of (decide' r t d0) = π.of d0 := by
  simp_all only [Part.off_one, Part.off_cons, and_self, decide', of_setSrc, of_setTgt, of_commitTo, of_heldWakes, of_tgtUse, Part.of_ite, ite_self,
    Part.of_foldl, implies_true]

theorem of_dispatch (h : π.off [.page, .lines, .hif, .evc, .pwr]) (r : Root) (d : Dev) : π.of (dispatch r d) = π.of d := by
  unfold dispatch
  dsimp only
  repeat' split
  all_goals simp_all only [Part.off_one, Part.off_cons, and_self, of_setSrc, of_decide]

theorem of_deliver (h : π.off [.page, .lines, .hif, .evc, .pwr]) (r : Root) (t : Nat) (d0 : Dev) : π.of (deliver r t d0) = π.of d0 := by
  unfold deliver
  dsimp only
  repeat' split
  all_goals simp_all only [Part.off_one, Part.off_cons, and_self, of_setTgt, of_commitTo, of_heldWakes, of_holdUse]

theorem of_claim (h : π.off [.regs, .parityBad, .evc, .mon, .log]) (r : Root) (t : Nat) (d : Dev) : π.of (claim r t d).2 = π.of d := by
  unfold claim
  dsimp only
  repeat' split
  all_goals simp_all only [Part.off_one, Part.off_cons, and_self, of_setSrc, of_monTake, of_setTgt]

theorem of_complete (h : π.off [.page, .lines, .hif, .evc, .pwr]) (r : Root) (t n : Nat) (d : Dev) : π.of (complete r t n d) = π.of d := by
  simp_all only [Part.off_one, Part.off_cons, and_self, complete, of_evcMap, of_completeSrc, Part.of_ite, ite_self]

theorem of_withdrawLost (h : π.off [.page, .lines, .hif, .evc, .pwr]) (r : Root) (o d : Dev) : π.of (withdrawLost r o d) = π.of d := by
  simp_all only [Part.off_one, Part.off_cons, and_self, withdrawLost, of_foyerSource, of_withdraw, Part.of_foldl, implies_true]

theorem of_evtReset (h : π.off [.regs, .parityBad, .page, .lines, .hif, .evc, .pwr]) (r : Root) (g : Nat) (d : Dev) :
    π.of (evtReset r g d) = π.of d := by
  simp_all only [Part.off_one, Part.off_cons, and_self, evtReset, of_setReg, of_evcMap, of_setTgt, of_completeSrc, of_withdrawLost, Part.of_foldl,
    implies_true]

theorem of_bulkWrite (k : Nat) (w : Word) (may : Nat → Bool) (now : Src → Bool) {f : Nat → Bool → Dev → Dev}
    (hf : ∀ n b d, π.of (f n b d) = π.of d) (d : Dev) : π.of (bulkWrite k w may now f d) = π.of d := by
  refine Part.of_foldl (fun x i => ?_) _ _
  simp only [Part.of_ite, hf, ite_self]

theorem of_pendClear (h : π.off [.page, .lines, .hif, .evc, .pwr]) (r : Root) (n : Nat) (d : Dev) : π.of (pendClear r n d) = π.of d := by
  simp_all only [Part.off_one, Part.off_cons, and_self, pendClear, of_setSrc, of_evcMap, of_toPending, of_pendWrite, Part.of_ite, ite_self]

theorem of_pendBulk (h : π.off [.page, .lines, .hif, .evc, .pwr]) (r : Root) (k : Nat) (w : Word) (may : Nat → Bool) (d : Dev) :
    π.of (pendBulk r k w may d) = π.of d := by
  unfold pendBulk
  refine Part.of_foldl (fun x a => ?_) _ _
  dsimp only
  split <;> simp_all only [Part.off_one, Part.off_cons, and_self, of_pendWrite, of_pendClear, Part.of_ite, ite_self]

theorem of_evcWrite (h : π.off [.page, .lines, .hif, .evc, .pwr]) (r : Root) (o : Nat) (w : Word) (d : Dev) : π.of (evcWrite r o w d) = π.of d := by
  simp_all only [Part.off_one, Part.off_cons, and_self, evcWrite, of_maskWrite, of_bulkWrite, of_pendBulk, Part.of_ite, ite_self, implies_true]

theorem of_srcCtrlWrite (h : π.off [.page, .lines, .hif, .evc, .pwr]) (r : Root) (g : Nat) (w : Word) (d : Dev) :
    π.of (srcCtrlWrite r g w d) = π.of d := by
  simp_all only [Part.off_one, Part.off_cons, and_self, srcCtrlWrite, of_pendWrite, of_maskWrite, Part.of_ite, ite_self]

theorem of_srcTgtWrite (h : π.off [.page, .lines, .hif, .evc, .pwr]) (r : Root) (g k : Nat) (w : Word) (d : Dev) :
    π.of (srcTgtWrite r g k w d) = π.of d := by
  simp_all only [Part.off_one, Part.off_cons, and_self, srcTgtWrite, of_setSrc, of_withdrawLost]

theorem of_evtWrite (h : π.off [.page, .lines, .hif, .evc, .pwr]) (r : Root) (g o : Nat) (w : Word) (d : Dev) :
    π.of (evtWrite r g o w d) = π.of d := by
  simp_all only [Part.off_one, Part.off_cons, and_self, evtWrite, of_maskWrite, of_complete, of_bulkWrite, of_pendBulk, of_srcCtrlWrite,
    of_srcTgtWrite, Part.of_ite, ite_self, implies_true]

/-! ### Operations of Machine/Flt -/

theorem of_fltMap (h : π.off [.flt]) (d : Dev) (f : FltSt → FltSt) : π.of (Dev.fltMap d f) = π.of d := by
  simp_all only [Part.off_one, Dev.fltMap, Part.of_with_flt]

theorem of_tempEval (h : π.off [.regs, .parityBad, .page, .lines, .evc, .flt, .ref]) (r : Root) (temp : Nat) (valid : Bool) (d : Dev) :
    π.of (tempEval r temp valid d) = π.of d := by
  simp_all only [Part.off_one, Part.off_cons, and_self, tempEval, of_raiseIf, of_opportunity, of_fltMap, Part.of_with_ref, Part.of_ite, ite_self]

theorem of_supplyEval (h : π.off [.regs, .parityBad, .page, .lines, .evc, .flt]) (r : Root) (d : Dev) : π.of (supplyEval r d) = π.of d := by
  simp_all only [Part.off_one, Part.off_cons, and_self, supplyEval, of_raiseIf, of_opportunity, of_fltMap]

theorem of_spoil (h : π.off [.parityBad]) (a : Nat) (d : Dev) : π.of (spoil a d) = π.of d := by
  simp_all only [Part.off_one, spoil, Part.of_with_parityBad, Part.of_ite, ite_self]

theorem of_injTick (h : π.off [.regs, .parityBad, .page, .lines, .evc, .flt]) (r : Root) (d : Dev) : π.of (injTick r d) = π.of d := by
  simp_all only [Part.off_one, Part.off_cons, and_self, injTick, of_opportunity, of_spoil, Part.of_ite, ite_self]

theorem of_parityScrub (h : π.off [.scrubAt, .page, .lines]) (r : Root) (d : Dev) : π.of (parityScrub r d) = π.of d := by
  simp_all only [Part.off_one, Part.off_cons, and_self, parityScrub, of_parityFault, Part.of_with_scrubAt, Part.of_ite, ite_self]

theorem of_disarmAll (h : π.off [.regs, .parityBad]) (d : Dev) : π.of (disarmAll d) = π.of d := by
  simp_all only [Part.off_one, Part.off_cons, and_self, disarmAll, of_disarm, Part.of_ite, ite_self, Part.of_foldl, implies_true]

theorem of_fltCmd (h : π.off [.regs, .parityBad, .flt]) (w : Word) (isSteward : Bool) (d : Dev) : π.of (fltCmd w isSteward d) = π.of d := by
  simp_all only [Part.off_one, Part.off_cons, and_self, fltCmd, of_fltMap, of_disarmAll, Part.of_ite, ite_self]

/-! ### Operations of Machine/Gal -/

theorem of_galMap (h : π.off [.gal]) (d : Dev) (f : GalSt → GalSt) : π.of (Dev.galMap d f) = π.of d := by
  simp_all only [Part.off_one, Dev.galMap, Part.of_with_gal]

theorem of_setHolder (h : π.off [.gal]) (p g : Nat) (d : Dev) : π.of (setHolder p g d) = π.of d := by
  simp_all only [Part.off_one, setHolder, of_galMap]

theorem of_claimDone (h : π.off [.gal]) (g p res : Nat) (d : Dev) : π.of (claimDone g p res d) = π.of d := by
  simp_all only [Part.off_one, claimDone, of_galMap]

theorem of_claimTold (h : π.off [.gal]) (g res : Nat) (d : Dev) : π.of (claimTold g res d) = π.of d := by
  simp_all only [Part.off_one, claimTold, of_galMap]

theorem of_claimCycle (h : π.off [.gal]) (r : Root) (g : Nat) (d : Dev) : π.of (claimCycle r g d) = π.of d := by
  simp_all only [Part.off_one, claimCycle, of_galMap]

theorem of_claimGrant (h : π.off [.gal, .evc]) (r : Root) (g p : Nat) (d : Dev) : π.of (claimGrant r g p d) = π.of d := by
  simp_all only [Part.off_one, Part.off_cons, claimGrant, of_raise, of_galMap, of_setHolder, of_claimDone]

theorem of_galClaim (h : π.off [.gal, .evc]) (r : Root) (g p : Nat) (d0 : Dev) : π.of (galClaim r g p d0) = π.of d0 := by
  simp_all only [Part.off_one, Part.off_cons, and_self, galClaim, of_galMap, of_claimDone, of_claimTold, of_claimCycle, of_claimGrant, Part.of_ite,
    ite_self]

theorem of_claimFree (h : π.off [.gal, .evc]) (r : Root) (p : Nat) (d : Dev) : π.of (claimFree r p d) = π.of d := by
  unfold claimFree
  dsimp only
  split <;> simp_all only [Part.off_one, Part.off_cons, and_self, of_raise, of_galMap, of_setHolder, of_claimTold, of_claimGrant, Part.of_foldl, implies_true]

theorem of_galRelease (h : π.off [.gal, .evc]) (r : Root) (g p : Nat) (d0 : Dev) : π.of (galRelease r g p d0) = π.of d0 := by
  simp_all only [Part.off_one, Part.off_cons, and_self, galRelease, of_claimDone, of_claimCycle, of_claimFree, Part.of_ite, ite_self]

theorem of_galForce (h : π.off [.gal, .evc]) (r : Root) (g p : Nat) (d0 : Dev) : π.of (galForce r g p d0) = π.of d0 := by
  simp_all only [Part.off_one, Part.off_cons, and_self, galForce, of_claimDone, of_claimTold, of_claimCycle, of_claimFree, Part.of_ite, ite_self]

theorem of_claimCmd (h : π.off [.gal, .evc]) (r : Root) (g : Nat) (w : Word) (d : Dev) : π.of (claimCmd r g w d) = π.of d := by
  unfold claimCmd
  split <;> simp_all only [Part.off_one, Part.off_cons, and_self, of_galClaim, of_galRelease, of_galForce]

theorem of_partWrite (h : π.off [.gal]) (r : Root) (w : Word) (d : Dev) : π.of (partWrite r w d) = π.of d := by
  unfold partWrite
  split <;> simp_all only [Part.off_one, of_galMap]

theorem of_hostSleep (h : π.off [.regs, .parityBad, .hif]) (g : Nat) (w : Word) (d : Dev) : π.of (hostSleep g w d) = π.of d := by
  simp_all only [Part.off_one, Part.off_cons, and_self, hostSleep, of_setReg, of_hifMap, Part.of_ite, ite_self]

theorem of_linkReset (h : π.off [.hif]) (g : Nat) (d : Dev) : π.of (linkReset g d) = π.of d := by
  simp_all only [Part.off_one, linkReset, of_hifMap, of_wakeSettle, Part.of_ite, ite_self]

theorem of_with_shadows (h : π.off [.rshadow, .wshadow, .tshadow]) (d : Dev) (x y z) :
    π.of { d with rshadow := x, wshadow := y, tshadow := z } = π.of d :=
  Part.of_congr (by revert h; cases π <;> simp [Part.same, Part.off])

theorem of_galReset (h : π.off [.regs, .parityBad, .page, .lines, .rshadow, .wshadow, .tshadow, .gal, .hif, .evc, .pwr]) (r : Root) (cause g : Nat) (d : Dev) :
    π.of (galReset r cause g d) = π.of d := by
  simp_all only [Part.off_one, Part.off_cons, and_self, galReset, of_raise, of_linkReset, of_evtReset, of_galMap, of_setHolder, of_with_shadows,
    Part.of_foldl, Part.of_ite, ite_self, implies_true]

theorem of_pcieReset (h : π.off [.regs, .parityBad, .page, .lines, .rshadow, .wshadow, .tshadow, .gal, .hif, .evc, .pwr]) (r : Root) (d : Dev) :
    π.of (pcieReset r d) = π.of d := by
  simp_all only [Part.off_one, Part.off_cons, and_self, pcieReset, of_galReset, Part.of_foldl, implies_true]

theorem of_linkGone (h : π.off [.hif, .evc]) (r : Root) (d : Dev) : π.of (linkGone r d) = π.of d := by
  simp_all only [Part.off_one, Part.off_cons, linkGone, of_raise, of_hifMap, Part.of_ite, ite_self]

theorem of_pcieUp (h : π.off [.hif, .evc]) (r : Root) (speed : Nat) (width : LinkWidth) (d : Dev) : π.of (pcieUp r speed width d) = π.of d := by
  simp_all only [Part.off_one, Part.off_cons, pcieUp, of_raise, of_hifMap, of_wakeSettle, Part.of_ite, ite_self]

theorem of_perstAssert (h : π.off [.regs, .parityBad, .page, .lines, .rshadow, .wshadow, .tshadow, .gal, .hif, .evc, .pwr]) (r : Root) (d : Dev) :
    π.of (perstAssert r d) = π.of d := by
  simp_all only [Part.off_one, Part.off_cons, and_self, perstAssert, of_hifMap, of_pcieReset, of_linkGone]

theorem of_msixChange (h : π.off [.hif]) (f : Nat) (c : MsixChange) (d : Dev) : π.of (msixChange f c d) = π.of d := by
  unfold msixChange
  split <;> simp_all only [Part.off_one, of_hifMap, of_assertWake, Part.of_ite, ite_self]

/-! ### Operations of Machine/Audio -/

theorem of_putChan (h : π.off [.chan]) (c : Nat) (x : Samp) (d : Dev) : π.of (putChan c x d) = π.of d := by
  simp_all only [Part.off_one, putChan, Part.of_with_chan]

theorem of_sampleRead (h : π.off [.evc, .lnd, .freeCtr]) (r : Root) (c : Nat) (w : Word) (d : Dev) : π.of (sampleRead r c w d).2 = π.of d := by
  simp_all only [Part.off_one, Part.off_cons, and_self, sampleRead, of_drew, of_ceReport, of_ueReport, Part.of_ite_snd, ite_self]

theorem of_setSap (h : π.off [.sap]) (d : Dev) (n : Nat) (x : SapS) : π.of (Dev.setSap d n x) = π.of d := by
  simp_all only [Part.off_one, Dev.setSap, Part.of_with_sap]

theorem of_setGen (h : π.off [.rte]) (d : Dev) (g : Nat) (x : Gen) : π.of (Dev.setGen d g x) = π.of d := by
  simp_all only [Part.off_one, Dev.setGen, Part.of_with_rte]

theorem of_genStep (h : π.off [.rte]) (k : Int) (d : Dev) : π.of (genStep k d) = π.of d := by
  simp_all only [Part.off_one, genStep, of_setGen, Part.of_ite, ite_self, Part.of_foldl, implies_true]

theorem of_genHook (h : π.off [.rte]) (r : Root) (g : Nat) (w0 w1 : Word) (d : Dev) : π.of (genHook r g w0 w1 d) = π.of d := by
  simp_all only [Part.off_one, genHook, of_setGen]

theorem of_gensRestart (h : π.off [.rte]) (d : Dev) : π.of (gensRestart d) = π.of d := by
  simp_all only [Part.off_one, gensRestart, of_setGen, Part.of_foldl, implies_true]

/-! ### Operations of Machine/Hostbuf -/

theorem of_setHb (h : π.off [.lnd]) (d : Dev) (b : Nat) (x : Hbuf) : π.of (Dev.setHb d b x) = π.of d := by
  simp_all only [Part.off_one, Dev.setHb, of_lndMap]

theorem of_hbStart (h : π.off [.lnd]) (r : Root) (b : Nat) (d : Dev) : π.of (hbStart r b d) = π.of d := by
  simp_all only [Part.off_one, hbStart, of_enqueueAdmit, of_setHb]

theorem of_hbCfgHook (h : π.off [.lnd]) (r : Root) (b : Nat) (new : Word) (d : Dev) : π.of (hbCfgHook r b new d) = π.of d := by
  unfold hbCfgHook
  dsimp only
  repeat' split
  all_goals simp_all only [Part.off_one, of_setHb, of_hbStart]

theorem of_hbAdmitted (h : π.off [.hwSet, .evc, .lnd, .freeCtr]) (r : Root) (b : Nat) (d : Dev) : π.of (hbAdmitted r b d) = π.of d := by
  simp_all only [Part.off_one, Part.off_cons, and_self, hbAdmitted, of_hwSets, of_giveUp, of_lndRefuse, of_lndCommit, of_setHb, Part.of_ite,
    ite_self]

theorem of_hbPtrHook (h : π.off [.lnd]) (r : Root) (b : Nat) (w : Word) (d : Dev) : π.of (hbPtrHook r b w d) = π.of d := by
  simp_all only [Part.off_one, hbPtrHook, of_setHb, Part.of_ite, ite_self]

theorem of_hbTick (h : π.off [.evc]) (r : Root) (b : Nat) (k : Int) (d : Dev) : π.of (hbTick r b k d) = π.of d := by
  simp_all only [Part.off_one, hbTick, of_raiseIf]

theorem of_hbClose (h : π.off [.evc, .lnd, .freeCtr]) (r : Root) (b : Nat) (d : Dev) : π.of (hbClose r b d) = π.of d := by
  simp_all only [Part.off_one, Part.off_cons, and_self, hbClose, of_giveUp, of_setHb]

theorem of_hbSupply (h : π.off [.chan]) (b : Nat) (k : Int) (ws : List Word) (d : Dev) : π.of (hbSupply b k ws d) = π.of d := by
  simp_all only [Part.off_one, hbSupply, of_putChan, Part.of_foldl, implies_true]

theorem of_hbTake (h : π.off [.evc, .lnd, .chan, .freeCtr]) (r : Root) (m : List Host.Cell) (b : Nat) (d : Dev) :
    π.of (hbTake r m b d) = π.of d := by
  simp_all only [Part.off_one, Part.off_cons, and_self, hbTake, of_raise, of_lndRead, of_setHb, of_hbTick, of_hbClose, of_hbSupply, Part.of_ite,
    ite_self]

theorem of_hbPublished (h : π.off [.evc, .lnd, .freeCtr]) (r : Root) (b : Nat) (d : Dev) : π.of (hbPublished r b d) = π.of d := by
  simp_all only [Part.off_one, Part.off_cons, and_self, hbPublished, of_setHb, of_hbTick, of_hbClose, Part.of_ite, ite_self]

theorem of_hbWriteSlot (h : π.off [.evc, .lnd, .freeCtr]) (r : Root) (k : Int) (val : Nat → Word) (b : Nat) (d : Dev) :
    π.of (hbWriteSlot r k val b d).1 = π.of d := by
  simp_all only [Part.off_one, Part.off_cons, and_self, hbWriteSlot, of_lndWrite, of_setHb, Part.of_ite_fst, ite_self]

/-! ### Operations of Machine/Trig -/

theorem of_trgMap (h : π.off [.trg]) (d : Dev) (f : TrgSt → TrgSt) : π.of (Dev.trgMap d f) = π.of d := by
  simp_all only [Part.off_one, Dev.trgMap, Part.of_with_trg]

theorem of_setTrig (h : π.off [.trg]) (d : Dev) (n : Nat) (x : Trig) : π.of (Dev.setTrig d n x) = π.of d := by
  simp_all only [Part.off_one, Dev.setTrig, of_trgMap]

theorem of_evTrg (h : π.off [.evc]) (r : Root) (n : Nat) (d : Dev) : π.of (evTrg r n d) = π.of d := by
  simp_all only [Part.off_one, evTrg, of_raise]

theorem of_trigArm (h : π.off [.evc, .trg]) (r : Root) (n : Nat) (d : Dev) : π.of (trigArm r n d) = π.of d := by
  simp_all only [Part.off_one, Part.off_cons, trigArm, of_setTrig, of_evTrg, Part.of_ite, ite_self]

theorem of_trigStop (h : π.off [.evc, .trg]) (r : Root) (outcome n : Nat) (d : Dev) : π.of (trigStop r outcome n d) = π.of d := by
  simp_all only [Part.off_one, Part.off_cons, trigStop, of_raiseIf, of_setTrig, Part.of_ite, ite_self]

theorem of_trigBits (r : Root) (g k : Nat) (w : Word) {f : Nat → Dev → Dev} (hf : ∀ n d, π.of (f n d) = π.of d) (d : Dev) :
    π.of (trigBits r g k w f d) = π.of d := by
  refine Part.of_foldl (fun x i => ?_) _ _
  simp only [Part.of_ite, hf, ite_self]

theorem of_trgRestart (h : π.off [.evc, .trg]) (r : Root) (d : Dev) : π.of (trgRestart r d) = π.of d := by
  simp_all only [Part.off_one, Part.off_cons, and_self, trgRestart, of_trgMap, of_trigStop, Part.of_foldl, implies_true]

theorem of_trigEraCancel (h : π.off [.evc, .trg]) (r : Root) (v : Nat) (d : Dev) : π.of (trigEraCancel r v d) = π.of d := by
  simp_all only [Part.off_one, Part.off_cons, and_self, trigEraCancel, of_trigStop, Part.of_ite, ite_self, Part.of_foldl, implies_true]

theorem of_with_tb_lnd_chan_rte_sap (h : π.off [.tb, .lnd, .chan, .rte, .sap]) (D : Dev) (x y z u v) :
    π.of { D with tb := x, lnd := y, chan := z, rte := u, sap := v } = π.of D :=
  Part.of_congr (by revert h; cases π <;> simp [Part.same, Part.off])

theorem of_periodJump (h : π.off [.tb, .lnd, .chan, .rte, .sap]) (fs : Nat) (k0 k1 : Int) (d : Dev) : π.of (periodJump fs k0 k1 d) = π.of d := by
  simp_all only [Part.off_one, Part.off_cons, and_self, periodJump, of_with_tb_lnd_chan_rte_sap]

theorem of_with_net_tx (h : π.off [.net, .tx]) (D : Dev) (x y) :
    π.of { D with net := x, tx := y } = π.of D :=
  Part.of_congr (by revert h; cases π <;> simp [Part.same, Part.off])

theorem of_atJump (h : π.off [.tb, .lnd, .net, .chan, .rte, .sap, .tx]) (r : Root) (d0 d : Dev) : π.of (atJump r d0 d) = π.of d := by
  simp_all only [Part.off_one, Part.off_cons, and_self, atJump, of_periodJump, of_with_net_tx, Part.of_ite, ite_self]

theorem of_stepView (h : π.off [.evc, .tb, .lnd, .net, .trg, .ref, .chan, .rte, .sap, .tx]) (r : Root) (v : Nat) (x : View) (d : Dev) :
    π.of (stepView r v x d) = π.of d := by
  simp_all only [Part.off_one, Part.off_cons, and_self, stepView, of_eraBump, of_setTimeState, of_setView, of_setAt, of_accRate, of_trigEraCancel,
    of_atJump, Part.of_with_tb, Part.of_ite, ite_self]

theorem of_pulseEnd (h : π.off [.trg]) (r : Root) (p : Nat) (d : Dev) : π.of (pulseEnd r p d) = π.of d := by
  simp_all only [Part.off_one, pulseEnd, of_trgMap]

theorem of_setCapt (h : π.off [.trg]) (d : Dev) (c : Nat) (x : Capt) : π.of (Dev.setCapt d c x) = π.of d := by
  simp_all only [Part.off_one, Dev.setCapt, of_trgMap]

theorem of_capQueue (h : π.off [.trg]) (c : Nat) (s : Stamp) (d : Dev) : π.of (capQueue c s d) = π.of d := by
  simp_all only [Part.off_one, capQueue, of_setCapt, Part.of_ite, ite_self]

theorem of_capInternal (h : π.off [.trg]) (r : Root) (src : Nat) (d : Dev) : π.of (capInternal r src d) = π.of d := by
  simp_all only [Part.off_one, capInternal, of_capQueue, Part.of_ite, ite_self, Part.of_foldl, implies_true]

theorem of_capture (h : π.off [.regs, .parityBad, .page, .lines, .evc, .tb, .flt, .lnd, .trg, .freeCtr]) (r : Root) (c : Nat) (d : Dev) :
    π.of (capture r c d).1 = π.of d := by
  unfold capture
  dsimp only
  split
  next => rfl
  next =>
    split_ifs <;> simp_all only [Part.off_one, Part.off_cons, and_self, of_raise, of_produce, of_setCapt, Part.of_with_tb]

theorem of_capCfgHook (h : π.off [.trg]) (c : Nat) (old new : Word) (d : Dev) : π.of (capCfgHook c old new d) = π.of d := by
  simp_all only [Part.off_one, capCfgHook, of_setCapt, Part.of_ite, ite_self]

theorem of_capRecHook (h : π.off [.trg]) (c : Nat) (d : Dev) : π.of (capRecHook c d) = π.of d := by
  simp_all only [Part.off_one, capRecHook, of_setCapt]

/-! ### Operations of Machine/Timebase -/

theorem of_viewRefuse (h : π.off [.tb]) (v : Nat) (d : Dev) : π.of (viewRefuse v d) = π.of d := by
  simp_all only [Part.off_one, viewRefuse, Part.of_with_tb]

theorem of_viewSetHook (h : π.off [.evc, .tb, .lnd, .net, .trg, .ref, .chan, .rte, .sap, .tx]) (r : Root) (v : Nat) (d : Dev) :
    π.of (viewSetHook r v d) = π.of d := by
  simp_all only [Part.off_one, Part.off_cons, and_self, viewSetHook, of_viewRate, of_stepView, Part.of_ite, ite_self]

theorem of_refEdge (h : π.off [.ref]) (i : Nat) (ec : Int) (d : Dev) : π.of (refEdge i ec d) = π.of d := by
  simp_all only [Part.off_one, refEdge, Part.of_with_ref]

theorem of_refDiv (h : π.off [.ref]) (i : Nat) (d : Dev) : π.of (refDiv i d).2 = π.of d := by
  simp_all only [Part.off_one, refDiv, Part.of_with_ref]

theorem of_fbEdge (h : π.off [.fb]) (p : Nat) (s : Stamp) (d : Dev) : π.of (fbEdge p s d) = π.of d := by
  simp_all only [Part.off_one, fbEdge, Part.of_with_fb, Part.of_ite, ite_self]

theorem of_tdcEdge (h : π.off [.regs, .parityBad, .page, .lines, .evc, .tb, .flt, .trg, .ref, .fb]) (r : Root) (ch tap : Nat) (rising : Bool) (d : Dev) :
    π.of (tdcEdge r ch tap rising d) = π.of d := by
  simp_all only [Part.off_one, Part.off_cons, and_self, tdcEdge, of_takeStamp, of_capQueue, of_refEdge, of_refDiv, of_fbEdge, Part.of_with_tb,
    Part.of_ite, Part.of_ite_snd, ite_self]

theorem of_tapMeasure (h : π.off [.tb]) (taps : Nat) (d : Dev) : π.of (tapMeasure taps d) = π.of d := by
  simp_all only [Part.off_one, tapMeasure, Part.of_with_tb, Part.of_ite, ite_self]

theorem of_sfdPair (h : π.off [.regs, .parityBad, .page, .lines, .evc, .tb, .flt]) (r : Root) (p : Nat) (tx : Bool) (boundary : Nat) (yields : Bool) (d : Dev) :
    π.of (sfdPair r p tx boundary yields d).2 = π.of d := by
  unfold sfdPair
  dsimp only
  repeat' split
  all_goals simp_all only [Part.off_one, Part.off_cons, and_self, of_raise, of_opportunity, of_takeStamp, Part.of_with_tb]

/-! ### Operations of Machine/Net -/

theorem of_netCount (h : π.off [.net]) (p k n : Nat) (d : Dev) : π.of (netCount p k n d) = π.of d := by
  simp_all only [Part.off_one, netCount, of_setNetp]

theorem of_netSent (h : π.off [.regs, .parityBad, .page, .lines, .evc, .flt, .net]) (r : Root) (p : Nat) (f : List Byte) (express : Bool) (len : Nat) (d : Dev) :
    π.of (netSent r p f express len d) = π.of d := by
  simp_all only [Part.off_one, Part.off_cons, and_self, netSent, of_setNetp, of_opportunity, of_netCount]

theorem of_mdioCmd (h : π.off [.net]) (p : Nat) (w : Word) (d : Dev) : π.of (mdioCmd p w d) = π.of d := by
  simp_all only [Part.off_one, mdioCmd, of_setNetp, Part.of_ite, ite_self]

theorem of_mdioDone (h : π.off [.evc, .net]) (r : Root) (p data : Nat) (d : Dev) : π.of (mdioDone r p data d) = π.of d := by
  unfold mdioDone
  dsimp only
  split <;> simp_all only [Part.off_one, Part.off_cons, of_raise, of_setNetp]

theorem of_setPreempt (h : π.off [.evc, .net]) (r : Root) (p n : Nat) (d : Dev) : π.of (setPreempt r p n d) = π.of d := by
  simp_all only [Part.off_one, Part.off_cons, setPreempt, of_raise, of_setNetp, Part.of_ite, ite_self]

theorem of_preemptEval (h : π.off [.evc, .net]) (r : Root) (p : Nat) (d : Dev) : π.of (preemptEval r p d) = π.of d := by
  simp_all only [Part.off_one, Part.off_cons, and_self, preemptEval, of_setPreempt, Part.of_ite, ite_self]

theorem of_reverify (h : π.off [.evc, .net]) (r : Root) (p : Nat) (d : Dev) : π.of (reverify r p d) = π.of d := by
  simp_all only [Part.off_one, Part.off_cons, and_self, reverify, of_setPreempt, Part.of_ite, ite_self]

theorem of_verifyAnswer (h : π.off [.evc, .net]) (r : Root) (p : Nat) (d : Dev) : π.of (verifyAnswer r p d) = π.of d := by
  simp_all only [Part.off_one, Part.off_cons, and_self, verifyAnswer, of_setPreempt, Part.of_ite, ite_self]

theorem of_verifyTimeout (h : π.off [.evc, .net]) (r : Root) (p : Nat) (d : Dev) : π.of (verifyTimeout r p d) = π.of d := by
  simp_all only [Part.off_one, Part.off_cons, and_self, verifyTimeout, of_setNetp, of_setPreempt, Part.of_ite, ite_self]

theorem of_netCmd (h : π.off [.evc, .net]) (r : Root) (p : Nat) (w : Word) (d : Dev) : π.of (netCmd r p w d) = π.of d := by
  simp_all only [Part.off_one, Part.off_cons, and_self, netCmd, of_setNetp, of_reverify, Part.of_ite, ite_self]

theorem of_clsCmd (h : π.off [.net]) (w : Word) (d : Dev) : π.of (clsCmd w d) = π.of d := by
  simp_all only [Part.off_one, clsCmd, of_netMap, Part.of_ite, ite_self]

theorem of_clsCount (h : π.off [.net]) (k : Nat) (d : Dev) : π.of (clsCount k d) = π.of d := by
  simp_all only [Part.off_one, clsCount, of_netMap]

/-! ### Operations of Machine/Servo -/

theorem of_setPtp (h : π.off [.ptp]) (d : Dev) (n : Nat) (x : Ptp) : π.of (Dev.setPtp d n x) = π.of d := by
  simp_all only [Part.off_one, Dev.setPtp, Part.of_with_ptp]

theorem of_with_srv_ref (h : π.off [.srv, .ref]) (D : Dev) (x y) :
    π.of { D with srv := x, ref := y } = π.of D :=
  Part.of_congr (by revert h; cases π <;> simp [Part.same, Part.off])

theorem of_setSrv (h : π.off [.srv, .ref]) (d : Dev) (n : Nat) (x : Srv) : π.of (Dev.setSrv d n x) = π.of d := by
  simp_all only [Part.off_one, Part.off_cons, and_self, Dev.setSrv, of_with_srv_ref]

theorem of_refTheta (h : π.off [.ref]) (r : Root) (n : Nat) (theta : Int) (d : Dev) : π.of (refTheta r n theta d) = π.of d := by
  simp_all only [Part.off_one, refTheta, Part.of_with_ref]

theorem of_srvRate (h : π.off [.tb, .srv, .ref, .freeCtr]) (r : Root) (n : Nat) (rate : Int) (d : Dev) : π.of (srvRate r n rate d) = π.of d := by
  simp_all only [Part.off_one, Part.off_cons, and_self, srvRate, of_rate40, of_viewRate, of_setSrv, Part.of_ite, ite_self]

theorem of_srvLoop (h : π.off [.evc, .tb, .srv, .ref, .freeCtr]) (r : Root) (n : Nat) (theta : Int) (d : Dev) :
    π.of (srvLoop r n theta d) = π.of d := by
  simp_all only [Part.off_one, Part.off_cons, and_self, srvLoop, of_raiseIf, of_setSrv, of_srvRate, Part.of_ite, ite_self]

theorem of_srvSettle (h : π.off [.srv, .ref]) (n : Nat) (d : Dev) : π.of (srvSettle n d) = π.of d := by
  simp_all only [Part.off_one, Part.off_cons, and_self, srvSettle, of_setSrv, Part.of_ite, ite_self]

theorem of_srvWait (h : π.off [.srv, .ref]) (n : Nat) (d : Dev) : π.of (srvWait n d) = π.of d := by
  simp_all only [Part.off_one, Part.off_cons, and_self, srvWait, of_setSrv, Part.of_ite, ite_self]

theorem of_srvNoSync (h : π.off [.srv, .ref]) (n : Nat) (d : Dev) : π.of (srvNoSync n d) = π.of d := by
  simp_all only [Part.off_one, Part.off_cons, and_self, srvNoSync, of_setSrv, Part.of_ite, ite_self]

theorem of_srvRestart (h : π.off [.srv, .ref]) (n : Nat) (d : Dev) : π.of (srvRestart n d) = π.of d := by
  simp_all only [Part.off_one, Part.off_cons, and_self, srvRestart, of_setSrv, of_srvWait, Part.of_ite, ite_self]

theorem of_srvUse (h : π.off [.evc, .tb, .srv, .ref, .freeCtr]) (r : Root) (n : Nat) (theta : Int) (single counted : Bool) (d : Dev) :
    π.of (srvUse r n theta single counted d) = π.of d := by
  simp_all only [Part.off_one, Part.off_cons, and_self, srvUse, of_raiseIf, of_setSrv, of_srvLoop, Part.of_ite, ite_self]

theorem of_srvEstimate (h : π.off [.tb, .srv, .ref, .freeCtr]) (r : Root) (n : Nat) (theta t1 : Int) (d : Dev) :
    π.of (srvEstimate r n theta t1 d) = π.of d := by
  unfold srvEstimate
  dsimp only
  split <;> simp_all only [Part.off_one, Part.off_cons, and_self, of_drew, of_setSrv, of_srvRate, Part.of_ite, ite_self]

theorem of_srvSample (h : π.off [.regs, .parityBad, .page, .lines, .evc, .tb, .flt, .mon, .log, .ptp, .srv, .ref, .freeCtr]) (r : Root) (n : Nat) (theta t1 delay : Int) (d : Dev) :
    π.of (srvSample r n theta t1 delay d) = π.of d := by
  unfold srvSample
  dsimp only
  split <;> simp_all only [Part.off_one, Part.off_cons, and_self, of_opportunity, of_monTake, of_setPtp, of_setSrv, of_refTheta, of_srvUse, of_srvEstimate,
    Part.of_ite, ite_self]

theorem of_srvDelay (h : π.off [.srv, .ref]) (n : Nat) (m : Int) (d : Dev) : π.of (srvDelay n m d) = π.of d := by
  simp_all only [Part.off_one, Part.off_cons, and_self, srvDelay, of_setSrv, Part.of_ite, ite_self]

theorem of_srvSync (h : π.off [.regs, .parityBad, .page, .lines, .evc, .tb, .flt, .mon, .log, .ptp, .srv, .ref, .freeCtr]) (r : Root) (n : Nat) (y : SyncRx) (d : Dev) :
    π.of (srvSync r n y d) = π.of d := by
  unfold srvSync
  dsimp only
  repeat' split
  all_goals simp_all only [Part.off_one, Part.off_cons, and_self, of_setSrv, of_srvSample]

theorem of_srvStep (h : π.off [.evc, .tb, .lnd, .net, .trg, .srv, .ref, .chan, .rte, .sap, .tx]) (r : Root) (n : Nat) (d : Dev) :
    π.of (srvStep r n d) = π.of d := by
  unfold srvStep
  dsimp only
  split <;> simp_all only [Part.off_one, Part.off_cons, and_self, of_raise, of_stepView, of_setSrv, Part.of_ite, ite_self]

theorem of_srvLock (h : π.off [.evc, .srv, .ref]) (r : Root) (n : Nat) (d : Dev) : π.of (srvLock r n d) = π.of d := by
  simp_all only [Part.off_one, Part.off_cons, and_self, srvLock, of_raise, of_setSrv, Part.of_ite, ite_self]

theorem of_srvNarrow (h : π.off [.srv, .ref]) (n : Nat) (d : Dev) : π.of (srvNarrow n d) = π.of d := by
  simp_all only [Part.off_one, Part.off_cons, and_self, srvNarrow, of_setSrv, Part.of_ite, ite_self]

theorem of_srvCtrlHook (h : π.off [.srv, .ref]) (n : Nat) (old new : Word) (d : Dev) : π.of (srvCtrlHook n old new d) = π.of d := by
  simp_all only [Part.off_one, Part.off_cons, and_self, srvCtrlHook, of_setSrv, of_srvSettle, Part.of_ite, ite_self]

/-! ### Operations of Machine/Ptp -/

theorem of_ptpCount (h : π.off [.ptp]) (n k : Nat) (d : Dev) : π.of (ptpCount n k d) = π.of d := by
  simp_all only [Part.off_one, ptpCount, of_setPtp]

theorem of_ptpSend (h : π.off [.net]) (m : PtpOut) (d : Dev) : π.of (ptpSend m d) = π.of d := by
  simp_all only [Part.off_one, ptpSend, of_setNetp]

theorem of_ptpTake (h : π.off [.ptp]) (types : List Nat) {f : PtpRx → Dev → Dev} (hf : ∀ m d, π.of (f m d) = π.of d) (n : Nat) (d : Dev) :
    π.of (ptpTake types f n d) = π.of d := by
  unfold ptpTake
  dsimp only
  split <;> simp only [Part.of_ite, hf, of_setPtp h, ite_self]

theorem of_syncDone (h : π.off [.regs, .parityBad, .page, .lines, .evc, .tb, .flt, .mon, .log, .ptp, .srv, .ref, .freeCtr]) (r : Root) (n : Nat) (y : SyncRx) (d : Dev) :
    π.of (syncDone r n y d) = π.of d := by
  simp_all only [Part.off_one, Part.off_cons, and_self, syncDone, of_setPtp, of_srvSync, of_ptpCount, Part.of_ite, ite_self]

theorem of_ptpLost (h : π.off [.evc, .ptp, .srv, .ref]) (r : Root) (n : Nat) (d : Dev) : π.of (ptpLost r n d) = π.of d := by
  simp_all only [Part.off_one, Part.off_cons, and_self, ptpLost, of_raise, of_setPtp, of_srvNoSync, Part.of_ite, ite_self]

theorem of_syncRx (h : π.off [.regs, .parityBad, .page, .lines, .evc, .tb, .flt, .mon, .log, .ptp, .srv, .ref, .freeCtr]) (r : Root) (n : Nat) (m : PtpRx) (d0 : Dev) :
    π.of (syncRx r n m d0) = π.of d0 := by
  simp_all only [Part.off_one, Part.off_cons, and_self, syncRx, of_setPtp, of_srvSettle, of_ptpCount, of_syncDone, of_ptpLost, Part.of_ite,
    ite_self]

theorem of_followUpRx (h : π.off [.regs, .parityBad, .page, .lines, .evc, .tb, .flt, .mon, .log, .ptp, .srv, .ref, .freeCtr]) (r : Root) (n : Nat) (m : PtpRx) (d : Dev) :
    π.of (followUpRx r n m d) = π.of d := by
  unfold followUpRx
  dsimp only
  repeat' split
  all_goals simp_all only [Part.off_one, Part.off_cons, and_self, of_setPtp, of_ptpCount, of_syncDone]

theorem of_ptpDiscard (h : π.off [.ptp]) (n : Nat) (d : Dev) : π.of (ptpDiscard n d) = π.of d := by
  simp_all only [Part.off_one, ptpDiscard, of_setPtp]

theorem of_parentHook (h : π.off [.ptp, .srv, .ref]) (r : Root) (n : Nat) (old new : List Word) (d : Dev) :
    π.of (parentHook r n old new d) = π.of d := by
  simp_all only [Part.off_one, Part.off_cons, and_self, parentHook, of_setPtp, of_srvWait, of_ptpDiscard, Part.of_ite, ite_self]

theorem of_syncTimeout (h : π.off [.evc, .ptp, .srv, .ref]) (r : Root) (n : Nat) (d : Dev) : π.of (syncTimeout r n d) = π.of d := by
  simp_all only [Part.off_one, Part.off_cons, and_self, syncTimeout, of_ptpCount, of_ptpLost, Part.of_ite, ite_self]

theorem of_ptpLinkLost (h : π.off [.evc, .ptp, .srv, .ref]) (r : Root) (p : Nat) (d : Dev) : π.of (ptpLinkLost r p d) = π.of d := by
  simp_all only [Part.off_one, Part.off_cons, and_self, ptpLinkLost, of_ptpLost, Part.of_ite, ite_self, Part.of_foldl, implies_true]

theorem of_dreqSend (h : π.off [.net, .ptp, .freeCtr]) (r : Root) (n : Nat) (d : Dev) : π.of (dreqSend r n d) = π.of d := by
  unfold dreqSend
  dsimp only
  split <;> simp_all only [Part.off_one, Part.off_cons, of_drew, of_setPtp, of_ptpCount, of_ptpSend, Part.of_ite, ite_self]

theorem of_drespRx (h : π.off [.regs, .parityBad, .page, .lines, .hwSet, .evc, .flt, .ptp, .srv, .ref]) (r : Root) (n : Nat) (m : PtpRx) (d : Dev) :
    π.of (drespRx r n m d) = π.of d := by
  unfold drespRx
  dsimp only
  repeat' split
  all_goals simp_all only [Part.off_one, Part.off_cons, and_self, of_setReg, of_opportunity, of_hwSets, of_setPtp, of_srvDelay, of_ptpCount]

theorem of_pdreqSend (h : π.off [.net, .ptp]) (r : Root) (n : Nat) (d : Dev) : π.of (pdreqSend r n d) = π.of d := by
  simp_all only [Part.off_one, Part.off_cons, pdreqSend, of_setPtp, of_ptpCount, of_ptpSend, Part.of_ite, ite_self]

theorem of_pdreqRx (h : π.off [.net, .ptp]) (n : Nat) (m : PtpRx) (d : Dev) : π.of (pdreqRx n m d) = π.of d := by
  simp_all only [Part.off_one, Part.off_cons, pdreqRx, of_setPtp, of_ptpCount, of_ptpSend, Part.of_ite, ite_self]

theorem of_pdrespRx (h : π.off [.ptp]) (n : Nat) (m : PtpRx) (d : Dev) : π.of (pdrespRx n m d) = π.of d := by
  unfold pdrespRx
  dsimp only
  split <;> simp_all only [Part.off_one, of_setPtp, of_ptpCount, Part.of_ite, ite_self]

theorem of_pdfuRx (h : π.off [.ptp, .srv, .ref]) (n : Nat) (m : PtpRx) (d : Dev) : π.of (pdfuRx n m d) = π.of d := by
  unfold pdfuRx
  dsimp only
  repeat' split
  all_goals simp_all only [Part.off_one, Part.off_cons, and_self, of_setPtp, of_srvDelay, of_ptpCount]

theorem of_syncSend (h : π.off [.net, .ptp]) (r : Root) (n : Nat) (d : Dev) : π.of (syncSend r n d) = π.of d := by
  simp_all only [Part.off_one, Part.off_cons, syncSend, of_setPtp, of_ptpCount, of_ptpSend, Part.of_ite, ite_self]

theorem of_followUpSend (h : π.off [.net, .ptp]) (n : Nat) (d : Dev) : π.of (followUpSend n d) = π.of d := by
  unfold followUpSend
  dsimp only
  split <;> simp_all only [Part.off_one, Part.off_cons, of_setPtp, of_ptpCount, of_ptpSend, Part.of_ite, ite_self]

theorem of_dreqRx (h : π.off [.ptp]) (n : Nat) (m : PtpRx) (d : Dev) : π.of (dreqRx n m d) = π.of d := by
  simp_all only [Part.off_one, dreqRx, of_setPtp, of_ptpCount, Part.of_ite, ite_self]

theorem of_drespSend (h : π.off [.net, .ptp]) (n : Nat) (d : Dev) : π.of (drespSend n d) = π.of d := by
  unfold drespSend
  dsimp only
  split <;> simp_all only [Part.off_one, Part.off_cons, of_setPtp, of_ptpCount, of_ptpSend, Part.of_ite, ite_self]

theorem of_pdfuSend (h : π.off [.net, .ptp]) (n : Nat) (d : Dev) : π.of (pdfuSend n d) = π.of d := by
  unfold pdfuSend
  dsimp only
  split <;> simp_all only [Part.off_one, Part.off_cons, of_setPtp, of_ptpCount, of_ptpSend, Part.of_ite, ite_self]

theorem of_ptpStamped (h : π.off [.ptp]) (n type seq : Nat) (s : Stamp) (d : Dev) : π.of (ptpStamped n type seq s d) = π.of d := by
  unfold ptpStamped
  dsimp only
  repeat' split
  all_goals simp_all only [Part.off_one, of_setPtp]

theorem of_ptpDrop (h : π.off [.net, .ptp]) (p : Nat) (d : Dev) : π.of (ptpDrop p d) = π.of d := by
  simp_all only [Part.off_one, Part.off_cons, ptpDrop, of_setNetp, of_setPtp, Part.of_foldl, implies_true]

theorem of_ptpToCor (h : π.off [.regs, .parityBad, .page, .lines, .evc, .flt, .lnd, .ptp, .freeCtr]) (r : Root) (n bit : Nat) (m : PtpRx) (d : Dev) :
    π.of (ptpToCor r n bit m d).1 = π.of d := by
  simp_all only [Part.off_one, Part.off_cons, and_self, ptpToCor, of_drew, of_produce, of_ptpCount, Part.of_ite, Part.of_ite_fst, ite_self]

theorem of_ptpTakeMem (h : π.off [.regs, .parityBad, .page, .lines, .evc, .flt, .lnd, .ptp, .freeCtr]) (r : Root) (types : List Nat) (bit n : Nat) (d : Dev) :
    π.of (ptpTakeMem r types bit n d).1 = π.of d := by
  unfold ptpTakeMem
  dsimp only
  split <;> simp_all only [Part.off_one, Part.off_cons, and_self, of_setPtp, of_ptpToCor, Part.of_ite_fst, ite_self]

theorem of_ptpStart (h : π.off [.evc, .ptp, .srv, .ref]) (r : Root) (n : Nat) (d : Dev) : π.of (ptpStart r n d) = π.of d := by
  simp_all only [Part.off_one, Part.off_cons, and_self, ptpStart, of_raiseIf, of_setPtp, of_srvSettle]

theorem of_ptpCtrlHook (h : π.off [.evc, .net, .ptp, .srv, .ref]) (r : Root) (n : Nat) (old new : Word) (d : Dev) :
    π.of (ptpCtrlHook r n old new d) = π.of d := by
  simp_all only [Part.off_one, Part.off_cons, and_self, ptpCtrlHook, of_setNetp, of_setPtp, of_srvSettle, of_ptpStart, Part.of_ite, ite_self]

/-! ### Operations of Machine/Ref -/

theorem of_refMap (h : π.off [.ref]) (d : Dev) (f : RefSt → RefSt) : π.of (Dev.refMap d f) = π.of d := by
  simp_all only [Part.off_one, Dev.refMap, Part.of_with_ref]

theorem of_setRin (h : π.off [.ref]) (d : Dev) (i : Nat) (x : RefIn) : π.of (Dev.setRin d i x) = π.of d := by
  simp_all only [Part.off_one, Dev.setRin, of_refMap]

theorem of_ttSet (h : π.off [.regs, .parityBad, .hwSet]) (r : Root) (j : Nat) (rate : Int) (cnt : Nat) (d : Dev) :
    π.of (ttSet r j rate cnt d) = π.of d := by
  simp_all only [Part.off_one, Part.off_cons, and_self, ttSet, of_setReg, of_hwSets]

theorem of_ttLearn (h : π.off [.regs, .parityBad, .hwSet]) (r : Root) (rate temp : Int) (d : Dev) : π.of (ttLearn r rate temp d) = π.of d := by
  simp_all only [Part.off_one, Part.off_cons, and_self, ttLearn, of_ttSet, Part.of_ite, ite_self]

theorem of_refTo (h : π.off [.evc, .ref]) (r : Root) (i st timer : Nat) (d : Dev) : π.of (refTo r i st timer d) = π.of d := by
  simp_all only [Part.off_one, Part.off_cons, refTo, of_raise, of_setRin]

theorem of_refState (h : π.off [.evc, .tb, .ref]) (r : Root) (n : Nat) (d : Dev) : π.of (refState r n d) = π.of d := by
  simp_all only [Part.off_one, Part.off_cons, and_self, refState, of_raise, of_setTimeState, of_refMap, Part.of_ite, ite_self]

theorem of_adoptView (h : π.off [.tb, .lnd, .net, .ref, .chan, .rte, .sap, .tx]) (r : Root) (v : Nat) (d : Dev) :
    π.of (adoptView r v d) = π.of d := by
  simp_all only [Part.off_one, Part.off_cons, and_self, adoptView, of_accRate, of_atJump, Part.of_with_tb]

theorem of_towardsView (h : π.off [.tb, .lnd, .net, .ref, .chan, .rte, .sap, .tx]) (r : Root) (v : Nat) (d : Dev) :
    π.of (towardsView r v d) = π.of d := by
  simp_all only [Part.off_one, Part.off_cons, and_self, towardsView, of_adoptView, Part.of_with_tb, Part.of_ite, ite_self]

theorem of_discardX (h : π.off [.ref]) (d : Dev) : π.of (discardX d) = π.of d := by
  simp_all only [Part.off_one, discardX, of_refMap]

theorem of_stepX (h : π.off [.evc, .tb, .lnd, .net, .trg, .ref, .chan, .rte, .sap, .tx]) (r : Root) (x : View) (d : Dev) :
    π.of (stepX r x d) = π.of d := by
  simp_all only [Part.off_one, Part.off_cons, and_self, stepX, of_stepView, of_discardX, Part.of_ite, ite_self]

theorem of_refEntryStep (h : π.off [.evc, .tb, .lnd, .net, .trg, .ref, .chan, .rte, .sap, .tx]) (r : Root) (i : Nat) (acquire entry : Bool) (d : Dev) :
    π.of (refEntryStep r i acquire entry d) = π.of d := by
  simp_all only [Part.off_one, Part.off_cons, and_self, refEntryStep, of_refMap, of_adoptView, of_discardX, of_stepX, Part.of_ite, ite_self]

theorem of_refTurn (h : π.off [.evc, .tb, .lnd, .net, .trg, .ref, .chan, .rte, .sap, .tx]) (r : Root) (i st : Nat) (retarget : Bool) (d : Dev) :
    π.of (refTurn r i st retarget d) = π.of d := by
  simp_all only [Part.off_one, Part.off_cons, and_self, refTurn, of_raise, of_refMap, of_refState, of_towardsView, of_refEntryStep, Part.of_ite,
    ite_self]

theorem of_refNone (h : π.off [.evc, .tb, .lnd, .net, .ref, .chan, .rte, .sap, .tx]) (r : Root) (d : Dev) : π.of (refNone r d) = π.of d := by
  simp_all only [Part.off_one, Part.off_cons, and_self, refNone, of_refMap, of_refState, of_towardsView, Part.of_ite, ite_self]

theorem of_refDecide (h : π.off [.evc, .tb, .lnd, .net, .trg, .ref, .chan, .rte, .sap, .tx]) (r : Root) (d : Dev) :
    π.of (refDecide r d) = π.of d := by
  unfold refDecide
  dsimp only
  repeat' split
  all_goals simp_all only [Part.off_one, Part.off_cons, and_self, of_refMap, of_refState, of_towardsView, of_refTurn, of_refNone]

theorem of_refLeave (h : π.off [.evc, .tb, .lnd, .net, .trg, .ref, .chan, .rte, .sap, .tx]) (r : Root) (i st timer lossSec : Nat) (d : Dev) :
    π.of (refLeave r i st timer lossSec d) = π.of d := by
  simp_all only [Part.off_one, Part.off_cons, and_self, refLeave, of_refMap, of_refTo, of_refDecide, Part.of_ite, ite_self]

theorem of_refFree (h : π.off [.evc, .tb, .lnd, .net, .ref, .chan, .rte, .sap, .tx]) (r : Root) (d : Dev) : π.of (refFree r d) = π.of d := by
  simp_all only [Part.off_one, Part.off_cons, and_self, refFree, of_refMap, of_refState, of_towardsView]

theorem of_refFault (h : π.off [.evc, .tb, .lnd, .net, .ref, .chan, .rte, .sap, .tx]) (r : Root) (cause : Nat) (d : Dev) :
    π.of (refFault r cause d) = π.of d := by
  simp_all only [Part.off_one, Part.off_cons, and_self, refFault, of_refMap, of_refState, of_towardsView, Part.of_ite, ite_self]

theorem of_refCount (h : π.off [.evc, .ref]) (r : Root) (i fail : Nat) (d : Dev) : π.of (refCount r i fail d) = π.of d := by
  unfold refCount
  dsimp only
  split <;> simp_all only [Part.off_one, Part.off_cons, and_self, of_setRin, of_refTo, implies_true]

theorem of_refNextSecond (h : π.off [.ref]) (r : Root) (d : Dev) : π.of (refNextSecond r d) = π.of d := by
  simp_all only [Part.off_one, refNextSecond, of_refMap, of_setRin, Part.of_foldl, implies_true]

theorem of_refRecord (h : π.off [.regs, .parityBad, .hwSet, .ref]) (r : Root) (ok : Bool) (d : Dev) : π.of (refRecord r ok d) = π.of d := by
  unfold refRecord
  dsimp only
  split <;> simp_all only [Part.off_one, Part.off_cons, and_self, of_refMap, of_ttLearn, Part.of_ite, ite_self]

theorem of_refCheck (h : π.off [.regs, .parityBad, .page, .lines, .hwSet, .evc, .tb, .flt, .lnd, .net, .trg, .ref, .chan, .rte, .sap, .tx, .freeCtr]) (r : Root) (d : Dev) :
    π.of (refCheck r d) = π.of d := by
  simp only [Part.off_one, Part.off_cons] at h
  unfold refCheck
  extract_lets sel inj d0 res failOf d1 d2 selOk d3 agree susp d4 cause d5 d6
  have h1 : π.of d1 = π.of d := by simp_all only [d1, d0, of_drew, of_opportunity, Part.off_one, Part.off_cons, Part.of_ite, ite_self, and_self]
  have h3 : π.of d3 = π.of d1 := by
    simp_all only [d3, d2, of_refRecord, of_refCount, Part.of_foldl, Part.off_one, Part.off_cons, Part.of_ite, ite_self, and_self, implies_true]
  have h5 : π.of d5 = π.of d3 := by
    simp_all only [d5, d4, of_refMap, of_refFault, of_refState, Part.off_one, Part.off_cons, Part.of_ite, ite_self, and_self]
  have h6 : π.of d6 = π.of d5 := by simp_all only [d6, of_refMap, of_refState, Part.off_one, Part.off_cons, Part.of_ite, ite_self, and_self]
  simp_all only [of_refNextSecond, of_refDecide, Part.off_one, Part.off_cons, and_self]

theorem of_qualExpiry (h : π.off [.evc, .tb, .lnd, .net, .trg, .ref, .chan, .rte, .sap, .tx]) (r : Root) (i : Nat) (d : Dev) :
    π.of (qualExpiry r i d) = π.of d := by
  simp_all only [Part.off_one, Part.off_cons, and_self, qualExpiry, of_refTo, of_refDecide, of_refLeave, Part.of_ite, ite_self]

theorem of_wtrExpiry (h : π.off [.evc, .tb, .lnd, .net, .trg, .ref, .chan, .rte, .sap, .tx]) (r : Root) (i : Nat) (d : Dev) :
    π.of (wtrExpiry r i d) = π.of d := by
  simp_all only [Part.off_one, Part.off_cons, and_self, wtrExpiry, of_refTo, of_refDecide, Part.of_ite, ite_self]

theorem of_synceEdge (h : π.off [.ref]) (e : SynceEdge) (d : Dev) : π.of (synceEdge e d) = π.of d := by
  simp_all only [Part.off_one, synceEdge, of_refEdge, of_refDiv, Part.of_ite, ite_self]

theorem of_refLosStep (h : π.off [.regs, .parityBad, .page, .lines, .evc, .tb, .flt, .lnd, .net, .trg, .ref, .chan, .rte, .sap, .tx]) (r : Root) (synce : List SynceEdge) (d : Dev) :
    π.of (refLosStep r synce d) = π.of d := by
  simp_all only [Part.off_one, Part.off_cons, and_self, refLosStep, of_opportunity, of_refMap, of_refTo, of_refLeave, of_refFault, of_synceEdge,
    Part.of_ite, ite_self, Part.of_foldl, implies_true]

theorem of_rateX (h : π.off [.tb, .ref, .freeCtr]) (r : Root) (rate : Int) (d : Dev) : π.of (rateX r rate d) = π.of d := by
  simp_all only [Part.off_one, Part.off_cons, and_self, rateX, of_rate40, of_viewRate, of_discardX, Part.of_ite, ite_self]

theorem of_disciplineX (h : π.off [.tb, .ref, .freeCtr]) (r : Root) (d : Dev) : π.of (disciplineX r d) = π.of d := by
  unfold disciplineX
  dsimp only
  repeat' split
  all_goals simp_all only [Part.off_one, Part.off_cons, and_self, of_rateX]

theorem of_shadowX (h : π.off [.tb, .ref, .freeCtr]) (r : Root) (d : Dev) : π.of (shadowX r d) = π.of d := by
  simp_all only [Part.off_one, Part.off_cons, and_self, shadowX, of_rateX, Part.of_ite, ite_self]

theorem of_slewAt (h : π.off [.evc, .tb, .lnd, .net, .ref, .chan, .rte, .sap, .tx, .freeCtr]) (r : Root) (d : Dev) :
    π.of (slewAt r d) = π.of d := by
  simp_all only [Part.off_one, Part.off_cons, and_self, slewAt, of_rate40, of_setAt, of_accRate, of_refMap, of_refState, of_adoptView, Part.of_ite,
    ite_self]

theorem of_disagree (h : π.off [.evc, .ref]) (r : Root) (d : Dev) : π.of (disagree r d) = π.of d := by
  simp_all only [Part.off_one, Part.off_cons, disagree, of_raiseIf, of_refMap, Part.of_ite, ite_self]

theorem of_holdUpdate (h : π.off [.tb, .ref, .freeCtr]) (r : Root) (d : Dev) : π.of (holdUpdate r d) = π.of d := by
  simp_all only [Part.off_one, Part.off_cons, and_self, holdUpdate, of_refMap, of_rateX, Part.of_ite, ite_self]

theorem of_boundUpdate (h : π.off [.evc, .tb, .ref]) (r : Root) (d : Dev) : π.of (boundUpdate r d) = π.of d := by
  simp_all only [Part.off_one, Part.off_cons, and_self, boundUpdate, of_raise, of_refMap, of_refState, Part.of_ite, ite_self]

theorem of_preferredHook (h : π.off [.evc, .tb, .lnd, .net, .trg, .ref, .chan, .rte, .sap, .tx]) (r : Root) (d : Dev) :
    π.of (preferredHook r d) = π.of d := by
  unfold preferredHook
  split <;> simp_all only [Part.off_one, Part.off_cons, and_self, of_refTurn, of_refDecide, Part.of_ite, ite_self]

theorem of_todApply (h : π.off [.regs, .parityBad, .evc, .tb, .lnd, .net, .trg, .ref, .chan, .rte, .sap, .tx]) (r : Root) (d : Dev) :
    π.of (todApply r d) = π.of d := by
  unfold todApply
  split <;> simp_all only [Part.off_one, Part.off_cons, and_self, of_setReg, of_refMap, of_stepX, Part.of_ite, ite_self]

theorem of_todHook (h : π.off [.ref]) (d : Dev) : π.of (todHook d) = π.of d := by
  simp_all only [Part.off_one, todHook, of_refMap]

theorem of_refCmd (h : π.off [.regs, .parityBad, .evc, .tb, .lnd, .net, .ref, .chan, .rte, .sap, .tx]) (r : Root) (w : Word) (d : Dev) :
    π.of (refCmd r w d) = π.of d := by
  simp_all only [Part.off_one, Part.off_cons, and_self, refCmd, of_setReg, of_refMap, of_refFree, Part.of_ite, ite_self, Part.of_foldl,
    implies_true]

theorem of_refInHook (h : π.off [.evc, .tb, .lnd, .net, .trg, .ref, .chan, .rte, .sap, .tx]) (r : Root) (i : Nat) (cfg : Bool) (old new : Word) (d : Dev) :
    π.of (refInHook r i cfg old new d) = π.of d := by
  simp_all only [Part.off_one, Part.off_cons, and_self, refInHook, of_setRin, of_refLeave, Part.of_ite, ite_self]

theorem of_refRestart (h : π.off [.evc, .ref]) (r : Root) (d : Dev) : π.of (refRestart r d) = π.of d := by
  simp_all only [Part.off_one, Part.off_cons, refRestart, of_raiseIf, of_refMap]

/-! ### Operations of Machine/Mcs -/

theorem of_setMcs (h : π.off [.mcs]) (d : Dev) (n : Nat) (x : Mcs) : π.of (Dev.setMcs d n x) = π.of d := by
  simp_all only [Part.off_one, Dev.setMcs, Part.of_with_mcs]

theorem of_mcsEvt (h : π.off [.evc]) (r : Root) (n k : Nat) (d : Dev) : π.of (mcsEvt r n k d) = π.of d := by
  simp_all only [Part.off_one, mcsEvt, of_raise]

theorem of_mcsRefuse (h : π.off [.evc, .mcs]) (r : Root) (n why : Nat) (d : Dev) : π.of (mcsRefuse r n why d) = π.of d := by
  simp_all only [Part.off_one, Part.off_cons, mcsRefuse, of_setMcs, of_mcsEvt]

theorem of_bypassAll (h : π.off [.evc, .mcs]) (r : Root) (n : Nat) (d : Dev) : π.of (bypassAll r n d) = π.of d := by
  simp_all only [Part.off_one, Part.off_cons, bypassAll, of_raiseIf, of_setMcs]

theorem of_bypassNone (h : π.off [.evc, .mcs]) (r : Root) (n : Nat) (d : Dev) : π.of (bypassNone r n d) = π.of d := by
  simp_all only [Part.off_one, Part.off_cons, bypassNone, of_raiseIf, of_setMcs]

theorem of_discSettle (h : π.off [.mcs]) (n : Nat) (d : Dev) : π.of (discSettle n d) = π.of d := by
  simp_all only [Part.off_one, discSettle, of_setMcs, Part.of_ite, ite_self]

theorem of_rampStop (h : π.off [.evc, .mcs]) (r : Root) (n : Nat) (d : Dev) : π.of (rampStop r n d) = π.of d := by
  simp_all only [Part.off_one, Part.off_cons, rampStop, of_setMcs, of_mcsEvt, of_discSettle, Part.of_ite, ite_self]

theorem of_mcsStart (h : π.off [.evc, .mcs, .freeCtr]) (r : Root) (n : Nat) (d : Dev) : π.of (mcsStart r n d) = π.of d := by
  unfold mcsStart
  dsimp only
  repeat' split
  all_goals simp_all only [Part.off_one, Part.off_cons, of_drew, of_setMcs, of_mcsEvt]

theorem of_mcsUnlock (h : π.off [.evc, .mcs]) (r : Root) (n : Nat) (d : Dev) : π.of (mcsUnlock r n d) = π.of d := by
  simp_all only [Part.off_one, Part.off_cons, and_self, mcsUnlock, of_setMcs, of_mcsEvt, of_bypassAll, of_rampStop, Part.of_ite, ite_self]

theorem of_mcsReturnAuto (h : π.off [.evc, .mcs]) (r : Root) (n : Nat) (d : Dev) : π.of (mcsReturnAuto r n d) = π.of d := by
  simp_all only [Part.off_one, Part.off_cons, and_self, mcsReturnAuto, of_bypassNone, Part.of_ite, ite_self]

theorem of_mcsCtrlHook (h : π.off [.evc, .mcs, .freeCtr]) (r : Root) (n : Nat) (old new : Word) (d : Dev) :
    π.of (mcsCtrlHook r n old new d) = π.of d := by
  simp_all only [Part.off_one, Part.off_cons, and_self, mcsCtrlHook, of_raiseIf, of_setMcs, of_bypassAll, of_discSettle, of_mcsStart,
    of_mcsReturnAuto, Part.of_ite, ite_self]

theorem of_vcoSettled (h : π.off [.mcs]) (n : Nat) (d : Dev) : π.of (vcoSettled n d) = π.of d := by
  simp_all only [Part.off_one, vcoSettled, of_setMcs, Part.of_ite, ite_self]

theorem of_phaseRun (h : π.off [.evc, .mcs]) (r : Root) (n : Nat) (d : Dev) (p : PhaseRun) : π.of (phaseRun r n d p) = π.of d := by
  simp_all only [Part.off_one, Part.off_cons, and_self, phaseRun, of_setMcs, of_mcsEvt, of_mcsUnlock, of_mcsReturnAuto, Part.of_ite, ite_self]

theorem of_lockAcquired (h : π.off [.evc, .mcs]) (r : Root) (n : Nat) (err : List PhaseRun) (d : Dev) : π.of (lockAcquired r n err d) = π.of d := by
  simp_all only [Part.off_one, Part.off_cons, and_self, lockAcquired, of_phaseRun, Part.of_foldl, implies_true]

theorem of_lockLost (h : π.off [.evc, .mcs]) (r : Root) (n : Nat) (err : List PhaseRun) (d : Dev) : π.of (lockLost r n err d) = π.of d := by
  simp_all only [Part.off_one, Part.off_cons, and_self, lockLost, of_phaseRun, Part.of_foldl, implies_true]

theorem of_stopComplete (h : π.off [.evc, .mcs, .freeCtr]) (r : Root) (n : Nat) (d : Dev) : π.of (stopComplete r n d) = π.of d := by
  simp_all only [Part.off_one, Part.off_cons, and_self, stopComplete, of_setMcs, of_mcsStart, Part.of_ite, ite_self]

theorem of_mcsRef (h : π.off [.evc, .mcs]) (r : Root) (n : Nat) (absent : Bool) (d : Dev) : π.of (mcsRef r n absent d) = π.of d := by
  simp_all only [Part.off_one, Part.off_cons, and_self, mcsRef, of_setMcs, of_mcsUnlock, Part.of_ite, ite_self]

theorem of_mcsFreqHook (h : π.off [.regs, .eff, .parityBad, .evc, .mcs]) (r : Root) (n : Nat) (lo hi : Word) (d : Dev) :
    π.of (mcsFreqHook r n lo hi d) = π.of d := by
  simp_all only [Part.off_one, Part.off_cons, and_self, mcsFreqHook, of_setReg, of_setPwv, of_setMcs, of_mcsRefuse, Part.of_ite, ite_self]

theorem of_refCycles (h : π.off [.regs, .parityBad, .page, .lines, .evc, .flt, .mcs]) (r : Root) (n k : Nat) (d : Dev) :
    π.of (refCycles r n k d) = π.of d := by
  induction k generalizing r d with
  | zero => rfl
  | succ k ih =>
    unfold refCycles
    simp_all only [Part.off_one, Part.off_cons, and_self, of_opportunity, of_setMcs, of_mcsUnlock, Part.of_ite, ite_self]

theorem of_mcsPoints (h : π.off [.regs, .parityBad, .page, .lines, .evc, .flt, .mcs]) (r : Root) (n : Nat) (d : Dev) :
    π.of (mcsPoints r n d) = π.of d := by
  simp_all only [Part.off_one, Part.off_cons, and_self, mcsPoints, of_opportunity, of_mcsUnlock, Part.of_ite, ite_self, of_refCycles]

theorem of_freqUpdate (h : π.off [.regs, .parityBad, .page, .lines, .evc, .flt, .mcs]) (r : Root) (n : Nat) (d : Dev) :
    π.of (freqUpdate r n d) = π.of d := by
  simp_all only [Part.off_one, Part.off_cons, and_self, freqUpdate, of_setMcs, of_mcsPoints, Part.of_ite, ite_self]

theorem of_rampStart (h : π.off [.evc, .mcs]) (r : Root) (n : Nat) (d : Dev) : π.of (rampStart r n d) = π.of d := by
  simp_all only [Part.off_one, Part.off_cons, and_self, rampStart, of_setMcs, of_mcsRefuse, of_discSettle, Part.of_ite, ite_self]

theorem of_segmentEnd (h : π.off [.evc, .mcs]) (r : Root) (n : Nat) (d : Dev) : π.of (segmentEnd r n d) = π.of d := by
  simp_all only [Part.off_one, Part.off_cons, segmentEnd, of_setMcs, of_mcsEvt, of_discSettle, Part.of_ite, ite_self]

theorem of_outCfgHook (h : π.off [.evc, .mcs]) (r : Root) (n k : Nat) (old new : Word) (d : Dev) : π.of (outCfgHook r n k old new d) = π.of d := by
  simp_all only [Part.off_one, Part.off_cons, and_self, outCfgHook, of_raiseIf, of_setMcs, of_bypassAll, Part.of_ite, ite_self]

theorem of_delayKeep (h : π.off [.mcs]) (r0 : Root) (wake : Bool) (n : Nat) (d : Dev) : π.of (delayKeep r0 wake n d) = π.of d := by
  simp_all only [Part.off_one, delayKeep, of_setMcs]

theorem of_outDelayHook (h : π.off [.mcs]) (r : Root) (n k : Nat) (old new : Word) (d : Dev) : π.of (outDelayHook r n k old new d) = π.of d := by
  simp_all only [Part.off_one, outDelayHook, of_setMcs]

theorem of_mcsCmd (h : π.off [.evc, .mcs]) (r : Root) (n : Nat) (w : Word) (d : Dev) : π.of (mcsCmd r n w d) = π.of d := by
  simp_all only [Part.off_one, Part.off_cons, and_self, mcsCmd, of_setMcs, of_mcsRefuse, of_bypassNone, of_rampStop, of_rampStart, Part.of_ite,
    ite_self]

theorem of_discInterval (h : π.off [.regs, .parityBad, .evc, .mon, .log, .mcs]) (r : Root) (n : Nat) (d : Dev) :
    π.of (discInterval r n d) = π.of d := by
  unfold discInterval
  dsimp only
  repeat' split
  all_goals simp_all only [Part.off_one, Part.off_cons, and_self, of_raiseIf, of_monTake, of_setMcs, of_discSettle]

theorem of_alignAchieved (h : π.off [.evc, .mcs]) (r : Root) (n : Nat) (d : Dev) : π.of (alignAchieved r n d) = π.of d := by
  simp_all only [Part.off_one, Part.off_cons, alignAchieved, of_setMcs, of_mcsEvt, Part.of_ite, ite_self]

theorem of_noFeedback (h : π.off [.evc, .mcs]) (r : Root) (n : Nat) (d : Dev) : π.of (noFeedback r n d) = π.of d := by
  simp_all only [Part.off_one, Part.off_cons, noFeedback, of_setMcs, of_mcsEvt, Part.of_ite, ite_self]

theorem of_mcsWake (h : π.off [.evc, .mcs, .freeCtr]) (r : Root) (n : Nat) (d : Dev) : π.of (mcsWake r n d) = π.of d := by
  simp_all only [Part.off_one, Part.off_cons, and_self, mcsWake, of_setMcs, of_bypassAll, of_mcsStart, Part.of_ite, ite_self]

/-! ### Operations of Machine/Rte -/

theorem of_rteMap (h : π.off [.rte]) (d : Dev) (f : RteSt → RteSt) : π.of (Dev.rteMap d f) = π.of d := by
  simp_all only [Part.off_one, Dev.rteMap, Part.of_with_rte]

theorem of_liveEntry (h : π.off [.rte]) (e : Nat) (d : Dev) : π.of (liveEntry e d) = π.of d := by
  simp_all only [Part.off_one, liveEntry, of_rteMap]

theorem of_routeHook (h : π.off [.evc, .rte]) (r : Root) (b e : Nat) (old : List Word) (d : Dev) : π.of (routeHook r b e old d) = π.of d := by
  simp_all only [Part.off_one, Part.off_cons, routeHook, of_raiseIf, of_rteMap, of_liveEntry, Part.of_ite, ite_self]

theorem of_fadeEnd (h : π.off [.evc, .rte]) (r : Root) (d : Dev) : π.of (fadeEnd r d) = π.of d := by
  simp_all only [Part.off_one, Part.off_cons, fadeEnd, of_raise, of_rteMap, of_liveEntry, Part.of_ite, ite_self, Part.of_foldl, implies_true]

theorem of_rampsEnd (h : π.off [.evc, .rte]) (r : Root) (d : Dev) : π.of (rampsEnd r d) = π.of d := by
  simp_all only [Part.off_one, Part.off_cons, rampsEnd, of_raiseIf, of_rteMap, of_liveEntry, Part.of_foldl, implies_true]

theorem of_checkSwap (h : π.off [.rte]) (d : Dev) : π.of (checkSwap d) = π.of d := by
  simp_all only [Part.off_one, checkSwap, of_rteMap]

theorem of_swapRefused (h : π.off [.evc, .rte]) (r : Root) (d : Dev) : π.of (swapRefused r d) = π.of d := by
  simp_all only [Part.off_one, Part.off_cons, swapRefused, of_raise, of_rteMap]

theorem of_rteCommit (h : π.off [.evc, .rte]) (r : Root) (t : Int) (trig : Bool) (d : Dev) : π.of (rteCommit r t trig d) = π.of d := by
  simp_all only [Part.off_one, Part.off_cons, and_self, rteCommit, of_rteMap, of_swapRefused, Part.of_ite, ite_self]

theorem of_routeSwap (h : π.off [.evc, .rte]) (r : Root) (d : Dev) : π.of (routeSwap r d) = π.of d := by
  unfold routeSwap
  split <;> simp_all only [Part.off_one, Part.off_cons, and_self, of_raise, of_raiseIf, of_rteMap, of_fadeEnd, of_checkSwap, of_swapRefused, Part.of_ite,
    ite_self]

theorem of_monPeak (h : π.off [.mon]) (x : EvalPer) (d : Dev) (s : Nat) : π.of (monPeak x d s) = π.of d := by
  simp_all only [Part.off_one, monPeak, of_monMap]

theorem of_settlePer (h : π.off [.evc, .lnd, .mon, .rte, .freeCtr]) (r : Root) (p : EvalPer) (d : Dev) : π.of (settlePer r p d).1 = π.of d := by
  simp_all only [Part.off_one, Part.off_cons, and_self, settlePer, of_sampleWrite, of_hbWriteSlot, of_rteMap, of_monPeak, Part.of_foldl,
    Part.of_foldl_fst, implies_true]

theorem of_settle (h : π.off [.evc, .lnd, .mon, .rte, .freeCtr]) (r : Root) (d : Dev) : π.of (settle r d).1 = π.of d := by
  simp_all only [Part.off_one, Part.off_cons, and_self, settle, of_settlePer, Part.of_foldl_fst, implies_true]

theorem of_gensSupply (h : π.off [.chan]) (k : Int) (d : Dev) : π.of (gensSupply k d) = π.of d := by
  simp_all only [Part.off_one, gensSupply, of_putChan, Part.of_foldl, implies_true]

theorem of_routeEval (h : π.off [.evc, .lnd, .mon, .chan, .rte, .freeCtr]) (r : Root) (d : Dev) : π.of (routeEval r d).1 = π.of d := by
  simp_all only [Part.off_one, Part.off_cons, and_self, routeEval, of_genStep, of_rteMap, of_fadeEnd, of_routeSwap, of_settle, of_gensSupply,
    Part.of_ite_fst, ite_self]

theorem of_hbPublish (h : π.off [.evc, .lnd, .mon, .rte, .freeCtr]) (r : Root) (b : Nat) (d : Dev) : π.of (hbPublish r b d).1 = π.of d := by
  simp_all only [Part.off_one, Part.off_cons, and_self, hbPublish, of_hbPublished, of_settle]

theorem of_with_tb_chan (h : π.off [.tb, .chan]) (D : Dev) (x y) :
    π.of { D with tb := x, chan := y } = π.of D :=
  Part.of_congr (by revert h; cases π <;> simp [Part.same, Part.off])

theorem of_rateHook (h : π.off [.evc, .tb, .chan, .rte]) (r : Root) (new : Word) (d : Dev) : π.of (rateHook r new d) = π.of d := by
  simp_all only [Part.off_one, Part.off_cons, and_self, rateHook, of_raise, of_gensRestart, of_rteMap, of_rampsEnd, of_with_tb_chan, Part.of_ite,
    ite_self]

theorem of_rteCmd (h : π.off [.evc, .rte]) (r : Root) (w : Word) (d : Dev) : π.of (rteCmd r w d) = π.of d := by
  simp_all only [Part.off_one, Part.off_cons, and_self, rteCmd, of_rteMap, of_checkSwap, of_rteCommit, Part.of_ite, ite_self]

theorem of_rteRestart (h : π.off [.evc, .rte]) (r : Root) (d : Dev) : π.of (rteRestart r d) = π.of d := by
  simp_all only [Part.off_one, Part.off_cons, and_self, rteRestart, of_rteMap, of_rampsEnd]

theorem of_bankUse (h : π.off [.page, .lines]) (r : Root) (b : Nat) (d : Dev) : π.of (bankUse r b d) = π.of d := by
  simp_all only [Part.off_one, Part.off_cons, and_self, bankUse, of_useWords]

/-! ### Operations of Machine/Rxe -/

theorem of_setRx (h : π.off [.rx]) (d : Dev) (s : Nat) (x : RxS) : π.of (Dev.setRx d s x) = π.of d := by
  simp_all only [Part.off_one, Dev.setRx, Part.of_with_rx]

theorem of_rxeMap (h : π.off [.rxe]) (d : Dev) (f : RxeSt → RxeSt) : π.of (Dev.rxeMap d f) = π.of d := by
  simp_all only [Part.off_one, Dev.rxeMap, Part.of_with_rxe]

theorem of_rxAttn (h : π.off [.rxe]) (r : Root) (s : Nat) (d : Dev) : π.of (rxAttn r s d) = π.of d := by
  simp_all only [Part.off_one, rxAttn, of_rxeMap]

theorem of_rxFlow (h : π.off [.evc, .rx]) (r : Root) (s : Nat) (on : Bool) (d : Dev) : π.of (rxFlow r s on d) = π.of d := by
  simp_all only [Part.off_one, Part.off_cons, rxFlow, of_raise, of_setRx, Part.of_ite, ite_self]

theorem of_naEval (h : π.off [.evc, .rx]) (r : Root) (s : Nat) (d : Dev) : π.of (naEval r s d) = π.of d := by
  simp_all only [Part.off_one, Part.off_cons, naEval, of_raise, of_setRx, Part.of_ite, ite_self]

theorem of_rxTake (h : π.off [.regs, .parityBad, .page, .lines, .evc, .flt, .lnd, .rx, .freeCtr]) (r : Root) (s p : Nat) (c : RxCopy) (m : Int) (d : Dev) :
    π.of (rxTake r s p c m d) = π.of d := by
  simp_all only [Part.off_one, Part.off_cons, and_self, rxTake, of_opportunity, of_sampleWrite, of_setRx, of_rxFlow, Part.of_ite, ite_self]

theorem of_rxCopy (h : π.off [.regs, .parityBad, .page, .lines, .evc, .flt, .lnd, .mon, .log, .rx, .rxe, .freeCtr]) (r : Root) (s p len : Nat) (l : List Byte) (st : Stamp) (d : Dev) :
    π.of (rxCopy r s p len l st d) = π.of d := by
  unfold rxCopy
  dsimp only
  repeat' split
  all_goals simp_all only [Part.off_one, Part.off_cons, and_self, of_raise, of_opportunity, of_monTake, of_setRx, of_rxeMap, of_rxAttn, of_rxTake]

theorem of_filledWords (h : π.off [.evc, .lnd, .freeCtr]) (r : Root) (s : Nat) (k : Int) (z : RxSlot) (cs : SMap Bool) (step : Nat) (d : Dev) :
    π.of (filledWords r s k z cs step d).2 = π.of d := by
  simp_all only [Part.off_one, Part.off_cons, and_self, filledWords, of_sampleRead, Part.of_foldl_snd, implies_true]

theorem of_rxFlowStop (h : π.off [.evc, .rx]) (r : Root) (s : Nat) (d : Dev) : π.of (rxFlowStop r s d) = π.of d := by
  simp_all only [Part.off_one, Part.off_cons, and_self, rxFlowStop, of_rxFlow, Part.of_ite, ite_self]

theorem of_rxPresent (h : π.off [.evc, .lnd, .chan, .rx, .rxe, .freeCtr]) (r : Root) (s : Nat) (d0 : Dev) : π.of (rxPresent r s d0) = π.of d0 := by
  unfold rxPresent
  dsimp only
  repeat' split
  all_goals simp_all only [Part.off_one, Part.off_cons, and_self, of_raise, of_putChan, of_setRx, of_rxeMap, of_rxAttn, of_naEval, of_filledWords,
    of_rxFlowStop, Part.of_foldl, implies_true]

theorem of_naExpiry (h : π.off [.evc, .rx]) (r : Root) (s j : Nat) (d : Dev) : π.of (naExpiry r s j d) = π.of d := by
  simp_all only [Part.off_one, Part.off_cons, and_self, naExpiry, of_setRx, of_naEval]

theorem of_rxStart (h : π.off [.lnd, .rx]) (r : Root) (g s : Nat) (d : Dev) : π.of (rxStart r g s d) = π.of d := by
  simp_all only [Part.off_one, Part.off_cons, rxStart, of_enqueueAdmit, of_setRx]

theorem of_rxIdle (h : π.off [.evc, .lnd, .rx, .freeCtr]) (r : Root) (s : Nat) (d : Dev) : π.of (rxIdle r s d) = π.of d := by
  simp_all only [Part.off_one, Part.off_cons, and_self, rxIdle, of_raise, of_giveUp, of_setRx, of_rxFlow, of_naEval, of_rxStart, Part.of_ite,
    ite_self]

theorem of_rxAdmitted (h : π.off [.evc, .lnd, .rx, .rxe, .freeCtr]) (r : Root) (s : Nat) (d : Dev) : π.of (rxAdmitted r s d) = π.of d := by
  simp_all only [Part.off_one, Part.off_cons, and_self, rxAdmitted, of_raise, of_lndRefuse, of_lndCommit, of_setRx, of_rxeMap, of_rxAttn, of_rxIdle,
    Part.of_ite, ite_self]

theorem of_rxHook (h : π.off [.lnd, .rx]) (r : Root) (g s : Nat) (d0 : Dev) : π.of (rxHook r g s d0) = π.of d0 := by
  unfold rxHook
  dsimp only
  split <;> simp_all only [Part.off_one, Part.off_cons, and_self, of_setRx, of_rxStart, Part.of_ite, ite_self]

theorem of_rxDrained (h : π.off [.evc, .lnd, .rx, .rxe, .freeCtr]) (r : Root) (s : Nat) (d : Dev) : π.of (rxDrained r s d) = π.of d := by
  simp_all only [Part.off_one, Part.off_cons, and_self, rxDrained, of_rxAttn, of_rxIdle, Part.of_ite, ite_self]

theorem of_rxRestart (h : π.off [.evc, .lnd, .rx, .freeCtr]) (r : Root) (d : Dev) : π.of (rxRestart r d) = π.of d := by
  simp_all only [Part.off_one, Part.off_cons, and_self, rxRestart, of_setRx, of_rxIdle, Part.of_ite, ite_self, Part.of_foldl, implies_true]

theorem of_rxeCmd (h : π.off [.rx]) (r : Root) (g : Nat) (w : Word) (d : Dev) : π.of (rxeCmd r g w d) = π.of d := by
  simp_all only [Part.off_one, rxeCmd, of_setRx, Part.of_ite, ite_self]

/-! ### Operations of Machine/Sap -/

theorem of_sapgMap (h : π.off [.sapg]) (d : Dev) (f : SapgSt → SapgSt) : π.of (Dev.sapgMap d f) = π.of d := by
  simp_all only [Part.off_one, Dev.sapgMap, Part.of_with_sapg]

theorem of_sapData (h : π.off [.evc, .sap]) (r : Root) (n cause : Nat) (d : Dev) : π.of (sapData r n cause d) = π.of d := by
  simp_all only [Part.off_one, Part.off_cons, sapData, of_raise, of_setSap]

theorem of_sapClk (h : π.off [.evc, .ref, .sap]) (r : Root) (n c : Nat) (d : Dev) : π.of (sapClk r n c d) = π.of d := by
  simp_all only [Part.off_one, Part.off_cons, sapClk, of_raise, of_setSap, Part.of_with_ref, Part.of_ite, ite_self]

theorem of_sapStop (h : π.off [.evc, .ref, .sap]) (r : Root) (n : Nat) (d : Dev) : π.of (sapStop r n d) = π.of d := by
  simp_all only [Part.off_one, Part.off_cons, and_self, sapStop, of_setSap, of_sapClk]

theorem of_sapStart (h : π.off [.lnd, .sap]) (r : Root) (n : Nat) (d : Dev) : π.of (sapStart r n d) = π.of d := by
  simp_all only [Part.off_one, Part.off_cons, sapStart, of_enqueueAdmit, of_setSap]

theorem of_sapIdle (h : π.off [.evc, .lnd, .sap, .freeCtr]) (r : Root) (n : Nat) (d : Dev) : π.of (sapIdle r n d) = π.of d := by
  simp_all only [Part.off_one, Part.off_cons, and_self, sapIdle, of_giveUp, of_setSap, of_sapStart, Part.of_ite, ite_self]

theorem of_sapRefuse (h : π.off [.evc, .sap]) (r : Root) (n why : Nat) (d : Dev) : π.of (sapRefuse r n why d) = π.of d := by
  simp_all only [Part.off_one, Part.off_cons, and_self, sapRefuse, of_setSap, of_sapData]

theorem of_sapAdmitted (h : π.off [.evc, .lnd, .sap, .freeCtr]) (r : Root) (g n : Nat) (d : Dev) : π.of (sapAdmitted r g n d) = π.of d := by
  simp_all only [Part.off_one, Part.off_cons, and_self, sapAdmitted, of_lndRefuse, of_lndCommit, of_setSap, of_sapIdle, of_sapRefuse, Part.of_ite,
    ite_self]

theorem of_sapTurn (h : π.off [.sap]) (r : Root) (n : Nat) (d : Dev) : π.of (sapTurn r n d) = π.of d := by
  unfold sapTurn
  dsimp only
  split <;> simp_all only [Part.off_one, of_setSap, Part.of_ite, ite_self]

theorem of_sapTurnAll (h : π.off [.sap]) (r : Root) (d : Dev) : π.of (sapTurnAll r d) = π.of d := by
  simp_all only [Part.off_one, sapTurnAll, of_sapTurn, Part.of_foldl, implies_true]

theorem of_sapCtrlHook (h : π.off [.evc, .lnd, .sap, .freeCtr]) (r : Root) (n : Nat) (set : Option Bool) (d : Dev) :
    π.of (sapCtrlHook r n set d) = π.of d := by
  unfold sapCtrlHook
  dsimp only
  split <;> simp_all only [Part.off_one, Part.off_cons, and_self, of_setSap, of_sapStart, of_sapIdle, of_sapTurn, Part.of_ite, ite_self]

theorem of_sapRun (h : π.off [.sap]) (n : Nat) (c : Int) (d : Dev) : π.of (sapRun n c d) = π.of d := by
  unfold sapRun
  dsimp only
  split <;> simp_all only [Part.off_one, of_setSap, Part.of_ite, ite_self]

theorem of_sapRunStart (h : π.off [.sap]) (r : Root) (n : Nat) (d : Dev) : π.of (sapRunStart r n d) = π.of d := by
  simp_all only [Part.off_one, sapRunStart, of_sapRun]

theorem of_sapFadeDone (h : π.off [.sap]) (r : Root) (n : Nat) (d : Dev) : π.of (sapFadeDone r n d) = π.of d := by
  simp_all only [Part.off_one, sapFadeDone, of_setSap, of_sapTurn]

theorem of_sapRollEnd (h : π.off [.evc, .lnd, .sap, .freeCtr]) (r : Root) (n : Nat) (d : Dev) : π.of (sapRollEnd r n d) = π.of d := by
  simp_all only [Part.off_one, Part.off_cons, and_self, sapRollEnd, of_setSap, of_sapIdle, Part.of_ite, ite_self]

theorem of_sapClockStop (h : π.off [.evc, .ref, .sap]) (r : Root) (n : Nat) (d : Dev) : π.of (sapClockStop r n d) = π.of d := by
  simp_all only [Part.off_one, Part.off_cons, and_self, sapClockStop, of_sapStop, Part.of_ite, ite_self]

theorem of_groupPeriod (h : π.off [.sap, .sapg]) (g : Nat) (ms : List Nat) (k : Int) (d : Dev) : π.of (groupPeriod g ms k d) = π.of d := by
  simp_all only [Part.off_one, Part.off_cons, groupPeriod, of_setSap, of_sapgMap, Part.of_ite, ite_self, Part.of_foldl, implies_true]

theorem of_memberOpen (h : π.off [.sap]) (d : Dev) (n : Nat) : π.of (memberOpen d n) = π.of d := by
  unfold memberOpen
  split <;> simp_all only [Part.off_one, of_setSap, of_sapRun, Part.of_ite, ite_self]

theorem of_groupStart (h : π.off [.sap, .sapg]) (r : Root) (g : Nat) (d : Dev) : π.of (groupStart r g d) = π.of d := by
  unfold groupStart
  dsimp only
  repeat' split
  all_goals simp_all only [Part.off_one, Part.off_cons, and_self, of_setSap, of_sapgMap, of_groupPeriod, Part.of_foldl, implies_true]

theorem of_groupStop (h : π.off [.sap]) (r : Root) (g : Nat) (d : Dev) : π.of (groupStop r g d) = π.of d := by
  simp_all only [Part.off_one, groupStop, of_setSap, Part.of_foldl, implies_true]

theorem of_sapgCmd (h : π.off [.sap, .sapg]) (r : Root) (stop : Bool) (w : Word) (d : Dev) : π.of (sapgCmd r stop w d) = π.of d := by
  simp_all only [Part.off_one, Part.off_cons, and_self, sapgCmd, of_sapTurnAll, of_groupStart, of_groupStop, Part.of_ite, ite_self, Part.of_foldl,
    implies_true]

theorem of_groupEdge (h : π.off [.sap, .sapg]) (n edge : Nat) (k : Int) (d : Dev) : π.of (groupEdge n edge k d) = π.of d := by
  have hs : π.off [.sap] := Part.off_one.mpr (Part.off_cons.mp h).1
  refine Part.of_foldl (fun x a => ?_) _ _
  dsimp only
  split
  next =>
    rw [Part.of_foldl fun y w => (Part.of_foldl (of_memberOpen hs) _ _).trans (of_groupPeriod h ..)]
    exact of_sapgMap (Part.off_cons.mp h).2 ..
  next => rfl

theorem of_sapVoid (h : π.off [.chan]) (n : Nat) (f : SapRun) (d : Dev) : π.of (sapVoid n f d) = π.of d := by
  unfold sapVoid
  split <;> simp_all only [Part.off_one, of_putChan, Part.of_ite, ite_self, Part.of_foldl, implies_true]

theorem of_sapGlitch (h : π.off [.evc, .ref, .chan, .sap]) (r : Root) (n : Nat) (f : SapRun) (d : Dev) : π.of (sapGlitch r n f d) = π.of d := by
  simp_all only [Part.off_one, Part.off_cons, and_self, sapGlitch, of_setSap, of_sapClk, of_sapVoid]

theorem of_sapJudge (h : π.off [.evc, .ref, .sap]) (r : Root) (n : Nat) (inTol : Bool) (d : Dev) : π.of (sapJudge r n inTol d) = π.of d := by
  unfold sapJudge
  dsimp only
  split <;> simp_all only [Part.off_one, Part.off_cons, and_self, of_setSap, of_sapClk, Part.of_ite, ite_self]

theorem of_sapFault (h : π.off [.evc, .sap]) (r : Root) (n cause under over' : Nat) (d : Dev) :
    π.of (sapFault r n cause under over' d) = π.of d := by
  simp_all only [Part.off_one, Part.off_cons, and_self, sapFault, of_setSap, of_sapData]

theorem of_sapRecover (h : π.off [.sap]) (n : Nat) (d : Dev) : π.of (sapRecover n d) = π.of d := by
  simp_all only [Part.off_one, sapRecover, of_setSap, Part.of_ite, ite_self]

theorem of_sapEnd (h : π.off [.regs, .parityBad, .page, .lines, .evc, .flt, .ref, .chan, .sap]) (r : Root) (n ec : Nat) (d : Dev) :
    π.of (sapEnd r n ec d) = π.of d := by
  unfold sapEnd
  split <;> simp_all only [Part.off_one, Part.off_cons, and_self, of_opportunity, of_setSap, of_sapGlitch, of_sapJudge, Part.of_ite, ite_self]

theorem of_sapMap (h : π.off [.evc, .sap]) (r : Root) (n ec : Nat) (admitted : Bool) (d : Dev) : π.of (sapMap r n ec admitted d).1 = π.of d := by
  simp_all only [Part.off_one, Part.off_cons, and_self, sapMap, of_setSap, of_sapFault, Part.of_ite, Part.of_ite_fst, ite_self]

theorem of_sapEdge (h : π.off [.trg, .ref, .sap]) (r : Root) (n ec : Nat) (d : Dev) : π.of (sapEdge r n ec d) = π.of d := by
  simp_all only [Part.off_one, Part.off_cons, sapEdge, of_setSap, of_capInternal, of_refEdge, of_refDiv, Part.of_ite, ite_self]

theorem of_sapEnter (h : π.off [.sap]) (n ec : Nat) (k : Option Int) (phi : Int) (inp out : Bool) (d : Dev) :
    π.of (sapEnter n ec k phi inp out d) = π.of d := by
  simp_all only [Part.off_one, sapEnter, of_setSap]

theorem of_sapStarve (h : π.off [.regs, .parityBad, .page, .lines, .evc, .flt, .sap]) (r : Root) (n : Nat) (sound : Bool) (d : Dev) :
    π.of (sapStarve r n sound d).2 = π.of d := by
  simp_all only [Part.off_one, Part.off_cons, and_self, sapStarve, of_opportunity, of_sapFault, Part.of_ite, ite_self]

theorem of_sapFresh (h : π.off [.regs, .parityBad, .page, .lines, .evc, .flt, .sap, .sapg]) (r : Root) (n ec : Nat) (admitted : Bool) (d : Dev) :
    π.of (sapFresh r n ec admitted d) = π.of d := by
  unfold sapFresh
  dsimp only
  repeat' split
  all_goals simp_all only [Part.off_one, Part.off_cons, and_self, of_opportunity, of_sapRun, of_groupEdge, of_sapRecover, of_sapMap, of_sapEnter, of_sapStarve]

theorem of_sapBegin (h : π.off [.regs, .parityBad, .page, .lines, .evc, .flt, .trg, .ref, .sap, .sapg]) (r : Root) (n ec : Nat) (d : Dev) :
    π.of (sapBegin r n ec d) = π.of d := by
  simp_all only [Part.off_one, Part.off_cons, and_self, sapBegin, of_opportunity, of_setSap, of_sapStop, of_sapEdge, of_sapFresh, Part.of_ite,
    ite_self]

theorem of_sapSlotOut (h : π.off [.evc, .lnd, .sap, .freeCtr]) (r : Root) (n s : Nat) (f : SapRun) (d : Dev) :
    π.of (sapSlotOut r n s f d).1 = π.of d := by
  unfold sapSlotOut
  repeat' split
  all_goals simp_all only [Part.off_one, Part.off_cons, and_self, of_sampleRead, of_setSap, of_sapData, Part.of_ite_fst, Part.of_ite_snd, ite_self]

theorem of_sapSlotIn (h : π.off [.evc, .lnd, .chan, .freeCtr]) (r : Root) (n s ec : Nat) (f : SapRun) (d : Dev) :
    π.of (sapSlotIn r n s ec f d) = π.of d := by
  unfold sapSlotIn
  split <;> simp_all only [Part.off_one, Part.off_cons, and_self, of_sampleWrite, of_putChan, of_sampleRead, Part.of_ite, ite_self]

theorem of_sapSlots (h : π.off [.evc, .lnd, .chan, .sap, .freeCtr]) (r : Root) (n ec : Nat) (f : SapRun) (d : Dev) :
    π.of (sapSlots r n ec f d).1 = π.of d := by
  simp_all only [Part.off_one, Part.off_cons, and_self, sapSlots, of_sapSlotOut, of_sapSlotIn, Part.of_ite_fst, ite_self, Part.of_foldl_fst,
    implies_true]

theorem of_sapWatch (h : π.off [.evc, .ref, .chan, .sap]) (r : Root) (n : Nat) (act : Bool) (d : Dev) : π.of (sapWatch r n act d) = π.of d := by
  unfold sapWatch
  dsimp only
  split <;> simp_all only [Part.off_one, Part.off_cons, and_self, of_setSap, of_sapGlitch, Part.of_ite, ite_self]

theorem of_sapSample (h : π.off [.regs, .parityBad, .page, .lines, .evc, .flt, .lnd, .trg, .ref, .chan, .sap, .sapg, .freeCtr]) (r : Root) (n ec : Nat) (fs di : Bool) (d : Dev) :
    π.of (sapSample r n ec fs di d) = π.of d := by
  unfold sapSample
  dsimp only
  repeat' split
  all_goals simp_all only [Part.off_one, Part.off_cons, and_self, of_setSap, of_sapTurn, of_sapEnd, of_sapBegin, of_sapSlots, of_sapWatch]

theorem of_sapBck (h : π.off [.regs, .parityBad, .page, .lines, .evc, .flt, .lnd, .trg, .ref, .chan, .sap, .sapg, .freeCtr]) (r : Root) (n : Nat) (d : Dev) (e : BckEdge) :
    π.of (sapBck r n d e) = π.of d := by
  simp_all only [Part.off_one, Part.off_cons, and_self, sapBck, of_setSap, of_sapClk, of_sapStop, of_sapSample, Part.of_ite, ite_self]

theorem of_sapFrame (h : π.off [.regs, .parityBad, .page, .lines, .evc, .flt, .lnd, .trg, .ref, .chan, .sap, .sapg, .freeCtr]) (r : Root) (n : Nat) (bck : List BckEdge) (d : Dev) :
    π.of (sapFrame r n bck d) = π.of d := by
  simp_all only [Part.off_one, Part.off_cons, and_self, sapFrame, of_sapBck, Part.of_foldl, implies_true]

theorem of_sapRestart (h : π.off [.evc, .lnd, .sap, .sapg, .freeCtr]) (r : Root) (d : Dev) : π.of (sapRestart r d) = π.of d := by
  simp_all only [Part.off_one, Part.off_cons, and_self, sapRestart, of_setSap, of_sapgMap, of_sapIdle, Part.of_ite, ite_self, Part.of_foldl,
    implies_true]

theorem of_sapCmd (h : π.off [.sap]) (n : Nat) (w : Word) (d : Dev) : π.of (sapCmd n w d) = π.of d := by
  simp_all only [Part.off_one, sapCmd, of_setSap, Part.of_ite, ite_self]

/-! ### Operations of Machine/Txe -/

theorem of_setTx (h : π.off [.tx]) (d : Dev) (s : Nat) (x : TxS) : π.of (Dev.setTx d s x) = π.of d := by
  simp_all only [Part.off_one, Dev.setTx, Part.of_with_tx]

theorem of_txeMap (h : π.off [.txe]) (d : Dev) (f : TxeSt → TxeSt) : π.of (Dev.txeMap d f) = π.of d := by
  simp_all only [Part.off_one, Dev.txeMap, Part.of_with_txe]

theorem of_autoPhases (h : π.off [.tx, .freeCtr]) (s : Nat) (ps : List Nat) (d : Dev) : π.of (autoPhases s ps d) = π.of d := by
  unfold autoPhases
  refine Part.of_foldl (fun x a => ?_) _ _
  dsimp only
  split <;> simp_all only [Part.off_one, Part.off_cons, of_drew, of_setTx]

theorem of_txMoved (h : π.off [.tx]) (r : Root) (s : Nat) (d : Dev) : π.of (txMoved r s d) = π.of d := by
  simp_all only [Part.off_one, txMoved, of_setTx]

theorem of_txRetime (h : π.off [.tx, .freeCtr]) (r : Root) (s : Nat) (d : Dev) : π.of (txRetime r s d) = π.of d := by
  simp_all only [Part.off_one, Part.off_cons, and_self, txRetime, of_autoPhases, of_txMoved, Part.of_ite, ite_self]

theorem of_txSpeed (h : π.off [.tx, .freeCtr]) (r : Root) (p : Nat) (d : Dev) : π.of (txSpeed r p d) = π.of d := by
  simp_all only [Part.off_one, Part.off_cons, and_self, txSpeed, of_autoPhases, of_txMoved, Part.of_ite, ite_self, Part.of_foldl, implies_true]

theorem of_overcommit (h : π.off [.evc, .net]) (r : Root) (p : Nat) (speed : Bool) (d : Dev) : π.of (overcommit r p speed d) = π.of d := by
  simp_all only [Part.off_one, Part.off_cons, overcommit, of_raise, of_setNetp, Part.of_ite, ite_self]

theorem of_txAttn (h : π.off [.txe]) (r : Root) (s : Nat) (d : Dev) : π.of (txAttn r s d) = π.of d := by
  simp_all only [Part.off_one, txAttn, of_txeMap]

theorem of_txStart (h : π.off [.lnd, .tx]) (r : Root) (g s : Nat) (d : Dev) : π.of (txStart r g s d) = π.of d := by
  simp_all only [Part.off_one, Part.off_cons, txStart, of_enqueueAdmit, of_setTx]

theorem of_txIdle (h : π.off [.evc, .lnd, .net, .tx, .freeCtr]) (r : Root) (s : Nat) (d : Dev) : π.of (txIdle r s d) = π.of d := by
  simp_all only [Part.off_one, Part.off_cons, and_self, txIdle, of_raise, of_giveUp, of_setTx, of_overcommit, of_txStart, Part.of_ite, ite_self]

theorem of_txRefuse (h : π.off [.evc, .lnd, .tx, .txe]) (r : Root) (s why : Nat) (d : Dev) : π.of (txRefuse r s why d) = π.of d := by
  simp_all only [Part.off_one, Part.off_cons, and_self, txRefuse, of_raise, of_lndRefuse, of_setTx, of_txeMap, of_txAttn, Part.of_ite, ite_self]

theorem of_txAdmitted (h : π.off [.evc, .lnd, .net, .tx, .txe, .freeCtr]) (r : Root) (s : Nat) (d : Dev) : π.of (txAdmitted r s d) = π.of d := by
  simp_all only [Part.off_one, Part.off_cons, and_self, txAdmitted, of_raise, of_lndCommit, of_setTx, of_txRetime, of_txIdle, of_txRefuse,
    Part.of_ite, ite_self]

theorem of_txHook (h : π.off [.lnd, .tx]) (r : Root) (g s : Nat) (d : Dev) : π.of (txHook r g s d) = π.of d := by
  unfold txHook
  dsimp only
  split <;> simp_all only [Part.off_one, Part.off_cons, and_self, of_setTx, of_txStart]

theorem of_txDrained (h : π.off [.evc, .lnd, .net, .tx, .txe, .freeCtr]) (r : Root) (s : Nat) (d : Dev) : π.of (txDrained r s d) = π.of d := by
  simp_all only [Part.off_one, Part.off_cons, and_self, txDrained, of_txAttn, of_txIdle, Part.of_ite, ite_self]

theorem of_txRestart (h : π.off [.evc, .lnd, .net, .tx, .freeCtr]) (r : Root) (d : Dev) : π.of (txRestart r d) = π.of d := by
  simp_all only [Part.off_one, Part.off_cons, and_self, txRestart, of_setTx, of_txIdle, Part.of_ite, ite_self, Part.of_foldl, implies_true]

theorem of_txBytes (h : π.off [.freeCtr]) (r : Root) (p s : Nat) (f : Int) (pay : List Byte) (d : Dev) :
    π.of (txBytes r p s f pay d).2 = π.of d := by
  simp_all only [Part.off_one, txBytes, of_drew, Part.of_ite_snd, ite_self]

theorem of_fillSample (h : π.off [.regs, .parityBad, .page, .lines, .evc, .flt, .lnd, .freeCtr]) (r : Root) (p s start : Nat) (f : Int) (q i : Nat) (d : Dev) :
    π.of (fillSample r p s start f q i d).2 = π.of d := by
  unfold fillSample
  dsimp only
  split <;> simp_all only [Part.off_one, Part.off_cons, and_self, of_opportunity, of_sampleRead, Part.of_ite, ite_self]

theorem of_fillRow (h : π.off [.regs, .parityBad, .page, .lines, .evc, .flt, .lnd, .tx, .freeCtr]) (r : Root) (p s start : Nat) (f : Int) (q : Nat) (d : Dev) :
    π.of (fillRow r p s start f q d).2 = π.of d := by
  simp_all only [Part.off_one, Part.off_cons, and_self, fillRow, of_setTx, of_fillSample, Part.of_foldl_snd, implies_true]

theorem of_fillFrame (h : π.off [.regs, .parityBad, .page, .lines, .evc, .flt, .lnd, .tx, .txe, .freeCtr]) (r : Root) (p s start : Nat) (f : Int) (d : Dev) :
    π.of (fillFrame r p s start f d).2 = π.of d := by
  unfold fillFrame
  dsimp only
  split <;> simp_all only [Part.off_one, Part.off_cons, and_self, of_raise, of_setTx, of_txeMap, of_txAttn, of_fillRow, Part.of_ite, ite_self,
    Part.of_foldl_snd, implies_true]

theorem of_txAdvance (h : π.off [.tx]) (p s : Nat) (d : Dev) : π.of (txAdvance p s d) = π.of d := by
  simp_all only [Part.off_one, txAdvance, of_setTx]

theorem of_txLinkSkip (h : π.off [.evc, .tx, .txe]) (r : Root) (p s : Nat) (d : Dev) : π.of (txLinkSkip r p s d) = π.of d := by
  simp_all only [Part.off_one, Part.off_cons, txLinkSkip, of_raise, of_txeMap, of_txAdvance]

theorem of_txSkipped (h : π.off [.evc, .tx, .txe]) (r : Root) (p s : Nat) (d : Dev) : π.of (txSkipped r p s d) = π.of d := by
  simp_all only [Part.off_one, Part.off_cons, txSkipped, of_raise, of_setTx, of_txeMap, of_txAttn, of_txAdvance]

theorem of_txLaunch (h : π.off [.regs, .parityBad, .page, .lines, .evc, .flt, .lnd, .net, .tx, .txe, .freeCtr]) (r : Root) (p s start : Nat) (d : Dev) :
    π.of (txLaunch r p s start d) = π.of d := by
  simp_all only [Part.off_one, Part.off_cons, and_self, txLaunch, of_setNetp, of_netSent, of_setTx, of_txBytes, of_fillFrame, of_txAdvance,
    of_txLinkSkip, Part.of_ite, ite_self]

theorem of_txSkip (h : π.off [.evc, .tx, .txe]) (r : Root) (p s : Nat) (d : Dev) : π.of (txSkip r p s d) = π.of d := by
  simp_all only [Part.off_one, Part.off_cons, and_self, txSkip, of_txLinkSkip, of_txSkipped, Part.of_ite, ite_self]

theorem of_txeCmd (h : π.off [.tx, .freeCtr]) (r : Root) (g : Nat) (w : Word) (d : Dev) : π.of (txeCmd r g w d) = π.of d := by
  simp_all only [Part.off_one, Part.off_cons, and_self, txeCmd, of_setTx, of_txRetime, Part.of_ite, ite_self]

/-! ### Operations of Machine/NetTx -/

theorem of_setHead (h : π.off [.net]) (d : Dev) (c : Nat) (x : Option OutHead) : π.of (Dev.setHead d c x) = π.of d := by
  simp_all only [Part.off_one, Dev.setHead, of_netMap]

theorem of_corPass (h : π.off [.evc, .lnd]) (r : Root) (c n : Nat) (d : Dev) : π.of (corPass r c n d) = π.of d := by
  simp_all only [Part.off_one, Part.off_cons, corPass, of_raiseIf, of_setCor]

theorem of_reckon (h : π.off [.net]) (r : Root) (p : Nat) (d : Dev) : π.of (reckon r p d) = π.of d := by
  simp_all only [Part.off_one, reckon, of_setNetp]

theorem of_reckonAll (h : π.off [.net]) (r : Root) (d : Dev) : π.of (reckonAll r d) = π.of d := by
  simp_all only [Part.off_one, reckonAll, of_reckon]

theorem of_charge (h : π.off [.net]) (r : Root) (p q units : Nat) (d : Dev) : π.of (charge r p q units d) = π.of d := by
  simp_all only [Part.off_one, charge, of_setNetp, Part.of_ite, ite_self]

theorem of_uncharge (h : π.off [.net]) (p q units : Nat) (d : Dev) : π.of (uncharge p q units d) = π.of d := by
  simp_all only [Part.off_one, uncharge, of_setNetp, Part.of_ite, ite_self]

theorem of_outFinish (h : π.off [.evc, .lnd, .freeCtr]) (r : Root) (m : List Host.Cell) (c pos len status cause : Nat) (d : Dev) :
    π.of (outFinish r m c pos len status cause d).1 = π.of d := by
  simp_all only [Part.off_one, Part.off_cons, and_self, outFinish, of_lndWrite, of_corPass]

theorem of_stampSlots (h : π.off [.evc, .lnd, .freeCtr]) (r : Root) (c : Nat) (h : OutHead) (d : Dev) : π.of (stampSlots r c h d).1 = π.of d := by
  unfold stampSlots
  dsimp only
  repeat' split
  all_goals simp_all only [Part.off_one, Part.off_cons, and_self, of_drew, of_lndWrite]

theorem of_tryComplete (h : π.off [.evc, .lnd, .net, .freeCtr]) (r : Root) (m : List Host.Cell) (c : Nat) (d : Dev) :
    π.of (tryComplete r m c d).1 = π.of d := by
  unfold tryComplete
  split <;> simp_all only [Part.off_one, Part.off_cons, and_self, of_setHead, of_outFinish, of_stampSlots, Part.of_ite_fst, ite_self]

theorem of_headLess (h : π.off [.net]) (c p : Nat) (sent : Bool) (d : Dev) : π.of (headLess c p sent d) = π.of d := by
  unfold headLess
  split <;> simp_all only [Part.off_one, of_setHead]

theorem of_copyDown (h : π.off [.net]) (p c : Nat) (d : Dev) : π.of (copyDown p c d) = π.of d := by
  simp_all only [Part.off_one, copyDown, of_netCount, of_headLess]

theorem of_lastCopies (h : π.off [.net]) (c : Nat) (d : Dev) : π.of (lastCopies c d) = π.of d := by
  unfold lastCopies
  split <;> simp_all only [Part.off_one, of_setHead]

theorem of_headJudge (h : π.off [.evc, .lnd, .net, .freeCtr]) (r : Root) (m : List Host.Cell) (c : Nat) (d : Dev) :
    π.of (headJudge r m c d).1 = π.of d := by
  unfold headJudge
  split <;> simp_all only [Part.off_one, Part.off_cons, and_self, of_setHead, of_outFinish, of_tryComplete, of_copyDown, of_lastCopies, Part.of_ite,
    Part.of_ite_fst, ite_self, Part.of_foldl, implies_true]

theorem of_headRead (h : π.off [.evc, .lnd, .freeCtr]) (r : Root) (m : List Host.Cell) (c pos : Nat) (d : Dev) :
    π.of (headRead r m c pos d).2 = π.of d := by
  simp_all only [Part.off_one, Part.off_cons, and_self, headRead, of_lndRead]

theorem of_outConsume (h : π.off [.evc, .lnd, .net, .freeCtr]) (r : Root) (m : List Host.Cell) (c : Nat) (d' : Dev) :
    π.of (outConsume r m c d').1 = π.of d' := by
  unfold outConsume
  dsimp only
  repeat' split
  all_goals simp_all only [Part.off_one, Part.off_cons, and_self, of_lndRead, of_setCor, of_setHead, of_reckonAll, of_headJudge, of_headRead]

theorem of_corRelease (h : π.off [.net]) (r : Root) (c : Nat) (d0 : Dev) : π.of (corRelease r c d0) = π.of d0 := by
  unfold corRelease
  dsimp only
  split <;> simp_all only [Part.off_one, of_netMap, of_setHead, of_reckonAll, Part.of_ite, ite_self]

theorem of_discardRest (h : π.off [.evc, .lnd, .freeCtr]) (r : Root) (m : List Host.Cell) (c n : Nat) (a : Dev × List MemWr) :
    π.of (discardRest r m c n a).1 = π.of a.1 := by
  simp only [Part.off_one, Part.off_cons] at h
  induction n generalizing a with
  | zero => rfl
  | succ n ih =>
    unfold discardRest
    simp_all only [Part.off_one, Part.off_cons, and_self, of_headRead, of_outFinish, of_setCor, Part.of_ite_fst, ite_self]

theorem of_closeComplete (h : π.off [.evc, .lnd, .net, .freeCtr]) (r : Root) (m : List Host.Cell) (c : Nat) (d0 : Dev) :
    π.of (closeComplete r m c d0).1 = π.of d0 := by
  simp only [Part.off_one, Part.off_cons] at h
  unfold closeComplete
  dsimp only
  split_ifs with hidle hout hstays
  next => simp_all only [of_reckonAll, Part.off_one]
  next =>
    split <;>
      simp_all only [of_reckonAll, of_tryComplete, of_lastCopies, of_setHead, Part.of_ite_fst, Part.off_one, Part.off_cons, and_self, ite_self]
  next =>
    split <;>
      simp_all only [of_reckonAll, of_discardRest, of_tryComplete, of_lastCopies, of_setHead, of_corClose, Part.of_ite_fst, Part.off_one, Part.off_cons,
        and_self, ite_self]
  next => simp_all only [of_reckonAll, of_corClose, Part.off_one, Part.off_cons, and_self]

theorem of_gateHook (h : π.off [.net]) (r : Root) (p : Nat) (old : Word) (d0 : Dev) : π.of (gateHook r p old d0) = π.of d0 := by
  simp_all only [Part.off_one, gateHook, of_setNetp, of_reckon, Part.of_ite, ite_self]

theorem of_gateAdvance (h : π.off [.net]) (r : Root) (p : Nat) (d : Dev) : π.of (gateAdvance r p d) = π.of d := by
  simp_all only [Part.off_one, gateAdvance, of_setNetp]

theorem of_startFrag (h : π.off [.net]) (r : Root) (p n : Nat) (t : TxCur) (d : Dev) : π.of (startFrag r p n t d) = π.of d := by
  simp_all only [Part.off_one, startFrag, of_setNetp, of_charge]

theorem of_fragEnded (h : π.off [.net]) (r : Root) (p : Nat) (d : Dev) : π.of (fragEnded r p d) = π.of d := by
  unfold fragEnded
  dsimp only
  split <;> simp_all only [Part.off_one, of_setNetp, of_netCount, Part.of_ite, ite_self]

theorem of_cutFrag (h : π.off [.net]) (r : Root) (p : Nat) (d : Dev) : π.of (cutFrag r p d) = π.of d := by
  unfold cutFrag
  dsimp only
  repeat' split
  all_goals simp_all only [Part.off_one, of_setNetp, of_netCount, of_reckon, of_uncharge]

theorem of_startPtp (h : π.off [.regs, .parityBad, .page, .lines, .evc, .flt, .net]) (r : Root) (p : Nat) (m : PtpOut) (rest : List PtpOut) (d : Dev) :
    π.of (startPtp r p m rest d) = π.of d := by
  simp_all only [Part.off_one, Part.off_cons, and_self, startPtp, of_setNetp, of_netSent]

theorem of_frameBegin (h : π.off [.regs, .parityBad, .page, .lines, .evc, .flt, .net]) (r : Root) (p : Nat) (d0 : Dev) :
    π.of (frameBegin r p d0) = π.of d0 := by
  unfold frameBegin
  dsimp only
  repeat' split
  all_goals simp_all only [Part.off_one, Part.off_cons, and_self, of_setNetp, of_reckon, of_startFrag, of_fragEnded, of_cutFrag, of_startPtp]

theorem of_portDown (h : π.off [.evc, .lnd, .net, .ptp, .srv, .ref, .freeCtr]) (r : Root) (m : List Host.Cell) (p : Nat) (d : Dev) :
    π.of (portDown r m p d).1 = π.of d := by
  simp_all only [Part.off_one, Part.off_cons, and_self, portDown, of_raise, of_setNetp, of_preemptEval, of_ptpLinkLost, of_ptpDrop, of_reckonAll,
    of_tryComplete, of_copyDown, Part.of_ite_fst, ite_self, Part.of_foldl_fst, implies_true]

theorem of_takeSpeed (h : π.off [.evc, .net, .tx, .freeCtr]) (r : Root) (p v : Nat) (d0 : Dev) : π.of (takeSpeed r p v d0) = π.of d0 := by
  simp_all only [Part.off_one, Part.off_cons, and_self, takeSpeed, of_setNetp, of_txSpeed, of_overcommit, of_reckon, Part.of_ite, ite_self]

theorem of_linkUp (h : π.off [.evc, .net, .tx, .freeCtr]) (r : Root) (p : Nat) (sp : PhySpeed) (d : Dev) : π.of (linkUp r p sp d) = π.of d := by
  unfold linkUp
  split <;> simp_all only [Part.off_one, Part.off_cons, and_self, of_raise, of_setNetp, of_preemptEval, of_takeSpeed, Part.of_ite, ite_self]

theorem of_enaSettle (h : π.off [.evc, .lnd, .net, .ptp, .srv, .ref, .freeCtr]) (r : Root) (m : List Host.Cell) (p : Nat) (d : Dev) :
    π.of (enaSettle r m p d).1 = π.of d := by
  simp_all only [Part.off_one, Part.off_cons, and_self, enaSettle, of_setNetp, of_portDown, Part.of_ite_fst, ite_self]

theorem of_afterEna (h : π.off [.evc, .lnd, .net, .ptp, .srv, .ref, .freeCtr]) (r : Root) (m : List Host.Cell) (p : Nat)
    {f : Dev → Dev × List MemWr} (hf : ∀ d, π.of (f d).1 = π.of d) (d : Dev) : π.of (afterEna r m p f d).1 = π.of d :=
  (hf _).trans (of_enaSettle h r m p d)

theorem of_frameStart (h : π.off [.regs, .parityBad, .page, .lines, .evc, .flt, .lnd, .net, .ptp, .srv, .ref, .freeCtr]) (r : Root) (m : List Host.Cell) (p : Nat) (d : Dev) :
    π.of (frameStart r m p d).1 = π.of d := by
  exact of_afterEna (by simp_all only [Part.off_one, Part.off_cons, and_self]) r m p
    (fun d => of_frameBegin (by simp_all only [Part.off_one, Part.off_cons, and_self]) r p d) d

theorem of_linkLost (h : π.off [.evc, .lnd, .net, .ptp, .srv, .ref, .freeCtr]) (r : Root) (m : List Host.Cell) (p : Nat) (why : LinkLoss) (d : Dev) :
    π.of (linkLost r m p why d).1 = π.of d := by
  simp_all only [Part.off_one, Part.off_cons, and_self, linkLost, of_setNetp, of_portDown, Part.of_ite_fst, ite_self]

theorem of_linkDown (h : π.off [.evc, .lnd, .net, .ptp, .srv, .ref, .freeCtr]) (r : Root) (m : List Host.Cell) (p : Nat) (why : LinkLoss) (d : Dev) :
    π.of (linkDown r m p why d).1 = π.of d := by
  exact of_afterEna (by simp_all only [Part.off_one, Part.off_cons, and_self]) r m p
    (fun _ => of_linkLost (by simp_all only [Part.off_one, Part.off_cons, and_self]) ..) d

theorem of_speedTurn (h : π.off [.evc, .lnd, .net, .ptp, .srv, .ref, .tx, .freeCtr]) (r : Root) (m : List Host.Cell) (p : Nat) (sp : PhySpeed) (d : Dev) :
    π.of (speedTurn r m p sp d).1 = π.of d := by
  unfold speedTurn
  repeat' split
  all_goals simp_all only [Part.off_one, Part.off_cons, and_self, of_setNetp, of_portDown, of_takeSpeed]

theorem of_linkSpeed (h : π.off [.evc, .lnd, .net, .ptp, .srv, .ref, .tx, .freeCtr]) (r : Root) (m : List Host.Cell) (p : Nat) (sp : PhySpeed) (d : Dev) :
    π.of (linkSpeed r m p sp d).1 = π.of d := by
  exact of_afterEna (by simp_all only [Part.off_one, Part.off_cons, and_self]) r m p
    (fun _ => of_speedTurn (by simp_all only [Part.off_one, Part.off_cons, and_self]) ..) d

theorem of_netCtrlHook (h : π.off [.regs, .parityBad, .evc, .lnd, .net, .ptp, .srv, .ref, .tx, .freeCtr]) (r : Root) (m : List Host.Cell) (p : Nat) (old : Word) (d : Dev) :
    π.of (netCtrlHook r m p old d).1 = π.of d := by
  simp_all only [Part.off_one, Part.off_cons, and_self, netCtrlHook, of_preemptEval, of_txSpeed, of_overcommit, of_enaSettle, Part.of_ite, ite_self]

theorem of_frameDone (h : π.off [.regs, .parityBad, .page, .lines, .evc, .flt, .lnd, .net, .ptp, .srv, .ref, .freeCtr]) (r : Root) (m : List Host.Cell) (p : Nat) (d0 : Dev) :
    π.of (frameDone r m p d0).1 = π.of d0 := by
  unfold frameDone
  dsimp only
  split <;> simp_all only [Part.off_one, Part.off_cons, and_self, of_setNetp, of_netSent, of_reckonAll, of_tryComplete, of_headLess, of_enaSettle,
    Part.of_ite_fst, ite_self]

theorem of_frameStall (h : π.off [.evc, .lnd, .net, .freeCtr]) (r : Root) (m : List Host.Cell) (p c : Nat) (d0 : Dev) :
    π.of (frameStall r m p c d0).1 = π.of d0 := by
  unfold frameStall
  dsimp only
  split <;> simp_all only [Part.off_one, Part.off_cons, and_self, of_raise, of_setNetp, of_setHead, of_reckonAll, of_outFinish, of_tryComplete, of_headLess,
    Part.of_ite_fst, ite_self]

theorem of_sfdStamp (h : π.off [.regs, .parityBad, .page, .lines, .evc, .tb, .flt, .lnd, .mon, .log, .net, .ptp, .freeCtr]) (r : Root) (m : List Host.Cell) (p : Nat) (tx : Bool) (boundary : Nat) (frag yields : Bool) (d : Dev) :
    π.of (sfdStamp r m p tx boundary frag yields d).1 = π.of d := by
  unfold sfdStamp
  dsimp only
  repeat' split
  all_goals simp_all only [Part.off_one, Part.off_cons, and_self, of_setNetp, of_monTake, of_sfdPair, of_ptpStamped, of_setHead, of_tryComplete]

/-! ### Operations of Machine/NetRx -/

theorem of_rxDiscard (h : π.off [.evc, .net]) (r : Root) (p k : Nat) (d : Dev) : π.of (rxDiscard r p k d) = π.of d := by
  simp_all only [Part.off_one, Part.off_cons, rxDiscard, of_raise, of_setNetp, of_netCount, Part.of_ite, ite_self]

theorem of_engineGive (h : π.off [.ptp]) (r : Root) (n : Nat) (m : Nat × List Byte × List Byte) (s : Stamp) (d : Dev) :
    π.of (engineGive r n m s d) = π.of d := by
  simp_all only [Part.off_one, engineGive, of_setPtp, Part.of_ite, ite_self]

theorem of_noTarget (h : π.off [.evc, .net]) (r : Root) (d : Dev) : π.of (noTarget r d) = π.of d := by
  simp_all only [Part.off_one, Part.off_cons, noTarget, of_raise, of_clsCount]

theorem of_frameRecord (h : π.off [.regs, .parityBad, .page, .lines, .evc, .flt, .lnd, .net, .freeCtr]) (r : Root) (p c info : Nat) (l : List Byte) (s : Stamp) (d : Dev) :
    π.of (frameRecord r p c info l s d).1 = π.of d := by
  simp_all only [Part.off_one, Part.off_cons, and_self, frameRecord, of_produce, of_noTarget, Part.of_ite_fst, ite_self]

theorem of_flowDest (h : π.off [.regs, .parityBad, .page, .lines, .evc, .flt, .lnd, .mon, .log, .net, .ptp, .rx, .rxe, .freeCtr]) (r : Root) (p i : Nat) (l : List Byte) (s : Stamp) (d : Dev) :
    π.of (flowDest r p i l s d).1 = π.of d := by
  unfold flowDest
  dsimp only
  repeat' split
  all_goals simp_all only [Part.off_one, Part.off_cons, and_self, of_entryUse, of_clsCount, of_rxCopy, of_engineGive, of_noTarget, of_frameRecord]

theorem of_vifDest (h : π.off [.regs, .parityBad, .page, .lines, .evc, .flt, .lnd, .net, .freeCtr]) (r : Root) (p claim : Nat) (vs : List Nat) (l : List Byte) (s : Stamp) (d : Dev) :
    π.of (vifDest r p claim vs l s d).1 = π.of d := by
  simp_all only [Part.off_one, Part.off_cons, and_self, vifDest, of_frameRecord, Part.of_foldl_fst, implies_true]

theorem of_classify (h : π.off [.regs, .parityBad, .page, .lines, .evc, .flt, .lnd, .mon, .log, .net, .ptp, .rx, .rxe, .freeCtr]) (r : Root) (p : Nat) (l : List Byte) (s : Stamp) (d : Dev) :
    π.of (classify r p l s d).1 = π.of d := by
  unfold classify
  dsimp only
  repeat' split
  all_goals simp_all only [Part.off_one, Part.off_cons, and_self, of_raise, of_entryUse, of_clsCount, of_engineGive, of_frameRecord, of_flowDest, of_vifDest]

theorem of_frameArrive (h : π.off [.regs, .parityBad, .page, .lines, .evc, .flt, .lnd, .mon, .log, .net, .ptp, .rx, .rxe, .freeCtr]) (r : Root) (p : Nat) (l : List Byte) (pcsOk fcsOk fragOk preempted : Bool) (d : Dev) :
    π.of (frameArrive r p l pcsOk fcsOk fragOk preempted d).1 = π.of d := by
  unfold frameArrive
  dsimp only
  repeat' split
  all_goals simp_all only [Part.off_one, Part.off_cons, and_self, of_opportunity, of_netCount, of_rxDiscard, of_classify, Part.of_foldl, implies_true]

theorem of_frameReceive (h : π.off [.regs, .parityBad, .page, .lines, .evc, .flt, .lnd, .mon, .log, .net, .ptp, .srv, .ref, .rx, .rxe, .freeCtr]) (r : Root) (m : List Host.Cell) (p : Nat) (l : List Byte) (pcsOk fcsOk fragOk preempted : Bool) (d : Dev) :
    π.of (frameReceive r m p l pcsOk fcsOk fragOk preempted d).1 = π.of d := by
  simp_all only [Part.off_one, Part.off_cons, and_self, frameReceive, of_afterEna, of_frameArrive, implies_true]

/-! ### Operations of Machine/TrigFire -/

theorem of_trigPulse (h : π.off [.trg]) (r : Root) (p up down : Nat) (d : Dev) : π.of (trigPulse r p up down d) = π.of d := by
  simp_all only [Part.off_one, trigPulse, of_trgMap]

theorem of_trigLevel (h : π.off [.trg]) (r : Root) (n p edge : Nat) (high : Bool) (d : Dev) : π.of (trigLevel r n p edge high d) = π.of d := by
  simp_all only [Part.off_one, trigLevel, of_trgMap]

theorem of_payOwed (h : π.off [.evc, .lnd, .sap, .sapg, .tx, .rx, .freeCtr]) (r : Root) (d : Dev) (x : Owed) : π.of (payOwed r d x) = π.of d := by
  unfold payOwed
  split <;> simp_all only [Part.off_one, Part.off_cons, and_self, of_hbCfgHook, of_rxHook, of_sapCtrlHook, of_sapgCmd, of_txHook]

theorem of_gatedAct (h : π.off [.owed, .evc, .lnd, .sap, .sapg, .tx, .rx, .freeCtr]) (r : Root) (x : Owed) (d : Dev) :
    π.of (gatedAct r x d) = π.of d := by
  simp_all only [Part.off_one, Part.off_cons, and_self, gatedAct, of_payOwed, Part.of_with_owed, Part.of_ite, ite_self]

theorem of_payAll (h : π.off [.owed, .evc, .lnd, .sap, .sapg, .tx, .rx, .freeCtr]) (r : Root) (d : Dev) : π.of (payAll r d) = π.of d := by
  simp_all only [Part.off_one, Part.off_cons, and_self, payAll, of_payOwed, Part.of_with_owed, Part.of_foldl, implies_true]

theorem of_trigAct (h : π.off [.owed, .evc, .lnd, .net, .trg, .mcs, .rte, .sap, .sapg, .tx, .rx, .freeCtr]) (r : Root) (n : Nat) (t v : Int) (late : Bool) (d : Dev) :
    π.of (trigAct r n t v late d) = π.of d := by
  unfold trigAct
  dsimp only
  split <;> simp_all only [Part.off_one, Part.off_cons, and_self, of_rampStart, of_rteCommit, of_corRelease, of_trigPulse, of_trigLevel, of_gatedAct]

theorem of_trigFire (h : π.off [.owed, .evc, .lnd, .net, .trg, .mcs, .rte, .sap, .sapg, .tx, .rx, .freeCtr]) (r : Root) (n : Nat) (d : Dev) :
    π.of (trigFire r n d) = π.of d := by
  simp_all only [Part.off_one, Part.off_cons, and_self, trigFire, of_setTrig, of_evTrg, of_capInternal, of_trigAct, Part.of_ite, ite_self]

theorem of_admitDone (h : π.off [.hwSet, .evc, .lnd, .net, .sap, .tx, .txe, .rx, .rxe, .freeCtr]) (r : Root) (e : Admit) (d : Dev) :
    π.of (admitDone r e d) = π.of d := by
  simp_all only [Part.off_one, Part.off_cons, and_self, admitDone, of_corAdmitted, of_hbAdmitted, of_rxAdmitted, of_sapAdmitted, of_txAdmitted,
    Part.of_ite, ite_self]

theorem of_admissionEnd (h : π.off [.hwSet, .evc, .lnd, .net, .sap, .tx, .txe, .rx, .rxe, .freeCtr]) (r : Root) (d : Dev) :
    π.of (admissionEnd r d) = π.of d := by
  unfold admissionEnd
  dsimp only
  split <;> simp_all only [Part.off_one, Part.off_cons, and_self, of_lndMap, of_admitDone, Part.of_ite, ite_self]

/-! ### Operations of Machine/Power -/

theorem of_pwrMap (h : π.off [.pwr]) (d : Dev) (f : PwrSt → PwrSt) : π.of (Dev.pwrMap d f) = π.of d := by
  simp_all only [Part.off_one, Dev.pwrMap, Part.of_with_pwr]

theorem of_clkMap (h : π.off [.clk]) (d : Dev) (f : ClkSt → ClkSt) : π.of (Dev.clkMap d f) = π.of d := by
  simp_all only [Part.off_one, Dev.clkMap, Part.of_with_clk]

theorem of_with_restarted (h : π.off [.page, .lines, .hwSet, .evc, .tb, .mon, .log, .txe, .rxe]) (d : Dev) (a b c e f g i j k) :
    π.of { d with page := a, lines := b, hwSet := c, evc := e, tb := f, mon := g, log := i, txe := j, rxe := k } = π.of d :=
  Part.of_congr (by revert h; cases π <;> simp [Part.same, Part.off])

theorem of_with_era (h : π.off [.gal, .lnd, .ptp, .mcs, .fb, .chan, .sap]) (d : Dev) (a b c e f g i) :
    π.of { d with gal := a, lnd := b, ptp := c, mcs := e, fb := f, chan := g, sap := i } = π.of d :=
  Part.of_congr (by revert h; cases π <;> simp [Part.same, Part.off])

theorem of_ecRestart (h : π.off [.page, .lines, .hwSet, .gal, .evc, .tb, .lnd, .mon, .log, .net, .trg, .ptp, .ref, .mcs, .fb, .chan, .rte, .sap, .sapg, .tx, .txe, .rx, .rxe, .freeCtr]) (r0 r : Root) (c : Nat) (d : Dev) :
    π.of (ecRestart r0 r c d) = π.of d := by
  simp_all only [Part.off_one, Part.off_cons, and_self, ecRestart, of_raise, of_netMap, of_setTimeState, of_restartViews, of_trgRestart,
    of_refRestart, of_delayKeep, of_rteRestart, of_rxRestart, of_sapRestart, of_txRestart, of_gateHook, Part.of_foldl, implies_true,
    of_with_restarted, of_with_era]

theorem of_ptpLocal (h : π.off [.regs, .parityBad]) (r : Root) (n : Nat) (d : Dev) : π.of (ptpLocal r n d) = π.of d := by
  simp_all only [Part.off_one, Part.off_cons, and_self, ptpLocal, of_setReg]

theorem of_wakeReport (h : π.off [.evc, .pwr]) (r : Root) (src cause ms : Nat) (d : Dev) : π.of (wakeReport r src cause ms d) = π.of d := by
  simp_all only [Part.off_one, Part.off_cons, wakeReport, of_raise, of_pwrMap]

theorem of_xoLoss (h : π.off [.evc, .clk]) (r : Root) (d : Dev) : π.of (xoLoss r d) = π.of d := by
  simp_all only [Part.off_one, Part.off_cons, xoLoss, of_raise, of_clkMap, Part.of_ite, ite_self]

theorem of_pllUnlock (h : π.off [.evc, .clk]) (r : Root) (d : Dev) : π.of (pllUnlock r d) = π.of d := by
  simp_all only [Part.off_one, Part.off_cons, pllUnlock, of_raise, of_clkMap]

theorem of_sleepRefuse (h : π.off [.pwr, .freeCtr]) (t why : Nat) (d : Dev) : π.of (sleepRefuse t why d) = π.of d := by
  simp_all only [Part.off_one, Part.off_cons, sleepRefuse, of_drew, of_pwrMap, Part.of_ite, ite_self]

theorem of_sleepAbort (h : π.off [.evc, .pwr]) (r : Root) (t fired : Nat) (d : Dev) : π.of (sleepAbort r t fired d) = π.of d := by
  simp_all only [Part.off_one, Part.off_cons, sleepAbort, of_raise, of_pwrMap]

theorem of_padsDown (h : π.off [.trg, .sap]) (d : Dev) : π.of (padsDown d) = π.of d := by
  simp_all only [Part.off_one, Part.off_cons, padsDown, of_trgMap, Part.of_with_sap]

theorem of_wakeFor (h : π.off [.hif]) (fired : Nat) (d : Dev) : π.of (wakeFor fired d) = π.of d := by
  simp_all only [Part.off_one, wakeFor, of_wakeGals, Part.of_ite, ite_self, Part.of_foldl, implies_true]

theorem of_latchEntry (h : π.off [.pwr]) (i : Nat) (d : Dev) : π.of (latchEntry i d) = π.of d := by
  simp_all only [Part.off_one, latchEntry, of_pwrMap]

theorem of_srcAfterDoze (h : π.off [.page, .lines, .hif, .evc, .pwr]) (r : Root) (d : Dev) (n : Nat) : π.of (srcAfterDoze r d n) = π.of d := by
  unfold srcAfterDoze
  split <;> simp_all only [Part.off_one, Part.off_cons, and_self, of_toPending]

theorem of_with_hif_evc_clk_lnd_net_trg_rails (h : π.off [.hif, .evc, .clk, .lnd, .net, .trg, .rails]) (D : Dev) (x y z u v w a) :
    π.of { D with hif := x, evc := y, clk := z, lnd := u, net := v, trg := w, rails := a } = π.of D :=
  Part.of_congr (by revert h; cases π <;> simp [Part.same, Part.off])

theorem of_afterDoze (h : π.off [.page, .lines, .hif, .evc, .pwr, .clk, .lnd, .net, .trg, .ptp, .srv, .ref, .rails]) (r : Root) (d : Dev) :
    π.of (afterDoze r d) = π.of d := by
  simp_all only [Part.off_one, Part.off_cons, and_self, afterDoze, of_setPtp, of_ptpDiscard, of_ptpLinkLost, of_srcAfterDoze,
    of_with_hif_evc_clk_lnd_net_trg_rails, Part.of_foldl, implies_true]

/-! ### Operations of Machine/Access -/

theorem of_latch (h : π.off [.rshadow]) (g a : Nat) (ws : List Word) (d : Dev) : π.of (latch g a ws d) = π.of d := by
  simp_all only [Part.off_one, latch, Part.of_with_rshadow]

theorem of_readEffect (h : π.off [.regs, .parityBad, .perGal, .evc, .mon, .log, .trg]) (r : Root) (g : Nat) (b : Blk) (o : Nat) (w : Word) (d : Dev) :
    π.of (readEffect r g b o w d).2 = π.of d := by
  unfold readEffect
  split <;> simp_all only [Part.off_one, Part.off_cons, and_self, of_setOwn, of_claim, of_capRecHook, Part.of_ite_snd, ite_self]

theorem of_readWord (h : π.off [.regs, .parityBad, .rshadow, .perGal, .evc, .mon, .log, .trg]) (r : Root) (g a : Nat) (d : Dev) :
    π.of (readWord r g a d).2 = π.of d := by
  unfold readWord
  repeat' split
  all_goals simp_all only [Part.off_one, Part.off_cons, and_self, of_latch, of_readEffect]

theorem of_setWsh (h : π.off [.wshadow]) (d : Dev) (g a : Nat) (m : SMap Word) : π.of (Dev.setWsh d g a m) = π.of d := by
  simp_all only [Part.off_one, Dev.setWsh, Part.of_with_wshadow]

theorem of_storeWords (h : π.off [.regs, .parityBad]) (b : Blk) (o : Nat) (ws : List Word) (d : Dev) : π.of (storeWords b o ws d) = π.of d := by
  simp_all only [Part.off_one, Part.off_cons, and_self, storeWords, of_setReg, Part.of_foldl_snd, implies_true]

theorem of_headerWrite (h : π.off [.regs, .parityBad, .page, .lines]) (r : Root) (g : Nat) (b : Blk) (o : Nat) (w : Word) (d : Dev) :
    π.of (headerWrite r g b o w d) = π.of d := by
  unfold headerWrite
  split <;> simp_all only [Part.off_one, Part.off_cons, and_self, of_setReg, of_clearFaults, of_armRule]

theorem of_setTsh (h : π.off [.tshadow]) (d : Dev) (g : Nat) (t : Tbl) (m : SMap Word) : π.of (Dev.setTsh d g t m) = π.of d := by
  simp_all only [Part.off_one, Dev.setTsh, Part.of_with_tshadow]

theorem of_pwDone (h : π.off [.regs, .eff, .parityBad, .page, .lines, .posted, .evc, .mcs, .freeCtr]) (r : Root) (b : Blk) (p : Posted) (d0 : Dev) :
    π.of (pwDone r b p d0) = π.of d0 := by
  unfold pwDone
  split <;> simp_all only [Part.off_one, Part.off_cons, and_self, of_setPwv, of_setPost, of_pageUse, of_setMcs, of_mcsCtrlHook, of_mcsFreqHook, of_outCfgHook,
    of_outDelayHook, Part.of_ite, ite_self, Part.of_foldl_snd, implies_true]

/-! ### Operations of Machine/Qspi -/

theorem of_aptFault (h : π.off [.gal, .evc]) (r : Root) (g : Nat) (segs : List (Option (Nat × Nat) × Nat)) (d : Dev) :
    π.of (aptFault r g segs d) = π.of d := by
  simp_all only [Part.off_one, Part.off_cons, aptFault, of_raise, of_galMap, Part.of_ite, ite_self]

theorem of_aptRead (h : π.off [.gal, .evc, .lnd, .freeCtr]) (r : Root) (m : List Host.Cell) (g off n : Nat) (d : Dev) :
    π.of (aptRead r m g off n d).2 = π.of d := by
  simp only [Part.off_one, Part.off_cons] at h
  refine (Part.of_foldl_snd (fun x p => ?_) _ _).trans (of_aptFault (by simp_all only [Part.off_one, Part.off_cons, and_self]) ..)
  split
  next => rfl
  next q _ => exact of_lndRead (by simp_all only [Part.off_one, Part.off_cons, and_self]) r m q.1 q.2 p.2 x.2

theorem of_aptWrite (h : π.off [.gal, .evc, .lnd, .freeCtr]) (r : Root) (g off : Nat) (bytes : List Byte) (d : Dev) :
    π.of (aptWrite r g off bytes d).1 = π.of d := by
  simp only [Part.off_one, Part.off_cons] at h
  refine (Part.of_foldl_at (fun x : List Byte × Eff => x.2.1) (fun x p => ?_) _ _).trans
    (of_aptFault (by simp_all only [Part.off_one, Part.off_cons, and_self]) ..)
  dsimp only
  split
  next => rfl
  next => exact of_lndWrite (by simp_all only [Part.off_one, Part.off_cons, and_self]) ..

theorem of_drive (h : π.off [.hif]) (q : Nat) (l : List Byte) (d : Dev) : π.of (drive q l d) = π.of d := by
  simp_all only [Part.off_one, drive, of_hifMap]

theorem of_velRefuse (h : π.off [.hif]) (f : Frame) (q : Nat) (st : Vst) (d : Dev) : π.of (velRefuse f q st d) = π.of d := by
  simp_all only [Part.off_one, velRefuse, of_drive]

theorem of_readBurst (h : π.off [.regs, .parityBad, .rshadow, .perGal, .gal, .evc, .lnd, .mon, .log, .trg, .freeCtr]) (r : Root) (g : Nat) (f : Frame) (m : List Host.Cell) (d : Dev) :
    π.of (readBurst r g f m d).2 = π.of d := by
  simp_all only [Part.off_one, Part.off_cons, and_self, readBurst, of_readWord, of_aptRead, Part.of_ite_snd, ite_self, Part.of_foldl_snd,
    implies_true]

theorem of_velAsleep (h : π.off [.hif]) (r : Root) (q : Nat) (f : Frame) (d : Dev) : π.of (velAsleep r q f d) = π.of d := by
  simp_all only [Part.off_one, velAsleep, of_drive, of_velRefuse, Part.of_ite, ite_self]

end

end Sys2Proof.Machine

/-! What accesses, power commands and each command leave alone. -/

namespace Sys2Proof.Machine

section
variable {π : Part}

/-! ### Accesses (R37, R47 to R51, R78) -/

theorem Part.off.mono {l m : List Part} (h : π.off l) (hs : ∀ q ∈ m, q ∈ l) : π.off m := fun hm => h (hs _ hm)

/-- What acts when a gated block takes up what hosts asked of it (R374). -/
def Owed.parts : Owed → List Part
  | .sap .. => [.evc, .lnd, .sap, .freeCtr]
  | .group .. => [.sap, .sapg]
  | .tx .. => [.lnd, .tx]
  | .rx .. => [.lnd, .rx]
  | .hb _ => [.lnd]

theorem of_payOwed_parts (r : Root) (d : Dev) (x : Owed) (h : π.off x.parts) : π.of (payOwed r d x) = π.of d := by
  cases x with
  | sap n set => exact of_sapCtrlHook h ..
  | group stop w => exact of_sapgCmd h ..
  | tx g s => exact of_txHook h ..
  | rx g s => exact of_rxHook h ..
  | hb b => exact of_hbCfgHook h ..

theorem of_gatedAct_parts (r : Root) (x : Owed) (d : Dev) (h : π.off (.owed :: x.parts)) : π.of (gatedAct r x d) = π.of d := by
  have hx : π.off x.parts := h.mono (by simp_all)
  have ho : π.isnt .owed := Part.off_one.mp (h.mono (by simp_all))
  simp only [gatedAct, Part.of_ite, of_payOwed_parts r d x hx, Part.of_with_owed d ho, ite_self]

theorem off_regParts {b : Blk} : π.off (regParts b) ↔
    π.off [.regs, .parityBad, .page, .lines, .posted, .wshadow, .evc] ∧ π.off (blkParts b) := by
  simp only [regParts, Part.off, List.mem_append, not_or]

theorem off_tblParts {t : Tbl} (h : π.off (tblParts t)) : π.off [.regs, .parityBad, .page, .lines, .tshadow, .evc] :=
  h.mono fun _ hq => List.mem_append_left _ hq

/-- The lists of parts as single parts. -/
theorem Part.off_nil : π.off [] ↔ True := by simp [Part.off]

/-- A strobe reaches its page's parts. -/
theorem of_strobe (r : Root) (g : Nat) (b : Blk) (o : Nat) (w : Word) (d : Dev) (h : π.off (regParts b)) : π.of (strobe r g b o w d).1 = π.of d := by
  rw [off_regParts] at h
  have group : π.off [.owed, .sap, .sapg] → ∀ d, π.of (gatedAct r (.group (o == 0x044) w) d) = π.of d := fun hx d => of_gatedAct_parts r _ d hx
  cases b <;>
    simp_all only [blkParts, Part.off_one, Part.off_cons, Part.off_nil, and_self, strobe, eff, Part.of_with_sealed, of_claimCmd, of_galReset, of_evtWrite,
      of_lndCmd, of_setCor, of_corPtr, of_mdioCmd, of_netCmd, of_clsCmd, of_srvRestart, of_trigBits, of_trigArm, of_trigStop, of_refCmd, of_mcsCmd,
      of_txeCmd, of_txeMap, of_rxeCmd, of_rxeMap, of_rteCmd, of_sapCmd, of_monSnap, of_alarmClear, of_fltCmd, Part.of_ite, Part.of_ite_fst, ite_self, Part.of_foldl,
      implies_true]

/-- A write of a register that its block keeps in state of its own reaches its page's parts. -/
theorem of_blockWrite (r : Root) (g : Nat) (b : Blk) (o : Nat) (w : Word) (d : Dev) (h : π.off (regParts b)) :
    π.of (blockWrite r g b o w d).1 = π.of d := by
  rw [off_regParts] at h
  cases b <;>
    simp_all only [blkParts, Part.off_one, Part.off_cons, Part.off_nil, and_self, blockWrite, eff, of_partWrite, of_hifMap, of_evcWrite, of_evtWrite,
      of_setOwn, of_hbPtrHook, of_corPtr, of_flushPending, of_corCfg, Part.of_ite, Part.of_ite_fst, ite_self]

/-- What follows a write of a stored register reaches its page's parts. -/
theorem of_afterWrite (r : Root) (m : List Host.Cell) (b : Blk) (o : Nat) (old new : List Word) (raw : Word) (d : Dev) (h : π.off (regParts b)) :
    π.of (afterWrite r m b o old new raw d).1 = π.of d := by
  rw [off_regParts] at h
  have buffer : π.off [.owed, .lnd] → ∀ d n, π.of (gatedAct r (.hb n) d) = π.of d := fun hx d n => of_gatedAct_parts r _ d hx
  have port : π.off [.owed, .evc, .lnd, .sap, .freeCtr] → ∀ d n set, π.of (gatedAct r (.sap n set) d) = π.of d :=
    fun hx d n set => of_gatedAct_parts r _ d hx
  cases b <;>
    simp_all only [blkParts, Part.off_one, Part.off_cons, Part.off_nil, and_self, afterWrite, eff, of_hifMap, of_withdrawLost, of_decide,
      of_netCtrlHook, of_overcommit, of_gateHook, of_reckon, of_viewSetHook, of_ptpCtrlHook, of_parentHook, of_srvCtrlHook, of_capCfgHook,
      of_preferredHook, of_refInHook, of_todHook, of_rateHook, of_genHook, Part.of_ite, Part.of_ite_fst, ite_self]

/-- A register or group that takes new words reaches its page's parts. -/
theorem of_storeAct (r : Root) (m : List Host.Cell) (b : Blk) (o : Nat) (new : List Word) (raw : Word) (d : Dev) (h : π.off (regParts b)) :
    π.of (storeAct r m b o new raw d).1 = π.of d := by
  have hw : π.off [.regs, .parityBad] := h.mono (by simp [regParts])
  have hp : π.off [.page, .lines] := h.mono (by simp [regParts])
  have hn : b = .shp → π.off [.net] := fun hb => h.mono (by simp [hb, regParts, blkParts])
  simp only [storeAct, of_afterWrite _ _ _ _ _ _ _ _ h, of_pageUse hp, of_storeWords hw]
  split
  next hb => exact of_reckon (hn hb) ..
  next => rfl

/-- A write that passed every check reaches its page's parts. -/
theorem of_regWrite (r : Root) (m : List Host.Cell) (g : Nat) (b : Blk) (o : Nat) (x : Reg) (w : Word) (d : Dev) (h : π.off (regParts b)) :
    π.of (regWrite r m g b o x w d).1 = π.of d := by
  obtain ⟨hpage, hblk⟩ := off_regParts.mp h
  simp only [Part.off_one, Part.off_cons] at hpage
  have hsleep : b = .gal → π.off [.regs, .parityBad, .hif] := fun hb => h.mono (by simp [hb, regParts, blkParts])
  have hpwr : b = .pwr → π.isnt .pwr := fun hb => Part.off_one.mp (hblk.mono (by simp [hb, blkParts]))
  have htbe : b = .tbe → π.isnt .tb := fun hb => Part.off_one.mp (hblk.mono (by simp [hb, blkParts]))
  have hstore := fun new raw d => of_storeAct r m b o new raw d h
  unfold regWrite
  repeat' split
  all_goals simp_all only [eff, of_headerWrite, of_strobe, of_pageUse, of_blockWrite, of_setReg, of_setPost, of_setWsh, of_storeWords, of_hostSleep,
    of_pwrMap, of_viewRefuse, Part.of_with_parityBad, Part.off_one, Part.off_cons, and_self, true_and, forall_const]

/-- What follows a commit of an entry, apart from the commit itself. -/
def entryParts : Tbl → List Part
  | .route0 | .route1 => [.evc, .rte]
  | .txs => [.owed, .lnd, .tx]
  | .rxs => [.owed, .lnd, .rx]
  | .monslot => [.regs, .parityBad, .mon]
  | .flow | .hist | .alarm => []

theorem entryParts_sub (t : Tbl) : ∀ q ∈ entryParts t, q ∈ tblParts t := by cases t <;> decide

/-- What follows a commit of an entry reaches these parts. -/
theorem of_afterEntry (r : Root) (g : Nat) (t : Tbl) (e : Nat) (old new : List Word) (d : Dev) (h : π.off (entryParts t)) :
    π.of (afterEntry r g t e old new d) = π.of d := by
  cases t with
  | route0 | route1 => exact of_routeHook h ..
  | txs | rxs => exact of_gatedAct_parts r _ d h
  | monslot => exact of_monCommit h ..
  | flow | hist | alarm => rfl

/-- A commit of an entry reaches its region's parts. -/
theorem of_entryCommit (r : Root) (g : Nat) (t : Tbl) (e : Nat) (w : Word) (d : Dev) (h : π.off (tblParts t)) :
    π.of (entryCommit r g t e w d) = π.of d := by
  have hp : π.off [.page, .lines] := h.mono (by simp [tblParts])
  have hw : π.off [.regs, .parityBad] := h.mono (by simp [tblParts])
  have hs : π.off [.tshadow] := h.mono (by simp [tblParts])
  simp only [entryCommit, of_afterEntry _ _ _ _ _ _ _ (h.mono (entryParts_sub t))]
  rw [Part.of_foldl_snd fun x w => of_setTw hw .., of_setTsh hs, Part.of_foldl fun x f => of_fault hp ..]

/-- A write of a word reaches the parts of what stands at its address. -/
theorem of_writeWord (r : Root) (m : List Host.Cell) (g a : Nat) (w : Word) (narrow : Bool) (d : Dev) (h : π.off (wordParts a)) :
    π.of (writeWord r m g a w narrow d).2.1 = π.of d := by
  have hp : π.off [.page, .lines] := h.mono (by
    unfold wordParts
    split <;> simp [regParts, tblParts])
  have hf : ∀ b k, π.of (fault r b k g a d) = π.of d := fun b k => of_fault hp ..
  unfold writeWord
  split
  next => exact hf ..
  next =>
    unfold wordParts at h
    split
    next => exact hf ..
    next t e i hpl =>
      simp only [hpl] at h
      have hs : π.off [.tshadow] := h.mono (by simp [tblParts])
      repeat' split
      all_goals simp only [eff, hf, of_setTsh hs, of_entryCommit _ _ _ _ _ _ h]
    next b o hpl =>
      simp only [hpl] at h
      repeat' split
      all_goals simp only [eff, hf, of_regWrite _ _ _ _ _ _ _ _ h]

/-- Every part that a write of some word can reach. -/
def anyWordParts : List Part :=
  [.regs, .parityBad, .page, .lines, .owed, .posted, .sealed, .rshadow, .wshadow, .tshadow, .perGal, .gal, .hif, .evc, .pwr, .tb, .flt, .lnd, .mon, .log,
   .net, .trg, .ptp, .srv, .ref, .mcs, .chan, .rte, .sap, .sapg, .tx, .txe, .rx, .rxe, .freeCtr]

theorem wordParts_subset (a : Nat) : ∀ q ∈ wordParts a, q ∈ anyWordParts := by
  unfold wordParts
  split
  next b o _ => cases b <;> simp [regParts, blkParts, anyWordParts]
  next t e i _ => cases t <;> simp [tblParts, anyWordParts]
  next => simp [anyWordParts]

/-- A burst of writes through a Velgelet. -/
theorem of_writeBurst (h : π.off anyWordParts) (r : Root) (g : Nat) (f : Frame) (m : List Host.Cell) (d : Dev) :
    π.of (writeBurst r g f m d).2.1 = π.of d := by
  have hapt : π.off [.gal, .evc, .lnd, .freeCtr] := h.mono (by decide)
  refine Part.of_foldl_at (fun x : Nat × Bool × List Host.Cell × Eff => x.2.2.2.1) (fun x w => ?_) _ _
  dsimp only
  split
  next => exact of_aptWrite hapt ..
  next => exact of_writeWord _ _ _ _ _ _ _ (h.mono (wordParts_subset x.1))

/-- A frame of a Velgelet, with what its burst of reads or writes reaches. -/
theorem of_velFrame (h : π.off [.regs, .parityBad, .page, .lines, .hif, .evc, .flt]) (r : Root) (q : Nat) (f : Frame) (m : List Host.Cell) (d : Dev)
    (hw : f.op = .wr → ∀ d, π.of (writeBurst r (4 + q) f m d).2.1 = π.of d) (hr : f.op = .rd → ∀ d, π.of (readBurst r (4 + q) f m d).2 = π.of d) :
    π.of (velFrame r q f m d).1 = π.of d := by
  have hhif : π.off [.hif] := h.mono (by decide)
  have hevc : π.off [.evc] := h.mono (by decide)
  have hstart : π.of (opportunity r .hif q (pageUse r .hif [0x050 + 4 * q] d)) = π.of d :=
    (of_opportunity (h.mono (by decide)) ..).trans (of_pageUse (h.mono (by decide)) ..)
  unfold velFrame
  dsimp only
  repeat' split
  all_goals simp_all only [eff, of_velRefuse, of_drive, of_raise, of_hifMap]

/-- Consecutive reads reach what a read of a word can (R36). -/
theorem of_readWords (h : π.off [.regs, .parityBad, .rshadow, .perGal, .evc, .mon, .log, .trg]) (r : Root) (g a n : Nat) (d : Dev) :
    π.of (readWords r g a n d).2 = π.of d := by
  induction n generalizing a d with
  | zero => rfl
  | succ n ih => exact (ih _ _).trans (of_readWord h ..)

/-- A read of a register reaches its read shadow and what the read sets off (R47). -/
theorem of_readWord_reg {r : Root} {g a : Nat} {b : Blk} {o : Nat} {x : Reg} {d : Dev} (hpl : place a = .reg b o) (hx : b.reg o = some x)
    (hl : x.ty = .ro ∨ π.off [.rshadow]) (he : ∀ w d, π.of (readEffect r g b o w d).2 = π.of d) : π.of (readWord r g a d).2 = π.of d := by
  simp only [readWord, hpl, hx]
  split
  all_goals simp_all only [of_latch, reduceCtorEq, false_or]

end

/-! ### Power commands (R368 to R385)

What a start of the core, or its loss, leaves alone are levels of pads, and the model's own count of free values. -/

theorem Part.off.of {p : Part} {l : List Part} (h : p ∉ l) : p.off l := h

theorem of_freshDev {π : Part} (h : π = .phyPads ∨ π = .rails ∨ π = .freeCtr) (kw kh : Bool) (d : Dev) : π.of (freshDev kw kh d) = π.of d := by
  rcases h with rfl | rfl | rfl <;> rfl

theorem phyPads_bringUp (kw kh : Bool) (st : Straps) (s : State) :
    Part.phyPads.of (bringUp kw kh st s).dev = Part.phyPads.of s.dev := by
  have hevt : Part.phyPads.off [.regs, .parityBad, .page, .lines, .hif, .evc, .pwr, .log] := .of (by decide)
  have hevc : Part.phyPads.off [.evc] := .of (by decide)
  have hreg : Part.phyPads.off [.regs, .parityBad] := .of (by decide)
  unfold bringUp
  dsimp only
  simp only [of_raise hevc, Part.of_ite, of_eventEdge hevt, Part.of_foldl fun x n => of_ptpLocal hreg _ n x, ite_self]
  rfl

theorem phyPads_startUp (kw kh : Bool) (st : Straps) (s : State) : Part.phyPads.of (startUp kw kh st s).dev = Part.phyPads.of s.dev := by
  unfold startUp
  split
  · rfl
  · exact phyPads_bringUp ..

/-- A start that reports the wake once the core runs. -/
theorem phyPads_startUp_report (kw kh : Bool) (st : Straps) (s : State) (src cause ms : Nat) :
    Part.phyPads.of (if (startUp kw kh st s).root.power = .run then
      { startUp kw kh st s with dev := wakeReport (startUp kw kh st s).root src cause ms (startUp kw kh st s).dev } else startUp kw kh st s).dev =
    Part.phyPads.of s.dev := by
  split
  · exact (of_wakeReport (.of (by decide)) ..).trans (phyPads_startUp ..)
  · exact phyPads_startUp ..

theorem phyPads_powerUp (st : Straps) (s : State) : Part.phyPads.of (powerUp st s).dev = Part.phyPads.of s.dev := by
  unfold powerUp
  split
  · exact phyPads_startUp ..
  · rfl

theorem phyPads_enRise (st : Straps) (s : State) : Part.phyPads.of (enRise st s).dev = Part.phyPads.of s.dev := by
  unfold enRise
  split
  · exact phyPads_startUp_report ..
  · rfl

theorem phyPads_rstRelease (st : Straps) (s : State) : Part.phyPads.of (rstRelease st s).dev = Part.phyPads.of s.dev := by
  unfold rstRelease
  split
  · dsimp only
    split
    · rfl
    · exact phyPads_bringUp ..
  · rfl

theorem phyPads_wakeComplete (st : Straps) (s : State) : Part.phyPads.of (wakeComplete st s).dev = Part.phyPads.of s.dev := by
  unfold wakeComplete
  split
  next =>
    dsimp only
    rw [of_wakeReport (.of (by decide)), of_payAll (.of (by decide)), Part.of_foldl fun x n => of_mcsWake (.of (by decide)) .., of_ecRestart (.of (by decide)),
      of_pcieReset (.of (by decide)), of_afterDoze (.of (by decide))]
  next => exact phyPads_startUp_report ..
  next => rfl

section
variable {π : Part}

theorem of_vinLost (h : π = .phyPads ∨ π = .freeCtr) (s : State) : π.of (vinLost s).dev = π.of s.dev := by
  rcases h with rfl | rfl <;> rfl

theorem of_enLow (h : π = .phyPads ∨ π = .freeCtr) (s : State) : π.of (enLow s).dev = π.of s.dev := by
  unfold enLow
  split
  · rfl
  · rcases h with rfl | rfl <;> rfl

theorem of_rstFalls (h : π = .phyPads ∨ π = .rails ∨ π = .freeCtr) (s : State) : π.of (rstFalls s).dev = π.of s.dev := by
  unfold rstFalls
  split
  · rfl
  · rfl
  · rfl
  · rcases h with rfl | rfl | rfl <;> rfl

theorem of_setRail (h : π.off [.rails]) (i : Nat) (b : Bool) (s : State) : π.of (setRail i b s).dev = π.of s.dev :=
  Part.of_with_rails s.dev (Part.off_one.mp h) _

theorem of_vioUnder (h : π = .phyPads ∨ π = .freeCtr) (b : Nat) (s : State) : π.of (vioUnder b s).dev = π.of s.dev := by
  have hr : π.of (setRail (3 + b) true s).dev = π.of s.dev := of_setRail (by rcases h with rfl | rfl <;> exact .of (by decide)) ..
  unfold vioUnder
  dsimp only
  split
  · exact (of_rstFalls (h.imp_right .inr) _).trans hr
  · exact hr

theorem of_vinWarn (h : π.off [.evc, .pwr]) (b : Bool) (s : State) : π.of (vinWarn b s).dev = π.of s.dev := by
  unfold vinWarn
  split
  · rfl
  · exact (of_raiseIf (h.mono (by decide)) ..).trans (of_pwrMap (h.mono (by decide)) ..)

/-- The commit of a sleep command. -/
theorem of_sleepCommit (h : π.off [.eff, .posted, .evc, .pwr, .trg, .sap, .freeCtr]) (s : State) : π.of (sleepCommit s).dev = π.of s.dev := by
  simp only [Part.off_one, Part.off_cons] at h
  unfold sleepCommit
  dsimp only
  repeat' split
  all_goals simp_all only [of_setPost, of_setPwv, of_pwrMap, of_sleepRefuse, of_sleepAbort, of_padsDown, Part.off_one, Part.off_cons, and_self]

theorem of_quietEnter (h : π.off [.evc, .ref, .sap]) (s : State) : π.of (quietEnter s).dev = π.of s.dev := by
  unfold quietEnter
  split
  · dsimp only
    exact Part.of_foldl (fun x n => of_sapStop h s.root n x) _ _
  · rfl

theorem of_quietExit (h : π.off [.owed, .evc, .lnd, .sap, .sapg, .tx, .rx, .freeCtr]) (s : State) : π.of (quietExit s).dev = π.of s.dev := by
  unfold quietExit
  split
  · exact of_payAll h ..
  · rfl

theorem of_powerDown (h : π = .phyPads ∨ π = .freeCtr) (s : State) : π.of (powerDown s).dev = π.of s.dev := by
  have hwake : π.off [.hif] := by rcases h with rfl | rfl <;> exact .of (by decide)
  unfold powerDown
  split
  next =>
    refine (of_wakeFor hwake ..).trans ?_
    rcases h with rfl | rfl <;> split <;> rfl
  next => rfl

theorem of_dozeWake (h : π.off [.hif, .pwr]) (i : Nat) (rising : Bool) (ms : Nat) (s : State) : π.of (dozeWake i rising ms s).dev = π.of s.dev := by
  simp only [Part.off_one, Part.off_cons] at h
  unfold dozeWake
  dsimp only
  split
  · simp_all only [of_pwrMap, of_wakeGals, of_latchEntry, Part.off_one]
  · rfl

theorem of_watchEntry (h : π.off [.page, .lines, .hif, .pwr, .freeCtr]) (i : Nat) (rising : Bool) (s : State) :
    π.of (watchEntry i rising s).dev = π.of s.dev := by
  simp only [Part.off_one, Part.off_cons] at h
  unfold watchEntry
  dsimp only
  repeat' split
  all_goals simp_all only [of_pageUse, of_watchFire, of_latchEntry, of_wakeGals, of_drew, of_pwrMap, Part.off_one, Part.off_cons, and_self]

theorem of_ecWrapped (h : π.off [.page, .lines, .hwSet, .gal, .evc, .tb, .lnd, .mon, .log, .net, .trg, .ptp, .ref, .mcs, .fb, .chan, .rte, .sap, .sapg, .tx, .txe, .rx, .rxe, .freeCtr])
    (s : State) : π.of (ecWrapped s).dev = π.of s.dev := by
  unfold ecWrapped
  split
  · exact of_ecRestart h ..
  · rfl

theorem of_pwComplete (h : π.off [.regs, .eff, .parityBad, .page, .lines, .posted, .evc, .pwr, .trg, .mcs, .sap, .freeCtr]) (b : Blk) (s : State) :
    π.of (pwComplete b s).dev = π.of s.dev := by
  unfold pwComplete
  repeat' split
  · rfl
  · exact of_sleepCommit (h.mono (by decide)) s
  · exact of_pwDone (h.mono (by decide)) ..

end

/-! ### Each command (R37, 95) -/

section
variable {π : Part}

/-- An outcome whose state has the part that `s` has. -/
def Keeps (π : Part) (s : State) (o : Host.Outcome State Fault Refusal) : Prop := ∀ t, o = .next t → π.of t.dev = π.of s.dev

theorem keeps_next {s t : State} (h : π.of t.dev = π.of s.dev) : Keeps π s (.next t) := by
  rintro _ ⟨⟩
  exact h

theorem ite_keeps {c : Prop} [Decidable c] {s : State} {x y : Host.Outcome State Fault Refusal} (hx : Keeps π s x) (hy : Keeps π s y) :
    Keeps π s (if c then x else y) := by
  split
  · exact hx
  · exact hy

theorem onDev_keeps {f : Root → Dev → Dev} {s : State} (h : π.of (f s.root s.dev) = π.of s.dev) : Keeps π s (onDev f s) :=
  ite_keeps (keeps_next h) (keeps_next rfl)

theorem onDevMem_keeps {f : Root → List Host.Cell → Dev → Dev} {s : State} (h : π.of (f s.root s.mem s.dev) = π.of s.dev) :
    Keeps π s (onDevMem f s) := onDev_keeps h

theorem onMem_keeps {f : Root → List Host.Cell → Dev → Dev × List MemWr} {s : State} (h : π.of (f s.root s.mem s.dev).1 = π.of s.dev) :
    Keeps π s (onMem f s) := ite_keeps (keeps_next h) (keeps_next rfl)

theorem onRun_keeps {f : Root → Dev → Dev} {s : State} (h : π.of (f s.root s.dev) = π.of s.dev) : Keeps π s (onRun f s) :=
  ite_keeps (keeps_next h) (keeps_next rfl)

theorem onRunMem_keeps {f : Root → List Host.Cell → Dev → Dev × List MemWr} {s : State} (h : π.of (f s.root s.mem s.dev).1 = π.of s.dev) :
    Keeps π s (onRunMem f s) := ite_keeps (keeps_next h) (keeps_next rfl)

theorem onWrite_keeps {g a : Nat} {w : Word} {narrow : Bool} {s : State} (h : π.off (wordParts a)) : Keeps π s (onWrite g a w narrow s) :=
  onMem_keeps (by
    split
    · exact of_writeWord _ _ _ _ _ _ _ h
    · rfl)

theorem onWrite64_keeps {g a : Nat} {lo hi : Word} {s : State} (h : π.off (wordParts a ++ wordParts (a + 4))) : Keeps π s (onWrite64 g a lo hi s) :=
  onMem_keeps (by
    split
    · exact (of_writeWord _ _ _ _ _ _ _ (h.mono fun _ hq => List.mem_append_right _ hq)).trans
        (of_writeWord _ _ _ _ _ _ _ (h.mono fun _ hq => List.mem_append_left _ hq))
    · rfl)

theorem onReg_keeps {g o : Nat} {b : Blk} {w : Word} {s : State} (hb : b ∈ Blk.all) (ho : o < 0x1000) (h : π.off (regParts b)) :
    Keeps π s (onReg g b o w s) :=
  onWrite_keeps (by simpa only [wordParts, place_addr b o hb ho] using h)

theorem onEntry_keeps {g e : Nat} {t : Tbl} {w : Word} {s : State} (he : e < t.entries) (h : π.off (tblParts t)) :
    Keeps π s (onEntry g t e w s) :=
  onWrite_keeps (by simpa only [wordParts, place_table t e he] using h)

theorem onRead_keeps {g a n : Nat} {s : State} (hh : π.off [.hif]) (h : ∀ k, π.of (readWords s.root g (a / 4 * 4) k s.dev).2 = π.of s.dev) :
    Keeps π s (onRead g a n s) :=
  onDev_keeps (by
    split
    · exact (of_hifMap hh ..).trans (h _)
    · rfl)

/-- A read of a whole register. -/
theorem onRead_reg_keeps {g o : Nat} {b : Blk} {x : Reg} {s : State} (hb : b ∈ Blk.all) (ho : o < 0x1000) (h4 : o % 4 = 0) (hx : b.reg o = some x)
    (hh : π.off [.hif]) (hl : x.ty = .ro ∨ π.off [.rshadow]) (he : ∀ w d, π.of (readEffect s.root g b o w d).2 = π.of d) :
    Keeps π s (onRead g (b.addr o) 4 s) := by
  have ha : b.addr o / 4 * 4 = b.addr o := by simp only [Blk.addr]; omega
  have hn : (b.addr o + 4 - 1) / 4 - b.addr o / 4 + 1 = 1 := by simp only [Blk.addr]; omega
  refine onDev_keeps ?_
  simp only [ha, hn, readWords_one]
  split
  · exact (of_hifMap hh ..).trans (of_readWord_reg (place_addr b o hb ho) hx hl he)
  · rfl

theorem onRoot_keeps {f : State → State} {s : State} (h : π.of (f s).dev = π.of s.dev) : Keeps π s (onRoot f s) := keeps_next h

theorem onPost_keeps {b : Blk} {s : State} (h : π.of (pwComplete b s).dev = π.of s.dev) : Keeps π s (onPost b s) :=
  onRoot_keeps (by
    split
    · exact h
    · rfl)

/-- The completion of a synthesizer's posted write. -/
theorem onMcsPost_keeps {n o : Nat} {rel : Word → Word → Bool} {s : State} (h : π.off [.regs, .eff, .parityBad, .page, .lines, .posted, .evc, .mcs, .freeCtr]) :
    Keeps π s (onMcsPost n o rel s) :=
  ite_keeps (onPost_keeps (by
    unfold pwComplete
    repeat' split
    · rfl
    · simp_all
    · exact of_pwDone h ..)) (keeps_next rfl)

theorem onFrame_keeps {q : Nat} {f : Frame} {s : State} (hh : π.off [.hif]) (h : ∀ r m d, π.of (velFrame r q f m d).1 = π.of d) :
    Keeps π s (onFrame q f s) := by
  unfold onFrame
  refine ite_keeps (keeps_next (of_drive hh ..)) ?_
  split
  · exact onMem_keeps (h ..)
  · exact onMem_keeps (h ..)
  · exact keeps_next (of_velAsleep hh ..)
  · exact keeps_next (of_velAsleep hh ..)
  · exact keeps_next (of_velAsleep hh ..)
  · refine keeps_next ?_
    simp only [Part.of_ite, of_velAsleep hh, of_drive hh, ite_self]
  all_goals exact keeps_next (of_drive hh ..)

/-- A frame that neither reads nor writes a burst. -/
theorem onFrame_keeps_link {q : Nat} {f : Frame} {s : State} (h : π.off [.regs, .parityBad, .page, .lines, .hif, .evc, .flt]) (hw : f.op ≠ .wr)
    (hr : f.op ≠ .rd) : Keeps π s (onFrame q f s) :=
  onFrame_keeps (h.mono (by decide)) fun _ _ _ => of_velFrame h _ _ _ _ _ (fun e => absurd e hw) (fun e => absurd e hr)

theorem evt_mem (e : Gal) : Blk.evt e ∈ Blk.all := by revert e; decide
theorem net_mem (p : Fin 2) : Blk.net p ∈ Blk.all := by revert p; decide
theorem ptp_mem (n : Fin 2) : Blk.ptp n ∈ Blk.all := by revert n; decide
theorem srv_mem (n : Fin 2) : Blk.srv n ∈ Blk.all := by revert n; decide
theorem mcs_mem (n : Fin 8) : Blk.mcs n ∈ Blk.all := by revert n; decide
theorem sap_mem (n : Fin 32) : Blk.sap n ∈ Blk.all := by revert n; decide
theorem lineBlk_mem (e : Option Gal) : lineBlk e ∈ Blk.all := by revert e; decide

/-- A part that no command of a start of the core names is the level of the PHY pads. -/
theorem eq_phyPads (h : π.off [.regs, .eff, .parityBad, .scrubAt, .page, .lines, .owed, .hwSet, .posted, .sealed, .rshadow, .wshadow, .tshadow, .perGal, .gal,
    .hif, .evc, .pwr, .clk, .tb, .flt, .lnd, .mon, .log, .net, .trg, .ptp, .srv, .ref, .mcs, .fb, .chan, .rte, .sap, .sapg, .tx, .txe, .rx, .rxe, .otpOk,
    .rails, .freeCtr]) : π = .phyPads := by
  revert h
  cases π <;> simp [Part.off]

theorem eq_phyPads_or_freeCtr (h : π.off [.regs, .eff, .parityBad, .scrubAt, .page, .lines, .owed, .hwSet, .posted, .sealed, .rshadow, .wshadow, .tshadow,
    .perGal, .gal, .hif, .evc, .pwr, .clk, .tb, .flt, .lnd, .mon, .log, .net, .trg, .ptp, .srv, .ref, .mcs, .fb, .chan, .rte, .sap, .sapg, .tx, .txe, .rx,
    .rxe, .otpOk, .rails]) : π = .phyPads ∨ π = .freeCtr := by
  revert h
  cases π <;> simp [Part.off]

/-- No command changes a part of the device that it does not name. -/
theorem exec_keeps (i : Instr) (s : State) (h : π.off i.touches) : Keeps π s (exec i s) := by
  cases i with
  | xoInLoss | sysPllUnlock | parityScrub | pcieLinkUp | pcieLinkLoss | functionLevelReset | d3hotEntry | d0Entry | msixMaskChange
  | qspiFrameAbort | eventEdge | sourceDispatch | coalTimeExpiry | deliveryCommit | tdcStamp | tdcTapMeasure | syncRx | followUpRx | delayRespRx
  | delayReqRx | delayRespSend | pdelayReqRx | pdelayRespFuSend | pdelayRespRx | pdelayRespFuRx | delayReqSend | pdelayReqSend | syncSend
  | followUpSend | syncTimeout | servoStep | servoLock | gainNarrow | refCheck | qualTimeExpiry | wtrExpiry | refLosDetect | viewXDiscipline
  | viewXShadowUpdate | atSlewUpdate | viewDisagreeCheck | holdoverRateUpdate | holdoverBoundUpdate | xTodApply | mcsVcoSettled
  | mcsLockAcquired | mcsLockLost | mcsRefLoss | mcsStopComplete | mcsFreqUpdate | rampSegmentEnd | mcsDiscInterval | mcsAlignAchieved
  | mcsNoFeedback | triggerFire | triggerPulseEnd | admissionComplete | landingScrubStep | linkUp | mdioComplete | preemptVerifyAnswer
  | preemptVerifyTimeout | gateEntryAdvance | tempSupervisorEval | supplySupervisorEval | injectionTick =>
    simp only [exec, execXoInLoss, execSysPllUnlock, execParityScrub, execPcieLinkUp, execPcieLinkLoss, execFunctionLevelReset, execD3hotEntry,
      execD0Entry, execMsixMaskChange, execQspiFrameAbort, execEventEdge, execSourceDispatch, execCoalTimeExpiry, execDeliveryCommit, execTdcStamp,
      execTdcTapMeasure, execSyncRx, execFollowUpRx, execDelayRespRx, execDelayReqRx, execDelayRespSend, execPdelayReqRx, execPdelayRespFuSend,
      execPdelayRespRx, execPdelayRespFuRx, execDelayReqSend, execPdelayReqSend, execSyncSend, execFollowUpSend, execSyncTimeout, execServoStep,
      execServoLock, execGainNarrow, execRefCheck, execQualTimeExpiry, execWtrExpiry, execRefLosDetect, execViewXDiscipline, execViewXShadowUpdate,
      execAtSlewUpdate, execViewDisagreeCheck, execHoldoverRateUpdate, execHoldoverBoundUpdate, execXTodApply, execMcsVcoSettled,
      execMcsLockAcquired, execMcsLockLost, execMcsRefLoss, execMcsStopComplete, execMcsFreqUpdate, execRampSegmentEnd, execMcsDiscInterval,
      execMcsAlignAchieved, execMcsNoFeedback, execTriggerFire, execTriggerPulseEnd, execAdmissionComplete, execLandingScrubStep, execLinkUp,
      execMdioComplete, execPreemptVerifyAnswer, execPreemptVerifyTimeout, execGateEntryAdvance, execTempSupervisorEval, execSupplySupervisorEval,
      execInjectionTick]
    refine onDev_keeps ?_
    simp_all only [Instr.touches, Part.off_one, Part.off_cons, and_self, Part.of_foldl, Part.of_ite, implies_true, ite_self, of_admissionEnd,
      of_alignAchieved, of_boundUpdate, of_decide, of_deliver, of_disagree, of_discInterval, of_disciplineX, of_dispatch, of_dreqRx, of_dreqSend,
      of_drespRx, of_drespSend, of_eventEdge, of_followUpRx, of_followUpSend, of_freqUpdate, of_galReset, of_gateAdvance, of_heldPme, of_hifMap,
      of_holdUpdate, of_injTick, of_linkGone, of_linkUp, of_lockAcquired, of_lockLost, of_mcsRef, of_mdioDone, of_msixChange, of_noFeedback,
      of_pageUse, of_parityScrub, of_pcieReset, of_pcieUp, of_pdfuRx, of_pdfuSend, of_pdreqRx, of_pdreqSend, of_pdrespRx, of_pllUnlock, of_ptpTake,
      of_pulseEnd, of_qualExpiry, of_reckon, of_refCheck, of_refLosStep, of_scrubStep, of_segmentEnd, of_shadowX, of_slewAt, of_srvLock,
      of_srvNarrow, of_srvStep, of_stopComplete, of_supplyEval, of_syncRx, of_syncSend, of_syncTimeout, of_tapMeasure, of_tdcEdge, of_tempEval,
      of_todApply, of_trigFire, of_vcoSettled, of_verifyAnswer, of_verifyTimeout, of_wakeSettle, of_wtrExpiry, of_xoLoss]
  | apertureRead | monitorIntervalSample =>
    simp only [exec, execApertureRead, execMonitorIntervalSample]
    refine onDevMem_keeps ?_
    simp_all only [Instr.touches, Part.off_one, Part.off_cons, and_self, Part.of_ite, ite_self, of_aptRead, of_entryUse, of_hifMap, of_monInterval]
  | apertureWrite | sfdPairing | announceRx | signalingManagementRx | capture | treadZeroed | corridorCloseComplete | corridorRecordCommit
  | outRecordConsume | linkDown | linkSpeedChange | frameReceive | galleryFrameStart | galleryFrameDone | galleryFrameStall
  | telemetryRecordWrite | alarmPendingFlush =>
    simp only [exec, execApertureWrite, execSfdPairing, execAnnounceRx, execSignalingManagementRx, execCapture, execTreadZeroed,
      execCorridorCloseComplete, execCorridorRecordCommit, execOutRecordConsume, execLinkDown, execLinkSpeedChange, execFrameReceive,
      execGalleryFrameStart, execGalleryFrameDone, execGalleryFrameStall, execTelemetryRecordWrite, execAlarmPendingFlush]
    refine onMem_keeps ?_
    simp_all only [Instr.touches, Part.off_one, Part.off_cons, and_self, Part.of_ite_fst, eff, ite_self, of_aptWrite, of_capture, of_closeComplete,
      of_flushPending, of_frameDone, of_frameReceive, of_frameStall, of_frameStart, of_linkDown, of_linkSpeed, of_outConsume, of_pageUse,
      of_produce, of_ptpTakeMem, of_sfdStamp, of_teleWrite, of_treadZeroed]
  | txFrameLaunch | txFrameSkip | txDrainComplete | rxPresent | rxFlowStop | naHoldExpiry | rxDrainComplete | routeSwap | routeFadeDone
  | sapFrame | sapClockStop | sapRunStart | sapStopFadeDone | sapPostrollEnd =>
    simp only [exec, execTxFrameLaunch, execTxFrameSkip, execTxDrainComplete, execRxPresent, execRxFlowStop, execNaHoldExpiry, execRxDrainComplete,
      execRouteSwap, execRouteFadeDone, execSapFrame, execSapClockStop, execSapRunStart, execSapStopFadeDone, execSapPostrollEnd]
    refine onRun_keeps ?_
    simp_all only [Instr.touches, Part.off_one, Part.off_cons, and_self, Part.of_ite, ite_self, of_bankUse, of_entryUse, of_fadeEnd, of_naExpiry,
      of_pageUse, of_routeSwap, of_rxDrained, of_rxFlowStop, of_rxPresent, of_sapClockStop, of_sapFadeDone, of_sapFrame, of_sapRollEnd,
      of_sapRunStart, of_txDrained, of_txLaunch, of_txSkip]
  | hbufPeriodTake | hbufPeriodPublish | routeEvaluation =>
    simp only [exec, execHbufPeriodTake, execHbufPeriodPublish, execRouteEvaluation]
    refine onRunMem_keeps ?_
    simp_all only [Instr.touches, Part.off_one, Part.off_cons, and_self, of_bankUse, of_hbPublish, of_hbTake, of_pageUse, of_routeEval]
  | powerUp st => exact eq_phyPads h ▸ onRoot_keeps (phyPads_powerUp ..)
  | enRise st => exact eq_phyPads h ▸ onRoot_keeps (phyPads_enRise ..)
  | rstRelease st => exact eq_phyPads h ▸ onRoot_keeps (phyPads_rstRelease ..)
  | wakeComplete st => exact eq_phyPads h ▸ onRoot_keeps (phyPads_wakeComplete ..)
  | vinLoss => exact onRoot_keeps (of_vinLost (eq_phyPads_or_freeCtr h) s)
  | enLow => exact onRoot_keeps (of_enLow (eq_phyPads_or_freeCtr h) s)
  | vioUnder b => exact onRoot_keeps (of_vioUnder (eq_phyPads_or_freeCtr h) b s)
  | powerDownComplete => exact onRoot_keeps (of_powerDown (eq_phyPads_or_freeCtr h) s)
  | rstAssert =>
    refine onRoot_keeps (of_rstFalls ?_ _)
    revert h
    cases π <;> simp [Part.off, Instr.touches]
  | sleepCommit => exact onRoot_keeps ((apply_ite (fun t : State => π.of t.dev) ..).trans (by rw [of_sleepCommit h, ite_self]))
  | quietEnter => exact onRoot_keeps (of_quietEnter h s)
  | quietExit => exact onRoot_keeps (of_quietExit h s)
  | dozeWake e ms => exact onRoot_keeps (of_dozeWake h ..)
  | watchEntryFire e => exact onRoot_keeps (of_watchEntry h ..)
  | ecWrap => exact onRoot_keeps (of_ecWrapped h s)
  | railOut | railInRegulation | bankSupplyRestored => exact onRoot_keeps (of_setRail h ..)
  | vinWarnTrip | vinWarnClear => exact onRoot_keeps (of_vinWarn h ..)
  | pwComplete page =>
    simp only [exec, execPwComplete]
    split
    · exact keeps_next rfl
    · exact onPost_keeps (of_pwComplete h ..)
  | pePerstAssert => exact ite_keeps (onDev_keeps (of_perstAssert h ..)) (keeps_next (of_hifMap (h.mono (by simp [Instr.touches])) ..))
  | pePerstDeassert => exact keeps_next (of_hifMap h ..)
  | phyIntChange p on =>
    exact keeps_next ((of_lineMove (h.mono (by simp [Instr.touches])) ..).trans (Part.of_with_phyPads s.dev (Part.off_one.mp (h.mono (by simp [Instr.touches]))) _))
  | qspiWr => exact ite_keeps (keeps_next rfl) (onFrame_keeps (h.mono (by simp [Instr.touches])) fun _ _ _ =>
      of_velFrame (h.mono (by simp [Instr.touches])) _ _ _ _ _ (fun _ _ => of_writeBurst h ..) nofun)
  | qspiRd => exact onFrame_keeps (h.mono (by simp [Instr.touches])) fun _ _ _ =>
      of_velFrame (h.mono (by simp [Instr.touches])) _ _ _ _ _ nofun (fun _ _ => of_readBurst (h.mono (by simp [Instr.touches])) ..)
  | qspiRdLink | qspiEcho => exact onFrame_keeps_link h nofun nofun
  | qspiReservedOpcode => exact ite_keeps (keeps_next rfl) (onFrame_keeps_link h nofun nofun)
  | registerWrite g a w narrow =>
    obtain ⟨w, hi⟩ := w
    cases hi with
    | none => exact onWrite_keeps h
    | some hi => exact onWrite64_keeps h
  | pageStatusClear | shWrite | lwCommit | tableEntryCommit | pwWrite | injSelWrite | injCtrlWrite => exact onWrite_keeps h
  | lwRead => exact onRead_keeps (h.mono (by simp [Instr.touches])) fun _ => of_readWords (h.mono (by simp [Instr.touches])) ..
  | mcsEnable | mcsDisable | mcsDiscModeSet | mcsFreqCommit | mcsOutputEnable | mcsOutputDisable | mcsOutputDivChange
  | mcsOutputDelayChange => exact onMcsPost_keeps h
  | txStreamEnable g sn | txStreamDisable g sn | txStreamRestructure g sn => exact onEntry_keeps (t := .txs) sn.isLt h
  | rxStreamEnable g sn | rxStreamDisable g sn | rxStreamRestructure g sn => exact onEntry_keeps (t := .rxs) sn.isLt h
  | evtClaim g e t =>
    have hx : ∀ (e : Gal) (t : Fin 8), (Blk.evt e).reg (0x0C0 + 4 * t) = some (rN 0x0C0 4 8 .ro) := by decide
    refine onRead_reg_keeps (evt_mem e) (by omega) (by omega) (hx e t) (h.mono (by simp [Instr.touches])) (.inl rfl) fun w d => ?_
    simp only [readEffect]
    split_ifs
    · exact of_claim (h.mono (by simp [Instr.touches])) ..
    · rfl
    · rfl
  | tbeSnapRead g =>
    exact onRead_reg_keeps (by decide) (by decide) (by decide) (x := rN 0x080 4 1 (.lwRo 19)) (by decide) (h.mono (by simp [Instr.touches])) (.inr (h.mono (by simp [Instr.touches])))
      fun w d => rfl
  | captureRecRead g c =>
    have hx : ∀ c : Fin 16, Blk.trg.reg (0xA08 + 0x40 * c) = some (rN 0xA08 0x40 16 (.lwRo 8)) := by decide
    refine onRead_reg_keeps (by decide) (by omega) (by omega) (hx c) (h.mono (by simp [Instr.touches])) (.inr (h.mono (by simp [Instr.touches]))) fun w d => ?_
    simp only [readEffect]
    split_ifs
    · exact of_capRecHook (h.mono (by simp [Instr.touches])) ..
    · rfl
  | otpDataRead g =>
    exact onRead_reg_keeps (by decide) (by decide) (by decide) (x := r1 0x048 .ro) (by decide) (h.mono (by simp [Instr.touches])) (.inl rfl)
      fun w d => of_setOwn (h.mono (by simp [Instr.touches])) ..
  | evtComplete g e | srcCtrlWrite g e | srcTgtWrite g e | tgtEnaWrite g e => exact onReg_keeps (evt_mem e) (by omega) h
  | pendWordWrite g e | maskWordWrite g e => exact onReg_keeps (lineBlk_mem e) (by omega) h
  | ptpEnable g n | ptpDisable g n | parentCommit g n => exact onReg_keeps (ptp_mem n) (by omega) h
  | servoEnable g n | servoDisable g n | servoRestart g n => exact onReg_keeps (srv_mem n) (by omega) h
  | mcsRampStart g n | mcsRampStop g n | mcsReturn g n | mcsRealign g n | mclkoSelWrite g n => exact onReg_keeps (mcs_mem n) (by omega) h
  | netEnable g p | netDisable g p | mdioWrite g p | mdioRead g p | mdioReadInc g p | mdioReservedOp g p | netReverify g p | netClearCnt g p =>
    exact onReg_keeps (net_mem p) (by omega) h
  | sapEnable g n | sapDisable g n | sapClearCnt g n => exact onReg_keeps (sap_mem n) (by omega) h
  | sleepCmdRun | sleepCmdQuiet | sleepCmdDoze | sleepCmdShelf | sleepCmdReserved | galReset | galClaim | galRelease | galForce
  | galClaimReservedOp | partDataWrite | devSeal | hostSleepWrite | viewSetStep | viewSetRate | viewSetReservedKind
  | refPreferredWrite | xTodArm | refForceFree | refClearHist | refClearTable | refAllowStep | triggerArm | triggerDisarm | lndClearUe | lndClearCe
  | hbufEnable | hbufDisable | hbufPtrWrite | corridorEnable | corridorDisable | corRdWrite | corRelWrite | corMarkWrite | corRewind | corClearCnt
  | clsClearCnt | txeRetime | txeClearCnt | rxeClearCnt | routeCommit | routeCheck | rteClearCnt | rteRateWrite
  | sapGroupStart | sapGroupStop | monitorSnap | alarmClear | logClassWrite | fltDisarmAll | fltClearCnt =>
    exact onReg_keeps (by decide) (by omega) h

end

/-- Settles O8: each command through the frame of what it runs. -/
theorem partsFrame : Obligations.PartsFrame := fun i s t _ hp ht => Part.same_iff.mpr (exec_keeps i s hp t ht)

end Sys2Proof.Machine

/-! A write of a word leaves the PCIe link as it is, so that the second access of a 64-bit write acts as the first did (R36). -/

namespace Sys2Proof.Machine

/-- The PCIe link is established. -/
def Dev.link (d : Dev) : Bool := d.hif.linkUp

theorem link_of {a b : Dev} (h : Part.hif.of a = Part.hif.of b) : a.link = b.link := by
  have : a.hif = b.hif := Part.same_iff.mpr h
  simp only [Dev.link, this]

theorem link_foldl {α : Type} {f : Dev → α → Dev} (h : ∀ x a, (f x a).link = x.link) (l : List α) (d : Dev) : (l.foldl f d).link = d.link :=
  foldl_inv (fun x => x.link = d.link) f l d rfl fun x a hx => (h x a).trans hx

theorem link_ite (c : Prop) [Decidable c] (a b : Dev) : (if c then a else b).link = if c then a.link else b.link := apply_ite ..

@[simp] theorem link_setSrc (d : Dev) (n : Nat) (x : Src) : (d.setSrc n x).link = d.link := rfl
@[simp] theorem link_setTgt (d : Dev) (t : Nat) (x : Tgt) : (d.setTgt t x).link = d.link := rfl
@[simp] theorem link_setReg (d : Dev) (b : Blk) (o : Nat) (w : Word) : (d.setReg b o w).link = d.link := rfl
@[simp] theorem link_setPost (d : Dev) (b : Blk) (p : Option Posted) : (d.setPost b p).link = d.link := rfl
@[simp] theorem link_setWsh (d : Dev) (g a : Nat) (m : SMap Word) : (d.setWsh g a m).link = d.link := rfl
@[simp] theorem link_evcMap (d : Dev) (f : EvcSt → EvcSt) : (d.evcMap f).link = d.link := rfl
@[simp] theorem link_galMap (d : Dev) (f : GalSt → GalSt) : (d.galMap f).link = d.link := rfl
@[simp] theorem link_setHolder (i g : Nat) (d : Dev) : (setHolder i g d).link = d.link := rfl
@[simp] theorem link_pageUse (r : Root) (b : Blk) (os : List Nat) (d : Dev) : (pageUse r b os d).link = d.link := by simp [Dev.link]
@[simp] theorem link_raise (r : Root) (n : Nat) (d : Dev) : (raise r n d).link = d.link := by simp [Dev.link]

theorem link_hifMap {f : HifSt → HifSt} (h : ∀ x, (f x).linkUp = x.linkUp) (d : Dev) : (d.hifMap f).link = d.link := h _

@[simp] theorem link_wakeSettle (d : Dev) : (wakeSettle d).link = d.link :=
  link_hifMap (fun x => by split <;> rfl) d

@[simp] theorem link_assertWake (g : Nat) (d : Dev) : (assertWake g d).link = d.link :=
  (link_wakeSettle _).trans (link_hifMap (fun x => by split <;> rfl) d)

@[simp] theorem link_wakeGals (onlyAsleep : Bool) (w : Word) (d : Dev) : (wakeGals onlyAsleep w d).link = d.link :=
  link_foldl (fun x g => by simp only [link_ite, link_assertWake, ite_self]) _ d

@[simp] theorem link_watchFire (i : Nat) (d : Dev) : (watchFire i d).link = d.link := by
  unfold watchFire
  dsimp only
  split
  · exact link_wakeGals ..
  · exact link_wakeGals ..

@[simp] theorem link_foyerSource (r : Root) (n : Nat) (d : Dev) : (foyerSource r n d).link = d.link := by
  refine (link_foldl (fun x i => ?_) _ _).trans (by simp only [link_pageUse])
  simp only [link_ite, link_watchFire, ite_self]

@[simp] theorem link_toPending (r : Root) (n : Nat) (first : Bool) (d : Dev) : (toPending r n first d).link = d.link := by
  simp [toPending, link_ite]

@[simp] theorem link_withdraw (r : Root) (n : Nat) (d : Dev) : (withdraw r n d).link = d.link := by simp [withdraw, link_ite]

@[simp] theorem link_pendWrite (r : Root) (n : Nat) (b : Bool) (d : Dev) : (pendWrite r n b d).link = d.link := by
  unfold pendWrite
  dsimp only
  split <;> simp

@[simp] theorem link_maskWrite (r : Root) (n : Nat) (b : Bool) (d : Dev) : (maskWrite r n b d).link = d.link := by simp [maskWrite, link_ite]

@[simp] theorem link_completeSrc (r : Root) (n : Nat) (d : Dev) : (completeSrc r n d).link = d.link := by
  unfold completeSrc
  dsimp only
  split <;> simp

@[simp] theorem link_complete (r : Root) (t n : Nat) (d : Dev) : (complete r t n d).link = d.link := by simp [complete, link_ite]

@[simp] theorem link_commitTo (r : Root) (t : Nat) (ns : List Nat) (d : Dev) : (commitTo r t ns d).link = d.link := by
  have covered : ∀ l : List Nat, ∀ d' : Dev, (l.foldl (fun d n => let s := d.src n; if ns.contains s.cov then d.setSrc n { s with com := some (r.ec, d.tb.era) } else d) d').link = d'.link :=
    fun l d' => link_foldl (fun x n => by simp [link_ite]) l d'
  unfold commitTo
  dsimp only
  split
  · exact (link_hifMap (fun _ => rfl) _).trans (covered ..)
  · exact covered ..

@[simp] theorem link_heldPme (f : Nat) (d : Dev) : (heldPme f d).link = d.link := by
  have pme : (d.hifMap fun h => { h with pme := bput h.pme f true }).link = d.link := link_hifMap (fun _ => rfl) d
  simp [heldPme, link_ite, pme]

@[simp] theorem link_heldWakes (r : Root) (t : Nat) (ns : List Nat) (d : Dev) : (heldWakes r t ns d).link = d.link := by
  simp [heldWakes, link_ite, link_foldl]

@[simp] theorem link_decide (r : Root) (t : Nat) (d : Dev) : (decide' r t d).link = d.link := by
  have use : (tgtUse r t d).link = d.link := link_of (of_tgtUse (.of (by decide)) ..)
  have marked : ∀ k (l : List Nat) (d' : Dev), (l.foldl (fun d n => d.setSrc n { d.src n with cov := k }) d').link = d'.link :=
    fun _ => link_foldl fun _ _ => rfl
  unfold decide'
  dsimp only
  repeat' split
  all_goals simp [marked, use]

@[simp] theorem link_withdrawLost (r : Root) (o d : Dev) : (withdrawLost r o d).link = d.link := by simp [withdrawLost, link_foldl]

@[simp] theorem link_evtReset (r : Root) (g : Nat) (d : Dev) : (evtReset r g d).link = d.link := by
  have cleared : ∀ (l : List Nat) (d' : Dev), (l.foldl (fun d v => d.setTgt (8 * g + v) {}) d').link = d'.link := link_foldl fun _ _ => rfl
  have completed : ∀ (l : List Nat) (d' : Dev), (l.foldl (fun d n => completeSrc r n d) d').link = d'.link :=
    link_foldl fun _ _ => link_completeSrc ..
  simp only [evtReset, link_evcMap, cleared, completed, link_withdrawLost, link_setReg]

@[simp] theorem link_bulkWrite (k : Nat) (w : Word) (may : Nat → Bool) (now : Src → Bool) {f : Nat → Bool → Dev → Dev} (hf : ∀ n b d, (f n b d).link = d.link)
    (d : Dev) : (bulkWrite k w may now f d).link = d.link :=
  link_foldl (fun x i => by simp only [link_ite, hf, ite_self]) _ d

@[simp] theorem link_pendClear (r : Root) (n : Nat) (d : Dev) : (pendClear r n d).link = d.link := by simp [pendClear, link_ite]

@[simp] theorem link_pendBulk (r : Root) (k : Nat) (w : Word) (may : Nat → Bool) (d : Dev) : (pendBulk r k w may d).link = d.link :=
  link_bulkWrite k w may Src.pend (fun n b d => by simp [link_ite]) d

@[simp] theorem link_evcWrite (r : Root) (o : Nat) (w : Word) (d : Dev) : (evcWrite r o w d).link = d.link := by simp [evcWrite, link_ite]

@[simp] theorem link_srcCtrlWrite (r : Root) (g : Nat) (w : Word) (d : Dev) : (srcCtrlWrite r g w d).link = d.link := by
  simp [srcCtrlWrite, link_ite]

@[simp] theorem link_srcTgtWrite (r : Root) (g k : Nat) (w : Word) (d : Dev) : (srcTgtWrite r g k w d).link = d.link := by simp [srcTgtWrite]

@[simp] theorem link_evtWrite (r : Root) (g o : Nat) (w : Word) (d : Dev) : (evtWrite r g o w d).link = d.link := by simp [evtWrite, link_ite]

@[simp] theorem link_hostSleep (g : Nat) (w : Word) (d : Dev) : (hostSleep g w d).link = d.link := by
  unfold hostSleep
  dsimp only
  split
  · rfl
  · split
    · rfl
    · exact link_hifMap (fun _ => rfl) _

@[simp] theorem link_linkReset (g : Nat) (d : Dev) : (linkReset g d).link = d.link := by
  unfold linkReset
  split
  · exact (link_wakeSettle _).trans (link_hifMap (fun _ => rfl) d)
  · exact link_hifMap (fun _ => rfl) d

@[simp] theorem link_galReset (r : Root) (cause g : Nat) (d : Dev) : (galReset r cause g d).link = d.link := by
  simp only [galReset, link_raise, link_linkReset, link_evtReset, link_galMap]
  exact link_foldl (fun x p => by simp [link_ite]) _ _

/-- Of the parts a page's writes reach, the host links are those of GAL, HIF and the event controller alone. -/
theorem hif_off_regParts {b : Blk} (h : ¬ (b = .gal ∨ b = .hif ∨ b = .evc ∨ ∃ e, b = .evt e)) : Part.hif.off (regParts b) := by
  cases b <;> simp_all [Part.off, regParts, blkParts]

/-- No write of a register brings the link up or down. -/
theorem link_regWrite (r : Root) (m : List Host.Cell) (g : Nat) (b : Blk) (o : Nat) (x : Reg) (w : Word) (d : Dev) :
    (regWrite r m g b o x w d).1.link = d.link := by
  by_cases h : b = .gal ∨ b = .hif ∨ b = .evc ∨ ∃ e, b = .evt e
  swap
  · exact link_of (of_regWrite r m g b o x w d (hif_off_regParts h))
  have header : ∀ d, (headerWrite r g b o w d).link = d.link := fun d => link_of (of_headerWrite (.of (by decide)) ..)
  have store : ∀ ws d, (storeWords b o ws d).link = d.link := fun ws d => link_of (of_storeWords (.of (by decide)) ..)
  have part : ∀ d, (partWrite r w d).link = d.link := fun d => link_of (of_partWrite (.of (by decide)) ..)
  have claims : ∀ d, (claimCmd r g w d).link = d.link := fun d => link_of (of_claimCmd (.of (by decide)) ..)
  have strobes : ∀ d, (strobe r g b o w d).1.link = d.link := by
    intro d
    rcases h with rfl | rfl | rfl | ⟨e, rfl⟩
    · simp only [strobe, eff]
      split
      · exact claims d
      · exact link_foldl (fun x i => by simp only [link_ite, link_galReset, ite_self]) _ d
    · rfl
    · rfl
    · exact link_evtWrite ..
  have blocks : ∀ d, (blockWrite r g b o w d).1.link = d.link := by
    intro d
    rcases h with rfl | rfl | rfl | ⟨e, rfl⟩
    · exact part d
    · exact link_hifMap (fun _ => rfl) d
    · exact link_evcWrite ..
    · exact link_evtWrite ..
  have after : ∀ old new d, (afterWrite r m b o old new w d).1.link = d.link := by
    intro old new d
    rcases h with rfl | rfl | rfl | ⟨e, rfl⟩
    · rfl
    · simp only [afterWrite, eff]
      split
      · exact link_hifMap (fun _ => rfl) d
      · rfl
    · rfl
    · simp only [afterWrite, eff]
      split_ifs <;> simp
  have stores : ∀ ws d, (storeAct r m b o ws w d).1.link = d.link := by
    intro ws d
    have hshp : b ≠ .shp := by rcases h with rfl | rfl | rfl | ⟨e, rfl⟩ <;> simp
    simp only [storeAct, after, link_pageUse, store, hshp, if_false]
  unfold regWrite
  repeat' split
  all_goals simp only [eff, header, strobes, blocks, stores, store, link_pageUse, link_hostSleep, link_setWsh, link_setPost]
  all_goals rfl

/-- No write of a word brings the link up or down. -/
theorem link_writeWord (r : Root) (m : List Host.Cell) (g a : Nat) (w : Word) (narrow : Bool) (d : Dev) :
    (writeWord r m g a w narrow d).2.1.link = d.link := by
  by_cases h : Part.hif.off (wordParts a)
  · exact link_of (of_writeWord r m g a w narrow d h)
  have faults : ∀ b k, (fault r b k g a d).link = d.link := fun b k => by simp [Dev.link]
  have entries : ∀ t e, (entryCommit r g t e w d).link = d.link := fun t e =>
    link_of (of_entryCommit r g t e w d (by cases t <;> exact .of (by decide)))
  unfold writeWord
  repeat' split
  all_goals simp only [eff, faults, entries, link_regWrite]
  all_goals rfl

end Sys2Proof.Machine

/-! Writes that fail a check of R37, and writes of 64 bits (R36, R37, R73). -/

namespace Sys2Proof.Machine

/-- A write by a gallery that reaches the device is the write of its word. -/
theorem onWrite_reaches {s : State} {g : Gal} (h : reaches s g = true) (a : Nat) (w : Word) (narrow : Bool) :
    onWrite g a w narrow s = .next { s with dev := (writeWord s.root s.mem g a w narrow s.dev).2.1,
                                            mem := memWrites s.mem (writeWord s.root s.mem g a w narrow s.dev).2.2 } := by
  simp only [onWrite, onMem_on (reaches_core h), reaches_host h, if_true]

/-- A write that is refused leaves its fault and nothing else. -/
theorem onWrite_refused {s : State} {g : Gal} (h : reaches s g = true) {a : Nat} {w : Word} {narrow : Bool} {b : Blk} {k : FaultKind}
    (e : writeWord s.root s.mem g a w narrow s.dev = (false, eff (fault s.root b k g a s.dev))) :
    onWrite g a w narrow s = .next { s with dev := fault s.root b k g a s.dev } := by
  rw [onWrite_reaches h, e]
  rfl

/-- A write that is ignored leaves everything as it was. -/
theorem onWrite_ignored {s : State} {g : Gal} (h : reaches s g = true) {a : Nat} {w : Word}
    (e : writeWord s.root s.mem g a w false s.dev = (true, eff s.dev)) : onWrite g a w false s = .next s := by
  rw [onWrite_reaches h, e]
  rfl

theorem memWrites_append (m : List Host.Cell) (x y : List MemWr) : memWrites m (x ++ y) = memWrites (memWrites m x) y := List.foldl_append ..

/-- A write of 64 bits is the access at the lower address and then the one above it (R36). -/
theorem onWrite64_reaches {s : State} {g : Gal} (h : reaches s g = true) (a : Nat) (lo hi : Word) :
    ∃ t, onWrite g a lo false s = .next t ∧ onWrite64 g a lo hi s = onWrite g (a + 4) hi false t := by
  refine ⟨_, onWrite_reaches h a lo false, ?_⟩
  have ht : reaches { s with dev := (writeWord s.root s.mem g a lo false s.dev).2.1,
                             mem := memWrites s.mem (writeWord s.root s.mem g a lo false s.dev).2.2 } g = true := by
    have hl := link_writeWord s.root s.mem g a lo false s.dev
    simp only [Dev.link] at hl
    simpa only [reaches, hostOn, hl] using h
  rw [onWrite_reaches ht]
  simp only [onWrite64, onMem_on (reaches_core h), reaches_host h, if_true, memWrites_append]

theorem statusWord_zero (t : Tbl) : statusWord t 0 = false := by cases t <;> rfl

/-- A fault sets its own bit and no other. -/
theorem fault_bits (r : Root) (b : Blk) (k : FaultKind) (g a : Nat) (d : Dev) (i : Nat) :
    nbit ((fault r b k g a d).pg b).bits i = (nbit (d.pg b).bits i || decide (i = k.bit)) := by
  rw [(fault_pg_self r b k g a d).1, nbit_nset]

/-- Settles O15: `writeWord` at each failing check; a fault's traces are those of `fault_pg_self`. -/
theorem failedWritesAreReported : Obligations.FailedWritesAreReported := by
  refine ⟨fun s g a w hr => ?_, fun r d b k g a => ?_⟩
  · refine ⟨onWrite_refused hr rfl, fun hp => onWrite_refused hr (by simp [writeWord, hp]), fun b o x hp hx => ?_, fun t e i hp => ?_, fun h => onWrite64_reaches hr a w h⟩
    · refine ⟨fun hk => onWrite_refused hr ?_, fun hk => onWrite_ignored hr ?_, fun hk => onWrite_refused hr ?_,
        fun hk hs hl => onWrite_refused hr ?_, fun hk hl hpw hbusy => onWrite_refused hr ?_⟩
      all_goals simp only [writeWord, hp, hx, hk, Bool.false_eq_true, if_false]
      · simp [hs, hl]
      · simp [hl, hpw, hbusy]
    · refine ⟨fun hk => onWrite_refused hr ?_, fun hk hi hc => onWrite_refused hr ?_, fun hk => onWrite_ignored hr ?_⟩
      all_goals simp only [writeWord, hp, hk, Bool.false_eq_true, if_false]
      simp [hi, statusWord_zero, hc]
  · have hbits := fault_bits r b k g a d
    obtain ⟨-, hcap⟩ := fault_pg_self r b k g a d
    refine ⟨by simp [hbits], fun i hi => by simp [hbits, hi], fun hv => by simp [hcap, hv], fun hv hg ha => ?_,
      fun c hc => fault_pg_other hc .., fault_eq ..⟩
    have hcap' : ((fault r b k g a d).pg b).cap = faultCap k g a := by simp [hcap, hv]
    simp only [PageSt.valid, hcap']
    exact faultCap_fields k hg ha

end Sys2Proof.Machine

/-! Writes that pass: plain registers, the injection registers and PAGE_STATUS (R37, R40, R41, R43, R44). -/

namespace Sys2Proof.Machine

/-! ### Plain registers -/

/-- No bit of the word written gives way to the device. -/
theorem hostFirst_eq {r : Root} {b : Blk} {o : Nat} {m now w : Word} {d : Dev} (h : nget d.hwSet (b.addr o) = r.cyc + 1 → m = 0) :
    hostFirst r b o m now w d = w := by
  unfold hostFirst
  split
  next hc =>
    have whole : (w &&& ~~~0#32) ||| (now &&& 0#32) = w := by
      rw [BitVec.and_zero, BitVec.or_zero]
      exact BitVec.and_allOnes
    rw [h hc]
    exact whole
  next => rfl

/-- Nothing follows a write of a plain register. -/
theorem afterWrite_plain {b : Blk} {o : Nat} (h : b.plain o = true) (r : Root) (m : List Host.Cell) (old new : List Word) (raw : Word) (d : Dev) :
    afterWrite r m b o old new raw d = eff d := by
  cases b with
  | hif | evt | lnd | net | tbe | ptp | srv | trg | ref | rte | sap =>
    simp only [Blk.plain, Bool.and_eq_true, Bool.or_eq_true, bne_iff_ne, decide_eq_true_eq] at h
    simp (disch := omega) only [afterWrite, if_neg]
  | shp => cases h
  | _ => rfl

/-- A write of a plain RW register stores its word, and its block uses what it consults. -/
theorem regWrite_plain {b : Blk} {o : Nat} {x : Reg} {w : Word} {r : Root} {d : Dev} (ho : 0x040 ≤ o) (hty : x.ty = .rw) (hp : b.plain o = true)
    (hhw : nget d.hwSet (b.addr o) = r.cyc + 1 → hwMask b o = 0) (m : List Host.Cell) (g : Nat) :
    regWrite r m g b o x w d = eff (pageUse r b (actUses b o) (d.setReg b o w)) := by
  have hlog : ¬(b = .log ∧ 0x100 ≤ o) := by
    rintro ⟨rfl, hlo⟩
    simp [Blk.plain] at hp
    omega
  have hshp : b ≠ .shp := by
    rintro rfl
    cases hp
  simp only [regWrite, Nat.not_lt.mpr ho, hty, if_false, hlog, hostFirst_eq hhw, storeAct, hshp, afterWrite_plain hp]
  rfl

/-! ### Registers of the common header -/

/-- The page's offset and the header register's. -/
theorem addr_of_page {b : Blk} {page : Fin 128} (h : b.page = page) (o : Nat) : page * 0x1000 + o = b.addr o := by simp [Blk.addr, h]

theorem header_reg {b : Blk} {o : Nat} {x : Reg} (ho : o < 0x40) (h : headerRegs.find? (·.has o) = some x) : b.reg o = some x := by
  simpa [Blk.reg, ho] using h

theorem regWrite_header {b : Blk} {o : Nat} (ho : o < 0x40) (r : Root) (m : List Host.Cell) (g : Nat) (x : Reg) (w : Word) (d : Dev) :
    regWrite r m g b o x w d = eff (headerWrite r g b o w d) := if_pos ho

/-- A write of a header register that passes. -/
theorem onHeader_can {s : State} {g : Gal} {b : Blk} {o : Nat} {w : Word} {x : Reg} (hb : b ∈ Blk.all) (ho : o < 0x40)
    (hx : headerRegs.find? (·.has o) = some x) (h : canWrite s g b o w = true) :
    onWrite g (b.addr o) w false s = .next { s with dev := headerWrite s.root g b o w s.dev } := by
  have := onReg_can s g b o w x hb (by omega) (header_reg ho hx) h
  rwa [regWrite_header ho] at this

/-- PAGE_INJ_CTRL after the rule of ARM, over COUNT of PAGE_INJ_SEL (R40). -/
def armed (v : Word) (count : Nat) : Word := if bitOf v 0 ∧ (fld v 2 1 = 3 ∨ fld v 2 1 = 1 ∧ count = 0) then v &&& ~~~1 else v

theorem reg_armRule (b : Blk) (d : Dev) : (armRule b d).reg b 0x01C = armed (d.reg b 0x01C) (d.injCount b) := by
  unfold armRule armed
  simp only [Dev.armed, Dev.rb, Dev.rf, Bool.and_eq_true, Bool.or_eq_true, beq_iff_eq]
  split
  next => exact reg_setReg_self ..
  next => rfl

/-- The rule of ARM can change PAGE_INJ_CTRL alone. -/
theorem armRule_eq (b : Blk) (d : Dev) : armRule b d = { d with regs := (armRule b d).regs, parityBad := (armRule b d).parityBad } := by
  unfold armRule
  dsimp only
  split <;> rfl

theorem armRule_setReg_eq (b : Blk) (o : Nat) (w : Word) (d : Dev) :
    armRule b (d.setReg b o w) =
      { d with regs := (armRule b (d.setReg b o w)).regs, parityBad := (armRule b (d.setReg b o w)).parityBad } :=
  armRule_eq b (d.setReg b o w)

theorem sget_armRule_other {b : Blk} {a : Nat} (h : a ≠ b.addr 0x01C) (d : Dev) : sget regReset (armRule b d).regs a = sget regReset d.regs a := by
  unfold armRule
  dsimp only
  split
  · exact sget_setReg_other _ _ _ _ _ h
  · rfl

/-! ### PAGE_STATUS -/

theorem bitOf_eq_testBit (w : Word) (i : Nat) : bitOf w i = w.toNat.testBit i := by
  simp [bitOf, fld, Nat.testBit_eq_decide_div_mod_eq, BEq.beq]

theorem bitOf_cleared (w : Word) : bitOf (w &&& ~~~(wd (2 ^ 28))) 28 = false := by
  rw [bitOf_eq_testBit, BitVec.toNat_and, Nat.testBit_and]
  have : (~~~(wd (2 ^ 28))).toNat.testBit 28 = false := by decide
  rw [this, Bool.and_false]

/-- A number of five flags at bits 1 to 5 shows each of them. -/
theorem nbit_flags (f : Nat → Bool) {i : Nat} (h1 : 1 ≤ i) (h5 : i ≤ 5) :
    nbit ((List.range 5).map fun j => b2n (f (j + 1)) * 2 ^ (j + 1)).sum i = f i := by
  have table : ∀ a b c d e : Bool, ∀ j : Fin 5,
      nbit (b2n a * 2 ^ 1 + (b2n b * 2 ^ 2 + (b2n c * 2 ^ 3 + (b2n d * 2 ^ 4 + b2n e * 2 ^ 5)))) (j + 1) = [a, b, c, d, e][j] := by decide
  have hsum : ((List.range 5).map fun j => b2n (f (j + 1)) * 2 ^ (j + 1)).sum =
      b2n (f 1) * 2 ^ 1 + (b2n (f 2) * 2 ^ 2 + (b2n (f 3) * 2 ^ 3 + (b2n (f 4) * 2 ^ 4 + b2n (f 5) * 2 ^ 5))) := by simp [List.range_succ]
  rw [hsum]
  obtain ⟨j, rfl⟩ : ∃ j : Fin 5, i = j + 1 := ⟨⟨i - 1, by omega⟩, by simp; omega⟩
  rw [table]
  fin_cases j <;> rfl

theorem flags_eq_zero {f : Nat → Bool} (h : ∀ i, 1 ≤ i → i ≤ 5 → f i = false) :
    ((List.range 5).map fun j => b2n (f (j + 1)) * 2 ^ (j + 1)).sum = 0 := by
  refine List.sum_eq_zero fun x hx => ?_
  obtain ⟨j, hj, rfl⟩ := List.mem_map.mp hx
  rw [h (j + 1) (by omega) (by have := List.mem_range.mp hj; omega)]
  exact Nat.zero_mul _

/-- The bits that late faults set. -/
theorem nbit_late (l : List FaultSet) (n i : Nat) : nbit (l.foldl (fun n f => nset n f.bit true) n) i = (nbit n i || l.any (·.bit == i)) := by
  induction l generalizing n with
  | nil => simp
  | cons f l ih => simp [ih, nbit_nset, Bool.or_assoc, eq_comm (a := i), BEq.beq]

/-- The fault bits that a W1C write of `w` by gallery `g` leaves of those before the faults of others in its cycle (R44). -/
def leftBit (r : Root) (g : Nat) (x : PageSt) (w : Word) (i : Nat) : Bool :=
  (nbit (x.cycle r).2 i || (x.cycle r).1.any fun f => f.who == g && f.bit == i) && !bitOf w i

/-- Those bits as a number. -/
def leftBits (r : Root) (g : Nat) (x : PageSt) (w : Word) : Nat := ((List.range 5).map fun j => b2n (leftBit r g x w (j + 1)) * 2 ^ (j + 1)).sum

theorem clearFaults_pg (r : Root) (g : Nat) (b : Blk) (w : Word) (d : Dev) :
    let x := d.pg b
    ((clearFaults r g b w d).pg b).bits = (x.later r g).foldl (fun n f => nset n f.bit true) (leftBits r g x w) ∧
    ((clearFaults r g b w d).pg b).cap =
      (if leftBits r g x w ≠ 0 then x.cap else match (x.later r g).head? with
        | some f => f.cap
        | none => x.cap &&& ~~~(wd (2 ^ 28))) := by
  simp only [clearFaults, linesMove_pg, pg_setPg_self]
  exact ⟨rfl, rfl⟩

/-- A write of PAGE_STATUS changes the fault state of its page, and the lines, alone. -/
theorem clearFaults_eq (r : Root) (g : Nat) (b : Blk) (w : Word) (d : Dev) :
    clearFaults r g b w d = { d with page := (clearFaults r g b w d).page, lines := (clearFaults r g b w d).lines } := by
  unfold clearFaults
  dsimp only
  rw [linesMove_eq]
  rfl

theorem clearFaults_other {b c : Blk} (h : c.page ≠ b.page) (r : Root) (g : Nat) (w : Word) (d : Dev) : (clearFaults r g b w d).pg c = d.pg c := by
  simp only [clearFaults, linesMove_pg]
  exact pg_setPg_other h

/-! ### The writes -/

/-- Settles O16: `regWrite_plain` for a plain register, `armRule` and `clearFaults` for the registers of the header. -/
theorem registerWritesTake : Obligations.RegisterWritesTake := by
  intro s g w b o x hb ho
  refine ⟨fun h40 hx hty hplain hhw hcan => ?_, fun page hpage => ⟨fun hcan => ?_, fun hcan => ?_, fun hcan => ?_⟩⟩
  · have e : exec (.registerWrite g (b.addr o) ⟨w, none⟩ false) s =
        .next { s with dev := pageUse s.root b (actUses b o) (s.dev.setReg b o w) } := by
      have := onReg_can s g b o w x hb ho hx hcan
      rwa [regWrite_plain h40 hty hplain hhw] at this
    refine ⟨_, e, ⟨rfl, rfl, rfl⟩, ?_, fun a ha => ?_, ?_⟩
    · simp [Dev.reg, Dev.setReg, Dev.setAddr]
    · simpa using sget_setReg_other s.dev b o a w ha
    · rw [pageUse_eq]
      rfl
  · have e : exec (.injSelWrite g page w) s = .next { s with dev := armRule b (s.dev.setReg b 0x018 w) } := by
      simp only [exec, execInjSelWrite, addr_of_page hpage]
      exact onHeader_can hb (x := r1 0x018 .rw) (by decide) rfl hcan
    refine ⟨_, e, ⟨rfl, rfl, rfl⟩, ?_, ?_, armRule_setReg_eq .., fun a ha hc => ?_⟩
    · exact (sget_armRule_other (by simp [Blk.addr]) _).trans (reg_setReg_self ..)
    · exact (reg_armRule ..).trans (by rw [reg_setReg_other _ _ _ _ _ (by decide), Dev.injCount, Dev.rf, reg_setReg_self]; rfl)
    · exact (sget_armRule_other hc _).trans (sget_setReg_other _ _ _ _ _ ha)
  · have e : exec (.injCtrlWrite g page w) s =
        .next { s with dev := armRule b (s.dev.setReg b 0x01C (maskedWord (s.dev.reg b 0x01C) w)) } := by
      simp only [exec, execInjCtrlWrite, addr_of_page hpage]
      exact onHeader_can hb (x := r1 0x01C .mc) (by decide) rfl hcan
    refine ⟨_, e, ⟨rfl, rfl, rfl⟩, ?_, armRule_setReg_eq .., fun a ha => ?_⟩
    · exact (reg_armRule ..).trans (by rw [reg_setReg_self, Dev.injCount, Dev.rf, reg_setReg_other _ _ _ _ _ (by decide)]; rfl)
    · exact (sget_armRule_other ha _).trans (sget_setReg_other _ _ _ _ _ ha)
  · have e : exec (.pageStatusClear g page w) s = .next { s with dev := clearFaults s.root g b w s.dev } := by
      simp only [exec, execPageStatusClear, addr_of_page hpage]
      exact onHeader_can hb (x := r1 0x00C .w1c) (by decide) rfl hcan
    obtain ⟨hbits, hcap⟩ := clearFaults_pg s.root g b w s.dev
    refine ⟨_, e, ⟨rfl, rfl, rfl⟩, fun i h1 h5 => ?_, ?_, fun hnone => ?_, fun c hc => clearFaults_other hc .., clearFaults_eq ..⟩
    · rw [hbits, nbit_late, leftBits, nbit_flags (leftBit s.root g (s.dev.pg b) w) h1 h5]
      rfl
    · rintro ⟨i, h1, h5, hi⟩
      have hne : leftBits s.root g (s.dev.pg b) w ≠ 0 := by
        intro h0
        have := nbit_flags (leftBit s.root g (s.dev.pg b) w) h1 h5
        rw [show ((List.range 5).map _).sum = 0 from h0, show leftBit s.root g (s.dev.pg b) w i = true from hi] at this
        simp [nbit] at this
      rw [hcap, if_pos hne]
    · have h0 : leftBits s.root g (s.dev.pg b) w = 0 := flags_eq_zero hnone
      simp only [h0, ne_eq, not_true, if_false] at hcap
      split
      next hl => simp only [PageSt.valid, hcap, hl, List.head?_nil, bitOf_cleared]
      next f l hl => rw [hcap, hl]; rfl

end Sys2Proof.Machine

/-! Register groups through the shadows (R36, R47, R48, R51, R118). -/

namespace Sys2Proof.Machine

/-! ### What the register tables say of an offset -/

/-- A register beyond the common header is a row of its page's table. -/
theorem mem_regs {b : Blk} {o : Nat} {x : Reg} (ho : 0x040 ≤ o) (hx : b.reg o = some x) : x ∈ b.regs ∧ x.has o = true := by
  simp only [Blk.reg, Nat.not_lt.mpr ho, if_false] at hx
  exact ⟨List.mem_of_find?_eq_some hx, List.find?_some (p := fun x : Reg => x.has o) hx⟩

/-- Registers stand at word offsets (R36). -/
theorem reg_aligned {b : Blk} {o : Nat} {x : Reg} (hb : b ∈ Blk.all) (ho : 0x040 ≤ o) (hx : b.reg o = some x) : o % 4 = 0 := by
  have rows : ∀ b ∈ Blk.all, ∀ x ∈ b.regs, x.off % 4 = 0 ∧ x.stride % 4 = 0 := by decide
  obtain ⟨hmem, hhas⟩ := mem_regs ho hx
  obtain ⟨hoff, hstride⟩ := rows b hb x hmem
  simp only [Reg.has, Bool.and_eq_true, decide_eq_true_eq, beq_iff_eq] at hhas
  obtain ⟨⟨hle, hmod⟩, -⟩ := hhas
  have : 4 ∣ o - x.off := (Nat.dvd_of_mod_eq_zero hstride).trans (Nat.dvd_of_mod_eq_zero hmod)
  omega

/-- The words of a group that hosts write: LW opens it. -/
def RegTy.opens (ty : RegTy) (n : Nat) : Prop := ty = .lwRw n ∨ ty = .lwPw n

/-- What is said of the rows that open a group: they have words, TRG and SHP groups are LT values, and those that act at once stand in five blocks. -/
def groupRow (b : Blk) (x : Reg) : Bool :=
  match x.ty with
  | .lwRw n => decide (1 ≤ n) && (match b with | .trg | .shp => n == 4 | .tbe | .ptp _ | .ref => true | _ => false)
  | .lwPw n => decide (1 ≤ n) && (match b with | .trg | .shp | .tbe => false | _ => true)
  | _ => true

theorem groupRow_of_reg {b : Blk} {o : Nat} {x : Reg} (hb : b ∈ Blk.all) (ho : 0x040 ≤ o) (hx : b.reg o = some x) : groupRow b x = true := by
  have rows : ∀ b ∈ Blk.all, ∀ x ∈ b.regs, groupRow b x = true := by decide
  exact rows b hb x (mem_regs ho hx).1

theorem opens_pos {b : Blk} {o n : Nat} {x : Reg} (hb : b ∈ Blk.all) (ho : 0x040 ≤ o) (hx : b.reg o = some x) (h : x.ty.opens n) : 1 ≤ n := by
  have row := groupRow_of_reg hb ho hx
  rcases h with h | h <;> simp_all [groupRow]

/-- The claim words of a gallery's event page are read-only. -/
theorem evt_claim_ro {e o : Nat} {x : Reg} (h1 : 0x0C0 ≤ o) (h2 : o < 0x0E0) (hx : (Blk.evt e).reg o = some x) : x.ty = .ro := by
  have rows : ∀ i < 0x20, ((Blk.evt 0).reg (0x0C0 + i)).all (fun x => x.ty == .ro) = true := by decide
  have := rows (o - 0x0C0) (by omega)
  rw [Nat.add_sub_cancel' h1, show (Blk.evt 0).reg o = some x from hx] at this
  simpa using this

/-! ### Reads -/

/-- A read of a register that is not read-only returns the word, and sets off nothing that a register or a shadow shows. -/
theorem readEffect_word {b : Blk} {o : Nat} {x : Reg} (hx : b.reg o = some x) (hty : x.ty ≠ .ro) (r : Root) (g : Nat) (w : Word) (d : Dev) :
    (readEffect r g b o w d).1 = w ∧ (readEffect r g b o w d).2.regs = d.regs ∧ (readEffect r g b o w d).2.rshadow = d.rshadow ∧
    (readEffect r g b o w d).2.wshadow = d.wshadow := by
  unfold readEffect
  split
  next e =>
    rw [if_neg fun h => hty (evt_claim_ro h.1 h.2 hx)]
    exact ⟨rfl, rfl, rfl, rfl⟩
  next => split <;> exact ⟨rfl, rfl, rfl, rfl⟩
  next =>
    have : o ≠ 0x048 := by
      rintro rfl
      exact hty (by cases hx; rfl)
    rw [if_neg this]
    exact ⟨rfl, rfl, rfl, rfl⟩
  next => exact ⟨rfl, rfl, rfl, rfl⟩

/-- What a read of part of one register leaves: its word and the bytes asked for (R36). -/
def readState (s : State) (g : Gal) (p : Word × Dev) (i len : Nat) : State :=
  { s with dev := p.2.hifMap fun y =>
      { y with readData := wput y.readData g p.1, readBytes := lput y.readBytes g (((wordBytes p.1).drop i).take len) } }

/-- A read of bytes inside a register is one access to it. -/
theorem lwRead_reg {s : State} {g : Gal} {b : Blk} {o : Nat} {x : Reg} (hb : b ∈ Blk.all) (h40 : 0x040 ≤ o) (hx : b.reg o = some x)
    (hr : reaches s g = true) {i len : Nat} (hlen : 1 ≤ len) (hi : i + len ≤ 4) :
    exec (.lwRead g ⟨b.addr o + i, len⟩) s = .next (readState s g (readWord s.root g (b.addr o) s.dev) i len) := by
  have h4 := reg_aligned hb h40 hx
  have ha : (b.addr o + i) / 4 * 4 = b.addr o := by simp only [Blk.addr]; omega
  have hmod : (b.addr o + i) % 4 = i := by simp only [Blk.addr]; omega
  have hn : (b.addr o + i + len - 1) / 4 - (b.addr o + i) / 4 + 1 = 1 := by simp only [Blk.addr]; omega
  refine (onRead_can s g _ _ hr hlen).trans ?_
  simp only [ha, hn, hmod, readWords_one, List.flatMap_cons, List.flatMap_nil, List.append_nil, List.headD_cons, readState]

/-- The first read of a group latches its higher words (R47). -/
theorem readWord_lw {b : Blk} {o n : Nat} {x : Reg} (hb : b ∈ Blk.all) (ho : o < 0x1000) (hx : b.reg o = some x)
    (hty : x.ty = .lwRo n ∨ x.ty = .lwRw n ∨ x.ty = .lwPw n) (r : Root) (g : Nat) (d : Dev) :
    readWord r g (b.addr o) d =
      readEffect r g b o (liveReg r d g b o) (latch g (b.addr o) ((List.range (n - 1)).map fun j => liveReg r d g b (o + 4 * (j + 1))) d) := by
  rcases hty with h | h | h <;> simp only [readWord, place_addr b o hb ho, hx, h]

theorem readWord_sh {b : Blk} {o n : Nat} {x : Reg} (hb : b ∈ Blk.all) (ho : o < 0x1000) (hx : b.reg o = some x)
    (hty : x.ty = .shRo n ∨ x.ty = .shRw n) (r : Root) (g : Nat) (d : Dev) :
    readWord r g (b.addr o) d = ((d.rsh g (b.addr o - 4 * n)).getD (n - 1) 0, d) := by
  rcases hty with h | h <;> simp only [readWord, place_addr b o hb ho, hx, h]

theorem readWord_rw {b : Blk} {o : Nat} {x : Reg} (hb : b ∈ Blk.all) (ho : o < 0x1000) (hx : b.reg o = some x) (hty : x.ty = .rw) (r : Root)
    (g : Nat) (d : Dev) : readWord r g (b.addr o) d = readEffect r g b o (liveReg r d g b o) d := by
  simp only [readWord, place_addr b o hb ho, hx, hty]

/-! ### Writes -/

theorem regWrite_sh {r : Root} {m : List Host.Cell} {g : Nat} {b : Blk} {o n : Nat} {x : Reg} {w : Word} {d : Dev} (ho : 0x040 ≤ o)
    (hty : x.ty = .shRw n ∨ x.ty = .shPw n) :
    regWrite r m g b o x w d = eff (d.setWsh g (b.addr o - 4 * n) (sput n w (d.wsh g (b.addr o - 4 * n)))) := by
  rcases hty with h | h <;> simp only [regWrite, Nat.not_lt.mpr ho, if_false, h]

/-- A group has as many words after LT values are put in form as before. -/
theorem length_groupWords {b : Blk} {o n : Nat} {x : Reg} (hb : b ∈ Blk.all) (ho : 0x040 ≤ o) (hx : b.reg o = some x) (h : x.ty.opens n)
    (d : Dev) (g : Nat) (w : Word) : (groupWords d g b o n w).length = n := by
  have row := groupRow_of_reg hb ho hx
  have hpos := opens_pos hb ho hx h
  have h4 : b = .trg ∨ b = .shp → n = 4 := by
    rcases h with h | h <;> rintro (rfl | rfl) <;> simp_all [groupRow]
  unfold groupWords ltStored
  dsimp only
  split
  next => split <;> simp [ltNorm, ltWords, h4]
  next => simp [ltNorm, ltWords, h4]
  next => split <;> simp_all [ltNorm, ltWords, rateWords]
  next => simp; omega

/-- Groups of other blocks are stored as they are written. -/
theorem groupWords_plain {b : Blk} (ht : b ≠ .trg) (hs : b ≠ .shp) (hv : b ≠ .tbe) (d : Dev) (g o n : Nat) (w : Word) :
    groupWords d g b o n w =
      w :: (List.range (n - 1)).map fun j => sget (fun _ => d.reg b (o + 4 * (j + 1))) (d.wsh g (b.addr o)) (j + 1) := by
  unfold groupWords ltStored
  dsimp only
  split
  next => exact absurd rfl ht
  next => exact absurd rfl hs
  next => exact absurd rfl hv
  next => rfl

/-- A posted group stores its words, posts them and empties the writer's shadow (R51). -/
theorem regWrite_lwPw {r : Root} {m : List Host.Cell} {g : Nat} {b : Blk} {o n : Nat} {x : Reg} {w : Word} {d : Dev} (ho : 0x040 ≤ o)
    (hty : x.ty = .lwPw n) :
    regWrite r m g b o x w d = eff (((storeWords b o (groupWords d g b o n w) d).setPost b (some { off := o, ws := groupWords d g b o n w })).setWsh g
      (b.addr o) []) := by
  simp only [regWrite, Nat.not_lt.mpr ho, if_false, hty]

/-- A group that acts at once empties the writer's shadow and takes its words (R48). -/
theorem regWrite_lwRw {r : Root} {m : List Host.Cell} {g : Nat} {b : Blk} {o n : Nat} {x : Reg} {w : Word} {d : Dev} (ho : 0x040 ≤ o)
    (hty : x.ty = .lwRw n) (hv : ¬(b = .tbe ∧ viewSetRefused d ((o - 0x120) / 0x80) w = true)) :
    regWrite r m g b o x w d = storeAct r m b o (groupWords d g b o n w) w (d.setWsh g (b.addr o) []) := by
  simp only [regWrite, Nat.not_lt.mpr ho, if_false, hty, hv]

/-- The blocks whose groups act at once. -/
def actsAtOnce (b : Blk) : Prop := match b with | .trg | .shp | .tbe | .ptp _ | .ref => True | _ => False

/-- What a block makes of such a group leaves all but the blocks of the time base, the shapers and the streams behind them. -/
theorem of_afterWrite_group {π : Part} {b : Blk} (hb : actsAtOnce b) (h : π.off [.evc, .tb, .lnd, .net, .trg, .ptp, .srv, .ref, .chan, .rte, .sap, .tx])
    (r : Root) (m : List Host.Cell) (o : Nat) (old new : List Word) (raw : Word) (d : Dev) :
    (afterWrite r m b o old new raw d).2 = [] ∧ π.of (afterWrite r m b o old new raw d).1 = π.of d := by
  cases b with
  | trg | shp | tbe | ptp | ref =>
    simp only [Part.off_one, Part.off_cons] at h
    simp only [afterWrite]
    repeat' split
    all_goals
      refine ⟨rfl, ?_⟩
      simp_all only [eff, of_overcommit, of_gateHook, of_reckon, of_viewSetHook, of_ptpCtrlHook, of_parentHook, of_capCfgHook, of_preferredHook,
        of_refInHook, of_todHook, Part.off_one, Part.off_cons, and_self]
  | _ => cases hb

/-- The Landing, the words and the shadows after a group has acted. -/
theorem storeAct_group {b : Blk} (hb : actsAtOnce b) (r : Root) (m : List Host.Cell) (o : Nat) (new : List Word) (raw : Word) (d : Dev) :
    (storeAct r m b o new raw d).2 = [] ∧ (∃ d', d'.regs = d.regs ∧ (storeAct r m b o new raw d).1.regs = (storeWords b o new d').regs) ∧
    (storeAct r m b o new raw d).1.wshadow = d.wshadow := by
  have kept : ∀ π : Part, π.off [.net] → π.of (if b = .shp then reckon r ((o - 0x100) / 0x200) d else d) = π.of d := fun π hπ => by
    simp only [Part.of_ite, of_reckon hπ, ite_self]
  have after := fun {π : Part} => of_afterWrite_group (π := π) hb
  refine ⟨(after (.of (by decide : Part.regs ∉ _)) ..).1, ⟨_, Part.same_iff.mpr (kept .regs (.of (by decide))), ?_⟩, ?_⟩
  · exact (Part.same_iff (p := .regs).mpr (after (.of (by decide)) ..).2).trans (pageUse_regs ..)
  · refine (Part.same_iff (p := .wshadow).mpr (after (.of (by decide)) ..).2).trans ?_
    rw [pageUse_wshadow, storeWords_eq]
    exact Part.same_iff.mpr (kept .wshadow (.of (by decide)))

end Sys2Proof.Machine

/-! What each access to a register group answers (R36, R47, R48, R51). -/

namespace Sys2Proof.Machine

/-- A read of part of a register that is not read-only changes no stored word and no write shadow. -/
theorem readState_kept {s : State} {g : Gal} {p : Word × Dev} {d : Dev} {i len : Nat} (hregs : p.2.regs = d.regs) (hwsh : p.2.wshadow = d.wshadow) :
    DevOnly s (readState s g p i len) ∧ (readState s g p i len).dev.regs = d.regs ∧ (readState s g p i len).dev.wshadow = d.wshadow :=
  ⟨⟨rfl, rfl, rfl⟩, hregs, hwsh⟩

theorem readData_readState (s : State) (g : Gal) (p : Word × Dev) (i len : Nat) :
    wget (readState s g p i len).dev.hif.readData g = p.1 ∧
    lget (readState s g p i len).dev.hif.readBytes g = ((wordBytes p.1).drop i).take len := by
  simp [readState, Dev.hifMap]

/-- A read of a whole register. -/
theorem lwRead_word {s : State} {g : Gal} {b : Blk} {o : Nat} {x : Reg} (hb : b ∈ Blk.all) (h40 : 0x040 ≤ o) (hx : b.reg o = some x)
    (hr : reaches s g = true) : exec (.lwRead g ⟨b.addr o, 4⟩) s = .next (readState s g (readWord s.root g (b.addr o) s.dev) 0 4) := by
  have := lwRead_reg (i := 0) hb h40 hx hr (len := 4) (by decide) (by decide)
  rwa [Nat.add_zero] at this

/-- A read of LW returns the live word and latches the words above it. -/
theorem lwRead_lw_completes {s : State} {g : Gal} {b : Blk} {o n : Nat} {x : Reg} (hb : b ∈ Blk.all) (h40 : 0x040 ≤ o) (ho : o < 0x1000)
    (hx : b.reg o = some x) (hty : x.ty = .lwRo n ∨ x.ty = .lwRw n ∨ x.ty = .lwPw n) (hr : reaches s g = true) :
    Completes (.lwRead g ⟨b.addr o, 4⟩) s fun t =>
      DevOnly s t ∧ t.dev.rsh g (b.addr o) = (List.range (n - 1)).map (fun j => liveReg s.root s.dev g b (o + 4 * (j + 1))) ∧
      wget t.dev.hif.readData g = liveReg s.root s.dev g b o ∧ t.dev.regs = s.dev.regs ∧ t.dev.wshadow = s.dev.wshadow := by
  have hro : x.ty ≠ .ro := by rcases hty with h | h | h <;> simp [h]
  refine ⟨_, lwRead_word hb h40 hx hr, ?_⟩
  rw [readWord_lw hb ho hx hty]
  obtain ⟨hword, hregs, hrsh, hwsh⟩ := readEffect_word hx hro s.root g (liveReg s.root s.dev g b o)
    (latch g (b.addr o) ((List.range (n - 1)).map fun j => liveReg s.root s.dev g b (o + 4 * (j + 1))) s.dev)
  obtain ⟨honly, hregs', hwsh'⟩ := readState_kept (s := s) (g := g) (i := 0) (len := 4) hregs hwsh
  exact ⟨honly, (congrArg (lget · _) hrsh).trans (lget_lput_self ..), (readData_readState ..).1.trans hword, hregs', hwsh'⟩

/-- A read of SH reads what was latched. -/
theorem lwRead_sh_completes {s : State} {g : Gal} {b : Blk} {o n : Nat} {x : Reg} (hb : b ∈ Blk.all) (h40 : 0x040 ≤ o) (ho : o < 0x1000)
    (hx : b.reg o = some x) (hty : x.ty = .shRo n ∨ x.ty = .shRw n) (hr : reaches s g = true) :
    Completes (.lwRead g ⟨b.addr o, 4⟩) s fun t =>
      DevOnly s t ∧ wget t.dev.hif.readData g = (s.dev.rsh g (b.addr o - 4 * n)).getD (n - 1) 0 ∧ t.dev = { s.dev with hif := t.dev.hif } := by
  refine ⟨_, lwRead_word hb h40 hx hr, ?_⟩
  rw [readWord_sh hb ho hx hty]
  exact ⟨⟨rfl, rfl, rfl⟩, (readData_readState ..).1, rfl⟩

/-- A read of part of a plain register returns the bytes asked for. -/
theorem lwRead_rw_completes {s : State} {g : Gal} {b : Blk} {o i len : Nat} {x : Reg} (hb : b ∈ Blk.all) (h40 : 0x040 ≤ o) (ho : o < 0x1000)
    (hx : b.reg o = some x) (hlen : 1 ≤ len) (hi : i + len ≤ 4) (hty : x.ty = .rw) (hr : reaches s g = true) :
    Completes (.lwRead g ⟨b.addr o + i, len⟩) s fun t =>
      DevOnly s t ∧ wget t.dev.hif.readData g = liveReg s.root s.dev g b o ∧ t.dev.regs = s.dev.regs ∧
      lget t.dev.hif.readBytes g = ((wordBytes (liveReg s.root s.dev g b o)).drop i).take len := by
  refine ⟨_, lwRead_reg hb h40 hx hr hlen hi, ?_⟩
  rw [readWord_rw hb ho hx hty]
  obtain ⟨hword, hregs, -, hwsh⟩ := readEffect_word hx (by simp [hty]) s.root g (liveReg s.root s.dev g b o) s.dev
  obtain ⟨honly, hregs', -⟩ := readState_kept (s := s) (g := g) (i := i) (len := len) hregs hwsh
  obtain ⟨hdata, hbytes⟩ := readData_readState s g (readEffect s.root g b o (liveReg s.root s.dev g b o) s.dev) i len
  rw [hword] at hdata hbytes
  exact ⟨honly, hdata, hregs', hbytes⟩

/-- A write of SH is held in the writer's shadow. -/
theorem shWrite_completes {s : State} {g : Gal} {b : Blk} {o n : Nat} {x : Reg} {w : Word} (hb : b ∈ Blk.all) (h40 : 0x040 ≤ o) (ho : o < 0x1000)
    (hx : b.reg o = some x) (hty : x.ty = .shRw n ∨ x.ty = .shPw n) (hw : canWrite s g b o w = true) :
    Completes (.shWrite g (b.addr o) w) s fun t =>
      DevOnly s t ∧ sget (fun _ => 0) (t.dev.wsh g (b.addr o - 4 * n)) n = w ∧ t.dev = { s.dev with wshadow := t.dev.wshadow } := by
  refine ⟨_, onReg_can s g b o w x hb ho hx hw, ?_⟩
  simp only [regWrite_sh h40 hty, eff]
  exact ⟨⟨rfl, rfl, rfl⟩, by simp [sget_sput_self], rfl⟩

/-- A group's words stand in storage once stored, and no other word has changed. -/
theorem words_of_stored {b : Blk} {o n : Nat} {ws : List Word} {d d' e : Dev} (hn : ws.length = n) (hd : d'.regs = d.regs)
    (he : e.regs = (storeWords b o ws d').regs) :
    (∀ j < n, e.reg b (o + 4 * j) = ws.getD j 0) ∧
    (∀ a, a < b.addr o ∨ b.addr o + 4 * n ≤ a → sget regReset e.regs a = sget regReset d.regs a) := by
  refine ⟨fun j hj => ?_, fun a ha => ?_⟩
  · exact (congrArg (fun m => sget regReset m (b.addr (o + 4 * j))) he).trans (reg_storeWords b o j ws d' (hn ▸ hj))
  · rw [he, sget_storeWords_outside b o a ws d' (hn ▸ ha), hd]

theorem post_setWsh (d : Dev) (g a : Nat) (m : SMap Word) (b : Blk) : (d.setWsh g a m).post b = d.post b := rfl

/-- A write of LW commits it with the held words, at once or posted. -/
theorem lwCommit_completes {s : State} {g : Gal} {b : Blk} {o n : Nat} {x : Reg} {w : Word} (hb : b ∈ Blk.all) (h40 : 0x040 ≤ o) (ho : o < 0x1000)
    (hx : b.reg o = some x) (hty : x.ty.opens n) (hw : canWrite s g b o w = true)
    (hv : ¬(b = .tbe ∧ viewSetRefused s.dev ((o - 0x120) / 0x80) w = true)) :
    Completes (.lwCommit g (b.addr o) w) s fun t =>
      let ws := groupWords s.dev g b o n w
      t.pending = s.pending ∧ t.root = s.root ∧ t.mem = s.mem ∧ (∀ j < n, t.dev.reg b (o + 4 * j) = ws.getD j 0) ∧ t.dev.wsh g (b.addr o) = [] ∧
      (∀ a, a < b.addr o ∨ b.addr o + 4 * n ≤ a → sget regReset t.dev.regs a = sget regReset s.dev.regs a) ∧
      (x.ty = .lwPw n → t.dev.post b = some { off := o, ws := ws } ∧ (∀ j < n, t.dev.pwv b (o + 4 * j) = s.dev.pwv b (o + 4 * j)) ∧
        t.dev = { s.dev with regs := t.dev.regs, parityBad := t.dev.parityBad, wshadow := t.dev.wshadow, posted := t.dev.posted }) := by
  have hlen := length_groupWords hb h40 hx hty s.dev g w
  refine ⟨_, onReg_can s g b o w x hb ho hx hw, ?_⟩
  rcases hty with hty | hty
  · have hat : actsAtOnce b := by
      have row := groupRow_of_reg hb h40 hx
      cases b <;> simp_all [groupRow, actsAtOnce]
    obtain ⟨hmem, ⟨d', hd', hregs⟩, hwsh⟩ := storeAct_group hat s.root s.mem o (groupWords s.dev g b o n w) w (s.dev.setWsh g (b.addr o) [])
    obtain ⟨hwords, hother⟩ := words_of_stored (d := s.dev) hlen hd' hregs
    rw [regWrite_lwRw h40 hty hv, hmem]
    refine ⟨rfl, rfl, rfl, hwords, ?_, hother, fun h => ?_⟩
    · simp only [Dev.wsh, hwsh]
      exact wsh_setWsh_self ..
    · simp [hty] at h
  · obtain ⟨hwords, hother⟩ := words_of_stored (b := b) (o := o) (d := s.dev) (d' := s.dev) hlen rfl rfl
    rw [regWrite_lwPw h40 hty]
    refine ⟨rfl, rfl, rfl, hwords, wsh_setWsh_self .., hother, fun _ => ⟨(post_setWsh ..).trans (post_setPost_self ..), fun j _ => ?_, ?_⟩⟩
    · simp only [eff, Dev.pwv, Dev.setWsh, Dev.setPost]
      rw [storeWords_eq]
    · simp only [eff, Dev.setWsh, Dev.setPost]
      rw [storeWords_eq]

end Sys2Proof.Machine

/-! Entries of the table regions through the shadows (R49, R243). -/

namespace Sys2Proof.Machine

/-! ### The words of an entry -/

/-- The region of an address within its bounds. -/
theorem find_region {t : Tbl} {a : Nat} (hlo : t.base ≤ a) (hhi : a < t.base + t.size * t.entries) :
    (Tbl.all.find? fun u => u.base ≤ a && a < u.base + u.size * u.entries) = some t := by
  cases t <;> simp [Tbl.all] <;> simp only [Tbl.base, Tbl.size, Tbl.entries, Tbl.geom] at hlo hhi ⊢ <;> omega

theorem entry_in_region {t : Tbl} {e i : Nat} (he : e < t.entries) (hi : i < t.size / 4) :
    t.base ≤ t.addr e i ∧ t.addr e i < t.base + t.size * t.entries := by
  have hrow : t.size * e + t.size ≤ t.size * t.entries := Nat.mul_le_mul_left t.size he
  rw [Tbl.addr, Nat.mul_comm e]
  omega

/-- The place of any word of an entry. -/
theorem place_entry {t : Tbl} {e i : Nat} (he : e < t.entries) (hi : i < t.size / 4) : place (t.addr e i) = .table t e i := by
  obtain ⟨hlo, hhi⟩ := entry_in_region he hi
  have htable : ¬ t.addr e i < 0x80000 := by
    have : 0x80000 ≤ t.base := by cases t <;> decide
    omega
  have hoff : t.addr e i - t.base = 4 * i + t.size * e := by
    rw [Nat.mul_comm t.size]
    simp only [Tbl.addr]
    omega
  have hlt : 4 * i < t.size := by omega
  simp only [place, htable, if_false, find_region hlo hhi, hoff, Nat.add_mul_div_left _ _ (Nat.zero_lt_of_lt hlt), Nat.div_eq_of_lt hlt, Nat.add_mul_mod_self_left,
    Nat.mod_eq_of_lt hlt, Nat.zero_add, Nat.mul_div_cancel_left i (by decide : 0 < 4)]

theorem setTw_eq (d : Dev) (t : Tbl) (e i : Nat) (w : Word) :
    d.setTw t e i w = { d with regs := (d.setTw t e i w).regs, parityBad := (d.setTw t e i w).parityBad } := rfl

@[simp] theorem tw_setTw_self (d : Dev) (t : Tbl) (e i : Nat) (w : Word) : (d.setTw t e i w).tw t e i = w := sget_sset_self ..

theorem tw_setTw_other {t u : Tbl} {e f i j : Nat} (h : u.addr f j ≠ t.addr e i) (d : Dev) (w : Word) : (d.setTw t e i w).tw u f j = d.tw u f j :=
  sget_sset_other _ _ _ _ _ h

/-- Words of one entry stand at addresses of their own. -/
theorem entry_addr_inj {t : Tbl} {e i j : Nat} (h : j ≠ i) : t.addr e j ≠ t.addr e i := by
  simp only [Tbl.addr]
  omega

/-- An entry takes words from word `i` up. -/
def storeEntry (t : Tbl) (e i : Nat) (ws : List Word) (d : Dev) : Dev := (ws.foldl (fun (a : Nat × Dev) x => (a.1 + 1, a.2.setTw t e a.1 x)) (i, d)).2

@[simp] theorem storeEntry_nil (t : Tbl) (e i : Nat) (d : Dev) : storeEntry t e i [] d = d := rfl

@[simp] theorem storeEntry_cons (t : Tbl) (e i : Nat) (w : Word) (ws : List Word) (d : Dev) :
    storeEntry t e i (w :: ws) d = storeEntry t e (i + 1) ws (d.setTw t e i w) := rfl

/-- Storing an entry changes the stored words and their parity alone. -/
theorem storeEntry_eq (t : Tbl) (e i : Nat) (ws : List Word) (d : Dev) :
    storeEntry t e i ws d = { d with regs := (storeEntry t e i ws d).regs, parityBad := (storeEntry t e i ws d).parityBad } := by
  induction ws generalizing i d with
  | nil => rfl
  | cons w ws ih => rw [storeEntry_cons, ih, setTw_eq]

@[simp] theorem storeEntry_tshadow (t : Tbl) (e i : Nat) (ws : List Word) (d : Dev) : (storeEntry t e i ws d).tshadow = d.tshadow := by
  rw [storeEntry_eq]

@[simp] theorem storeEntry_page (t : Tbl) (e i : Nat) (ws : List Word) (d : Dev) : (storeEntry t e i ws d).page = d.page := by
  rw [storeEntry_eq]

theorem tw_storeEntry_below {t : Tbl} {e i j : Nat} (h : j < i) (ws : List Word) (d : Dev) : (storeEntry t e i ws d).tw t e j = d.tw t e j := by
  induction ws generalizing i d with
  | nil => rfl
  | cons w ws ih => rw [storeEntry_cons, ih (by omega), tw_setTw_other (entry_addr_inj (by omega))]

/-- Each word stored reads back. -/
theorem tw_storeEntry {t : Tbl} {e i j : Nat} {ws : List Word} (h : j < ws.length) (d : Dev) :
    (storeEntry t e i ws d).tw t e (i + j) = ws.getD j 0 := by
  induction ws generalizing i j d with
  | nil => simp at h
  | cons w ws ih =>
    cases j with
    | zero => simp [tw_storeEntry_below]
    | succ j => simpa [Nat.add_assoc, Nat.add_comm 1] using ih (i := i + 1) (by simpa using h) (d.setTw t e i w)

/-! ### What a commit takes -/

theorem entry_nonempty (t : Tbl) : 1 ≤ t.size / 4 := by cases t <;> decide

theorem length_commitWords (d : Dev) (g : Nat) (t : Tbl) (e : Nat) (w : Word) : (commitWords d g t e w).length = t.size / 4 := by
  simp [commitWords, commitWords.allWords, Nat.sub_add_cancel (entry_nonempty t)]

theorem getD_zipIdx_and (ws : List Word) (m : Nat → Word) {i : Nat} (h : i < ws.length) :
    (ws.zipIdx.map fun p => p.1 &&& m p.2).getD i 0 = ws.getD i 0 &&& m i := by
  simp [List.getD_eq_getElem?_getD, h]

/-- Word 0 is the one written, without the bits that no table lists. -/
theorem commitWords_zero (d : Dev) (g : Nat) (t : Tbl) (e : Nat) (w : Word) : (commitWords d g t e w).getD 0 0 = w &&& listedBits t w 0 :=
  getD_zipIdx_and _ _ (by simp [commitWords.allWords])

/-- The words above it are the held ones, or those that stand. -/
theorem commitWords_held (d : Dev) (g : Nat) (t : Tbl) (e : Nat) (w : Word) {i : Nat} (h1 : 1 ≤ i) (hi : i < t.size / 4) :
    (commitWords d g t e w).getD i 0 = sget (fun _ => d.tw t e i) (d.tsh g t) (t.addr e i) &&& listedBits t w i := by
  obtain ⟨j, rfl⟩ := Nat.exists_eq_add_of_le' h1
  have hj : j < t.size / 4 - 1 := by omega
  refine (getD_zipIdx_and _ _ (by simp [commitWords.allWords, hj])).trans ?_
  simp [commitWords.allWords, List.getD_eq_getElem?_getD, hj]

/-! ### What is torn -/

/-- The faults of words held of other entries. -/
def tear (r : Root) (g : Nat) (t : Tbl) (l : List Nat) (d : Dev) : Dev := l.foldl (fun d f => fault r t.blk .tableTorn g (t.addr f 0) d) d

@[simp] theorem tear_cons (r : Root) (g : Nat) (t : Tbl) (f : Nat) (l : List Nat) (d : Dev) :
    tear r g t (f :: l) d = tear r g t l (fault r t.blk .tableTorn g (t.addr f 0) d) := rfl

/-- They touch the faults of the pages alone. -/
theorem tear_eq (r : Root) (g : Nat) (t : Tbl) (l : List Nat) (d : Dev) :
    tear r g t l d = { d with page := (tear r g t l d).page, lines := (tear r g t l d).lines } := by
  induction l generalizing d with
  | nil => rfl
  | cons f l ih => rw [tear_cons, ih, fault_eq]

theorem tear_bit (r : Root) (g : Nat) (t : Tbl) (l : List Nat) (d : Dev) :
    nbit ((tear r g t l d).pg t.blk).bits 5 = (nbit (d.pg t.blk).bits 5 || !l.isEmpty) := by
  induction l generalizing d with
  | nil => simp [tear]
  | cons f l ih => simp [ih, fault_bits, FaultKind.bit]

/-- The device once the torn words are reported, the shadow is empty and the entry has its words. -/
def entryStored (r : Root) (g : Nat) (t : Tbl) (e : Nat) (w : Word) (d : Dev) : Dev :=
  storeEntry t e 0 (commitWords d g t e w) ((tear r g t (tornEntries d g t e) d).setTsh g t [])

theorem entryCommit_eq (r : Root) (g : Nat) (t : Tbl) (e : Nat) (w : Word) (d : Dev) :
    entryCommit r g t e w d = afterEntry r g t e (entryWords d t e) (commitWords d g t e w) (entryStored r g t e w d) := rfl

theorem entryStored_eq (r : Root) (g : Nat) (t : Tbl) (e : Nat) (w : Word) (d : Dev) :
    entryStored r g t e w d = { d with
      regs := (entryStored r g t e w d).regs, parityBad := (entryStored r g t e w d).parityBad, page := (entryStored r g t e w d).page,
      lines := (entryStored r g t e w d).lines, tshadow := (entryStored r g t e w d).tshadow } := by
  unfold entryStored
  rw [storeEntry_eq, tear_eq]
  rfl

/-! ### What the engines leave of it -/

theorem tw_monMap (d : Dev) (f : MonSt → MonSt) (t : Tbl) (e i : Nat) : (d.monMap f).tw t e i = d.tw t e i := rfl

/-- A slot's bins stand apart from every slot's entry. -/
theorem tw_clearBins {s i : Nat} (hs : s < 512) {l : List Nat} (hl : ∀ j ∈ l, j < 64) (d : Dev) :
    (l.foldl (fun d j => d.setTw .hist (64 * s + j) 0 0) d).tw .monslot s i = d.tw .monslot s i := by
  induction l generalizing d with
  | nil => rfl
  | cons j l ih =>
    have hj := hl j (List.mem_cons_self ..)
    refine (ih (fun k hk => hl k (List.mem_cons_of_mem _ hk)) _).trans (tw_setTw_other ?_ ..)
    simp only [Tbl.addr, Tbl.base, Tbl.size, Tbl.geom]
    omega

/-- Clearing a monitor slot changes its last two words and its bins. -/
theorem tw_monClear {s i : Nat} (hs : s < 512) (hi : i < 6) (d : Dev) : (monClear s d).tw .monslot s i = d.tw .monslot s i := by
  have bins : ∀ j ∈ List.range 64, j < 64 := fun _ => List.mem_range.mp
  rw [monClear, tw_monMap, tw_setTw_other (entry_addr_inj (by omega)), tw_setTw_other (entry_addr_inj (by omega)), tw_clearBins hs bins]

theorem tw_monCommit {s i : Nat} (hs : s < 512) (hi : i < 6) (old new : List Word) (d : Dev) :
    (monCommit s old new d).tw .monslot s i = d.tw .monslot s i := by
  have cleared (c : Prop) [Decidable c] : (if c then d else monClear s d).tw .monslot s i = d.tw .monslot s i := by
    split
    · rfl
    · exact tw_monClear hs hi d
  unfold monCommit
  dsimp only
  split
  · exact cleared _
  · exact cleared _

/-- Of the regions, the monitor slots' alone changes words after a commit. -/
theorem off_entryParts {t : Tbl} (h : t ≠ .monslot) : Part.regs.off (entryParts t) := by
  cases t with
  | monslot => exact absurd rfl h
  | _ => exact .of (by decide)

/-- Every word that hosts write stands as committed. -/
theorem tw_afterEntry {t : Tbl} {e i : Nat} (he : e < t.entries) (hi : statusWord t i = false) (r : Root) (g : Nat) (old new : List Word) (d : Dev) :
    (afterEntry r g t e old new d).tw t e i = d.tw t e i := by
  by_cases ht : t = .monslot
  · subst ht
    exact tw_monCommit he (by simpa [statusWord] using hi) old new d
  · have hregs : (afterEntry r g t e old new d).regs = d.regs :=
      Part.same_iff.mpr (of_afterEntry r g t e old new d (off_entryParts ht))
    simp only [Dev.tw, hregs]

/-- What a commit leaves in storage, in the shadow and on the region's page. -/
theorem entryCommit_stored {t : Tbl} {e : Nat} (he : e < t.entries) (r : Root) (g : Nat) (w : Word) (d : Dev) :
    (∀ i, i < t.size / 4 → statusWord t i = false → (entryCommit r g t e w d).tw t e i = (commitWords d g t e w).getD i 0) ∧
    (entryCommit r g t e w d).tsh g t = [] ∧
    nbit ((entryCommit r g t e w d).pg t.blk).bits 5 = (nbit (d.pg t.blk).bits 5 || !(tornEntries d g t e).isEmpty) := by
  have kept : ∀ π : Part, π.off [.regs, .parityBad, .mon, .owed, .lnd, .tx, .rx, .evc, .rte] →
      π.of (entryCommit r g t e w d) = π.of (entryStored r g t e w d) := fun π h =>
    of_afterEntry r g t e _ _ _ (h.mono (by cases t <;> decide))
  have hpage : (entryCommit r g t e w d).page = (entryStored r g t e w d).page := Part.same_iff.mpr (kept .page (.of (by decide)))
  have htsh : (entryCommit r g t e w d).tshadow = (entryStored r g t e w d).tshadow := Part.same_iff.mpr (kept .tshadow (.of (by decide)))
  refine ⟨fun i hi hs => ?_, ?_, ?_⟩
  · rw [entryCommit_eq, tw_afterEntry he hs]
    have := tw_storeEntry (t := t) (e := e) (i := 0) (j := i) (ws := commitWords d g t e w) (by rwa [length_commitWords])
      ((tear r g t (tornEntries d g t e) d).setTsh g t [])
    rwa [Nat.zero_add] at this
  · simp only [Dev.tsh, htsh, entryStored, storeEntry_tshadow]
    exact tsh_setTsh_self ..
  · simp only [Dev.pg, hpage, entryStored, storeEntry_page]
    exact tear_bit ..

/-! ### The commands -/

/-- A commit takes the entry's words at once, and reports those held of another as torn. -/
theorem entryCommit_completes {s : State} {g : Gal} {t : Tbl} {e : Nat} {w : Word} (he : e < t.entries) (hw : canCommit s g t e w = true) :
    Completes (.tableEntryCommit g (t.addr e 0) w) s fun u =>
      DevOnly s u ∧ u.dev.tw t e 0 = w &&& listedBits t w 0 ∧
      (∀ i, 1 ≤ i → i < t.size / 4 → statusWord t i = false →
        u.dev.tw t e i = sget (fun _ => s.dev.tw t e i) (s.dev.tsh g t) (t.addr e i) &&& listedBits t w i) ∧
      u.dev.tsh g t = [] ∧ (tornEntries s.dev g t e ≠ [] → nbit (u.dev.pg t.blk).bits 5 = true) ∧
      (t = .flow → u.dev = { s.dev with
        regs := u.dev.regs, parityBad := u.dev.parityBad, page := u.dev.page, lines := u.dev.lines, tshadow := u.dev.tshadow }) := by
  refine ⟨_, onEntry_can s g t e w he (statusWord_zero t) hw, ?_⟩
  obtain ⟨hwords, hshadow, htorn⟩ := entryCommit_stored he s.root g w s.dev
  refine ⟨⟨rfl, rfl, rfl⟩, ?_, fun i h1 hi hs => ?_, hshadow, fun h => ?_, ?_⟩
  · exact (hwords 0 (entry_nonempty t) (statusWord_zero t)).trans (commitWords_zero ..)
  · exact (hwords i hi hs).trans (commitWords_held _ _ _ _ _ h1 hi)
  · exact htorn.trans (by simp [h])
  · rintro rfl
    exact entryStored_eq ..

/-- A word above 0 is held in the writer's shadow. -/
theorem entryHold_completes {s : State} {g : Gal} {t : Tbl} {e i : Nat} {w : Word} (he : e < t.entries) (h1 : 1 ≤ i) (hi : i < t.size / 4)
    (hs : statusWord t i = false) (hr : reaches s g = true) (ht : tableRight s.root s.dev g t e = .ok) :
    Completes (.tableEntryCommit g (t.addr e i) w) s fun u =>
      DevOnly s u ∧ sget (fun _ => 0) (u.dev.tsh g t) (t.addr e i) = w ∧
      (∀ a, a ≠ t.addr e i → sget (fun _ => 0) (u.dev.tsh g t) a = sget (fun _ => 0) (s.dev.tsh g t) a) ∧
      u.dev = { s.dev with tshadow := u.dev.tshadow } := by
  have hword : writeWord s.root s.mem g (t.addr e i) w false s.dev =
      (true, eff (s.dev.setTsh g t (sput (t.addr e i) w (s.dev.tsh g t)))) := by
    simp [writeWord, place_entry he hi, ht, hs, Nat.one_le_iff_ne_zero.mp h1]
  refine ⟨_, onWrite_reaches hr _ w false, ?_⟩
  rw [hword]
  refine ⟨⟨rfl, rfl, rfl⟩, ?_, fun a ha => ?_, rfl⟩
  · exact (congrArg (sget _ · _) (tsh_setTsh_self ..)).trans (sget_sput_self ..)
  · exact (congrArg (sget _ · _) (tsh_setTsh_self ..)).trans (sget_sput_other _ _ _ _ _ ha)

/-- Settles O17: each access to a group and to an entry in turn. -/
theorem groupsAndEntriesCommitWhole : Obligations.GroupsAndEntriesCommitWhole := by
  refine ⟨fun s g w b o n x hb h40 ho hx => ⟨?_, ?_, ?_, ?_, ?_, fun ht hs hv => groupWords_plain ht hs hv s.dev g o n w⟩, fun s g t e w he => ⟨?_, ?_⟩⟩
  · exact lwRead_lw_completes hb h40 ho hx
  · exact lwRead_sh_completes hb h40 ho hx
  · exact shWrite_completes hb h40 ho hx
  · exact fun i len => lwRead_rw_completes hb h40 ho hx
  · exact lwCommit_completes hb h40 ho hx
  · exact entryCommit_completes he
  · exact fun i => entryHold_completes he

end Sys2Proof.Machine

/-! PROOFS of the family 03_galleries_and_host_links: first the state after reset (R72, R76, R108, R114, R117, R214, R385). -/

namespace Sys2Proof.Machine

/-- Only sources 96 and 97 have moved since reset (R110, R117), and their line's pulse is not yet an edge. -/
theorem src_reset (n : Nat) : (State.reset.dev.src n).st = .idle ∧ (State.reset.dev.src n).mask = true := by
  by_cases h96 : n = 96
  · subst h96
    exact ⟨rfl, rfl⟩
  · by_cases h97 : n = 97
    · subst h97
      exact ⟨rfl, rfl⟩
    · simp [Dev.src, State.reset, sget, h96, h97]

theorem view_reset (v : Nat) : State.reset.dev.view v = {} := by
  unfold Dev.view
  split <;> rfl

/-- Settles O3: the sparse arrays are empty, so that each reads as what its unlisted entries hold. -/
theorem resetState : Obligations.ResetState :=
  ⟨rfl, rfl, rfl, rfl, rfl, fun _ _ => ⟨rfl, rfl⟩, fun _ _ _ => rfl, fun _ => rfl, rfl, fun _ _ => rfl, by decide, rfl, by decide,
    fun v => by simp [view_reset v], rfl, src_reset, fun _ => rfl, fun _ => ⟨rfl, rfl, rfl, rfl, rfl⟩⟩

end Sys2Proof.Machine

/-! Which commands leave the Landing's bytes as they are (R79, R229, R377). -/

namespace Sys2Proof.Machine

/-! ### Writes of words that store nothing to the Landing -/

/-- The registers whose writes can store to the Landing: NETn.CTRL, which closes a port, and the REL words of the corridors, which let what was pending
into a ring. -/
def landingWord (b : Blk) (o : Nat) : Bool :=
  match b with
  | .net _ => o == 0x040
  | .cor => decide (0x800 ≤ o) && o % 8 != 0
  | _ => false

theorem strobe_stores (r : Root) (g : Nat) (b : Blk) (o : Nat) (w : Word) (d : Dev) : (strobe r g b o w d).2 = [] := by
  cases b <;> simp only [strobe, eff]
  all_goals split <;> rfl

theorem blockWrite_stores {b : Blk} {o : Nat} (h : landingWord b o = false) (r : Root) (g : Nat) (w : Word) (d : Dev) :
    (blockWrite r g b o w d).2 = [] := by
  cases b with
  | cor =>
    simp only [landingWord, Bool.and_eq_false_iff, decide_eq_false_iff_not, bne_eq_false_iff_eq] at h
    simp only [blockWrite]
    split_ifs
    · rfl
    · rfl
    · omega
    · rfl
    · rfl
  | _ => rfl

theorem afterWrite_stores {b : Blk} {o : Nat} (h : landingWord b o = false) (r : Root) (m : List Host.Cell) (old new : List Word) (raw : Word) (d : Dev) :
    (afterWrite r m b o old new raw d).2 = [] := by
  cases b with
  | net p =>
    have ho : o ≠ 0x040 := by simpa [landingWord] using h
    simp [afterWrite, ho, eff]
  | shp | ref =>
    unfold afterWrite
    dsimp only
    split_ifs <;> rfl
  | _ => rfl

theorem storeAct_stores {b : Blk} {o : Nat} (h : landingWord b o = false) (r : Root) (m : List Host.Cell) (new : List Word) (raw : Word) (d : Dev) :
    (storeAct r m b o new raw d).2 = [] := afterWrite_stores h ..

theorem regWrite_stores {b : Blk} {o : Nat} (h : landingWord b o = false) (r : Root) (m : List Host.Cell) (g : Nat) (x : Reg) (w : Word) (d : Dev) :
    (regWrite r m g b o x w d).2 = [] := by
  unfold regWrite
  split
  · rfl
  · split
    case h_4 | h_5 => exact strobe_stores ..
    case h_6 | h_7 => split <;> exact storeAct_stores h ..
    case h_8 =>
      split
      · rfl
      · exact storeAct_stores h ..
    case h_9 | h_10 => exact blockWrite_stores h ..
    case h_13 =>
      dsimp only
      split
      · rfl
      · exact storeAct_stores h ..
    all_goals rfl

/-- A write of a word elsewhere than in those registers stores nothing to the Landing, whether it passes R37 or not. -/
theorem writeWord_stores {a : Nat} (h : ∀ b o, place a = .reg b o → landingWord b o = false) (r : Root) (m : List Host.Cell) (g : Nat) (w : Word)
    (narrow : Bool) (d : Dev) : (writeWord r m g a w narrow d).2.2 = [] := by
  unfold writeWord
  dsimp only
  split
  · rfl
  split
  · rfl
  · repeat' split
    all_goals rfl
  · next b o hp =>
    split
    · split <;> rfl
    split
    · rfl
    · rfl
    · rfl
    · split_ifs
      · rfl
      · rfl
      · exact regWrite_stores (h b o hp) ..

/-! ### Outcomes with the Landing as it was -/

/-- An outcome whose state has the Landing that `s` has. -/
def KeepsMem (s : State) (o : Host.Outcome State Fault Refusal) : Prop := ∀ t, o = .next t → t.mem = s.mem

theorem keepsMem_next {s t : State} (h : t.mem = s.mem) : KeepsMem s (.next t) := by
  rintro _ ⟨⟩
  exact h

theorem ite_keepsMem {c : Prop} [Decidable c] {s : State} {x y : Host.Outcome State Fault Refusal} (hx : KeepsMem s x) (hy : KeepsMem s y) :
    KeepsMem s (if c then x else y) := by
  split
  · exact hx
  · exact hy

theorem onDev_keepsMem (f : Root → Dev → Dev) (s : State) : KeepsMem s (onDev f s) := ite_keepsMem (keepsMem_next rfl) (keepsMem_next rfl)

theorem onDevMem_keepsMem (f : Root → List Host.Cell → Dev → Dev) (s : State) : KeepsMem s (onDevMem f s) := onDev_keepsMem _ s

theorem onRun_keepsMem (f : Root → Dev → Dev) (s : State) : KeepsMem s (onRun f s) := ite_keepsMem (keepsMem_next rfl) (keepsMem_next rfl)

theorem onMem_keepsMem {f : Root → List Host.Cell → Dev → Dev × List MemWr} {s : State} (h : (f s.root s.mem s.dev).2 = []) :
    KeepsMem s (onMem f s) := ite_keepsMem (keepsMem_next (congrArg (memWrites s.mem) h)) (keepsMem_next rfl)

theorem onRunMem_keepsMem {f : Root → List Host.Cell → Dev → Dev × List MemWr} {s : State} (h : (f s.root s.mem s.dev).2 = []) :
    KeepsMem s (onRunMem f s) := ite_keepsMem (keepsMem_next (congrArg (memWrites s.mem) h)) (keepsMem_next rfl)

theorem onWrite_keepsMem {a : Nat} (h : ∀ b o, place a = .reg b o → landingWord b o = false) (g : Nat) (w : Word) (narrow : Bool) (s : State) :
    KeepsMem s (onWrite g a w narrow s) :=
  onMem_keepsMem (by
    split
    · exact writeWord_stores h ..
    · rfl)

theorem onReg_keepsMem {b : Blk} {o : Nat} (hb : b ∈ Blk.all) (ho : o < 0x1000) (h : landingWord b o = false) (g : Nat) (w : Word) (s : State) :
    KeepsMem s (onReg g b o w s) :=
  onWrite_keepsMem (fun c q e => by
    obtain ⟨rfl, rfl⟩ : b = c ∧ o = q := by simpa [place_addr b o hb ho] using e
    exact h) g w false s

theorem onEntry_keepsMem {t : Tbl} {e : Nat} (he : e < t.entries) (g : Nat) (w : Word) (s : State) : KeepsMem s (onEntry g t e w s) :=
  onWrite_keepsMem (fun b o h => by simp [place_table t e he] at h) g w false s

/-- The place of a register's address has the offset in the page. -/
theorem place_offset {a : Nat} {b : Blk} {o : Nat} (h : place a = .reg b o) : o = a % 0x1000 := by
  unfold place at h
  split at h <;> split at h <;> simp_all

/-- A write of a register of the common header, on whatever page. -/
theorem onHeader_keepsMem {page o : Nat} (ho : o < 0x040) (g : Nat) (w : Word) (s : State) : KeepsMem s (onWrite g (page * 0x1000 + o) w false s) :=
  onWrite_keepsMem (fun b q h => by
    obtain rfl : q = o := by
      have := place_offset h
      omega
    cases b <;> simp [landingWord] <;> omega) g w false s

theorem onRead_keepsMem (g a n : Nat) (s : State) : KeepsMem s (onRead g a n s) := onDev_keepsMem _ s

/-- A frame that writes no burst stores nothing. -/
theorem velFrame_stores {f : Frame} (h : f.op ≠ .wr) (r : Root) (q : Nat) (m : List Host.Cell) (d : Dev) : (velFrame r q f m d).2 = [] := by
  unfold velFrame
  dsimp only
  split
  · rfl
  split
  · rfl
  split
  · rfl
  split
  · contradiction
  all_goals rfl

theorem onFrame_keepsMem {f : Frame} (h : f.op ≠ .wr) (q : Nat) (s : State) : KeepsMem s (onFrame q f s) := by
  unfold onFrame
  refine ite_keepsMem (keepsMem_next rfl) ?_
  split
  · exact onMem_keepsMem (velFrame_stores h ..)
  · exact onMem_keepsMem (velFrame_stores h ..)
  all_goals exact keepsMem_next rfl

theorem sleepCommit_mem (s : State) : (sleepCommit s).mem = s.mem := by
  unfold sleepCommit
  dsimp only
  repeat' split
  all_goals rfl

theorem pwComplete_mem (b : Blk) (s : State) : (pwComplete b s).mem = s.mem := by
  unfold pwComplete
  split
  · rfl
  · split
    · exact sleepCommit_mem s
    · rfl

theorem onPost_keepsMem (b : Blk) (s : State) : KeepsMem s (onPost b s) :=
  keepsMem_next ((apply_ite State.mem ..).trans (by rw [pwComplete_mem, ite_self]))

theorem onMcsPost_keepsMem (n o : Nat) (rel : Word → Word → Bool) (s : State) : KeepsMem s (onMcsPost n o rel s) :=
  ite_keepsMem (onPost_keepsMem _ s) (keepsMem_next rfl)

theorem vinWarn_mem (b : Bool) (s : State) : (vinWarn b s).mem = s.mem := by
  unfold vinWarn
  split <;> rfl

theorem quietEnter_mem (s : State) : (quietEnter s).mem = s.mem := by
  unfold quietEnter
  split <;> rfl

theorem quietExit_mem (s : State) : (quietExit s).mem = s.mem := by
  unfold quietExit
  split <;> rfl

theorem dozeWake_mem (i : Nat) (rising : Bool) (ms : Nat) (s : State) : (dozeWake i rising ms s).mem = s.mem := by
  unfold dozeWake
  dsimp only
  split <;> rfl

theorem watchEntry_mem (i : Nat) (rising : Bool) (s : State) : (watchEntry i rising s).mem = s.mem := by
  unfold watchEntry
  dsimp only
  repeat' split
  all_goals rfl

theorem ecWrapped_mem (s : State) : (ecWrapped s).mem = s.mem := by
  unfold ecWrapped
  split <;> rfl

/-! ### Each command -/

/-- A command that is not named as storing to the Landing leaves it as it was. -/
theorem exec_keepsMem (i : Instr) (s : State) (h : i.storesLanding = false) : KeepsMem s (exec i s) := by
  cases i with
  | xoInLoss | sysPllUnlock | parityScrub | pcieLinkUp | pcieLinkLoss | functionLevelReset | d3hotEntry | d0Entry | msixMaskChange
  | qspiFrameAbort | eventEdge | sourceDispatch | coalTimeExpiry | deliveryCommit | tdcStamp | tdcTapMeasure | syncRx | followUpRx
  | delayRespRx | delayReqRx | delayRespSend | pdelayReqRx | pdelayRespFuSend | pdelayRespRx | pdelayRespFuRx | delayReqSend
  | pdelayReqSend | syncSend | followUpSend | syncTimeout | servoStep | servoLock | gainNarrow | refCheck | qualTimeExpiry | wtrExpiry
  | refLosDetect | viewXDiscipline | viewXShadowUpdate | atSlewUpdate | viewDisagreeCheck | holdoverRateUpdate | holdoverBoundUpdate
  | xTodApply | mcsVcoSettled | mcsLockAcquired | mcsLockLost | mcsRefLoss | mcsStopComplete | mcsFreqUpdate | rampSegmentEnd
  | mcsDiscInterval | mcsAlignAchieved | mcsNoFeedback | triggerFire | triggerPulseEnd | admissionComplete | landingScrubStep | linkUp
  | mdioComplete | preemptVerifyAnswer | preemptVerifyTimeout | gateEntryAdvance | tempSupervisorEval | supplySupervisorEval
  | injectionTick =>
    unfold exec
    exact onDev_keepsMem _ s
  | apertureRead | monitorIntervalSample =>
    unfold exec
    exact onDevMem_keepsMem _ s
  | txFrameLaunch | txFrameSkip | txDrainComplete | rxPresent | rxFlowStop | naHoldExpiry | rxDrainComplete | routeSwap | routeFadeDone
  | sapFrame | sapClockStop | sapRunStart | sapStopFadeDone | sapPostrollEnd =>
    unfold exec
    exact onRun_keepsMem _ s
  | hbufPeriodTake =>
    unfold exec
    refine onRunMem_keepsMem ?_
    rfl
  | sleepCmdRun | sleepCmdQuiet | sleepCmdDoze | sleepCmdShelf | sleepCmdReserved | galReset | galClaim | galRelease | galForce
  | galClaimReservedOp | partDataWrite | devSeal | hostSleepWrite | viewSetStep | viewSetRate | viewSetReservedKind
  | refPreferredWrite | xTodArm | refForceFree | refClearHist | refClearTable | refAllowStep | triggerArm | triggerDisarm | lndClearUe | lndClearCe
  | hbufEnable | hbufDisable | hbufPtrWrite | corridorEnable | corridorDisable | corMarkWrite | corRewind | corClearCnt
  | clsClearCnt | txeRetime | txeClearCnt | rxeClearCnt | routeCommit | routeCheck | rteClearCnt | rteRateWrite
  | sapGroupStart | sapGroupStop | monitorSnap | alarmClear | logClassWrite | fltDisarmAll | fltClearCnt =>
    exact onReg_keepsMem (by decide) (by omega) rfl _ _ _
  | corRdWrite g c => exact onReg_keepsMem (by decide) (by omega) (by simp [landingWord]) _ _ _
  | evtComplete g e | srcCtrlWrite g e | srcTgtWrite g e | tgtEnaWrite g e => exact onReg_keepsMem (evt_mem e) (by omega) rfl _ _ _
  | pendWordWrite g e | maskWordWrite g e => exact onReg_keepsMem (lineBlk_mem e) (by omega) (by cases e <;> rfl) _ _ _
  | ptpEnable g n | ptpDisable g n | parentCommit g n => exact onReg_keepsMem (ptp_mem n) (by omega) rfl _ _ _
  | servoEnable g n | servoDisable g n | servoRestart g n => exact onReg_keepsMem (srv_mem n) (by omega) rfl _ _ _
  | mcsRampStart g n | mcsRampStop g n | mcsReturn g n | mcsRealign g n | mclkoSelWrite g n => exact onReg_keepsMem (mcs_mem n) (by omega) rfl _ _ _
  | mdioWrite g p | mdioRead g p | mdioReadInc g p | mdioReservedOp g p | netReverify g p | netClearCnt g p =>
    exact onReg_keepsMem (net_mem p) (by omega) rfl _ _ _
  | sapEnable g n | sapDisable g n | sapClearCnt g n => exact onReg_keepsMem (sap_mem n) (by omega) rfl _ _ _
  | txStreamEnable g sn | txStreamDisable g sn | txStreamRestructure g sn => exact onEntry_keepsMem (t := .txs) sn.isLt _ _ _
  | rxStreamEnable g sn | rxStreamDisable g sn | rxStreamRestructure g sn => exact onEntry_keepsMem (t := .rxs) sn.isLt _ _ _
  | pageStatusClear | injSelWrite | injCtrlWrite => exact onHeader_keepsMem (by decide) _ _ _
  | lwRead | evtClaim | tbeSnapRead | captureRecRead | otpDataRead => exact onRead_keepsMem _ _ _ _
  | mcsEnable | mcsDisable | mcsDiscModeSet | mcsFreqCommit | mcsOutputEnable | mcsOutputDisable | mcsOutputDivChange
  | mcsOutputDelayChange => exact onMcsPost_keepsMem _ _ _ _
  | qspiRd | qspiRdLink | qspiEcho => exact onFrame_keepsMem (by simp) _ _
  | qspiReservedOpcode => exact ite_keepsMem (keepsMem_next rfl) (onFrame_keepsMem (by simp) _ _)
  | pePerstAssert => exact ite_keepsMem (onDev_keepsMem _ s) (keepsMem_next rfl)
  | pePerstDeassert | phyIntChange | railOut | railInRegulation | bankSupplyRestored => exact keepsMem_next rfl
  | vinWarnTrip | vinWarnClear => exact keepsMem_next (vinWarn_mem ..)
  | sleepCommit => exact keepsMem_next ((apply_ite State.mem ..).trans (by rw [sleepCommit_mem, ite_self]))
  | quietEnter => exact keepsMem_next (quietEnter_mem s)
  | quietExit => exact keepsMem_next (quietExit_mem s)
  | dozeWake => exact keepsMem_next (dozeWake_mem ..)
  | watchEntryFire => exact keepsMem_next (watchEntry_mem ..)
  | ecWrap => exact keepsMem_next (ecWrapped_mem s)
  | pwComplete page =>
    simp only [exec, execPwComplete]
    split
    · exact keepsMem_next rfl
    · exact onPost_keepsMem _ _
  | _ => cases h

theorem exec_root {i : Instr} {s t : State} (h : i.movesRoot = false) (ht : exec i s = .next t) : t.root = s.root := by
  obtain ⟨d, l, e⟩ := exec_devMem i s h
  obtain rfl : { s with dev := d, mem := memWrites s.mem l } = t := by simpa [ht] using e.symm
  rfl

/-- Settles O7: the Landing by `exec_keepsMem`, what stands outside the core by the shape of every other command's outcome. -/
theorem landingAndRootFrames : Obligations.LandingAndRootFrames :=
  ⟨fun i s t h ht a => congrArg (memByte · a) (exec_keepsMem i s h t ht), fun _ _ _ => exec_root⟩

end Sys2Proof.Machine

/-! The operations of GAL.CLAIM (R76), each alone in its cycle (log entry 30). -/

namespace Sys2Proof.Machine

/-! ### Devices that agree in every part -/

theorem Part.ext {a b : Dev} (h : ∀ p : Part, p.same a b) : a = b := by
  cases a
  cases b
  simp only [Dev.mk.injEq]
  exact ⟨h .regs, h .eff, h .parityBad, h .scrubAt, h .page, h .lines, h .owed, h .hwSet, h .posted, h .sealed, h .rshadow, h .wshadow, h .tshadow,
    h .perGal, h .gal, h .hif, h .evc, h .pwr, h .clk, h .tb, h .flt, h .lnd, h .mon, h .log, h .net, h .trg, h .ptp, h .srv, h .ref, h .mcs, h .fb,
    h .chan, h .rte, h .sap, h .sapg, h .tx, h .txe, h .rx, h .rxe, h .otpOk, h .rails, h .phyPads, h .freeCtr⟩

/-! ### Holders and results -/

/-- GAL.CLAIM_RESULT as gallery `g` reads it. -/
def resultOf (d : Dev) (g : Nat) : Word := wget d.gal.claimRes g

@[simp] theorem holderOf_setHolder_self (p g : Nat) (d : Dev) : holderOf (setHolder p g d) p = g := sget_sset_self ..

theorem holderOf_setHolder_other {p q : Nat} (h : q ≠ p) (g : Nat) (d : Dev) : holderOf (setHolder p g d) q = holderOf d q := sget_sset_other _ _ _ _ _ h

@[simp] theorem holderOf_raise (r : Root) (n : Nat) (d : Dev) (q : Nat) : holderOf (raise r n d) q = holderOf d q := by simp [holderOf]

@[simp] theorem holderOf_claimDone (g p res : Nat) (d : Dev) (q : Nat) : holderOf (claimDone g p res d) q = holderOf d q := rfl

@[simp] theorem holderOf_claimTold (g res : Nat) (d : Dev) (q : Nat) : holderOf (claimTold g res d) q = holderOf d q := rfl

@[simp] theorem resultOf_raise (r : Root) (n : Nat) (d : Dev) (i : Nat) : resultOf (raise r n d) i = resultOf d i := by simp [resultOf]

@[simp] theorem resultOf_setHolder (p g : Nat) (d : Dev) (i : Nat) : resultOf (setHolder p g d) i = resultOf d i := rfl

@[simp] theorem resultOf_claimDone_self (g p res : Nat) (d : Dev) : resultOf (claimDone g p res d) g = wd (p * 16 + res) := wget_wput_self ..

theorem resultOf_claimDone_other {g i : Nat} (h : i ≠ g) (p res : Nat) (d : Dev) : resultOf (claimDone g p res d) i = resultOf d i :=
  sget_sset_other _ _ _ _ _ h

@[simp] theorem holderOf_galMap_waiting (d : Dev) (l : GalSt → SMap (List Nat)) (q : Nat) :
    holderOf (d.galMap fun x => { x with waiting := l x }) q = holderOf d q := rfl

@[simp] theorem holderOf_galMap_granted (d : Dev) (l : GalSt → SMap Nat) (q : Nat) :
    holderOf (d.galMap fun x => { x with granted := l x }) q = holderOf d q := rfl

@[simp] theorem resultOf_galMap_granted (d : Dev) (l : GalSt → SMap Nat) (i : Nat) :
    resultOf (d.galMap fun x => { x with granted := l x }) i = resultOf d i := rfl

/-- A gallery is told RESULT alone. -/
theorem fld_resultOf_claimTold (g : Nat) {res : Nat} (h : res < 8) (d : Dev) : fld (resultOf (claimTold g res d) g) 2 0 = res := by
  have hw : resultOf (claimTold g res d) g = wd ((resultOf d g).toNat / 8 * 8 + res) := wget_wput_self ..
  rw [hw]
  simp only [fld, wd, BitVec.toNat_ofNat]
  omega

/-! ### Each operation, with no other in its cycle -/

/-- No claim operation has fallen into the present CFG_CLK cycle yet. -/
def firstOfCycle (r : Root) (d : Dev) : Prop := d.gal.claimCyc ≠ r.ec / cfgUnits + 1

section
variable {r : Root} {d : Dev}

/-- The first operation of a cycle opens it: nothing has been granted in it, and no claim of it waits. -/
theorem claimCycle_first (h : firstOfCycle r d) (g : Nat) :
    claimCycle r g d = d.galMap fun x => { x with claimCyc := r.ec / cfgUnits + 1, acted := [g], granted := [], waiting := [] } := by
  unfold firstOfCycle at h
  simp [claimCycle, Dev.galMap, h]

theorem waiting_claimCycle (h : firstOfCycle r d) (g : Nat) : (claimCycle r g d).gal.waiting = [] := by simp [claimCycle_first h, Dev.galMap]

@[simp] theorem holderOf_claimCycle (r : Root) (g : Nat) (d : Dev) (q : Nat) : holderOf (claimCycle r g d) q = holderOf d q := by
  simp only [holderOf, claimCycle, Dev.galMap]
  split <;> rfl

@[simp] theorem resultOf_claimCycle (r : Root) (g : Nat) (d : Dev) (i : Nat) : resultOf (claimCycle r g d) i = resultOf d i := by
  simp only [resultOf, claimCycle, Dev.galMap]
  split <;> rfl

/-- A page given up for which no claim of the cycle waits. -/
theorem claimFree_unclaimed {p : Nat} (h : d.gal.waiting = []) : claimFree r p d = raise r 9 (setHolder p 7 d) := by
  simp [claimFree, setHolder, Dev.galMap, h, lget, lput, sset, sdel, sget]

/-- CLAIM: a free page is granted, and the holder of any other stays. -/
theorem galClaim_first (h : firstOfCycle r d) (g p : Nat) :
    holderOf (galClaim r g p d) p = (if holderOf d p = 7 then g else holderOf d p) ∧
    resultOf (galClaim r g p d) g = wd (p * 16 + (if holderOf d p = 7 then 1 else if holderOf d p = g then 2 else 4)) ∧
    ∀ q, q ≠ p → holderOf (galClaim r g p d) q = holderOf d q := by
  have hgranted : (claimCycle r g d).gal.granted = [] := by simp [claimCycle_first h, Dev.galMap]
  unfold galClaim
  simp only [holderOf_claimCycle, hgranted, sget, eq_comm (a := (7 : Nat))]
  split_ifs with h7 hg
  · exact ⟨by simp [claimGrant], by simp [claimGrant], fun q hq => by simp [claimGrant, holderOf_setHolder_other hq]⟩
  · exact ⟨by simp, by simp, fun q _ => by simp⟩
  · exact ⟨by simp, by simp, fun q _ => by simp⟩

/-- RELEASE: the holder gives the page up, another gallery does not. -/
theorem galRelease_first (h : firstOfCycle r d) (g p : Nat) :
    holderOf (galRelease r g p d) p = (if holderOf d p = g then 7 else holderOf d p) ∧
    resultOf (galRelease r g p d) g = wd (p * 16 + (if holderOf d p = g then 5 else 6)) ∧
    ∀ q, q ≠ p → holderOf (galRelease r g p d) q = holderOf d q := by
  unfold galRelease
  simp only [holderOf_claimCycle]
  split_ifs with hg
  · rw [claimFree_unclaimed (by exact waiting_claimCycle h g)]
    exact ⟨by simp, by simp, fun q hq => by simp [holderOf_setHolder_other hq]⟩
  · exact ⟨by simp, by simp, fun q _ => by simp⟩

/-- FORCE by a gallery that is not the house gallery, or of a page without holder, fails. -/
theorem galForce_refused {g p : Nat} (hf : g ≠ r.house ∨ holderOf d p = 7) :
    galForce r g p d = claimDone g p 6 (claimCycle r g d) := by
  unfold galForce
  simp only [holderOf_claimCycle]
  rw [if_pos (by tauto)]

/-- FORCE by the house gallery frees the page, and another gallery that held it is told. -/
theorem galForce_first (h : firstOfCycle r d) {g p : Nat} (hg : g = r.house) (h7 : holderOf d p ≠ 7) :
    holderOf (galForce r g p d) p = 7 ∧ resultOf (galForce r g p d) g = wd (p * 16 + 5) ∧
    (holderOf d p ≠ g → fld (resultOf (galForce r g p d) (holderOf d p)) 2 0 = 7) ∧
    ∀ q, q ≠ p → holderOf (galForce r g p d) q = holderOf d q := by
  have hgranted : (claimCycle r g d).gal.granted = [] := by simp [claimCycle_first h, Dev.galMap]
  unfold galForce
  simp only [holderOf_claimCycle, hgranted, sget]
  rw [if_neg (by rintro (hn | hn | hn) <;> simp_all)]
  split_ifs with hh
  all_goals rw [claimFree_unclaimed (by exact waiting_claimCycle h g)]
  · exact ⟨by simp, by simp, fun hn => absurd hh hn, fun q hq => by simp [holderOf_setHolder_other hq]⟩
  · refine ⟨by simp, by simp, fun _ => ?_, fun q hq => by simp [holderOf_setHolder_other hq]⟩
    simp only [resultOf_raise, resultOf_setHolder, resultOf_claimDone_other hh]
    exact fld_resultOf_claimTold _ (by decide) _

end

/-! ### The commands -/

/-- The claims change the galleries' state and signal events. -/
theorem claimCmd_eq (r : Root) (g : Nat) (w : Word) (d : Dev) :
    claimCmd r g w d = { d with
      gal := (claimCmd r g w d).gal, evc := (claimCmd r g w d).evc, page := (claimCmd r g w d).page, lines := (claimCmd r g w d).lines } :=
  Part.ext fun p => by
    cases p
    case gal | evc | page | lines => rfl
    all_goals exact Part.same_iff.mpr (of_claimCmd (by simp [Part.off]) r g w d)

@[simp] theorem pageUse_nil (r : Root) (b : Blk) (d : Dev) : pageUse r b [] d = d := by simp [pageUse, useWords]

/-- Every gallery that reaches the device writes GAL.CLAIM, and the write is the operation of its word (R76). -/
theorem onReg_galClaim {s : State} {g : Gal} (h : reaches s g = true) (w : Word) :
    onReg g .gal 0x040 w s = .next { s with dev := claimCmd s.root g w s.dev } := by
  have hreg : Blk.gal.reg 0x040 = some (r1 0x040 .wo) := by decide
  have hcan : canWrite s g .gal 0x040 w = true := by simp [canWrite, h, hreg, regRight, isLo, isPw, r1]
  rw [onReg_can s g .gal 0x040 w _ (by decide) (by decide) hreg hcan]
  simp [regWrite, r1, strobe, eff, actUses]

/-- GAL.CLAIM as a host writes it: the operation and the page. -/
theorem claimCmd_word (r : Root) (g : Nat) (p : Fin 4) (d : Dev) :
    claimCmd r g (wd (0 * 0x100 + p)) d = galClaim r g p d ∧ claimCmd r g (wd (1 * 0x100 + p)) d = galRelease r g p d ∧
    claimCmd r g (wd (2 * 0x100 + p)) d = galForce r g p d ∧ claimCmd r g (wd (0x300 + p)) d = d := by
  fin_cases p <;> exact ⟨rfl, rfl, rfl, rfl⟩

/-- A write of GAL.CLAIM answers a next state: it touches no page but `p`, and of the device the galleries' state and the events alone. -/
theorem onReg_galClaim_frame {s : State} {g : Gal} (h : reaches s g = true) {w : Word} {d : Dev} (hd : claimCmd s.root g w s.dev = d) {p : Fin 4}
    (ho : ∀ q, q ≠ p.val → holderOf d q = holderOf s.dev q) :
    ∃ t, onReg g .gal 0x040 w s = .next t ∧
      (DevOnly s t ∧ (∀ q : Fin 4, q ≠ p → holderOf t.dev q = holderOf s.dev q) ∧
        t.dev = { s.dev with gal := t.dev.gal, evc := t.dev.evc, page := t.dev.page, lines := t.dev.lines }) ∧ t.dev = d := by
  subst hd
  exact ⟨_, onReg_galClaim h w, ⟨⟨rfl, rfl, rfl⟩, fun q hq => ho q (Fin.val_ne_of_ne hq), claimCmd_eq ..⟩, rfl⟩

/-- Settles O20: each operation alone in its cycle, over the write of its word. -/
theorem claimOperations : Obligations.ClaimOperations := by
  intro s g p hr hfirst
  have hg7 : (g : Nat) ≠ 7 := by omega
  obtain ⟨hclaim, hrelease, hforce, hreserved⟩ := claimCmd_word s.root g p s.dev
  refine ⟨?_, ?_, ?_, ?_⟩
  · obtain ⟨hholder, hresult, hother⟩ := galClaim_first hfirst g p
    obtain ⟨t, ht, hframe, hdev⟩ := onReg_galClaim_frame hr hclaim hother
    rw [← hdev] at hholder hresult
    exact ⟨t, ht, hframe, fun h7 => ⟨by simpa [h7] using hholder, by simpa [h7, resultOf] using hresult⟩,
      fun hg => ⟨by simpa [hg, hg7] using hholder, by simpa [hg, hg7, resultOf] using hresult⟩,
      fun h7 hg => ⟨by simpa [h7] using hholder, by simpa [h7, hg, resultOf] using hresult⟩⟩
  · obtain ⟨hholder, hresult, hother⟩ := galRelease_first hfirst g p
    obtain ⟨t, ht, hframe, hdev⟩ := onReg_galClaim_frame hr hrelease hother
    rw [← hdev] at hholder hresult
    exact ⟨t, ht, hframe, fun hg => ⟨by simpa [hg] using hholder, by simpa [hg, resultOf] using hresult⟩,
      fun hg => ⟨by simpa [hg] using hholder, by simpa [hg, resultOf] using hresult⟩⟩
  · by_cases hf : g.val = s.root.house ∧ holderOf s.dev p ≠ 7
    · obtain ⟨hholder, hresult, htold, hother⟩ := galForce_first hfirst hf.1 hf.2
      obtain ⟨t, ht, hframe, hdev⟩ := onReg_galClaim_frame hr hforce hother
      rw [← hdev] at hholder hresult htold
      exact ⟨t, ht, hframe, fun _ _ => ⟨hholder, hresult, htold⟩, fun hn => absurd hf (by tauto)⟩
    · have hrefused := galForce_refused (r := s.root) (d := s.dev) (g := g) (p := p) (by tauto)
      obtain ⟨t, ht, hframe, hdev⟩ := onReg_galClaim_frame hr (hforce.trans hrefused) (p := p) fun q _ => by simp
      exact ⟨t, ht, hframe, fun hg h7 => absurd ⟨hg, h7⟩ hf, fun _ => ⟨by simp [hdev], (congrArg (resultOf · g) hdev).trans (resultOf_claimDone_self ..)⟩⟩
  · exact ⟨_, onReg_galClaim hr _, ⟨rfl, rfl, rfl⟩, by simp only [hreserved]⟩

end Sys2Proof.Machine


/-! The PCIe link and its functions (R58, R60, R61, R381). -/

namespace Sys2Proof.Machine

/-! ### Host wakes leave the rest of the host links' state (R106) -/

theorem wakeSettle_hif (d : Dev) : (wakeSettle d).hif = { d.hif with wokenFn := (wakeSettle d).hif.wokenFn } := by
  simp only [wakeSettle, Dev.hifMap]
  split <;> rfl

@[simp] theorem wakeSettle_linkUp (d : Dev) : (wakeSettle d).hif.linkUp = d.hif.linkUp := by rw [wakeSettle_hif]
@[simp] theorem wakeSettle_speed (d : Dev) : (wakeSettle d).hif.speed = d.hif.speed := by rw [wakeSettle_hif]
@[simp] theorem wakeSettle_width (d : Dev) : (wakeSettle d).hif.width = d.hif.width := by rw [wakeSettle_hif]
@[simp] theorem wakeSettle_d3hot (d : Dev) : (wakeSettle d).hif.d3hot = d.hif.d3hot := by rw [wakeSettle_hif]
@[simp] theorem wakeSettle_pmeEn (d : Dev) : (wakeSettle d).hif.pmeEn = d.hif.pmeEn := by rw [wakeSettle_hif]

@[simp] theorem assertWake_d3hot (g : Nat) (d : Dev) : (assertWake g d).hif.d3hot = d.hif.d3hot := by
  simp only [assertWake, wakeSettle_d3hot, Dev.hifMap]
  split <;> rfl

@[simp] theorem assertWake_pmeEn (g : Nat) (d : Dev) : (assertWake g d).hif.pmeEn = d.hif.pmeEn := by
  simp only [assertWake, wakeSettle_pmeEn, Dev.hifMap]
  split <;> rfl

@[simp] theorem heldPme_d3hot (f : Nat) (d : Dev) : (heldPme f d).hif.d3hot = d.hif.d3hot := by
  unfold heldPme
  dsimp only
  split_ifs
  · exact assertWake_d3hot ..
  · rfl
  · rfl

theorem nbit_nset_clear (n i : Nat) : nbit (nset n i false) i = false := by
  unfold nset
  split
  next h => simpa using h
  next h =>
    have hbit : n / 2 ^ i % 2 = 1 := by simpa [nbit] using h
    have hle : 2 ^ i * 1 ≤ n := by
      rw [mul_one]
      by_contra hlt
      simp [Nat.div_eq_of_lt (Nat.lt_of_not_le hlt)] at hbit
    have hdiv := Nat.sub_mul_div n (2 ^ i) 1
    simp only [nbit, beq_eq_false_iff_ne, Bool.false_eq_true, if_false]
    rw [mul_one] at hdiv
    omega

/-! ### The commands -/

theorem devOnly_dev (s : State) (d : Dev) : DevOnly s { s with dev := d } := ⟨rfl, rfl, rfl⟩

/-- A device that differs in the host links' state alone. -/
theorem eq_with_hif {a d : Dev} (h : ∀ π : Part, π.off [.hif] → π.of a = π.of d) : a = { d with hif := a.hif } :=
  Part.ext fun p => by
    cases p
    case hif => rfl
    all_goals exact Part.same_iff.mpr (h _ (by simp [Part.off]))

theorem pcieUp_eq (r : Root) (speed : Nat) (width : LinkWidth) (d : Dev) :
    pcieUp r speed width d = { d with hif := (pcieUp r speed width d).hif, evc := (pcieUp r speed width d).evc } :=
  Part.ext fun p => by
    cases p
    case hif | evc => rfl
    all_goals exact Part.same_iff.mpr (of_pcieUp (by simp [Part.off]) r speed width d)

section
variable {s : State} (hc : s.root.coreOn = true)
include hc

/-- The link trains while PE_PERST_N is deasserted (R58, R381). -/
theorem pcieLinkUp_completes (hl : s.dev.hif.linkUp = false) (hp : s.dev.hif.perst = false) (speed : Fin 4) (width : LinkWidth) :
    Completes (.pcieLinkUp speed width) s fun t =>
      DevOnly s t ∧ t.dev.hif.linkUp = true ∧ t.dev.hif.speed = speed + 1 ∧
      t.dev.hif.width = (match width with | .x1 => 1 | .x2 => 2 | .x4 => 4) ∧ t.dev = { s.dev with hif := t.dev.hif, evc := t.dev.evc } := by
  have hexec : exec (.pcieLinkUp speed width) s = .next { s with dev := pcieUp s.root speed width s.dev } := by
    unfold exec execPcieLinkUp
    exact onDev_on hc
  refine ⟨_, hexec, devOnly_dev .., ?_, ?_, ?_, pcieUp_eq ..⟩
  all_goals
    simp [pcieUp, hl, hp]
    rfl

variable (hl : s.dev.hif.linkUp = true) (f : Fin 4)
include hl

/-- D3hot puts the function's host to sleep, whether or not a decision is held for it (R61). -/
theorem d3hotEntry_completes : Completes (.d3hotEntry f) s fun t =>
    DevOnly s t ∧ nbit t.dev.hif.d3hot f = true ∧ asleep t.dev f = true ∧ t.dev = { s.dev with hif := t.dev.hif } := by
  have hexec : ∃ d, exec (.d3hotEntry f) s = .next { s with dev := d } ∧ d.hif.d3hot = nset s.dev.hif.d3hot f true ∧ d = { s.dev with hif := d.hif } := by
    simp only [exec, execD3hotEntry, onDev_on hc]
    refine ⟨_, rfl, ?_, eq_with_hif fun π h => ?_⟩
    · simp only [hl, if_true]
      split
      · exact heldPme_d3hot ..
      · rfl
    · simp only [Part.of_ite, of_heldPme h, of_hifMap h, ite_self]
  obtain ⟨d, hd, hbit, hframe⟩ := hexec
  have hin : nbit d.hif.d3hot f = true := hbit ▸ nbit_nset_self ..
  exact ⟨_, hd, devOnly_dev .., hin, by simp [asleep, hin], hframe⟩

/-- D0 (R61, R106). -/
theorem d0Entry_completes : Completes (.d0Entry f) s fun t =>
    DevOnly s t ∧ nbit t.dev.hif.d3hot f = false ∧ t.dev = { s.dev with hif := t.dev.hif } := by
  have hexec : exec (.d0Entry f) s = .next { s with dev := wakeSettle (s.dev.hifMap fun h => { h with d3hot := nset h.d3hot f false }) } := by
    simp only [exec, execD0Entry, onDev_on hc, hl, if_true]
  exact ⟨_, hexec, devOnly_dev .., (congrArg (nbit · f) (wakeSettle_d3hot _)).trans (nbit_nset_clear ..), rfl⟩

/-- A host's change of a function's configuration over an established link. -/
theorem msixMaskChange_linked (c : MsixChange) : exec (.msixMaskChange f c) s = .next { s with dev := msixChange f c s.dev } := by
  simp only [exec, execMsixMaskChange, onDev_on hc, hl, if_true]

/-- PME enabled or disabled: a function that holds PME status in D3hot can wake its host at once (R61). -/
theorem pmeEnable_completes (b : Bool) : Completes (.msixMaskChange f (.pmeEnable b)) s fun t =>
    DevOnly s t ∧ bget t.dev.hif.pmeEn f = b ∧ t.dev = { s.dev with hif := t.dev.hif } := by
  refine ⟨_, msixMaskChange_linked hc hl f _, devOnly_dev .., ?_, eq_with_hif fun π h => of_msixChange h ..⟩
  simp only [msixChange]
  split
  · exact (congrArg (bget · f) (assertWake_pmeEn ..)).trans (bget_bput_self ..)
  · exact bget_bput_self ..

end

/-- Settles O22: each command acts on the established link alone. -/
theorem pcieFunctions : Obligations.PcieFunctions := by
  intro s
  refine ⟨⟨_, rfl, devOnly_dev .., rfl⟩, fun speed width hc hl hp => pcieLinkUp_completes hc hl hp speed width, fun f hc hl => d3hotEntry_completes hc hl f,
    fun f hc hl => d0Entry_completes hc hl f, ?_, ?_, fun f b hc hl => pmeEnable_completes hc hl f b, ?_, ?_, ?_⟩
  · exact fun f i w hc hl => ⟨_, msixMaskChange_linked hc hl f _, devOnly_dev .., sget_sset_self .., rfl⟩
  · exact fun f e m hc hl => ⟨_, msixMaskChange_linked hc hl f _, devOnly_dev .., bget_bput_self .., bget_bput_self .., rfl⟩
  · exact fun f hc hl => ⟨_, msixMaskChange_linked hc hl f _, devOnly_dev .., bget_bput_self s.dev.hif.pme f false, rfl⟩
  · exact fun f on hc hl => ⟨_, msixMaskChange_linked hc hl f _, devOnly_dev .., rfl⟩
  · exact fun f n hc hl => ⟨_, msixMaskChange_linked hc hl f _, devOnly_dev .., rfl⟩

end Sys2Proof.Machine

/-! A statement about Velgelet frames that asks too much of QSPI_RESERVED_OPCODE (R65, R373). -/

namespace Sys2Proof.Machine

/-- Refutes O23: its second part takes QSPI_RESERVED_OPCODE with every opcode, where its first part takes the reserved ones alone. With opcode 1, which is
WR, the command is no frame and changes nothing, so that a port without power still shows the byte it drove before, and not that it drives nothing. -/
theorem not_velgeletFrames : ¬ Obligations.VelgeletFrames := by
  rintro ⟨-, h⟩
  obtain ⟨t, ht, hdrives, -⟩ :=
    (h { State.reset with root := { State.reset.root with power := .off }, dev := { State.reset.dev with hif := { reply := [(0, [0xA0])] } } }
      0 0 [0] 1 0 0 0 (by decide) (by decide) (.qspiReservedOpcode 0 1 0 0 0, { op := .other 1, len := 0, addr := 0, data := [], crc := 0, sck := 0 })
      (by simp)).1 (.inr (.inl (by decide)))
  cases ht
  exact absurd hdrives (by decide)

end Sys2Proof.Machine

/-! Aperture accesses (R78, R79): the bytes behind the runs of an access, and the faults it counts (log entry 17). -/

namespace Sys2Proof.Machine

/-! ### Runs and the bytes they cover -/

/-- For each byte of runs, in order, whether no tread backs it. -/
def runHoles (segs : List (Option (Nat × Nat) × Nat)) : List Bool := segs.flatMap fun p => List.replicate p.2 p.1.isNone

@[simp] theorem runHoles_cons (p : Option (Nat × Nat) × Nat) (segs : List (Option (Nat × Nat) × Nat)) :
    runHoles (p :: segs) = List.replicate p.2 p.1.isNone ++ runHoles segs := rfl

theorem aptSegs_pos {d : Dev} {g : Nat} (n off : Nat) : ∀ p ∈ aptSegs d g off n, p.2 ≠ 0 := by
  induction n generalizing off with
  | zero => simp [aptSegs]
  | succ n ih =>
    have rest := ih (off + 1)
    unfold aptSegs
    dsimp only
    split
    next => simp
    next x k t ht =>
      rw [ht, List.forall_mem_cons] at rest
      split
      · exact List.forall_mem_cons.mpr ⟨k.succ_ne_zero, rest.2⟩
      · exact List.forall_mem_cons.mpr ⟨Nat.one_ne_zero, List.forall_mem_cons.mpr rest⟩

/-- A byte before an access joins its first run or makes a run of its own; either way it is one byte more. -/
theorem runHoles_aptSegs_succ (d : Dev) (g off n : Nat) :
    runHoles (aptSegs d g off (n + 1)) = (aptResolve d g off).isNone :: runHoles (aptSegs d g (off + 1) n) := by
  rw [aptSegs]
  split
  next h => simp [h, runHoles]
  next x k t h =>
    rw [h]
    split
    next hx => simp [← hx, List.replicate_succ]
    next => simp

theorem runHoles_aptSegs (d : Dev) (g n off : Nat) :
    runHoles (aptSegs d g off n) = (List.range n).map fun i => (aptResolve d g (off + i)).isNone := by
  induction n generalizing off with
  | zero => rfl
  | succ n ih => simp [runHoles_aptSegs_succ, ih, List.range_succ_eq_map, Function.comp_def, Nat.add_assoc, Nat.add_comm 1]

/-- A run that nothing backs has a byte that nothing backs. -/
theorem any_isNone_eq_any_runHoles {segs : List (Option (Nat × Nat) × Nat)} (h : ∀ p ∈ segs, p.2 ≠ 0) :
    (segs.any fun p => p.1.isNone) = (runHoles segs).any id := by
  induction segs with
  | nil => rfl
  | cons p segs ih =>
    obtain ⟨hp, hs⟩ := List.forall_mem_cons.mp h
    simp [ih hs, List.any_replicate, hp]

theorem aptSegs_any_isNone (d : Dev) (g off n : Nat) :
    ((aptSegs d g off n).any fun p => p.1.isNone) = (List.range n).any fun i => (aptResolve d g (off + i)).isNone := by
  rw [any_isNone_eq_any_runHoles (aptSegs_pos n off), runHoles_aptSegs, List.any_map]
  rfl

/-! ### Faults -/

theorem aptFault_mapped {segs : List (Option (Nat × Nat) × Nat)} (h : (segs.any fun p => p.1.isNone) = false) (r : Root) (g : Nat) (d : Dev) :
    aptFault r g segs d = d := by simp [aptFault, h]

theorem aptFault_faults (r : Root) (g : Nat) (segs : List (Option (Nat × Nat) × Nat)) (d : Dev) :
    nget (aptFault r g segs d).gal.aptFaults g =
      if segs.any fun p => p.1.isNone then satInc (nget d.gal.aptFaults g) 0xFFFF else nget d.gal.aptFaults g := by
  unfold aptFault
  split
  · simp [Dev.galMap]
  · rfl

theorem aptFault_eq (r : Root) (g : Nat) (segs : List (Option (Nat × Nat) × Nat)) (d : Dev) :
    aptFault r g segs d = { d with gal := (aptFault r g segs d).gal, evc := (aptFault r g segs d).evc } := by
  unfold aptFault
  split
  · rw [raise_eq]; rfl
  · rfl

/-- What reading the Landing reports is no fault of an aperture. -/
theorem lndRead_gal (r : Root) (m : List Host.Cell) (c off n : Nat) (d : Dev) : (lndRead r m c off n d).2.gal = d.gal :=
  Part.same_iff.mpr (of_lndRead (π := .gal) (by simp [Part.off]) r m c off n d)

theorem lndWrite_gal (r : Root) (c off : Nat) (bytes : List Byte) (d : Dev) : (lndWrite r c off bytes d).1.gal = d.gal :=
  Part.same_iff.mpr (of_lndWrite (π := .gal) (by simp [Part.off]) r c off bytes d)

/-! ### Reads -/

/-- Read one run of an access after others. -/
def readRun (r : Root) (m : List Host.Cell) (a : List Byte × Dev) (p : Option (Nat × Nat) × Nat) : List Byte × Dev :=
  match p.1 with
  | none => (a.1 ++ List.replicate p.2 0, a.2)
  | some q => (a.1 ++ (lndRead r m q.1 q.2 p.2 a.2).1, (lndRead r m q.1 q.2 p.2 a.2).2)

theorem aptRead_eq (r : Root) (m : List Host.Cell) (g off n : Nat) (d : Dev) :
    aptRead r m g off n d = (aptSegs d g off n).foldl (readRun r m) ([], aptFault r g (aptSegs d g off n) d) := rfl

theorem readRun_gal (r : Root) (m : List Host.Cell) (a : List Byte × Dev) (p : Option (Nat × Nat) × Nat) : (readRun r m a p).2.gal = a.2.gal := by
  unfold readRun
  split
  next => rfl
  next q _ => exact lndRead_gal r m q.1 q.2 p.2 a.2

theorem aptRead_gal (r : Root) (m : List Host.Cell) (g off n : Nat) (d : Dev) :
    (aptRead r m g off n d).2.gal = (aptFault r g (aptSegs d g off n) d).gal :=
  foldl_inv (fun x : List Byte × Dev => x.2.gal = (aptFault r g (aptSegs d g off n) d).gal) (readRun r m) _ _ rfl
    fun x p hx => (readRun_gal r m x p).trans hx

/-- Bytes read, one for each byte of an access, and zero where nothing backs it. -/
def ZeroAtHoles (holes : List Bool) (bytes : List Byte) : Prop :=
  bytes.length = holes.length ∧ ∀ i : Nat, holes[i]? = some true → bytes[i]? = some 0

theorem ZeroAtHoles.append {h1 h2 : List Bool} {b1 b2 : List Byte} (z1 : ZeroAtHoles h1 b1) (z2 : ZeroAtHoles h2 b2) :
    ZeroAtHoles (h1 ++ h2) (b1 ++ b2) := by
  obtain ⟨l1, z1⟩ := z1
  obtain ⟨l2, z2⟩ := z2
  refine ⟨by simp [l1, l2], fun i hi => ?_⟩
  rw [List.getElem?_append] at hi ⊢
  rw [l1]
  by_cases hlt : i < h1.length
  · rw [if_pos hlt] at hi ⊢
    exact z1 i hi
  · rw [if_neg hlt] at hi ⊢
    exact z2 _ hi

theorem zeroAtHoles_replicate (n : Nat) (hole : Bool) : ZeroAtHoles (List.replicate n hole) (List.replicate n 0) := by
  refine ⟨by simp, fun i hi => ?_⟩
  rw [List.getElem?_replicate] at hi ⊢
  split at hi <;> simp_all

/-- Bytes that treads back can be anything. -/
theorem zeroAtHoles_mapped {n : Nat} {bytes : List Byte} (h : bytes.length = n) : ZeroAtHoles (List.replicate n false) bytes := by
  refine ⟨by simp [h], fun i hi => ?_⟩
  simp [List.getElem?_replicate] at hi

@[simp] theorem lndRead_length (r : Root) (m : List Host.Cell) (c off n : Nat) (d : Dev) : (lndRead r m c off n d).1.length = n := by
  simp [lndRead]

theorem zeroAtHoles_readRun {r : Root} {m : List Host.Cell} {holes : List Bool} {a : List Byte × Dev} (h : ZeroAtHoles holes a.1)
    (p : Option (Nat × Nat) × Nat) : ZeroAtHoles (holes ++ List.replicate p.2 p.1.isNone) (readRun r m a p).1 := by
  unfold readRun
  split
  next => exact h.append (zeroAtHoles_replicate ..)
  next q hq =>
    rw [hq]
    exact h.append (zeroAtHoles_mapped (lndRead_length ..))

theorem zeroAtHoles_readRuns {r : Root} {m : List Host.Cell} (segs : List (Option (Nat × Nat) × Nat)) {holes : List Bool} {a : List Byte × Dev}
    (h : ZeroAtHoles holes a.1) : ZeroAtHoles (holes ++ runHoles segs) (segs.foldl (readRun r m) a).1 := by
  induction segs generalizing holes a with
  | nil => simpa [runHoles] using h
  | cons p segs ih => simpa using ih (zeroAtHoles_readRun h p)

/-- A read gives every byte of the access, those that no tread backs as zero. -/
theorem aptRead_zeroAtHoles (r : Root) (m : List Host.Cell) (g off n : Nat) (d : Dev) :
    ZeroAtHoles ((List.range n).map fun i => (aptResolve d g (off + i)).isNone) (aptRead r m g off n d).1 := by
  rw [← runHoles_aptSegs]
  exact zeroAtHoles_readRuns (holes := []) _ ⟨rfl, by simp⟩

/-! ### Writes -/

/-- Write one run of an access after others: the bytes still to write, and what the access has done. -/
def writeRun (r : Root) (a : List Byte × Eff) (p : Option (Nat × Nat) × Nat) : List Byte × Eff :=
  (a.1.drop p.2, match p.1 with
    | none => a.2
    | some q => ((lndWrite r q.1 q.2 (a.1.take p.2) a.2.1).1, a.2.2 ++ (lndWrite r q.1 q.2 (a.1.take p.2) a.2.1).2))

theorem aptWrite_eq (r : Root) (g off : Nat) (bytes : List Byte) (d : Dev) :
    aptWrite r g off bytes d =
      ((aptSegs d g off bytes.length).foldl (writeRun r) (bytes, eff (aptFault r g (aptSegs d g off bytes.length) d))).2 := rfl

theorem writeRun_gal (r : Root) (a : List Byte × Eff) (p : Option (Nat × Nat) × Nat) : (writeRun r a p).2.1.gal = a.2.1.gal := by
  unfold writeRun
  dsimp only
  split
  next => rfl
  next q _ => exact lndWrite_gal r q.1 q.2 (a.1.take p.2) a.2.1

theorem aptWrite_gal (r : Root) (g off : Nat) (bytes : List Byte) (d : Dev) :
    (aptWrite r g off bytes d).1.gal = (aptFault r g (aptSegs d g off bytes.length) d).gal :=
  foldl_inv (fun x : List Byte × Eff => x.2.1.gal = (aptFault r g (aptSegs d g off bytes.length) d).gal) (writeRun r) _ _ rfl
    fun x p hx => (writeRun_gal r x p).trans hx

/-! ### Accesses of one run -/

section
variable {d : Dev} {g off n : Nat}

theorem aptRead_unmapped (h : aptSegs d g off n = [(none, n)]) (r : Root) (m : List Host.Cell) :
    aptRead r m g off n d = (List.replicate n 0, aptFault r g [(none, n)] d) := by simp [aptRead_eq, h, readRun]

theorem aptRead_mapped {c o : Nat} (h : aptSegs d g off n = [(some (c, o), n)]) (r : Root) (m : List Host.Cell) :
    aptRead r m g off n d = lndRead r m c o n d := by simp [aptRead_eq, h, readRun, aptFault_mapped]

theorem aptWrite_unmapped {bytes : List Byte} (hn : bytes.length = n) (h : aptSegs d g off n = [(none, n)]) (r : Root) :
    aptWrite r g off bytes d = eff (aptFault r g [(none, n)] d) := by simp [aptWrite_eq, hn, h, writeRun]

theorem aptWrite_mapped {bytes : List Byte} {c o : Nat} (hn : bytes.length = n) (h : aptSegs d g off n = [(some (c, o), n)]) (r : Root) :
    aptWrite r g off bytes d = lndWrite r c o bytes d := by
  subst hn
  simp [aptWrite_eq, h, writeRun, aptFault_mapped, eff]

end

/-! ### The two accesses where the host link reaches the gallery -/

/-- What a read leaves: its bytes at its gallery, and whether a completion is marked poisoned. -/
def answerRead (g : Nat) (x : List Byte × Dev) (poison : Bool) : Dev :=
  x.2.hifMap fun h => { h with aptData := lput h.aptData g x.1, aptPoison := bput h.aptPoison g poison }

@[simp] theorem answerRead_aptData (g : Nat) (x : List Byte × Dev) (poison : Bool) : lget (answerRead g x poison).hif.aptData g = x.1 :=
  lget_lput_self ..

@[simp] theorem answerRead_gal (g : Nat) (x : List Byte × Dev) (poison : Bool) : (answerRead g x poison).gal = x.2.gal := rfl

section
variable {s : State} {g : Gal} (h : reaches s g = true)
include h

theorem exec_apertureRead (off n : Nat) :
    exec (.apertureRead g off n) s =
      .next { s with dev := answerRead g (aptRead s.root s.mem g off n s.dev) (decide (g.val < 4) && aptBad s.dev g off n) } := by
  simp only [exec, execApertureRead, onDevMem_on (reaches_core h), reaches_host h, if_true, answerRead]

theorem exec_apertureWrite (off : Nat) (bytes : List Byte) :
    exec (.apertureWrite g off bytes) s =
      .next { s with dev := (aptWrite s.root g off bytes s.dev).1, mem := memWrites s.mem (aptWrite s.root g off bytes s.dev).2 } := by
  simp only [exec, execApertureWrite, onMem_on (reaches_core h), reaches_host h, if_true]

theorem apertureRead_unmapped {off n : Nat} (hs : aptSegs s.dev g off n = [(none, n)]) : Completes (.apertureRead g off n) s fun t =>
    DevOnly s t ∧ lget t.dev.hif.aptData g = List.replicate n 0 ∧ nget t.dev.gal.aptFaults g = satInc (nget s.dev.gal.aptFaults g) 0xFFFF ∧
    t.dev = { s.dev with hif := t.dev.hif, gal := t.dev.gal, evc := t.dev.evc } := by
  refine ⟨_, exec_apertureRead h off n, ⟨rfl, rfl, rfl⟩, ?_, ?_, ?_⟩
  all_goals dsimp only; rw [aptRead_unmapped hs]
  · simp
  · simp [aptFault_faults]
  · rw [aptFault_eq]; rfl

theorem apertureRead_mapped {off n c o : Nat} (hs : aptSegs s.dev g off n = [(some (c, o), n)]) : Completes (.apertureRead g off n) s fun t =>
    DevOnly s t ∧ lget t.dev.hif.aptData g = (lndRead s.root s.mem c o n s.dev).1 ∧ t.dev.gal = s.dev.gal := by
  refine ⟨_, exec_apertureRead h off n, ⟨rfl, rfl, rfl⟩, ?_, ?_⟩
  all_goals dsimp only; rw [aptRead_mapped hs]
  · simp
  · exact lndRead_gal ..

theorem apertureWrite_unmapped {off n : Nat} {bytes : List Byte} (hn : bytes.length = n) (hs : aptSegs s.dev g off n = [(none, n)]) :
    Completes (.apertureWrite g off bytes) s fun t =>
      DevOnly s t ∧ nget t.dev.gal.aptFaults g = satInc (nget s.dev.gal.aptFaults g) 0xFFFF ∧ t.dev = { s.dev with gal := t.dev.gal, evc := t.dev.evc } := by
  refine ⟨_, exec_apertureWrite h off bytes, ?_⟩
  rw [aptWrite_unmapped hn hs]
  exact ⟨⟨rfl, rfl, rfl⟩, by simp [eff, aptFault_faults], aptFault_eq s.root g [(none, n)] s.dev⟩

theorem apertureWrite_mapped {off n c o : Nat} {bytes : List Byte} (hn : bytes.length = n) (hs : aptSegs s.dev g off n = [(some (c, o), n)]) :
    Completes (.apertureWrite g off bytes) s fun t =>
      t.root = s.root ∧ t.pending = s.pending ∧ t.mem = memWrites s.mem (lndWrite s.root c o bytes s.dev).2 ∧ t.dev.gal = s.dev.gal := by
  refine ⟨_, exec_apertureWrite h off bytes, ?_⟩
  rw [aptWrite_mapped hn hs]
  exact ⟨rfl, rfl, rfl, lndWrite_gal ..⟩

end

/-- The faults after an access of `n` bytes: one more where it touches a byte that no tread backs. -/
theorem aptFault_aptSegs_faults (r : Root) (g off n : Nat) (d : Dev) :
    nget (aptFault r g (aptSegs d g off n) d).gal.aptFaults g =
      if (List.range n).any fun i => (aptResolve d g (off + i)).isNone then satInc (nget d.gal.aptFaults g) 0xFFFF else nget d.gal.aptFaults g := by
  rw [aptFault_faults, aptSegs_any_isNone]

/-- Settles O24: an access is read and written run by run, and its runs cover its bytes in order. -/
theorem apertureAccesses : Obligations.ApertureAccesses := by
  intro s g off n h _
  refine ⟨apertureRead_unmapped h, fun c o => apertureRead_mapped h, fun bytes => apertureWrite_unmapped h, fun bytes c o => apertureWrite_mapped h,
    ⟨_, exec_apertureRead h off n, ⟨rfl, rfl, rfl⟩, ?_⟩, fun bytes hn => ⟨_, exec_apertureWrite h off bytes, rfl, rfl, ?_, rfl⟩⟩
  · obtain ⟨hlen, hzero⟩ := aptRead_zeroAtHoles s.root s.mem g off n s.dev
    dsimp only
    rw [answerRead_aptData, answerRead_gal, aptRead_gal, aptFault_aptSegs_faults]
    exact ⟨by simpa using hlen, rfl, fun i hi hnone => hzero i (by simp [hi, hnone])⟩
  · dsimp only
    rw [aptWrite_gal, hn, aptFault_aptSegs_faults]

end Sys2Proof.Machine

/-! PROOFS of the family 04_event_controller: first what each operation leaves of the sources and targets (R83 to R85). -/

namespace Sys2Proof.Machine

/-! ### Reads after writes -/

@[simp] theorem src_setSrc_self (d : Dev) (n : Nat) (x : Src) : (d.setSrc n x).src n = x := sget_sset_self ..

theorem src_setSrc (d : Dev) (n m : Nat) (x : Src) : (d.setSrc n x).src m = if m = n then x else d.src m := sget_sset ..

/-- A source told apart from the others by its number alone. -/
@[simp] theorem ite_src (d : Dev) (n m : Nat) : (if m = n then d.src n else d.src m) = d.src m := by
  split
  next h => rw [h]
  next => rfl

@[simp] theorem src_setMerged (f : EvcSt → Nat) (d : Dev) (n : Nat) : (d.evcMap fun e => { e with merged := f e }).src n = d.src n := rfl

@[simp] theorem tgt_setSrc (d : Dev) (n t : Nat) (x : Src) : (d.setSrc n x).tgt t = d.tgt t := rfl

@[simp] theorem tgt_setTgt_self (d : Dev) (t : Nat) (x : Tgt) : (d.setTgt t x).tgt t = x := sget_sset_self ..

theorem src_of_evc {a b : Dev} (h : a.evc = b.evc) (n : Nat) : a.src n = b.src n := by simp only [Dev.src, h]

theorem tgt_of_evc {a b : Dev} (h : a.evc = b.evc) (t : Nat) : a.tgt t = b.tgt t := by simp only [Dev.tgt, h]

/-! ### What does not reach the event controller -/

theorem evc_of {a b : Dev} (h : Part.evc.of a = Part.evc.of b) : a.evc = b.evc := Part.same_iff.mpr h

@[simp] theorem evc_foyerSource (r : Root) (n : Nat) (d : Dev) : (foyerSource r n d).evc = d.evc := evc_of (of_foyerSource (.of (by decide)) ..)

@[simp] theorem evc_heldWakes (r : Root) (t : Nat) (ns : List Nat) (d : Dev) : (heldWakes r t ns d).evc = d.evc :=
  evc_of (of_heldWakes (.of (by decide)) ..)

@[simp] theorem src_foyerSource (r : Root) (n m : Nat) (d : Dev) : (foyerSource r n d).src m = d.src m := src_of_evc (evc_foyerSource ..) m

/-! ### What an occurrence or a monitor value leaves: every source but for the pulses that wait on its line -/

/-- The event controller as its sources and targets stand, whatever pulses wait on the lines (R84). -/
def Dev.life (d : Dev) : (Nat → Src) × SMap Tgt × Nat := (fun n => { d.src n with pulses := 0, cyc := 0 }, d.evc.tgt, d.evc.merged)

theorem life_of_evc {a b : Dev} (h : a.evc = b.evc) : a.life = b.life := by simp only [Dev.life, Dev.src, h]

theorem life_src {a b : Dev} (h : a.life = b.life) (n : Nat) : (a.src n).st = (b.src n).st ∧ (a.src n).tgt = (b.src n).tgt := by
  have hn : ({ a.src n with pulses := 0, cyc := 0 } : Src) = { b.src n with pulses := 0, cyc := 0 } := congrFun (Prod.ext_iff.mp h).1 n
  have hst := congrArg Src.st hn
  have htgt := congrArg Src.tgt hn
  exact ⟨hst, htgt⟩

theorem life_tgt {a b : Dev} (h : a.life = b.life) (t : Nat) : a.tgt t = b.tgt t := by
  have ht : a.evc.tgt = b.evc.tgt := congrArg (·.2.1) h
  simp only [Dev.tgt, ht]

theorem life_merged {a b : Dev} (h : a.life = b.life) : a.evc.merged = b.evc.merged := congrArg (·.2.2) h

theorem life_ite (c : Prop) [Decidable c] (a b : Dev) : (if c then a else b).life = if c then a.life else b.life := apply_ite ..

@[simp] theorem life_logMap (d : Dev) (f : LogSt → LogSt) : (d.logMap f).life = d.life := life_of_evc rfl

@[simp] theorem life_monMap (d : Dev) (f : MonSt → MonSt) : (d.monMap f).life = d.life := life_of_evc rfl

@[simp] theorem life_raise (r : Root) (n : Nat) (d : Dev) : (raise r n d).life = d.life := by
  unfold raise
  dsimp only
  split
  · rfl
  · refine Prod.ext (funext fun m => ?_) rfl
    simp only [Dev.life, src_setSrc]
    split
    next h => simp only [h]
    next => rfl

@[simp] theorem life_raiseIf (c : Bool) (r : Root) (n : Nat) (d : Dev) : (raiseIf c r n d).life = d.life := by simp [raiseIf, life_ite]

@[simp] theorem life_logLost (r : Root) (g ec era : Nat) (d : Dev) : (logLost r g ec era d).life = d.life := by simp [logLost]

@[simp] theorem life_teleQueue (r : Root) (x : TeleRec) (d : Dev) : (teleQueue r x d).life = d.life := by
  unfold teleQueue
  dsimp only
  repeat' split
  all_goals simp

@[simp] theorem life_alarmUpdate (r : Root) (e g id : Nat) (value : Word) (taken : Bool) (d : Dev) :
    (alarmUpdate r e g id value taken d).life = d.life := life_of_evc (evc_of (of_alarmUpdate (.of (by decide)) ..))

@[simp] theorem life_alarmPlace (r : Root) (g id : Nat) (value : Word) (d : Dev) : (alarmPlace r g id value d).life = d.life := by
  unfold alarmPlace
  dsimp only
  repeat' split
  all_goals simp

@[simp] theorem life_teleOccur (r : Root) (cls g id : Nat) (value : Word) (d : Dev) : (teleOccur r cls g id value d).life = d.life := by
  unfold teleOccur
  split <;> simp [life_ite, alarmOccur]

@[simp] theorem life_monAdd (r : Root) (s : Nat) (v : Int) (d : Dev) : (monAdd r s v d).life = d.life :=
  life_of_evc (evc_of (of_monAdd (.of (by decide)) ..))

@[simp] theorem life_monDrop (r : Root) (s : Nat) (d : Dev) : (monDrop r s d).life = d.life :=
  life_of_evc (evc_of (of_monDrop (.of (by decide)) ..))

@[simp] theorem life_monRecord (r : Root) (s : Nat) (raw : Int) (d : Dev) : (monRecord r s raw d).life = d.life := by
  simp [monRecord, life_ite]

@[simp] theorem life_monTake (r : Root) (qty obj : Nat) (sameEra : Bool) (raw : Int) (d : Dev) : (monTake r qty obj sameEra raw d).life = d.life :=
  foldl_inv (fun x => x.life = d.life) _ _ d rfl fun x s h => by simp [life_ite, h]

/-! ### The rows of R85, source by source -/

/-- A source that becomes PENDING changes nothing else of the event controller. -/
theorem toPending_evc (r : Root) (n : Nat) (first : Bool) (d : Dev) :
    (toPending r n first d).evc = (d.setSrc n ((d.src n).leave .pending first)).evc := by
  unfold toPending
  dsimp only
  split
  · rfl
  · exact evc_foyerSource ..

theorem src_toPending (r : Root) (n m : Nat) (first : Bool) (d : Dev) :
    (toPending r n first d).src m = if m = n then (d.src n).leave .pending first else d.src m :=
  (src_of_evc (toPending_evc ..) m).trans (src_setSrc ..)

/-- A withdrawal: a DISPATCHED source returns to PENDING. -/
def Src.withdrawn (x : Src) : Src := if x.st = .dispatched then x.leave .pending false else x

theorem src_withdraw (r : Root) (n m : Nat) (d : Dev) : (withdraw r n d).src m = if m = n then (d.src n).withdrawn else d.src m := by
  unfold withdraw Src.withdrawn
  split
  · exact src_toPending ..
  · split
    next h => rw [h]
    next => rfl

/-- The state that a rising edge leads to. -/
def SrcSt.risen : SrcSt → SrcSt
  | .idle => .pending
  | .active => .activePending
  | st => st

/-- A rising edge in cycle `c`; `counted` says that MERGED has room for one more. -/
def Src.risen (x : Src) (c : Nat) (counted : Bool) : Src :=
  match x.st with
  | .idle => { x with setCyc := c + 1 }.leave .pending false
  | .active => { x with setCyc := c + 1, st := .activePending }
  | _ => { x with mergeCyc := c + 1, counted := counted }

theorem st_risen (x : Src) (c : Nat) (counted : Bool) : (x.risen c counted).st = x.st.risen := by
  unfold Src.risen SrcSt.risen
  cases x.st <;> rfl

theorem src_srcEdge (r : Root) (n m : Nat) (d : Dev) :
    (srcEdge r n d).src m = if m = n then (d.src n).risen r.cyc (d.evc.merged < 0xFFFF) else d.src m := by
  cases h : (d.src n).st with
  | idle =>
    simp only [srcEdge, Src.risen, h, src_toPending, src_setSrc]
    split <;> rfl
  | active => simp only [srcEdge, Src.risen, h, src_setSrc]
  | pending | dispatched | activePending =>
    simp only [srcEdge, Src.risen, h, src_setMerged]
    exact src_setSrc ..

/-- Where a source is neither idle nor active, its edge is merged. -/
theorem merged_srcEdge {n : Nat} {d : Dev} (hi : (d.src n).st ≠ .idle) (ha : (d.src n).st ≠ .active) (r : Root) :
    (srcEdge r n d).evc.merged = satInc d.evc.merged 0xFFFF := by
  cases h : (d.src n).st with
  | idle => exact absurd h hi
  | active => exact absurd h ha
  | pending | dispatched | activePending =>
    simp only [srcEdge, h]
    rfl

/-- A pending bit written as `b`. -/
def Src.pendWritten (b : Bool) (x : Src) : Src :=
  match x.st, b with
  | .idle, true => x.leave .pending false
  | .active, true => { x with st := .activePending }
  | .pending, false | .dispatched, false => x.leave .idle false
  | .activePending, false => { x with st := .active }
  | _, _ => x

theorem src_pendWrite (r : Root) (n m : Nat) (b : Bool) (d : Dev) :
    (pendWrite r n b d).src m = if m = n then (d.src n).pendWritten b else d.src m := by
  cases h : (d.src n).st <;> cases b <;> simp only [pendWrite, Src.pendWritten, h, src_toPending, src_setSrc, ite_src]

theorem pendWritten_bits (b : Bool) (x : Src) :
    (x.pendWritten b).pend = b ∧ (x.pendWritten b).act = x.act ∧ (x.pendWritten b).mask = x.mask := by
  unfold Src.pendWritten
  cases h : x.st <;> cases b <;> simp [Src.pend, Src.act, Src.leave, h]

/-- A 0 written to a pending bit in cycle `c`, before an edge of that cycle (R44). -/
def Src.pendCleared (c : Nat) (x : Src) : Src :=
  if x.setCyc = c + 1 then x
  else if x.mergeCyc = c + 1 then (if x.st = .activePending then { x with setCyc := c + 1 } else { x with setCyc := c + 1 }.leave .pending false)
  else x.pendWritten false

theorem src_pendClear (r : Root) (n m : Nat) (d : Dev) :
    (pendClear r n d).src m = if m = n then (d.src n).pendCleared r.cyc else d.src m := by
  unfold pendClear Src.pendCleared
  dsimp only
  by_cases hset : (d.src n).setCyc = r.cyc + 1
  · simp only [hset, if_true, ite_src]
  · by_cases hmerge : (d.src n).mergeCyc = r.cyc + 1
    · by_cases hst : (d.src n).st = .activePending
      · simp only [hset, hmerge, hst, if_true, if_false, src_setMerged, src_setSrc]
      · simp only [hset, hmerge, hst, if_true, if_false, src_setMerged, src_toPending, src_setSrc]
        split <;> rfl
    · simp only [hset, hmerge, if_false, src_pendWrite]

/-- An edge of the write's own cycle keeps the bit that it set, or was merged into. -/
theorem pendCleared_bits {x : Src} (hp : x.pend = true) (c : Nat) :
    (x.pendCleared c).pend = (x.setCyc == c + 1 || x.mergeCyc == c + 1) ∧ (x.pendCleared c).act = x.act ∧ (x.pendCleared c).mask = x.mask := by
  unfold Src.pendCleared
  split_ifs with hset hmerge hst
  · simp [hset, hp]
  · simp [hmerge, Src.pend, Src.act, hst]
  · have idle : x.act = false := by
      revert hp hst
      unfold Src.pend Src.act
      cases x.st <;> simp
    simp [hmerge, Src.leave, Src.pend, Src.act]
    simpa [Src.act] using idle
  · rw [beq_false_of_ne hset, beq_false_of_ne hmerge]
    exact pendWritten_bits false x

/-- A mask bit written as `b`. -/
def Src.maskWritten (b : Bool) (x : Src) : Src := if b then { x with mask := b }.withdrawn else { x with mask := b }

theorem src_maskWrite (r : Root) (n m : Nat) (b : Bool) (d : Dev) :
    (maskWrite r n b d).src m = if m = n then (d.src n).maskWritten b else d.src m := by
  unfold maskWrite Src.maskWritten
  cases b
  · exact src_setSrc ..
  · simp only [if_true, src_withdraw, src_setSrc_self, src_setSrc]
    split <;> rfl

theorem withdrawn_bits (x : Src) : x.withdrawn.pend = x.pend ∧ x.withdrawn.act = x.act ∧ x.withdrawn.mask = x.mask ∧ x.withdrawn.set = x.set := by
  unfold Src.withdrawn
  split
  next h => simp [Src.leave, Src.pend, Src.act, h]
  next => exact ⟨rfl, rfl, rfl, rfl⟩

theorem maskWritten_bits (b : Bool) (x : Src) :
    (x.maskWritten b).mask = b ∧ (x.maskWritten b).pend = x.pend ∧ (x.maskWritten b).act = x.act := by
  cases b
  · exact ⟨rfl, rfl, rfl⟩
  · obtain ⟨hp, ha, hm, -⟩ := withdrawn_bits { x with mask := true }
    exact ⟨hm, hp, ha⟩

/-- A completion of an active source (R85). -/
def Src.completed (x : Src) : Src :=
  match x.st with
  | .active => x.leave .idle false
  | .activePending => x.leave .pending true
  | _ => x

theorem src_completeSrc (r : Root) (n m : Nat) (d : Dev) : (completeSrc r n d).src m = if m = n then (d.src n).completed else d.src m := by
  cases h : (d.src n).st <;> simp only [completeSrc, Src.completed, h, src_toPending, src_setSrc, ite_src]

end Sys2Proof.Machine

/-! Masks, target sets, pending bits and target enables (R98 to R101). -/

namespace Sys2Proof.Machine

/-! ### Writes of registers that the event controller keeps -/

/-- A write of a register that its block keeps acts on the device but for the parity that it makes right and the faults that its use of words finds. -/
theorem onReg_kept {s : State} {g : Gal} {b : Blk} {o : Nat} {w : Word} {x : Reg} (hb : b ∈ Blk.all) (h40 : 0x040 ≤ o) (ho : o < 0x1000)
    (hx : b.reg o = some x) (hty : x.ty = .hk) (h : canWrite s g b o w = true) :
    ∃ p q l, let d := { s.dev with parityBad := p, page := q, lines := l }
      onReg g b o w s = .next { s with dev := (blockWrite s.root g b o w d).1, mem := memWrites s.mem (blockWrite s.root g b o w d).2 } := by
  have hreg : regWrite s.root s.mem g b o x w s.dev =
      blockWrite s.root g b o w (pageUse s.root b (actUses b o) { s.dev with parityBad := s.dev.parityBad.filter (· != b.addr o) }) := by
    simp only [regWrite, Nat.not_lt.mpr h40, hty, if_false]
  rw [pageUse_eq] at hreg
  exact ⟨_, _, _, hreg ▸ onReg_can s g b o w x hb ho hx h⟩

/-- The sources that a page's bulk words reach: the house's all, a gallery's those it owns (R99). -/
def lineMay (r : Root) (d : Dev) : Option Gal → Nat → Bool
  | none, _ => true
  | some e, n => owner r d .evtSource n == e.val

theorem pendWord_eq (r : Root) (g : Nat) (e : Option Gal) (k : Fin 16) (w : Word) (d : Dev) :
    blockWrite r g (lineBlk e) (0x100 + 4 * k) w d = eff (pendBulk r k w (lineMay r d e) d) := by
  have hk : (0x100 + 4 * k.val) % 64 / 4 = k := by omega
  cases e with
  | none =>
    simp (disch := omega) only [lineBlk, blockWrite, evcWrite, if_pos, hk]
    rfl
  | some e =>
    simp (disch := omega) only [lineBlk, blockWrite, evtWrite, if_pos, if_neg, hk]
    rfl

theorem maskWord_eq (r : Root) (g : Nat) (e : Option Gal) (k : Fin 16) (w : Word) (d : Dev) :
    blockWrite r g (lineBlk e) (0x140 + 4 * k) w d = eff (bulkWrite k w (lineMay r d e) (·.mask) (maskWrite r) d) := by
  have hk : (0x140 + 4 * k.val) % 64 / 4 = k := by omega
  cases e with
  | none =>
    simp (disch := omega) only [lineBlk, blockWrite, evcWrite, if_neg, hk]
    rfl
  | some e =>
    simp (disch := omega) only [lineBlk, blockWrite, evtWrite, if_neg, hk]
    rfl

/-! ### Bulk words (R99, R100) -/

/-- The first `N` bits of a bulk word write. -/
def bulkFirst (N k : Nat) (w : Word) (may : Nat → Bool) (now : Src → Bool) (f : Nat → Bool → Dev → Dev) (d : Dev) : Dev :=
  (List.range N).foldl (fun d i =>
    let n := 32 * k + i
    if may n && now (d.src n) != bitOf w i then f n (bitOf w i) d else d) d

theorem bulkFirst_succ (N k : Nat) (w : Word) (may : Nat → Bool) (now : Src → Bool) (f : Nat → Bool → Dev → Dev) (d : Dev) :
    bulkFirst (N + 1) k w may now f d =
      let d' := bulkFirst N k w may now f d
      let n := 32 * k + N
      if may n && now (d'.src n) != bitOf w N then f n (bitOf w N) d' else d' := by
  rw [bulkFirst, List.range_succ, List.foldl_append]
  rfl

/-- A bulk write whose `f` acts on one source as `φ` says acts on each source that it reaches and whose bit it changes, once. -/
theorem src_bulkFirst {f : Nat → Bool → Dev → Dev} {φ : Bool → Src → Src}
    (hf : ∀ n b d m, (f n b d).src m = if m = n then φ b (d.src n) else d.src m) (N k : Nat) (w : Word) (may : Nat → Bool) (now : Src → Bool)
    (d : Dev) (i : Nat) :
    let n := 32 * k + i
    (bulkFirst N k w may now f d).src n =
      if i < N ∧ (may n && now (d.src n) != bitOf w i) = true then φ (bitOf w i) (d.src n) else d.src n := by
  dsimp only
  induction N generalizing i with
  | zero => simp [bulkFirst]
  | succ N ih =>
    simp only [bulkFirst_succ, apply_ite (fun d : Dev => d.src (32 * k + i)), hf, ih]
    by_cases hN : i = N
    · simp [hN]
    · have hlt : i < N + 1 ↔ i < N := by omega
      simp [hN, hlt]

theorem src_bulkWrite {f : Nat → Bool → Dev → Dev} {φ : Bool → Src → Src}
    (hf : ∀ n b d m, (f n b d).src m = if m = n then φ b (d.src n) else d.src m) (k : Nat) (w : Word) (may : Nat → Bool) (now : Src → Bool)
    (d : Dev) {i : Nat} (hi : i < 32) :
    let n := 32 * k + i
    (bulkWrite k w may now f d).src n = if may n && now (d.src n) != bitOf w i then φ (bitOf w i) (d.src n) else d.src n := by
  have whole : bulkWrite k w may now f d = bulkFirst 32 k w may now f d := rfl
  dsimp only
  rw [whole, src_bulkFirst hf]
  simp only [hi, true_and]

/-- A pending bit of a bulk word that the page reaches or not (`may`), written as `b` in cycle `c`. -/
def Src.pendBulked (c : Nat) (may b : Bool) (x : Src) : Src :=
  if may && x.pend != b then (if b then x.pendWritten true else x.pendCleared c) else x

theorem src_pendBulk (r : Root) (k : Nat) (w : Word) (may : Nat → Bool) (d : Dev) {i : Nat} (hi : i < 32) :
    (pendBulk r k w may d).src (32 * k + i) = (d.src (32 * k + i)).pendBulked r.cyc (may (32 * k + i)) (bitOf w i) := by
  refine src_bulkWrite (φ := fun b x => if b then x.pendWritten true else x.pendCleared r.cyc) (fun n b d m => ?_) k w may Src.pend d hi
  cases b
  · exact src_pendClear ..
  · exact src_pendWrite ..

theorem pendBulked_bits (c : Nat) (may b : Bool) (x : Src) :
    let y := x.pendBulked c may b
    y.pend = (if may && (b || (x.setCyc != c + 1 && x.mergeCyc != c + 1)) then b else x.pend) ∧ y.act = x.act ∧ y.mask = x.mask := by
  dsimp only
  unfold Src.pendBulked
  cases may
  · exact ⟨rfl, rfl, rfl⟩
  cases b <;> cases hp : x.pend
  · simp [hp]
  · obtain ⟨h1, h2, h3⟩ := pendCleared_bits hp c
    refine ⟨h1.trans ?_, h2, h3⟩
    by_cases hset : x.setCyc = c + 1 <;> by_cases hmerge : x.mergeCyc = c + 1 <;> simp [hset, hmerge]
  · exact pendWritten_bits true x
  · simp [hp]

/-- A mask bit of a bulk word that the page reaches or not (`may`), written as `b`. -/
def Src.maskBulked (may b : Bool) (x : Src) : Src := if may && x.mask != b then x.maskWritten b else x

theorem src_maskBulk (r : Root) (k : Nat) (w : Word) (may : Nat → Bool) (d : Dev) {i : Nat} (hi : i < 32) :
    (bulkWrite k w may (·.mask) (maskWrite r) d).src (32 * k + i) = (d.src (32 * k + i)).maskBulked (may (32 * k + i)) (bitOf w i) :=
  src_bulkWrite (fun n b d m => src_maskWrite r n m b d) k w may (·.mask) d hi

theorem maskBulked_bits (may b : Bool) (x : Src) :
    let y := x.maskBulked may b
    y.mask = (if may then b else x.mask) ∧ y.pend = x.pend ∧ y.act = x.act := by
  dsimp only
  unfold Src.maskBulked
  cases may
  · exact ⟨rfl, rfl, rfl⟩
  by_cases hb : x.mask = b
  · simp [hb]
  · simpa [hb] using maskWritten_bits b x

/-! ### The selected source (R101) -/

/-- SRC_CTRL's pending bit, written before its mask. -/
def srcPended (r : Root) (g : Nat) (w : Word) (d : Dev) : Dev :=
  if bitOf w 17 && (d.src (srcSel d g)).pend != bitOf w 1 then pendWrite r (srcSel d g) (bitOf w 1) d else d

theorem srcPended_bits (r : Root) (g : Nat) (w : Word) (d : Dev) :
    let n := srcSel d g
    let y := (srcPended r g w d).src n
    y.pend = (if bitOf w 17 then bitOf w 1 else (d.src n).pend) ∧ y.mask = (d.src n).mask := by
  dsimp only
  unfold srcPended
  by_cases hw : bitOf w 17 = true
  · by_cases hp : (d.src (srcSel d g)).pend = bitOf w 1
    · simp [hp]
    · simp [hw, hp, src_pendWrite, pendWritten_bits]
  · simp [hw]

theorem srcCtrlWrite_bits (r : Root) (g : Nat) (w : Word) (d : Dev) :
    let n := srcSel d g
    let y := (srcCtrlWrite r g w d).src n
    y.mask = (if bitOf w 16 then bitOf w 0 else (d.src n).mask) ∧ y.pend = (if bitOf w 17 then bitOf w 1 else (d.src n).pend) := by
  intro n y
  obtain ⟨hpend, hmask⟩ := srcPended_bits r g w d
  have he : srcCtrlWrite r g w d =
      if bitOf w 16 && ((srcPended r g w d).src n).mask != bitOf w 0 then maskWrite r n (bitOf w 0) (srcPended r g w d) else srcPended r g w d := rfl
  have hy : y = if bitOf w 16 && ((srcPended r g w d).src n).mask != bitOf w 0 then ((srcPended r g w d).src n).maskWritten (bitOf w 0)
      else (srcPended r g w d).src n := by
    simp only [y, he, apply_ite (fun d : Dev => d.src n), src_maskWrite, if_true]
  rw [hy, ← hpend, ← hmask]
  by_cases hw : bitOf w 16 = true
  · by_cases hm : ((srcPended r g w d).src n).mask = bitOf w 0
    · simp [hm, n]
    · simp [hw, hm, maskWritten_bits, n]
  · simp [hw, n]

theorem srcTgt_eq (r : Root) (g : Nat) (e : Gal) (k : Fin 3) (w : Word) (d : Dev) :
    blockWrite r g (.evt e) (0x050 + 4 * k) w d = eff (srcTgtWrite r e k w d) := by
  have hk : (0x050 + 4 * k.val - 0x050) / 4 = k := by omega
  simp (disch := omega) only [blockWrite, evtWrite, if_pos, if_neg, hk]

theorem set_withdraw (r : Root) (n m : Nat) (d : Dev) : ((withdraw r n d).src m).set = (d.src m).set := by
  rw [src_withdraw]
  obtain ⟨-, -, -, hset⟩ := withdrawn_bits (d.src n)
  split
  next h => rw [h, hset]
  next => rfl

/-- A withdrawal from lost targets keeps every target set. -/
theorem set_withdrawLost (r : Root) (o d : Dev) (m : Nat) : ((withdrawLost r o d).src m).set = (d.src m).set := by
  refine foldl_inv (fun x : Dev => (x.src m).set = (d.src m).set) _ _ _ ?_ fun x n h => by rwa [src_foyerSource]
  exact foldl_inv (fun x : Dev => (x.src m).set = (d.src m).set) _ _ d rfl fun x n h => (set_withdraw ..).trans h

theorem nbit_nset_ite (n i j : Nat) (b : Bool) : nbit (nset n i b) j = if j = i then b else nbit n j := by
  cases b
  · by_cases h : j = i
    · simp [h, nbit_nset_clear]
    · rw [if_neg h]
      unfold nset
      split
      next => rfl
      next hi =>
        have hle : 2 ^ i ≤ n := Nat.ge_two_pow_of_testBit (by simpa [nbit_eq_testBit] using hi)
        have hclear := nbit_nset_clear n i
        simp only [nset, hi, Bool.false_eq_true, if_false] at hclear
        simp only [nbit_eq_testBit] at hclear ⊢
        have := testBit_add_two_pow hclear h
        rw [Nat.sub_add_cancel hle] at this
        simpa using this.symm
  · by_cases h : j = i
    · simp [h]
    · simp [h, nbit_nset_other h]

/-- A target set after the first `N` bits of SRC_TGTk. -/
def setWritten (N k : Nat) (w : Word) (set : Nat) : Nat :=
  (List.range N).foldl (fun s i => if bitOf w (16 + i) then nset s (16 * k + i) (bitOf w i) else s) set

theorem setWritten_succ (N k : Nat) (w : Word) (set : Nat) :
    setWritten (N + 1) k w set =
      if bitOf w (16 + N) then nset (setWritten N k w set) (16 * k + N) (bitOf w N) else setWritten N k w set := by
  rw [setWritten, List.range_succ, List.foldl_append]
  rfl

theorem nbit_setWritten (N k : Nat) (w : Word) (set j : Nat) :
    nbit (setWritten N k w set) j =
      if 16 * k ≤ j ∧ j < 16 * k + N ∧ bitOf w (16 + (j - 16 * k)) then bitOf w (j - 16 * k) else nbit set j := by
  induction N with
  | zero =>
    rw [if_neg (by omega)]
    rfl
  | succ N ih =>
    rw [setWritten_succ, apply_ite (nbit · j), nbit_nset_ite, ih]
    by_cases hj : j = 16 * k + N
    · subst hj
      simp
    · have hlt : j < 16 * k + (N + 1) ↔ j < 16 * k + N := by omega
      simp [hj, hlt]

theorem nbit_srcTgtWrite (r : Root) (g k : Nat) (w : Word) (d : Dev) (j : Nat) :
    nbit ((srcTgtWrite r g k w d).src (srcSel d g)).set j =
      if 16 * k ≤ j ∧ j < 16 * k + 16 ∧ bitOf w (16 + (j - 16 * k)) then bitOf w (j - 16 * k) else nbit (d.src (srcSel d g)).set j := by
  simp only [srcTgtWrite, set_withdrawLost, src_setSrc_self]
  exact nbit_setWritten 16 ..

/-! ### Target enables (R98) -/

theorem tgtEnaWrite_eq (r : Root) (m : List Host.Cell) (g : Nat) (e : Gal) (w : Word) (d : Dev) :
    ∃ o d', regWrite r m g (.evt e) 0x040 (r1 0x040 .rw) w d = eff (withdrawLost r o d') ∧ d'.regs = (d.setReg (.evt e) 0x040 w).regs := by
  have hmask : nget d.hwSet ((Blk.evt e).addr 0x040) = r.cyc + 1 → hwMask (.evt e) 0x040 = 0 := fun _ => rfl
  refine ⟨(pageUse r (.evt e) [0x040] (d.setReg (.evt e) 0x040 w)).setReg (.evt e) 0x040 (d.reg (.evt e) 0x040),
    pageUse r (.evt e) [0x040] (d.setReg (.evt e) 0x040 w), ?_, pageUse_regs ..⟩
  simp only [regWrite, r1, hostFirst_eq hmask]
  rfl


/-! ### The obligation -/

theorem pendWordWrite_completes {s : State} {g : Gal} {w : Word} (e : Option Gal) (k : Fin 16) (h : canWrite s g (lineBlk e) (0x100 + 4 * k) w = true) :
    Completes (.pendWordWrite g e k w) s fun t => DevOnly s t ∧ ∀ i < 32, let n := 32 * k.val + i
      t.dev.src n = (s.dev.src n).pendBulked s.root.cyc (lineMay s.root s.dev e n) (bitOf w i) := by
  have hx : ∀ (e : Option Gal) (k : Fin 16), (lineBlk e).reg (0x100 + 4 * k) = some (rN 0x100 4 16 .hk) := by decide
  obtain ⟨p, q, l, he⟩ := onReg_kept (lineBlk_mem e) (by omega) (by omega) (hx e k) rfl h
  dsimp only at he
  rw [pendWord_eq] at he
  refine ⟨_, he, ⟨rfl, rfl, rfl⟩, fun i hi => (src_pendBulk _ _ _ _ _ hi).trans ?_⟩
  cases e <;> rfl

theorem maskWordWrite_completes {s : State} {g : Gal} {w : Word} (e : Option Gal) (k : Fin 16) (h : canWrite s g (lineBlk e) (0x140 + 4 * k) w = true) :
    Completes (.maskWordWrite g e k w) s fun t => DevOnly s t ∧ ∀ i < 32, let n := 32 * k.val + i
      t.dev.src n = (s.dev.src n).maskBulked (lineMay s.root s.dev e n) (bitOf w i) := by
  have hx : ∀ (e : Option Gal) (k : Fin 16), (lineBlk e).reg (0x140 + 4 * k) = some (rN 0x140 4 16 .hk) := by decide
  obtain ⟨p, q, l, he⟩ := onReg_kept (lineBlk_mem e) (by omega) (by omega) (hx e k) rfl h
  dsimp only at he
  rw [maskWord_eq] at he
  refine ⟨_, he, ⟨rfl, rfl, rfl⟩, fun i hi => (src_maskBulk _ _ _ _ _ hi).trans ?_⟩
  cases e <;> rfl

theorem tgtEnabled_eq (d : Dev) (t : Nat) : tgtEnabled d t = bitOf (d.reg (.evt (t / 8)) 0x040) (t % 8) := rfl

theorem tgtEnaWrite_completes {s : State} {g : Gal} {w : Word} (e : Gal) (h : canWrite s g (.evt e) 0x040 w = true) :
    Completes (.tgtEnaWrite g e w) s fun t => DevOnly s t ∧ t.dev.regs = (s.dev.setReg (.evt e) 0x040 w).regs := by
  have hx : ∀ e : Gal, (Blk.evt e).reg 0x040 = some (r1 0x040 .rw) := by decide
  have he := onReg_can s g (.evt e) 0x040 w _ (evt_mem e) (by decide) (hx e) h
  obtain ⟨o, d, hw, hd⟩ := tgtEnaWrite_eq s.root s.mem g e w s.dev
  rw [hw] at he
  have hregs : (withdrawLost s.root o d).regs = d.regs := Part.same_iff (p := .regs).mpr (of_withdrawLost (.of (by decide)) ..)
  exact ⟨_, he, ⟨rfl, rfl, rfl⟩, hregs.trans hd⟩

/-- Settles O27: each write acts on the sources that it reaches as the rows of R85 say, and on a target enable as on a plain register. -/
theorem sourceRegisters : Obligations.SourceRegisters := by
  intro s g w mayReach
  have may : ∀ e n, mayReach e n = lineMay s.root s.dev e n := fun e n => by cases e <;> rfl
  refine ⟨fun e k h => ?_, fun e k h => ?_, fun e h => ?_, fun e k h => ?_, fun e h => ?_⟩
  · obtain ⟨t, he, hd, hsrc⟩ := pendWordWrite_completes e k h
    refine ⟨t, he, hd, fun i hi => ?_⟩
    dsimp only
    rw [hsrc i hi, may]
    exact pendBulked_bits ..
  · obtain ⟨t, he, hd, hsrc⟩ := maskWordWrite_completes e k h
    refine ⟨t, he, hd, fun i hi => ?_⟩
    dsimp only
    rw [hsrc i hi, may]
    exact maskBulked_bits ..
  · have hx : ∀ e : Gal, (Blk.evt e).reg 0x04C = some (r1 0x04C .hk) := by decide
    obtain ⟨p, q, l, he⟩ := onReg_kept (evt_mem e) (by decide) (by decide) (hx e) rfl h
    exact ⟨_, he, ⟨rfl, rfl, rfl⟩, srcCtrlWrite_bits s.root e w { s.dev with parityBad := p, page := q, lines := l }⟩
  · have hx : ∀ (e : Gal) (k : Fin 3), (Blk.evt e).reg (0x050 + 4 * k) = some (rN 0x050 4 3 .hk) := by decide
    obtain ⟨p, q, l, he⟩ := onReg_kept (evt_mem e) (by omega) (by omega) (hx e k) rfl h
    dsimp only at he
    rw [srcTgt_eq] at he
    exact ⟨_, he, ⟨rfl, rfl, rfl⟩, fun i _ => nbit_srcTgtWrite s.root e k w { s.dev with parityBad := p, page := q, lines := l } i⟩
  · obtain ⟨t, he, hd, hregs⟩ := tgtEnaWrite_completes e h
    have hreg : ∀ b o, t.dev.reg b o = (s.dev.setReg (.evt e) 0x040 w).reg b o := fun b o => by simp only [Dev.reg, hregs]
    refine ⟨t, he, hd, fun v hv => ?_, fun k hk _ => ?_⟩
    · have h8 : (8 * e.val + v) / 8 = e := by omega
      have hmod : (8 * e.val + v) % 8 = v := by omega
      rw [tgtEnabled_eq, h8, hmod, hreg, reg_setReg_self]
    · have ha : (Blk.evt (k / 8)).addr 0x040 ≠ (Blk.evt e).addr 0x040 := by
        simp only [Blk.addr, Blk.page]
        omega
      rw [tgtEnabled_eq, hreg]
      exact congrArg (bitOf · (k % 8)) (sget_setReg_other _ _ _ _ _ ha)

end Sys2Proof.Machine

/-! Claim and completion (R95, R96). -/

namespace Sys2Proof.Machine

/-! ### CLAIMt (R95) -/

theorem claim_claimed (r : Root) (t : Nat) (d : Dev) : ((claim r t d).2.tgt t).claimed = true := by
  unfold claim
  dsimp only
  split
  · simp
  · split
    · simp [life_tgt (life_monTake ..)]
    · simp

theorem claim_nothing {t : Nat} {d : Dev} (h : atTarget d t = []) (r : Root) : (claim r t d).1 = 0x3FF := by simp only [claim, h]

theorem claim_lowest {t n : Nat} {rest : List Nat} {d : Dev} (h : atTarget d t = n :: rest) (r : Root) :
    (claim r t d).1 = wd (rest.length * 65536 + n) ∧ ((claim r t d).2.src n).st = .active := by
  simp only [claim, h, true_and]
  split
  · simp [life_src (life_monTake ..)]
  · simp

theorem readWord_claim (r : Root) (g e : Gal) (v : Fin 8) (d : Dev) :
    readWord r g ((Blk.evt e).addr (0x0C0 + 4 * v)) d = if g = e then claim r (8 * e + v) d else (0x3FF, d) := by
  have hx : ∀ (e : Gal) (v : Fin 8), (Blk.evt e).reg (0x0C0 + 4 * v) = some (rN 0x0C0 4 8 .ro) := by decide
  have hv : (0x0C0 + 4 * v.val - 0x0C0) / 4 = v := by omega
  simp (disch := omega) only [readWord, place_addr _ _ (evt_mem e), hx, rN, readEffect, if_pos, hv, Fin.val_inj]

/-- A read of CLAIMt is one access of one word. -/
theorem evtClaim_eq {s : State} {g : Gal} (h : reaches s g = true) (e : Gal) (v : Fin 8) :
    exec (.evtClaim g e v) s = .next (readState s g (if g = e then claim s.root (8 * e + v) s.dev else (0x3FF, s.dev)) 0 4) := by
  have ha : (Blk.evt e).addr (0x0C0 + 4 * v) / 4 * 4 = (Blk.evt e).addr (0x0C0 + 4 * v) := by simp only [Blk.addr]; omega
  have hmod : (Blk.evt e).addr (0x0C0 + 4 * v) % 4 = 0 := by simp only [Blk.addr]; omega
  have hn : ((Blk.evt e).addr (0x0C0 + 4 * v) + 4 - 1) / 4 - (Blk.evt e).addr (0x0C0 + 4 * v) / 4 + 1 = 1 := by simp only [Blk.addr]; omega
  refine (onRead_can s g _ _ h (by decide)).trans ?_
  simp only [ha, hn, hmod, readWords_one, readWord_claim, List.flatMap_cons, List.flatMap_nil, List.append_nil, List.headD_cons, readState]

@[simp] theorem readState_readData (s : State) (g : Gal) (p : Word × Dev) (i len : Nat) : wget (readState s g p i len).dev.hif.readData g = p.1 :=
  wget_wput_self ..

/-! ### COMPLETEt (R96) -/

theorem evtComplete_eq {s : State} {g e : Gal} {v : Fin 8} {w : Word} (h : canWrite s g (.evt e) (0x0E0 + 4 * v) w = true) :
    exec (.evtComplete g e v w) s = .next { s with dev := complete s.root (8 * e + v) (fld w 9 0) s.dev } := by
  have hx : ∀ (e : Gal) (v : Fin 8), (Blk.evt e).reg (0x0E0 + 4 * v) = some (rN 0x0E0 4 8 .wo) := by decide
  have hv : (0x0E0 + 4 * v.val - 0x0E0) / 4 = v := by omega
  have hw : regWrite s.root s.mem g (.evt e) (0x0E0 + 4 * v) (rN 0x0E0 4 8 .wo) w s.dev = eff (complete s.root (8 * e + v) (fld w 9 0) s.dev) := by
    simp (disch := omega) only [regWrite, rN, strobe, actUses, evtWrite, if_pos, if_neg, hv, pageUse_nil]
  have he := onReg_can s g (.evt e) (0x0E0 + 4 * v) w _ (evt_mem e) (by omega) (hx e v) h
  rwa [hw] at he

theorem complete_mine {t n : Nat} {d : Dev} (h : n < 512 ∧ (d.src n).act = true ∧ (d.src n).tgt = t) (r : Root) :
    complete r t n d = completeSrc r n d := if_pos h

theorem complete_bad {t n : Nat} {d : Dev} (h : ¬(n < 512 ∧ (d.src n).act = true ∧ (d.src n).tgt = t)) (hn : n ≠ 0x3FF) (r : Root) :
    (complete r t n d).evc.src = d.evc.src ∧
    nget (complete r t n d).evc.badComplete (t / 8) = satInc (nget d.evc.badComplete (t / 8)) 0xFFFF := by
  simp only [complete, h, hn, if_false]
  exact ⟨rfl, nget_nput_self ..⟩

theorem complete_none (r : Root) (t : Nat) (d : Dev) : complete r t 0x3FF d = d := by simp [complete]

/-- Settles O26: `claim` by the list of sources at the target, `complete` by whether the source is active from a claim there. -/
theorem claimAndComplete : Obligations.ClaimAndComplete := by
  intro s g e v k
  refine ⟨fun h hge => ⟨_, evtClaim_eq h e v, ⟨rfl, rfl, rfl⟩, ?_, ?_⟩, fun h hge => ⟨_, evtClaim_eq h e v, ⟨rfl, rfl, rfl⟩, ?_, ?_⟩,
    fun w h => ⟨_, evtComplete_eq h, ⟨rfl, rfl, rfl⟩, fun hm hst => ?_, fun hm hst => ?_, fun hm hn => ?_, fun hn => ?_⟩⟩
  · rw [if_pos hge]
    exact claim_claimed s.root k s.dev
  · rw [readState_readData, if_pos hge]
    split
    next hl => exact claim_nothing hl s.root
    next n rest hl => exact claim_lowest hl s.root
  · rw [readState_readData, if_neg hge]
  · rw [if_neg hge]
    rfl
  · dsimp only
    rw [complete_mine hm, src_completeSrc, if_pos rfl, Src.completed, hst]
    exact ⟨rfl, rfl⟩
  · dsimp only
    rw [complete_mine hm, src_completeSrc, if_pos rfl, Src.completed, hst]
    exact ⟨rfl, rfl⟩
  · have he : k / 8 = e := by omega
    have hb := complete_bad hm hn s.root
    rwa [he] at hb
  · dsimp only
    rw [hn, complete_none]

end Sys2Proof.Machine

/-! Edges (R84, R85). -/

namespace Sys2Proof.Machine

theorem life_edge (r : Root) (n : Nat) (d : Dev) : (edge r n d).life = (srcEdge r n d).life := life_teleOccur ..

/-- What an edge of source `n` on device `d` does to the sources (R85). -/
structure Edged (n : Nat) (d e : Dev) : Prop where
  others : ∀ m, m ≠ n → (e.src m).st = (d.src m).st
  idle : (d.src n).st = .idle → (e.src n).st = .pending ∧ (e.src n).tgt = 63
  active : (d.src n).st = .active → (e.src n).st = .activePending
  merged : (d.src n).st ≠ .idle → (d.src n).st ≠ .active → (e.src n).st = (d.src n).st ∧ e.evc.merged = satInc d.evc.merged 0xFFFF

theorem edge_st (r : Root) (n : Nat) (d : Dev) :
    ((edge r n d).src n).st = (d.src n).st.risen := by
  rw [(life_src (life_edge r n d) n).1, src_srcEdge, if_pos rfl, st_risen]

theorem edge_edged (r : Root) (n : Nat) (d : Dev) : Edged n d (edge r n d) where
  others m hm := by rw [(life_src (life_edge r n d) m).1, src_srcEdge, if_neg hm]
  idle h := by
    obtain ⟨-, htgt⟩ := life_src (life_edge r n d) n
    rw [edge_st, htgt, src_srcEdge, if_pos rfl, Src.risen, h]
    exact ⟨rfl, rfl⟩
  active h := by
    rw [edge_st, h]
    rfl
  merged hi ha := by
    refine ⟨?_, (life_merged (life_edge r n d)).trans (merged_srcEdge hi ha r)⟩
    rw [edge_st]
    cases h : (d.src n).st with
    | idle => exact absurd h hi
    | active => exact absurd h ha
    | pending | dispatched | activePending => rfl

/-- A line's pulses and its sampled level are no part of the edge. -/
theorem Edged.of_sampled {n : Nat} {d d' e : Dev} (h : Edged n d' e) (hst : ∀ m, (d'.src m).st = (d.src m).st) (hm : d'.evc.merged = d.evc.merged) :
    Edged n d e where
  others m hmn := (h.others m hmn).trans (hst m)
  idle hi := h.idle ((hst n).trans hi)
  active ha := h.active ((hst n).trans ha)
  merged hi ha := by
    obtain ⟨h1, h2⟩ := h.merged (by rwa [hst]) (by rwa [hst])
    exact ⟨h1.trans (hst n), by rw [h2, hm]⟩

/-- A source rewritten in its own state keeps every state. -/
theorem st_setSrc {d : Dev} {n : Nat} {x : Src} (h : x.st = (d.src n).st) (m : Nat) : ((d.setSrc n x).src m).st = (d.src m).st := by
  rw [src_setSrc]
  split
  next hm => rw [hm, h]
  next => rfl

theorem lineSampled_src (n : Nat) (l : Bool) (d : Dev) (m : Nat) : (lineSampled n l d).src m = (d.setSrc n { d.src n with sampled := l }).src m := rfl

theorem st_lineSampled (n : Nat) (l : Bool) (d : Dev) (m : Nat) : ((lineSampled n l d).src m).st = (d.src m).st := by
  rw [lineSampled_src]
  exact st_setSrc (by rfl) m

theorem wasLow_lineSampled (n : Nat) (l : Bool) (d : Dev) : wasLow (lineSampled n l d) n = !l := by
  have hline : ((lineSampled n l d).line (lineKey n)).low = false := by simp [lineSampled, Dev.line]
  simp [wasLow, hline, lineSampled_src]

/-- The edge that EVENT_EDGE takes from a line. -/
theorem eventEdge_edged {r : Root} {n : Nat} {d : Dev}
    (h : isLevel n = false ∧ 0 < (d.src n).pulses ∨ isLevel n = true ∧ lineOf r d n = true ∧ wasLow d n = true) : Edged n d (eventEdge r n d) := by
  rcases h with ⟨hl, hp⟩ | ⟨hl, hone, hlow⟩
  · simp only [eventEdge, hl, hp, Bool.false_eq_true, if_false, if_true]
    exact (edge_edged ..).of_sampled (st_setSrc rfl) rfl
  · simp only [eventEdge, hl, hone, hlow, Bool.and_self, if_true]
    exact (edge_edged ..).of_sampled (st_lineSampled n _ d) rfl

theorem eventEdge_noPulse {n : Nat} {d : Dev} (hl : isLevel n = false) (hp : (d.src n).pulses = 0) (r : Root) : eventEdge r n d = d := by
  simp [eventEdge, hl, hp]

theorem eventEdge_noRise {r : Root} {n : Nat} {d : Dev} (hl : isLevel n = true) (h : lineOf r d n = false ∨ wasLow d n = false) :
    eventEdge r n d = lineSampled n (lineOf r d n) d := by
  rcases h with h | h <;> simp [eventEdge, hl, h]

end Sys2Proof.Machine

/-! Dispatch, decision and delivery (R87 to R94). -/

namespace Sys2Proof.Machine

/-! ### The words that a target's decisions use (R53) -/

/-- A device that differs in its fault pages and lines alone. -/
theorem holdUse_eq (r : Root) (t : Nat) (d : Dev) : ∃ p l, holdUse r t d = { d with page := p, lines := l } := by
  unfold holdUse
  rw [pageUse_eq, pageUse_eq r .gal]
  exact ⟨_, _, rfl⟩

theorem tgtUse_eq (r : Root) (t : Nat) (d : Dev) : ∃ p l, tgtUse r t d = { d with page := p, lines := l } := by
  unfold tgtUse
  rw [pageUse_eq]
  obtain ⟨p, l, h⟩ := holdUse_eq r t { d with
    page := (pageUse r (.evt (t / 8)) [0x080 + 4 * (t % 8)] d).page, lines := (pageUse r (.evt (t / 8)) [0x080 + 4 * (t % 8)] d).lines }
  exact ⟨p, l, h⟩

/-! ### The sources under a decision (R91) -/

/-- The sources of `l` are covered by decision `c`. -/
def coverAll (c : Nat) (l : List Nat) (d : Dev) : Dev := l.foldl (fun d n => d.setSrc n { d.src n with cov := c }) d

theorem src_coverAll (c : Nat) (l : List Nat) (d : Dev) (m : Nat) :
    (coverAll c l d).src m = if m ∈ l then { d.src m with cov := c } else d.src m := by
  induction l generalizing d with
  | nil => rfl
  | cons n l ih =>
    refine (ih _).trans ?_
    simp only [src_setSrc]
    by_cases hn : m = n <;> by_cases hl : m ∈ l <;> simp [hn, hl]

/-- The sources of `l` under the decisions `ns` note the commit of their delivery. -/
def noteCommit (r : Root) (ns l : List Nat) (d : Dev) : Dev :=
  l.foldl (fun d n => let s := d.src n; if ns.contains s.cov then d.setSrc n { s with com := some (r.ec, d.tb.era) } else d) d

theorem noteCommit_eq (r : Root) (ns l : List Nat) (d : Dev) :
    noteCommit r ns l d = { d with evc := { d.evc with src := (noteCommit r ns l d).evc.src } } := by
  unfold noteCommit
  refine foldl_inv (fun x => x = { d with evc := { d.evc with src := x.evc.src } }) _ _ d rfl ?_
  intro x n h
  dsimp only
  split
  · rw [h]
    rfl
  · exact h

theorem src_noteCommit (r : Root) (ns l : List Nat) (d : Dev) (m : Nat) :
    (noteCommit r ns l d).src m = if m ∈ l ∧ (d.src m).cov ∈ ns then { d.src m with com := some (r.ec, d.tb.era) } else d.src m := by
  induction l generalizing d with
  | nil => simp [noteCommit]
  | cons n l ih =>
    refine (ih _).trans ?_
    by_cases hc : (d.src n).cov ∈ ns
    · by_cases hn : m = n <;> by_cases hl : m ∈ l <;> simp [hc, hn, hl, src_setSrc]
    · by_cases hn : m = n <;> by_cases hl : m ∈ l <;> simp [hc, hn, hl]

end Sys2Proof.Machine

/-! Commits, decisions and dispatch (R87 to R94). -/

namespace Sys2Proof.Machine

/-! ### Lists of sources -/

theorem mem_sput_self {α : Type} (m : SMap α) (k : Nat) (v : α) : (k, v) ∈ sput k v m := by
  induction m with
  | nil => simp [sput]
  | cons q l ih =>
    simp only [sput]
    split_ifs
    · simp
    · simp
    · exact List.mem_cons_of_mem _ ih

/-- What is listed stays listed, but for the entry that key `k` reads. -/
theorem mem_sput {α : Type} (f : Nat → α) {m : SMap α} {p : Nat × α} (h : p ∈ m) (k : Nat) (v : α) : p ∈ sput k v m ∨ p = (k, sget f m k) := by
  induction m with
  | nil => cases h
  | cons q l ih =>
    rcases Nat.lt_trichotomy k q.1 with hlt | heq | hgt
    · simp only [sput, hlt, if_true]
      exact .inl (List.mem_cons_of_mem _ h)
    · simp only [sput, sget, heq, Nat.lt_irrefl, if_true, if_false]
      rcases List.mem_cons.mp h with rfl | hl
      · exact .inr rfl
      · exact .inl (List.mem_cons_of_mem _ hl)
    · simp only [sput, sget, Nat.lt_asymm hgt, Nat.ne_of_gt hgt, if_false]
      rcases List.mem_cons.mp h with rfl | hl
      · exact .inl List.mem_cons_self
      · exact (ih hl).imp (List.mem_cons_of_mem _) id

theorem mem_listed {d : Dev} {p : Src → Bool} {n : Nat} : n ∈ listed d p ↔ ∃ x, (n, x) ∈ d.evc.src ∧ p x = true := by simp [listed]

/-- A source set to a value with what is asked of its present one leaves every listed source listed. -/
theorem mem_listed_setSrc {d : Dev} {p : Src → Bool} {n m : Nat} {x : Src} (h : n ∈ listed d p) (hx : x ≠ {})
    (hp : p (d.src m) = true → p x = true) : n ∈ listed (d.setSrc m x) p := by
  obtain ⟨y, hy, hpy⟩ := mem_listed.mp h
  have hset : (d.setSrc m x).evc.src = sput m x d.evc.src := if_neg hx
  rw [mem_listed, hset]
  rcases mem_sput (fun _ => {}) hy m x with hmem | heq
  · exact ⟨y, hmem, hpy⟩
  · obtain ⟨rfl, rfl⟩ := Prod.mk.inj heq
    exact ⟨x, mem_sput_self .., hp hpy⟩

theorem mem_atTarget_of_mem_collection {d : Dev} {t n : Nat} (h : n ∈ collection d t) : n ∈ atTarget d t := by
  obtain ⟨x, hx, hp⟩ := mem_listed.mp h
  rw [Bool.and_eq_true] at hp
  exact mem_listed.mpr ⟨x, hx, hp.1⟩

theorem mem_atTarget_coverAll {d : Dev} {t n c : Nat} (h : n ∈ atTarget d t) (hc : c ≠ 0) (l : List Nat) : n ∈ atTarget (coverAll c l d) t := by
  refine foldl_inv (fun x => n ∈ atTarget x t) _ l d h fun x m hx => mem_listed_setSrc hx (fun he => ?_) fun hp => hp
  exact hc (congrArg Src.cov he)

/-! ### The commit of a delivery (R92) -/

/-- A target whose decisions `ns` are delivered. -/
def Tgt.delivered (x : Tgt) (ns : List Nat) : Tgt := { x with waiting := x.waiting.filter fun p => !ns.contains p.1, committed := true, claimed := false }

theorem commitTo_evc (r : Root) (t : Nat) (ns : List Nat) (d : Dev) :
    (commitTo r t ns d).evc = (noteCommit r ns (atTarget d t) (d.setTgt t ((d.tgt t).delivered ns))).evc := by
  unfold commitTo
  dsimp only
  split <;> rfl

theorem src_commitTo (r : Root) (t : Nat) (ns : List Nat) (d : Dev) (m : Nat) :
    (commitTo r t ns d).src m = if m ∈ atTarget d t ∧ (d.src m).cov ∈ ns then { d.src m with com := some (r.ec, d.tb.era) } else d.src m :=
  (src_of_evc (commitTo_evc ..) m).trans (src_noteCommit ..)

theorem tgt_commitTo (r : Root) (t : Nat) (ns : List Nat) (d : Dev) : (commitTo r t ns d).tgt t = (d.tgt t).delivered ns := by
  rw [tgt_of_evc (commitTo_evc ..), noteCommit_eq]
  exact tgt_setTgt_self ..

theorem commitTo_msixSent {t : Nat} (ht : t < 32) (r : Root) (ns : List Nat) (d : Dev) :
    nget (commitTo r t ns d).hif.msixSent t = nget d.hif.msixSent t + 1 := by
  have hnote : (noteCommit r ns (atTarget d t) (d.setTgt t ((d.tgt t).delivered ns))).hif = d.hif := by
    rw [noteCommit_eq]
    rfl
  have he : (commitTo r t ns d).hif = { d.hif with msixSent := nput d.hif.msixSent t (nget d.hif.msixSent t + 1) } := by
    rw [← hnote]
    unfold commitTo
    dsimp only
    rw [if_pos ht]
    rfl
  rw [he]
  exact nget_nput_self d.hif.msixSent t (nget d.hif.msixSent t + 1)

theorem commitTo_eq (r : Root) (t : Nat) (ns : List Nat) (d : Dev) :
    commitTo r t ns d = { d with evc := (commitTo r t ns d).evc, hif := (commitTo r t ns d).hif } :=
  Part.ext fun p => by
    cases p
    case evc | hif => rfl
    all_goals exact Part.same_iff.mpr (of_commitTo (.of (by decide)) ..)

/-! ### A delivery decision (R91) -/

/-- The decision that covers target `t`'s collection. -/
def decisionMade (t : Nat) (d : Dev) : Dev :=
  (coverAll ((d.tgt t).made + 1) (collection d t) d).setTgt t
    { d.tgt t with made := (d.tgt t).made + 1, waiting := (d.tgt t).waiting ++ [((d.tgt t).made + 1, holds d t)] }

/-- What follows it: it is held, goes to no pad, or waits for its commit. -/
def decided (r : Root) (t : Nat) (d : Dev) : Dev :=
  if holds d t then heldWakes r t (collection d t) (decisionMade t d)
  else if 32 ≤ t ∧ irqMap d t = 0 then commitTo r t [(d.tgt t).made + 1] (decisionMade t d)
  else decisionMade t d

/-- EC of the first dispatch of target `t`'s collection. -/
def openedAt (r : Root) (t : Nat) (d : Dev) : Nat := ((collection d t).map fun n => (d.src n).dispEC).foldl min r.ec

/-- Target `t`'s collection stays as it is: it is empty, or it is not full and its window has not closed. -/
def stays (r : Root) (t : Nat) (d : Dev) : Prop :=
  let cfg := d.reg (.evt (t / 8)) (0x080 + 4 * (t % 8))
  collection d t = [] ∨ ((collection d t).length < max 1 (fld cfg 7 0) ∧ r.ec < openedAt r t d + fld cfg 31 16 * 256000)

/-- The decision of a target acts but for the faults that its use of words finds. -/
theorem decide_eq (r : Root) (t : Nat) (d : Dev) : ∃ p l, let d' := { d with page := p, lines := l }
    (stays r t d → decide' r t d = d') ∧ (¬stays r t d → decide' r t d = decided r t d') := by
  obtain ⟨p, l, h⟩ := tgtUse_eq r t d
  refine ⟨p, l, fun hs => ?_, fun hs => ?_⟩
  · unfold decide'
    rw [h]
    exact if_pos hs
  · unfold decide'
    rw [h]
    exact if_neg hs

section
variable (r : Root) (t : Nat) (d : Dev)

theorem src_decisionMade (m : Nat) :
    (decisionMade t d).src m = if m ∈ collection d t then { d.src m with cov := (d.tgt t).made + 1 } else d.src m := src_coverAll ..

@[simp] theorem tgt_decisionMade :
    (decisionMade t d).tgt t = { d.tgt t with made := (d.tgt t).made + 1, waiting := (d.tgt t).waiting ++ [((d.tgt t).made + 1, holds d t)] } :=
  tgt_setTgt_self ..

theorem mem_atTarget_decisionMade {n : Nat} (h : n ∈ collection d t) : n ∈ atTarget (decisionMade t d) t :=
  mem_atTarget_coverAll (mem_atTarget_of_mem_collection h) (Nat.succ_ne_zero _) _

theorem decided_evc : (decided r t d).evc = (decisionMade t d).evc ∨
    holds d t = false ∧ 32 ≤ t ∧ irqMap d t = 0 ∧ decided r t d = commitTo r t [(d.tgt t).made + 1] (decisionMade t d) := by
  unfold decided
  split_ifs with hh hp
  · exact .inl (evc_heldWakes ..)
  · exact .inr ⟨by simpa using hh, hp.1, hp.2, rfl⟩
  · exact .inl rfl

/-- A decision changes nothing of a source but what covers it. -/
theorem src_decided (m : Nat) : ∃ com, (decided r t d).src m = { (decisionMade t d).src m with com := com } := by
  rcases decided_evc r t d with h | ⟨-, -, -, h⟩
  · exact ⟨_, src_of_evc h m⟩
  · rw [h, src_commitTo]
    split
    · exact ⟨_, rfl⟩
    · exact ⟨_, rfl⟩

theorem src_decide (m : Nat) : ∃ c com, (decide' r t d).src m = { d.src m with cov := c, com := com } := by
  obtain ⟨p, l, hs, hd⟩ := decide_eq r t d
  by_cases h : stays r t d
  · rw [hs h]
    exact ⟨_, _, rfl⟩
  · obtain ⟨com, hcom⟩ := src_decided r t { d with page := p, lines := l } m
    rw [hd h, hcom, src_decisionMade]
    split
    · exact ⟨_, _, rfl⟩
    · exact ⟨_, _, rfl⟩

theorem decided_made : ((decided r t d).tgt t).made = (d.tgt t).made + 1 := by
  rcases decided_evc r t d with h | ⟨-, -, -, h⟩
  · rw [tgt_of_evc h, tgt_decisionMade]
  · rw [h, tgt_commitTo, tgt_decisionMade]
    rfl

theorem decided_cov {n : Nat} (h : n ∈ collection d t) : ((decided r t d).src n).cov = (d.tgt t).made + 1 := by
  obtain ⟨com, hcom⟩ := src_decided r t d n
  rw [hcom, src_decisionMade, if_pos h]

/-- But for a target without a pad, the decision joins those that wait. -/
theorem decided_waiting (h : holds d t = true ∨ t < 32 ∨ irqMap d t ≠ 0) :
    ((decided r t d).tgt t).waiting = (d.tgt t).waiting ++ [((d.tgt t).made + 1, holds d t)] := by
  rcases decided_evc r t d with he | ⟨hh, ht, hi, -⟩
  · rw [tgt_of_evc he, tgt_decisionMade]
  · rcases h with h | h | h
    · simp [hh] at h
    · omega
    · exact absurd hi h

/-- Without a pad it is its own commit. -/
theorem decided_committed (hh : holds d t = false) (ht : 32 ≤ t) (hi : irqMap d t = 0) :
    ((decided r t d).tgt t).committed = true ∧ ∀ n ∈ collection d t, covered ((decided r t d).src n) = true := by
  have he : decided r t d = commitTo r t [(d.tgt t).made + 1] (decisionMade t d) := by
    unfold decided
    rw [if_neg (by simp [hh]), if_pos ⟨ht, hi⟩]
  rw [he]
  refine ⟨by rw [tgt_commitTo]; rfl, fun n hn => ?_⟩
  have hcov : ((decisionMade t d).src n).cov = (d.tgt t).made + 1 := by rw [src_decisionMade, if_pos hn]
  rw [src_commitTo, if_pos ⟨mem_atTarget_decisionMade t d hn, by simp [hcov]⟩]
  rfl

end

/-! ### Dispatch (R87, R88) -/

/-- The source that dispatch takes. -/
def nextSource (d : Dev) : Option Nat := let w := listed d (waits d); (w.find? fun n => (d.src n).first).or w.head?

/-- A source DISPATCHED to target `t` at EC `ec`. -/
def Src.sentTo (x : Src) (t ec : Nat) : Src := { x with st := .dispatched, tgt := t, last := t, cov := 0, com := none, first := false, dispEC := ec }

theorem dispatch_idle {d : Dev} (h : listed d (waits d) = []) (r : Root) : dispatch r d = d := by simp [dispatch, h]

theorem dispatch_next {d : Dev} {n t : Nat} (hn : nextSource d = some n) (ht : nextTarget d (d.src n) = some t) (r : Root) :
    ∃ e : Dev, (∀ m, ∃ c com, e.src m = { d.src m with cov := c, com := com }) ∧
      dispatch r d = decide' r t (e.setSrc n ((e.src n).sentTo t r.ec)) := by
  refine ⟨decide' r t d, src_decide r t d, ?_⟩
  unfold nextSource at hn
  simp only [dispatch, hn, ht]
  rfl

theorem src_dispatch {d : Dev} {n t : Nat} (hn : nextSource d = some n) (ht : nextTarget d (d.src n) = some t) (r : Root) :
    (((dispatch r d).src n).st = .dispatched ∧ ((dispatch r d).src n).tgt = t ∧ ((dispatch r d).src n).last = t) ∧
    ∀ k, k ≠ n → ((dispatch r d).src k).st = (d.src k).st ∧ ((dispatch r d).src k).tgt = (d.src k).tgt := by
  obtain ⟨e, hsrc, he⟩ := dispatch_next hn ht r
  rw [he]
  refine ⟨?_, fun k hk => ?_⟩
  · obtain ⟨c, com, h⟩ := src_decide r t (e.setSrc n ((e.src n).sentTo t r.ec)) n
    rw [h, src_setSrc_self]
    exact ⟨rfl, rfl, rfl⟩
  · obtain ⟨c, com, h⟩ := src_decide r t (e.setSrc n ((e.src n).sentTo t r.ec)) k
    obtain ⟨c', com', hk'⟩ := hsrc k
    rw [h, src_setSrc, if_neg hk, hk']
    exact ⟨rfl, rfl⟩

/-- The mask words and every TGT_ENA, which dispatch uses (R53). -/
def dispatchUse (r : Root) (d : Dev) : Dev :=
  (List.range 6).foldl (fun d g => pageUse r (.evt g) [0x040] d) (pageUse r .evc ((List.range 16).map fun k => 0x140 + 4 * k) d)

theorem dispatchUse_eq (r : Root) (d : Dev) : ∃ p l, dispatchUse r d = { d with page := p, lines := l } := by
  refine foldl_inv (fun x => ∃ p l, x = { d with page := p, lines := l }) _ _ _ ⟨_, _, pageUse_eq ..⟩ ?_
  rintro _ g ⟨p, l, rfl⟩
  exact ⟨_, _, pageUse_eq ..⟩

/-! ### Delivery (R92 to R94) -/

@[simp] theorem assertWake_msixSent (g : Nat) (d : Dev) : (assertWake g d).hif.msixSent = d.hif.msixSent := by
  rw [assertWake, wakeSettle_hif]
  simp only [Dev.hifMap]
  split <;> rfl

@[simp] theorem watchFire_msixSent (i : Nat) (d : Dev) : (watchFire i d).hif.msixSent = d.hif.msixSent := by
  have hgals : (wakeGals true (watchOf d i) d).hif.msixSent = d.hif.msixSent := by
    refine foldl_inv (fun x : Dev => x.hif.msixSent = d.hif.msixSent) _ _ d rfl fun x g h => ?_
    split
    · rwa [assertWake_msixSent]
    · exact h
  unfold watchFire
  dsimp only
  split <;> exact hgals

@[simp] theorem foyerSource_msixSent (r : Root) (n : Nat) (d : Dev) : (foyerSource r n d).hif.msixSent = d.hif.msixSent := by
  refine foldl_inv (fun x : Dev => x.hif.msixSent = d.hif.msixSent) _ _ _ (by simp) fun x i h => ?_
  dsimp only
  split
  · rwa [watchFire_msixSent]
  · exact h

theorem heldWakes_msixSent (r : Root) (t : Nat) (ns : List Nat) (d : Dev) : (heldWakes r t ns d).hif.msixSent = d.hif.msixSent := by
  have pme : ∀ f d, (heldPme f d).hif.msixSent = d.hif.msixSent := by
    intro f d
    unfold heldPme
    dsimp only
    split_ifs
    · exact assertWake_msixSent ..
    · rfl
    · rfl
  rw [heldWakes, pme]
  split
  · exact foldl_inv (fun x : Dev => x.hif.msixSent = d.hif.msixSent) _ ns d rfl fun x n h => by rwa [foyerSource_msixSent]
  · rfl

/-- A held decision whose condition has ended goes, with every other held one, as one delivery (R94). -/
theorem deliver_ended {t : Nat} {d : Dev} (hx : (d.tgt t).held = true) (hh : holds d t = false) (r : Root) :
    ∃ p l, deliver r t d = commitTo r t (((d.tgt t).waiting.filter (·.2)).map (·.1)) { d with page := p, lines := l } := by
  obtain ⟨p, l, h⟩ := holdUse_eq r t d
  refine ⟨p, l, ?_⟩
  unfold deliver
  rw [h]
  exact if_pos (by simpa using ⟨hx, hh⟩)

/-- The oldest decision in its delivery window is committed, or held where its function cannot receive it (R61, R93). -/
def deliverOldest (r : Root) (t : Nat) (d : Dev) : Dev :=
  let x := d.tgt t
  match x.waiting.find? (!·.2) with
  | none => d
  | some p =>
    if msixBlocked d t then
      heldWakes r t (listed d fun s => s.st == .dispatched && s.tgt == t && s.cov == p.1)
        (d.setTgt t { x with waiting := x.waiting.map fun q => if q.1 = p.1 then (q.1, true) else q })
    else commitTo r t [p.1] d

theorem deliverOldest_none {t : Nat} {d : Dev} (hw : (d.tgt t).waiting.find? (!·.2) = none) (r : Root) : deliverOldest r t d = d := by
  simp only [deliverOldest, hw]

theorem deliverOldest_free {t n : Nat} {d : Dev} (hw : (d.tgt t).waiting.find? (!·.2) = some (n, false)) (r : Root)
    (hb : msixBlocked d t = false) : deliverOldest r t d = commitTo r t [n] d := by
  simp only [deliverOldest, hw, hb, Bool.false_eq_true, if_false]

theorem deliverOldest_blocked {t n : Nat} {d : Dev} (hw : (d.tgt t).waiting.find? (!·.2) = some (n, false)) (r : Root)
    (hb : msixBlocked d t = true) :
    ((deliverOldest r t d).tgt t).waiting = (d.tgt t).waiting.map (fun q => if q.1 = n then (n, true) else q) ∧
    (deliverOldest r t d).hif.msixSent = d.hif.msixSent := by
  simp only [deliverOldest, hw, hb, if_true, heldWakes_msixSent, tgt_of_evc (evc_heldWakes ..), tgt_setTgt_self]
  refine ⟨List.map_congr_left fun q _ => ?_, rfl⟩
  split
  next he => rw [he]
  next => rfl

section
variable {t : Nat} {d : Dev} (hx : (d.tgt t).held = false ∨ holds d t = true) (r : Root)
include hx

/-- With no held decision to deliver, the oldest in its delivery window is next (R93). -/
theorem deliver_eq : ∃ p l, deliver r t d = deliverOldest r t { d with page := p, lines := l } := by
  have hnone : ¬((d.tgt t).held && !holds d t) = true := by rcases hx with hx | hx <;> simp [hx]
  obtain ⟨p, l, h⟩ := holdUse_eq r t d
  refine ⟨p, l, ?_⟩
  unfold deliver
  rw [h]
  exact if_neg hnone

theorem deliver_nothing (hw : (d.tgt t).waiting.find? (!·.2) = none) : ∃ p l, deliver r t d = { d with page := p, lines := l } := by
  obtain ⟨p, l, h⟩ := deliver_eq hx r
  exact ⟨p, l, h.trans (deliverOldest_none (d := { d with page := p, lines := l }) hw r)⟩

variable {n : Nat} (hw : (d.tgt t).waiting.find? (!·.2) = some (n, false))
include hw

theorem deliver_next (hb : msixBlocked d t = false) : ∃ p l, deliver r t d = commitTo r t [n] { d with page := p, lines := l } := by
  obtain ⟨p, l, h⟩ := deliver_eq hx r
  exact ⟨p, l, h.trans (deliverOldest_free (d := { d with page := p, lines := l }) hw r hb)⟩

theorem deliver_blocked (hb : msixBlocked d t = true) :
    ((deliver r t d).tgt t).waiting = (d.tgt t).waiting.map (fun q => if q.1 = n then (n, true) else q) ∧
    (deliver r t d).hif.msixSent = d.hif.msixSent := by
  obtain ⟨p, l, h⟩ := deliver_eq hx r
  rw [h]
  exact deliverOldest_blocked (d := { d with page := p, lines := l }) hw r hb

end

end Sys2Proof.Machine

/-! ### The obligation -/

namespace Sys2Proof.Machine

section
variable {s : State} (hc : s.root.coreOn = true)
include hc

theorem exec_eventEdge (n : Fin 512) : exec (.eventEdge n) s = .next { s with dev := eventEdge s.root n s.dev } := by
  simp only [exec, execEventEdge, onDev_on hc]

theorem exec_sourceDispatch : ∃ p l, exec .sourceDispatch s = .next { s with dev := dispatch s.root { s.dev with page := p, lines := l } } := by
  obtain ⟨p, l, h⟩ := dispatchUse_eq s.root s.dev
  have he : exec .sourceDispatch s = .next { s with dev := dispatch s.root (dispatchUse s.root s.dev) } := by
    simp only [exec, execSourceDispatch, onDev_on hc, dispatchUse]
  exact ⟨p, l, he.trans (by rw [h])⟩

/-- The edge that EVENT_EDGE takes. -/
theorem eventEdge_completes {n : Fin 512} (h : Edged n s.dev (eventEdge s.root n s.dev)) :
    Completes (.eventEdge n) s fun t =>
      DevOnly s t ∧ (∀ m, m ≠ n.val → (t.dev.src m).st = (s.dev.src m).st) ∧
      ((s.dev.src n).st = .idle → (t.dev.src n).st = .pending ∧ (t.dev.src n).tgt = 63) ∧
      ((s.dev.src n).st = .active → (t.dev.src n).st = .activePending) ∧
      ((s.dev.src n).st ≠ .idle → (s.dev.src n).st ≠ .active →
        (t.dev.src n).st = (s.dev.src n).st ∧ t.dev.evc.merged = satInc s.dev.evc.merged 0xFFFF) :=
  ⟨_, exec_eventEdge hc n, ⟨rfl, rfl, rfl⟩, h.others, h.idle, h.active, h.merged⟩

theorem exec_coalTimeExpiry (k : Fin 48) : exec (.coalTimeExpiry k) s = .next { s with dev := decide' s.root k s.dev } := by
  simp only [exec, execCoalTimeExpiry, onDev_on hc]

theorem exec_deliveryCommit (k : Fin 48) : exec (.deliveryCommit k) s = .next { s with dev := deliver s.root k s.dev } := by
  simp only [exec, execDeliveryCommit, onDev_on hc]

theorem deliveryCommit_commits {k : Fin 48} {ns : List Nat} (h : ∃ p l, deliver s.root k s.dev = commitTo s.root k ns { s.dev with page := p, lines := l }) :
    Completes (.deliveryCommit k) s fun t =>
      DevOnly s t ∧ (t.dev.tgt k).waiting = (s.dev.tgt k).waiting.filter (fun p => !ns.contains p.1) ∧ (t.dev.tgt k).committed = true ∧
      (t.dev.tgt k).claimed = false ∧ (k.val < 32 → nget t.dev.hif.msixSent k = nget s.dev.hif.msixSent k + 1) ∧
      (∀ n ∈ atTarget s.dev k, (s.dev.src n).cov ∈ ns → (t.dev.src n).com = some (s.root.ec, s.dev.tb.era)) ∧
      t.dev = { s.dev with evc := t.dev.evc, hif := t.dev.hif, page := t.dev.page, lines := t.dev.lines } := by
  obtain ⟨p, l, h⟩ := h
  have he := exec_deliveryCommit hc k
  rw [h] at he
  have htgt := tgt_commitTo s.root k ns { s.dev with page := p, lines := l }
  refine ⟨_, he, ⟨rfl, rfl, rfl⟩, congrArg Tgt.waiting htgt, congrArg Tgt.committed htgt, congrArg Tgt.claimed htgt,
    fun hk => commitTo_msixSent hk .., fun n hn hcov => ?_, ?_⟩
  · exact congrArg Src.com ((src_commitTo ..).trans (if_pos ⟨hn, hcov⟩))
  · dsimp only
    rw [commitTo_eq]

theorem deliveryCommit_nothing {k : Fin 48} (h : ∃ p l, deliver s.root k s.dev = { s.dev with page := p, lines := l }) :
    Completes (.deliveryCommit k) s fun t => DevOnly s t ∧ t.dev = { s.dev with page := t.dev.page, lines := t.dev.lines } := by
  obtain ⟨p, l, h⟩ := h
  have he := exec_deliveryCommit hc k
  rw [h] at he
  exact ⟨_, he, ⟨rfl, rfl, rfl⟩, rfl⟩

/-- A decision that is due: it covers the collection, and is held, waits or is its own commit. -/
theorem coalTimeExpiry_decides {k : Fin 48} (h : ¬stays s.root k s.dev) : Completes (.coalTimeExpiry k) s fun t =>
    DevOnly s t ∧ (t.dev.tgt k).made = (s.dev.tgt k).made + 1 ∧ (∀ n ∈ collection s.dev k, (t.dev.src n).cov = (s.dev.tgt k).made + 1) ∧
    (holds s.dev k = true ∨ k.val < 32 ∨ irqMap s.dev k ≠ 0 →
      (t.dev.tgt k).waiting = (s.dev.tgt k).waiting ++ [((s.dev.tgt k).made + 1, holds s.dev k)]) ∧
    (holds s.dev k = false → 32 ≤ k.val → irqMap s.dev k = 0 →
      (t.dev.tgt k).committed = true ∧ ∀ n ∈ collection s.dev k, covered (t.dev.src n) = true) := by
  obtain ⟨p, l, -, hd⟩ := decide_eq s.root k s.dev
  have he := exec_coalTimeExpiry hc k
  rw [hd h] at he
  exact ⟨_, he, ⟨rfl, rfl, rfl⟩, decided_made s.root k { s.dev with page := p, lines := l },
    fun n hn => decided_cov s.root k { s.dev with page := p, lines := l } hn, decided_waiting s.root k { s.dev with page := p, lines := l },
    decided_committed s.root k { s.dev with page := p, lines := l }⟩

theorem coalTimeExpiry_stays {k : Fin 48} (h : stays s.root k s.dev) : Completes (.coalTimeExpiry k) s fun t =>
    DevOnly s t ∧ t.dev = { s.dev with page := t.dev.page, lines := t.dev.lines } := by
  obtain ⟨p, l, hs, -⟩ := decide_eq s.root k s.dev
  have he := exec_coalTimeExpiry hc k
  rw [hs h] at he
  exact ⟨_, he, ⟨rfl, rfl, rfl⟩, rfl⟩

end

/-- Settles O25: an edge by `Edged`, a dispatch by its source and target, a decision by `decided`, and a delivery by `commitTo`. -/
theorem dispatchAndDelivery : Obligations.DispatchAndDelivery := by
  refine ⟨fun s n hc => ?_, fun s hc => ⟨fun n m hn hm => ?_, fun hw => ?_, fun k => ⟨fun hcol hdue => ?_, fun hs => ?_⟩,
    fun k => ⟨fun n hx hw => ⟨fun hb => ?_, fun hb => ?_⟩, fun hx hh => ?_, fun hx hh hw => ?_, fun hw => ?_⟩⟩⟩
  · refine ⟨fun hl hp => eventEdge_completes hc (eventEdge_edged (.inl ⟨hl, hp⟩)), fun hl hp => ?_,
      fun hl hone hlow => eventEdge_completes hc (eventEdge_edged (.inr ⟨hl, hone, hlow⟩)), fun hl h => ?_⟩
    · exact (exec_eventEdge hc n).trans (by rw [eventEdge_noPulse hl hp])
    · have he := exec_eventEdge hc n
      rw [eventEdge_noRise hl h] at he
      refine ⟨_, he, ⟨rfl, rfl, rfl⟩, rfl, ?_, wasLow_lineSampled .., fun m => ?_⟩
      · exact congrArg Src.sampled (src_setSrc_self ..)
      · exact st_lineSampled ..
  · obtain ⟨p, l, he⟩ := exec_sourceDispatch hc
    obtain ⟨⟨hst, htgt, hlast⟩, hothers⟩ := src_dispatch (d := { s.dev with page := p, lines := l }) hn hm s.root
    exact ⟨_, he, ⟨rfl, rfl, rfl⟩, hst, htgt, hlast, hothers⟩
  · obtain ⟨p, l, he⟩ := exec_sourceDispatch hc
    rw [dispatch_idle (d := { s.dev with page := p, lines := l }) hw] at he
    exact ⟨_, he, ⟨rfl, rfl, rfl⟩, rfl⟩
  · have hs : ¬stays s.root k s.dev := by
      rintro (h | ⟨h1, h2⟩)
      · exact hcol h
      · rcases hdue with h | h
        · exact absurd h1 (Nat.not_lt.mpr h)
        · exact absurd h2 (Nat.not_lt.mpr h)
    obtain ⟨t, he, hd, hmade, hcov, hwait, hpad⟩ := coalTimeExpiry_decides hc hs
    exact ⟨t, he, hd, hmade, hcov, fun hh => by rw [hwait (.inl hh), hh], fun hh hk => by rw [hwait (.inr hk), hh], hpad⟩
  · exact coalTimeExpiry_stays hc hs
  · exact deliveryCommit_commits hc (deliver_next hx s.root hw hb)
  · obtain ⟨hwait, hsent⟩ := deliver_blocked hx s.root hw hb
    exact ⟨_, exec_deliveryCommit hc k, ⟨rfl, rfl, rfl⟩, hwait, congrArg (nget · k) hsent⟩
  · exact deliveryCommit_commits hc (deliver_ended hx hh s.root)
  · exact deliveryCommit_nothing hc (deliver_nothing (.inr hh) s.root hw)
  · have hx : (s.dev.tgt k).held = false := by simp [Tgt.held, hw]
    exact deliveryCommit_nothing hc (deliver_nothing (.inl hx) s.root (by rw [hw]; rfl))

end Sys2Proof.Machine

/-! PROOFS of the family 05_timebase_and_stamps: first what every step keeps (R108, R373, R377). -/

namespace Sys2Proof.Machine

/-! ### A core that is off keeps the Landing's bytes (R373) -/

theorem running_of_off {r : Root} (h : r.coreOn = false) : r.running = false := by
  unfold Root.coreOn at h
  unfold Root.running
  split <;> simp_all

theorem onMem_keepsMem_off (f : Root → List Host.Cell → Dev → Dev × List MemWr) {s : State} (h : s.root.coreOn = false) : KeepsMem s (onMem f s) := by
  rw [onMem_off h]
  exact keepsMem_next rfl

theorem onRunMem_keepsMem_off (f : Root → List Host.Cell → Dev → Dev × List MemWr) {s : State} (h : s.root.coreOn = false) :
    KeepsMem s (onRunMem f s) := by
  rw [onRunMem_off (running_of_off h)]
  exact keepsMem_next rfl

theorem onWrite_keepsMem_off {s : State} (h : s.root.coreOn = false) (g a : Nat) (w : Word) (narrow : Bool) : KeepsMem s (onWrite g a w narrow s) :=
  onMem_keepsMem_off _ h

theorem onWrite64_keepsMem_off {s : State} (h : s.root.coreOn = false) (g a : Nat) (lo hi : Word) : KeepsMem s (onWrite64 g a lo hi s) :=
  onMem_keepsMem_off _ h

theorem onFrame_keepsMem_off {q : Nat} {f : Frame} {s : State} (h : s.root.coreOn = false) : KeepsMem s (onFrame q f s) := by
  unfold onFrame
  refine ite_keepsMem (keepsMem_next rfl) ?_
  split
  · exact onMem_keepsMem_off _ h
  · exact onMem_keepsMem_off _ h
  all_goals exact keepsMem_next rfl

/-- With the core off, no command that leaves what stands outside the core stores to the Landing. -/
theorem exec_keepsMem_off {i : Instr} {s : State} (hr : i.movesRoot = false) (h : s.root.coreOn = false) : KeepsMem s (exec i s) := by
  cases hst : i.storesLanding with
  | false => exact exec_keepsMem i s hst
  | true =>
    cases i with
    | apertureWrite | corridorRecordCommit | capture | treadZeroed | telemetryRecordWrite | alarmPendingFlush | announceRx | signalingManagementRx
    | frameReceive | outRecordConsume | galleryFrameStart | galleryFrameDone | galleryFrameStall | corridorCloseComplete | linkDown
    | linkSpeedChange | sfdPairing =>
      unfold exec
      exact onMem_keepsMem_off _ h
    | routeEvaluation | hbufPeriodPublish =>
      unfold exec
      exact onRunMem_keepsMem_off _ h
    | shWrite | lwCommit | tableEntryCommit | pwWrite | netEnable | netDisable | corRelWrite => exact onWrite_keepsMem_off h _ _ _ _
    | qspiWr => exact ite_keepsMem (keepsMem_next rfl) (onFrame_keepsMem_off h)
    | registerWrite g a w narrow =>
      obtain ⟨w, hi⟩ := w
      cases hi with
      | none => exact onWrite_keepsMem_off h _ _ _ _
      | some hi => exact onWrite64_keepsMem_off h _ _ _ _
    | powerUp | vinLoss | enLow | enRise | rstAssert | rstRelease | vioUnder | powerDownComplete | wakeComplete => cases hr
    | _ => cases hst

/-! ### The invariant (R108, R373, R377) -/

/-- The core has power: it runs, or its rail is yet to go off (R377). -/
def Power.holdsCore : Power → Bool
  | .run | .quiet | .entering _ => true
  | _ => false

theorem inv_iff (s : State) : s.Inv ↔
    memWf s.mem ∧ s.root.ec < ecMod ∧ s.root.ec % 512 = 0 ∧ (s.root.power.holdsCore = false → s.root.ec = 0 ∧ s.mem = []) := by
  unfold State.Inv
  cases s.root.power <;> simp [Power.holdsCore]

theorem coreOn_of_unpowered {s : State} (h : s.root.power.holdsCore = false) : s.root.coreOn = false := by
  revert h
  unfold Root.coreOn
  cases s.root.power <;> simp [Power.holdsCore]

/-- A passage of the power state that makes nothing of the EC and the Landing: they stay, or the EC restarts, with the core as powered as before, or
both are lost. -/
def EcMemKept (s t : State) : Prop :=
  t.mem = s.mem ∧ (t.root.ec = s.root.ec ∨ t.root.ec = 0) ∧ (t.root.power.holdsCore = false → s.root.power.holdsCore = false) ∨
  t.root.ec = 0 ∧ t.mem = []

theorem EcMemKept.inv {s t : State} (h : EcMemKept s t) (hs : s.Inv) : t.Inv := by
  rw [inv_iff] at hs ⊢
  obtain ⟨hwf, hlt, hmod, hoff⟩ := hs
  rcases h with ⟨hmem, hec | hec, hpow⟩ | ⟨hec, hmem⟩
  · rw [hmem, hec]
    exact ⟨hwf, hlt, hmod, fun h => hoff (hpow h)⟩
  · rw [hmem, hec]
    exact ⟨hwf, by decide, rfl, fun h => ⟨rfl, (hoff (hpow h)).2⟩⟩
  · rw [hmem, hec]
    exact ⟨rfl, by decide, rfl, fun _ => ⟨rfl, rfl⟩⟩

theorem ecMemKept_of_root {s t : State} (hm : t.mem = s.mem) (hr : t.root = s.root) : EcMemKept s t := .inl ⟨hm, .inl (by rw [hr]), by rw [hr]; exact id⟩

theorem ecMemKept_self (s : State) : EcMemKept s s := ecMemKept_of_root rfl rfl

theorem ecMemKept_lost {s t : State} (he : t.root.ec = 0) (hm : t.mem = []) : EcMemKept s t := .inr ⟨he, hm⟩

/-! ### The power commands -/

theorem startUp_lost (kw kh : Bool) (st : Straps) (s : State) : (startUp kw kh st s).root.ec = 0 ∧ (startUp kw kh st s).mem = [] := by
  unfold startUp
  split <;> exact ⟨rfl, rfl⟩

/-- A start, with or without a report of the wake. -/
theorem ecMemKept_startUp_report (kw kh : Bool) (st : Straps) (src cause ms : Nat) (s u : State) :
    EcMemKept u (if (startUp kw kh st s).root.power = .run then
      { startUp kw kh st s with dev := wakeReport (startUp kw kh st s).root src cause ms (startUp kw kh st s).dev } else startUp kw kh st s) := by
  obtain ⟨hec, hmem⟩ := startUp_lost kw kh st s
  split <;> exact ecMemKept_lost hec hmem

theorem ecMemKept_powerUp (st : Straps) (s : State) : EcMemKept s (powerUp st s) := by
  unfold powerUp
  split
  · obtain ⟨hec, hmem⟩ := startUp_lost false false st { s with root := { s.root with en := true } }
    exact ecMemKept_lost hec hmem
  · exact ecMemKept_self s

theorem ecMemKept_enLow (s : State) : EcMemKept s (enLow s) := by
  unfold enLow
  split
  · exact .inl ⟨rfl, .inl rfl, id⟩
  · exact ecMemKept_lost rfl rfl

theorem ecMemKept_enRise (st : Straps) (s : State) : EcMemKept s (enRise st s) := by
  unfold enRise
  split
  · exact ecMemKept_startUp_report ..
  · exact .inl ⟨rfl, .inl rfl, id⟩

/-- RST_N falls after its pad or a bank has moved. -/
theorem ecMemKept_rstFalls {s u : State} (h : EcMemKept u s) : EcMemKept u (rstFalls s) := by
  unfold rstFalls
  split
  · exact h
  · exact h
  · exact h
  · exact ecMemKept_lost rfl rfl

theorem ecMemKept_rstRelease (st : Straps) (s : State) : EcMemKept s (rstRelease st s) := by
  have moved : EcMemKept s { s with root := { s.root with rstLow := false } } := .inl ⟨rfl, .inl rfl, id⟩
  unfold rstRelease
  split
  · dsimp only
    split
    · exact moved
    · exact ecMemKept_lost rfl rfl
  · exact moved

theorem ecMemKept_vioUnder (b : Nat) (s : State) : EcMemKept s (vioUnder b s) := by
  unfold vioUnder
  split
  · exact ecMemKept_rstFalls (ecMemKept_of_root rfl rfl)
  · exact ecMemKept_of_root rfl rfl

theorem ecMemKept_sleepCommit (s : State) : EcMemKept s (sleepCommit s) := by
  unfold sleepCommit
  dsimp only
  repeat' split
  all_goals exact .inl ⟨rfl, .inl rfl, by simp [Power.holdsCore]⟩

theorem ecMemKept_pwComplete (b : Blk) (s : State) : EcMemKept s (pwComplete b s) := by
  unfold pwComplete
  split
  · exact ecMemKept_self s
  · split
    · exact ecMemKept_sleepCommit s
    · exact ecMemKept_of_root rfl rfl

theorem ecMemKept_powerDown (s : State) : EcMemKept s (powerDown s) := by
  unfold powerDown
  split
  · exact ecMemKept_lost rfl rfl
  · exact ecMemKept_self s

theorem ecMemKept_quietEnter (s : State) : EcMemKept s (quietEnter s) := by
  unfold quietEnter
  split
  · exact .inl ⟨rfl, .inl rfl, nofun⟩
  · exact ecMemKept_self s

theorem ecMemKept_quietExit (s : State) : EcMemKept s (quietExit s) := by
  unfold quietExit
  split
  · exact .inl ⟨rfl, .inl rfl, nofun⟩
  · exact ecMemKept_self s

theorem ecMemKept_dozeWake (i : Nat) (rising : Bool) (ms : Nat) (s : State) : EcMemKept s (dozeWake i rising ms s) := by
  unfold dozeWake
  dsimp only
  split
  next h =>
    have hdoze : s.root.power = .doze := by simp_all
    exact .inl ⟨rfl, .inl rfl, fun _ => by rw [hdoze]; rfl⟩
  next => exact ecMemKept_self s

theorem ecMemKept_watchEntry (i : Nat) (rising : Bool) (s : State) : EcMemKept s (watchEntry i rising s) := by
  unfold watchEntry
  dsimp only
  split
  · exact ecMemKept_self s
  · split
    case h_5 hdoze =>
      split
      · exact .inl ⟨rfl, .inl rfl, fun _ => by rw [hdoze]; rfl⟩
      · exact ecMemKept_self s
    case h_6 hshelf =>
      split
      · exact .inl ⟨rfl, .inl rfl, fun _ => by rw [hshelf]; rfl⟩
      · exact ecMemKept_self s
    all_goals
      repeat' split
      all_goals exact ecMemKept_of_root rfl rfl

theorem ecMemKept_wakeComplete (st : Straps) (s : State) : EcMemKept s (wakeComplete st s) := by
  unfold wakeComplete
  dsimp only
  split
  · exact ecMemKept_lost rfl rfl
  · exact ecMemKept_startUp_report ..
  · exact ecMemKept_self s

theorem ecMemKept_ecWrapped (s : State) : EcMemKept s (ecWrapped s) := by
  unfold ecWrapped
  split
  · exact .inl ⟨rfl, .inr rfl, id⟩
  · exact ecMemKept_self s

/-- An act of the core leaves the state as it is while the core is off. -/
theorem ecMemKept_ite {c : Prop} [Decidable c] {s t : State} (h : EcMemKept s t) : EcMemKept s (if c then t else s) := by
  split
  · exact h
  · exact ecMemKept_self s

/-- What the commands that move what stands outside the core make of the EC and the Landing. -/
theorem exec_ecMemKept {i : Instr} {s t : State} (h : i.movesRoot = true) (ht : exec i s = .next t) : EcMemKept s t := by
  cases i with
  | powerUp st => exact Host.Outcome.next.inj ht ▸ ecMemKept_powerUp st s
  | vinLoss => exact Host.Outcome.next.inj ht ▸ ecMemKept_lost rfl rfl
  | enLow => exact Host.Outcome.next.inj ht ▸ ecMemKept_enLow s
  | enRise st => exact Host.Outcome.next.inj ht ▸ ecMemKept_enRise st s
  | rstAssert => exact Host.Outcome.next.inj ht ▸ ecMemKept_rstFalls (.inl ⟨rfl, .inl rfl, id⟩)
  | rstRelease st => exact Host.Outcome.next.inj ht ▸ ecMemKept_rstRelease st s
  | vioUnder b => exact Host.Outcome.next.inj ht ▸ ecMemKept_vioUnder b s
  | sleepCommit => exact Host.Outcome.next.inj ht ▸ ecMemKept_ite (ecMemKept_sleepCommit s)
  | pwComplete page =>
    simp only [exec, execPwComplete] at ht
    split at ht
    · exact Host.Outcome.next.inj ht ▸ ecMemKept_self s
    · exact Host.Outcome.next.inj ht ▸ ecMemKept_ite (ecMemKept_pwComplete _ s)
  | powerDownComplete => exact Host.Outcome.next.inj ht ▸ ecMemKept_powerDown s
  | quietEnter => exact Host.Outcome.next.inj ht ▸ ecMemKept_quietEnter s
  | quietExit => exact Host.Outcome.next.inj ht ▸ ecMemKept_quietExit s
  | dozeWake e ms => exact Host.Outcome.next.inj ht ▸ ecMemKept_dozeWake e.n e.rising ms s
  | wakeComplete st => exact Host.Outcome.next.inj ht ▸ ecMemKept_wakeComplete st s
  | watchEntryFire e => exact Host.Outcome.next.inj ht ▸ ecMemKept_watchEntry e.n e.rising s
  | ecWrap => exact Host.Outcome.next.inj ht ▸ ecMemKept_ecWrapped s
  | _ => cases h

/-! ### Every step -/

/-- Every command keeps the invariant: one that moves what stands outside the core by `exec_ecMemKept`; any other writes the Landing of a powered core alone. -/
theorem exec_inv {i : Instr} {s t : State} (hs : s.Inv) (ht : exec i s = .next t) : t.Inv := by
  cases hr : i.movesRoot with
  | true => exact (exec_ecMemKept hr ht).inv hs
  | false =>
    have hroot := exec_root hr ht
    obtain ⟨d, l, e⟩ := exec_devMem i s hr
    have hmem : t.mem = memWrites s.mem l := by
      rw [ht] at e
      rw [Host.Outcome.next.inj e]
    rw [inv_iff] at hs ⊢
    obtain ⟨hwf, hlt, hmod, hoff⟩ := hs
    rw [hroot]
    refine ⟨hmem ▸ memWrites_wf s.mem l hwf, hlt, hmod, fun hp => ?_⟩
    rw [exec_keepsMem_off hr (coreOn_of_unpowered hp) t ht]
    exact hoff hp

theorem idleStep_inv {s t : State} (hs : s.Inv) (ht : idleStep s = .next t) : t.Inv := by
  unfold idleStep at ht
  split at ht
  next => exact Host.Outcome.next.inj ht ▸ hs
  next hon =>
    have hpow : s.root.power.holdsCore = true := by
      cases h : s.root.power.holdsCore with
      | true => rfl
      | false => simp [coreOn_of_unpowered h] at hon
    rw [inv_iff] at hs
    obtain ⟨hwf, -, hmod, -⟩ := hs
    split at ht
    next hlt =>
      rw [← Host.Outcome.next.inj ht, inv_iff]
      exact ⟨hwf, hlt, by dsimp only; omega, by simp [hpow]⟩
    next =>
      rw [← Host.Outcome.next.inj ht, inv_iff]
      unfold ecWrapped
      rw [if_pos (by simpa [Root.coreOn] using hon)]
      exact ⟨hwf, (by decide : 0 < ecMod), rfl, by simp [hpow]⟩

/-- Settles O4: at reset the EC is zero and the Landing holds nothing. -/
theorem invariantAtReset : Obligations.InvariantAtReset := (inv_iff _).mpr ⟨rfl, by decide, rfl, nofun⟩

/-- Settles O5: a step is an idle cycle of the core or the command at the front of the queue, and each keeps the invariant. -/
theorem invariantKept : Obligations.InvariantKept := by
  intro s t hs ht
  unfold step at ht
  split at ht
  next => exact idleStep_inv hs ht
  next c rest _ =>
    have hs' : State.Inv { s with pending := rest } := hs
    exact exec_inv hs' ht

end Sys2Proof.Machine

/-! EC_WRAP and the idle cycle (R108, R109, R114, R117). -/

namespace Sys2Proof.Machine

/-! ### Parts of a device that an operation leaves -/

theorem tb_of {a b : Dev} (h : Part.tb.of a = Part.tb.of b) : a.tb = b.tb := Part.same_iff.mpr h

theorem ref_of {a b : Dev} (h : Part.ref.of a = Part.ref.of b) : a.ref = b.ref := Part.same_iff.mpr h

theorem rte_of {a b : Dev} (h : Part.rte.of a = Part.rte.of b) : a.rte = b.rte := Part.same_iff.mpr h

/-! ### Restarts of the EC (R109, R114, R117, R175, R317) -/

theorem eraNext_ne_zero (e : Nat) : eraNext e ≠ 0 := by
  unfold eraNext
  split <;> omega

section
variable {π : Part}

theorem of_gateHooks (h : π.off [.net]) (r : Root) (d : Dev) : π.of ((List.range 2).foldl (fun d p => gateHook r p 0 d) d) = π.of d :=
  Part.of_foldl (fun _ _ => of_gateHook h ..) ..

theorem of_delayKeeps (h : π.off [.mcs]) (r0 : Root) (wake : Bool) (d : Dev) :
    π.of ((List.range 8).foldl (fun d n => delayKeep r0 wake n d) d) = π.of d :=
  Part.of_foldl (fun _ _ => of_delayKeep h ..) ..

end

/-- The timebase of an EC restarted for cause `c`: the next era, and the views from time 0 at the rates they had. -/
def TbSt.restarted (c : Nat) (x : TbSt) : TbSt :=
  let zero := fun (v : View) => ({ anchorEC := 0, anchorT := 0, rate := v.rate } : View)
  { x with prevEra := x.era, era := eraNext x.era, changes := satInc x.changes 255, cause := 2 ^ c, eraEC := 0, lastEdge := [],
           a := zero x.a, b := zero x.b, x := zero x.x, at' := zero x.x, viewSet := 0, atView := 2, switching := false, run := x.run + 1, timeState := 0 }

theorem setTimeState_tb (r : Root) (n : Nat) (d : Dev) : (setTimeState r n d).tb = { d.tb with timeState := n } := by
  unfold setTimeState
  split
  next h => rw [← h]
  next => rw [raise_tb]

section
variable (r0 r : Root) (c : Nat) (d : Dev)

theorem ecRestart_tb : (ecRestart r0 r c d).tb = d.tb.restarted c := by
  unfold ecRestart
  dsimp only
  rw [tb_of (of_gateHooks (.of (by decide)) ..), Dev.netMap_tb, tb_of (of_sapRestart (.of (by decide)) ..), tb_of (of_rxRestart (.of (by decide)) ..),
    tb_of (of_txRestart (.of (by decide)) ..), tb_of (of_rteRestart (.of (by decide)) ..), tb_of (of_delayKeeps (.of (by decide)) ..),
    tb_of (of_refRestart (.of (by decide)) ..), tb_of (of_trgRestart (.of (by decide)) ..), raise_tb, setTimeState_tb]
  simp only [restartViews, raise_tb]
  rfl

theorem ecRestart_ref_st : (ecRestart r0 r c d).ref.st = 0 := by
  unfold ecRestart
  dsimp only
  rw [ref_of (of_gateHooks (.of (by decide)) ..), Dev.netMap_ref, ref_of (of_sapRestart (.of (by decide)) ..), ref_of (of_rxRestart (.of (by decide)) ..),
    ref_of (of_txRestart (.of (by decide)) ..), ref_of (of_rteRestart (.of (by decide)) ..), ref_of (of_delayKeeps (.of (by decide)) ..)]
  rfl

theorem ecRestart_rte_pending : (ecRestart r0 r c d).rte.pending = none := by
  unfold ecRestart
  dsimp only
  rw [rte_of (of_gateHooks (.of (by decide)) ..), Dev.netMap_rte, rte_of (of_sapRestart (.of (by decide)) ..), rte_of (of_rxRestart (.of (by decide)) ..),
    rte_of (of_txRestart (.of (by decide)) ..)]
  rfl

end

theorem ecWrapped_on {s : State} (h : s.root.coreOn = true) :
    ecWrapped s = { s with root := { s.root with ec := 0 }, dev := ecRestart s.root { s.root with ec := 0 } 5 s.dev } := if_pos h

/-- Settles O14: the EC restarts with cause 5, and the timebase, the selector and the routes with it. -/
theorem ecWraps : Obligations.EcWraps := by
  intro s hon
  have htb := ecRestart_tb s.root { s.root with ec := 0 } 5 s.dev
  refine ⟨_, rfl, ?_⟩
  rw [ecWrapped_on hon]
  refine ⟨rfl, rfl, rfl, ?_, ?_, ?_, ?_, ?_, ?_, fun v => ?_, ?_, ?_, ?_, ecRestart_ref_st .., ecRestart_rte_pending ..⟩
  all_goals simp only [Dev.view, htb]
  case refine_2 => exact eraNext_ne_zero _
  case refine_7 => split <;> rfl
  all_goals rfl

/-- Settles O2: an idle cycle is 512 units of the EC, past 64 bits it restarts, and a core that is off lets nothing pass. -/
theorem emptyQueueIdles : Obligations.EmptyQueueIdles := by
  intro s hq
  have hstep : step s = idleStep s := by simp only [step, hq]
  rw [hstep]
  unfold idleStep
  refine ⟨fun hoff => by rw [hoff]; rfl, fun hon hlt => by simp [hon, hlt], fun hon hge => ?_⟩
  rw [if_neg (by simp [hon]), if_neg (by omega)]
  refine ⟨_, rfl, ?_⟩
  rw [ecWrapped_on (by exact hon)]
  refine ⟨rfl, rfl, hq, ?_⟩
  simp only [ecRestart_tb]
  rfl

end Sys2Proof.Machine

/-! Commits of TBE.VIEWv_SET (R111 to R113, R115, R118). -/

namespace Sys2Proof.Machine

/-! ### What a step of a view makes of the timebase (R110, R112, R115, R117) -/

/-- The timebase after an era change at EC `ec` for cause bit `c` (R110). -/
def TbSt.bumped (ec c : Nat) (x : TbSt) : TbSt :=
  if x.eraEC = ec then { x with cause := nset x.cause c true }
  else { x with prevEra := x.era, era := eraNext x.era, changes := satInc x.changes 255, cause := 2 ^ c, eraEC := ec }

theorem eraBump_tb (r : Root) (c : Nat) (d : Dev) : (eraBump r c d).tb = d.tb.bumped r.ec c := by
  unfold eraBump TbSt.bumped
  split
  · rfl
  · rw [raise_tb]

theorem accRate_tb (r : Root) (v : Nat) (d : Dev) : (accRate r v d).tb = d.tb := tb_of (of_accRate (.of (by decide)) ..)

theorem accRate_setView_tb (r : Root) (v w : Nat) (x : View) (d : Dev) : ((accRate r w d).setView v x).tb = (d.setView v x).tb := by
  unfold Dev.setView
  split <;> rfl

/-- A jump of AT may begin a new run of it. -/
theorem atJump_tb (r : Root) (d0 d : Dev) : ∃ run, (atJump r d0 d).tb = { d.tb with run := run } := by
  unfold atJump
  dsimp only
  split
  · exact ⟨_, rfl⟩
  · split <;> exact ⟨_, rfl⟩

/-- AT once the view it may follow has stepped to `x`. -/
def steppedAt (r : Root) (v : Nat) (x : View) (d : Dev) : View :=
  if d.tb.atView = v then
    if d.tb.switching then { d.tb.at' with anchorT := d.tb.at'.anchorT + (x.val r.ec - (d.view v).val r.ec) } else x
  else d.tb.at'

theorem setView_tb (v : Nat) (x : View) (d : Dev) : ∃ a b c, (d.setView v x).tb = { d.tb with a := a, b := b, x := c } := by
  unfold Dev.setView
  split <;> exact ⟨_, _, _, rfl⟩

/-- A view has taken its step, and AT with it. -/
theorem stepCourse_tb (r : Root) (v : Nat) (x : View) (d : Dev) :
    let d1 := (if d.tb.atView = v then accRate r 3 (accRate r v d) else accRate r v d).setView v x
    let at' := if d.tb.switching then
        d1.setAt { d.tb.at' with anchorT := d.tb.at'.anchorT + (x.val r.ec - (d.view v).val r.ec) } else d1.setAt x
    ∃ run, (if d.tb.atView = v then atJump r d1 at' else d1).tb = { (d.setView v x).tb with at' := steppedAt r v x d, run := run } := by
  obtain ⟨a, b, c, hset⟩ := setView_tb v x d
  intro d1 at'
  have h1 : d1.tb = (d.setView v x).tb := by
    simp only [d1]
    split <;> simp only [accRate_setView_tb]
  unfold steppedAt
  split
  next hat =>
    obtain ⟨run, hrun⟩ := atJump_tb r d1 at'
    refine ⟨run, hrun.trans ?_⟩
    simp only [at', ← apply_ite d1.setAt, Dev.setAt, h1]
  next => exact ⟨d.tb.run, by rw [h1, hset]⟩

theorem stepView_tb (r : Root) (v : Nat) (x : View) (d : Dev) : ∃ run n, (stepView r v x d).tb =
    { TbSt.bumped r.ec (2 + v) { (d.setView v x).tb with
        at' := steppedAt r v x d
        run := run
        viewSet := nset d.tb.viewSet v true
        steps := nput d.tb.steps v (satInc (nget d.tb.steps v) 0xFFFF) } with timeState := n } := by
  obtain ⟨run, h2⟩ := stepCourse_tb r v x d
  obtain ⟨a, b, c, hset⟩ := setView_tb v x d
  unfold stepView
  dsimp only at h2 ⊢
  rw [tb_of (of_trigEraCancel (.of (by decide)) ..)]
  generalize (if d.tb.atView = v then atJump .. else _ : Dev) = d2 at h2 ⊢
  split
  · exact ⟨run, 1, by rw [setTimeState_tb, eraBump_tb, h2, hset]⟩
  · exact ⟨run, _, by rw [eraBump_tb, h2, hset]⟩

/-! ### The views of a device -/

/-- The views of a device are its timebase's. -/
theorem view_eq {e d : Dev} (ha : e.tb.a = d.tb.a) (hb : e.tb.b = d.tb.b) (hx : e.tb.x = d.tb.x) (i : Nat) : e.view i = d.view i := by
  unfold Dev.view
  rw [ha, hb, hx]

theorem view_setView_self (v : Nat) (x : View) (d : Dev) : (d.setView v x).view v = x :=
  match v with
  | 0 | 1 | _ + 2 => rfl

theorem view_setView_other {v i : Fin 3} (h : i ≠ v) (x : View) (d : Dev) : (d.setView v x).view i = d.view i := by
  have : (d.setView v x).view i = if i = v then x else d.view i := by
    fin_cases v <;> fin_cases i <;> rfl
  rw [this, if_neg h]

theorem val_rerate (v : View) (e : Nat) (rate : Int) : (v.rerate e rate).val e = v.val e := by
  simp [View.rerate, View.val, rdiv]

/-! ### A step, field by field -/

section
variable (r : Root) (v : Nat) (x : View) (d : Dev)

theorem stepView_view (i : Nat) : (stepView r v x d).view i = (d.setView v x).view i := by
  obtain ⟨run, n, h⟩ := stepView_tb r v x d
  rw [TbSt.bumped] at h
  split at h <;> apply view_eq <;> rw [h]

theorem stepView_at : (stepView r v x d).tb.at' = steppedAt r v x d := by
  obtain ⟨run, n, h⟩ := stepView_tb r v x d
  rw [h, TbSt.bumped]
  split <;> rfl

theorem stepView_steps : nget (stepView r v x d).tb.steps v = satInc (nget d.tb.steps v) 0xFFFF := by
  obtain ⟨run, n, h⟩ := stepView_tb r v x d
  rw [h, TbSt.bumped]
  split <;> exact nget_nput_self ..

theorem stepView_era (hec : d.tb.eraEC ≠ r.ec) : (stepView r v x d).tb.era = eraNext d.tb.era ∧ (stepView r v x d).tb.prevEra = d.tb.era ∧
    (stepView r v x d).tb.cause = 2 ^ (2 + v) := by
  obtain ⟨run, n, h⟩ := stepView_tb r v x d
  obtain ⟨a, b, c, hset⟩ := setView_tb v x d
  rw [h, TbSt.bumped, hset, if_neg hec]
  exact ⟨rfl, rfl, rfl⟩

end

/-! ### What a change of its rate makes of the timebase (R112, R115) -/

theorem viewRate_tb (r : Root) (v : Nat) (rate : Int) (d : Dev) : (viewRate r v rate d).tb =
    { (d.setView v ((d.view v).rerate r.ec rate)).tb with
        at' := if d.tb.atView = v ∧ ¬d.tb.switching then (d.view v).rerate r.ec rate else d.tb.at' } := by
  obtain ⟨a, b, c, hset⟩ := setView_tb v ((d.view v).rerate r.ec rate) d
  unfold viewRate followAt
  dsimp only
  generalize hd0 : (if d.tb.atView = v then accRate r 3 (accRate r v d) else accRate r v d) = d0
  have h1 : (d0.setView v ((d.view v).rerate r.ec rate)).tb = (d.setView v ((d.view v).rerate r.ec rate)).tb := by
    rw [← hd0]
    split <;> simp only [accRate_setView_tb]
  rw [h1, hset, view_setView_self]
  dsimp only
  split
  · rw [Dev.setAt, h1, hset]
  · rw [h1, hset]

section
variable (r : Root) (v : Nat) (rate : Int) (d : Dev)

theorem viewRate_view (i : Nat) : (viewRate r v rate d).view i = (d.setView v ((d.view v).rerate r.ec rate)).view i := by
  apply view_eq <;> rw [viewRate_tb]

theorem viewRate_at (hat : d.tb.atView = v) (hsw : d.tb.switching = false) : (viewRate r v rate d).tb.at' = (d.view v).rerate r.ec rate := by
  rw [viewRate_tb]
  exact if_pos ⟨hat, by simp [hsw]⟩

theorem viewRate_era : (viewRate r v rate d).tb.era = d.tb.era := by
  obtain ⟨a, b, c, hset⟩ := setView_tb v ((d.view v).rerate r.ec rate) d
  rw [viewRate_tb, hset]

end

/-! ### The commit of VIEWv_SET -/

/-- VIEWv_SET is a group of nine words that acts at once. -/
theorem viewSet_reg (v : Fin 3) : ∃ x, Blk.reg .tbe (0x120 + 0x80 * v) = some x ∧ x.ty = .lwRw 9 := by
  have h : (Blk.reg .tbe (0x120 + 0x80 * v)).map (·.ty) = some (.lwRw 9) := by
    revert v
    decide
  exact Option.map_eq_some_iff.mp h

section
variable (s : State) (g : Gal) (v : Fin 3) (w : Word)

/-- The words that a commit of VIEWv_SET with KIND word `w` stores. -/
def viewWords : List Word := groupWords s.dev g .tbe (0x120 + 0x80 * v) 9 w

/-- The device once the words are stored and its page consulted. -/
def viewStored : Dev :=
  pageUse s.root .tbe [0x040] (storeWords .tbe (0x120 + 0x80 * v) (viewWords s g v w) (s.dev.setWsh g (Blk.tbe.addr (0x120 + 0x80 * v)) []))

theorem length_viewWords : (viewWords s g v w).length = 9 := by
  obtain ⟨x, hx, hty⟩ := viewSet_reg v
  exact length_groupWords (by decide) (by omega) hx (.inl hty) ..

theorem viewWords_kind : (viewWords s g v w).getD 0 0 = w := by
  simp [viewWords, groupWords, ltStored]

theorem viewStored_tb : (viewStored s g v w).tb = s.dev.tb := by
  rw [viewStored, pageUse_tb, storeWords_eq]
  rfl

theorem viewStored_reg {i : Nat} (h : i < 9) : (viewStored s g v w).reg .tbe (0x120 + 0x80 * v + 4 * i) = (viewWords s g v w).getD i 0 := by
  rw [← reg_storeWords .tbe (0x120 + 0x80 * v) i _ (s.dev.setWsh g (Blk.tbe.addr (0x120 + 0x80 * v)) []) (by rw [length_viewWords]; exact h)]
  simp only [Dev.reg, viewStored, pageUse_regs]

/-- A commit that is taken. -/
theorem viewSet_taken (hw : canWrite s g .tbe (0x120 + 0x80 * v) w = true) (hv : viewSetRefused s.dev v w = false) :
    onReg g .tbe (0x120 + 0x80 * v) w s = .next { s with dev := viewSetHook s.root v (viewStored s g v w) } := by
  obtain ⟨x, hx, hty⟩ := viewSet_reg v
  have hdiv : (0x120 + 0x80 * v.val - 0x120) / 0x80 = v := by omega
  rw [onReg_can s g .tbe _ w x (by decide) (by omega) hx hw, regWrite_lwRw (by omega) hty (by simp [hv])]
  have hin : 0x120 ≤ 0x120 + 0x80 * v.val ∧ 0x120 + 0x80 * v.val < 0x300 := by omega
  simp only [storeAct, afterWrite, actUses, hin, eff, hdiv, reduceCtorEq, if_false, if_true, and_self, memWrites_nil]
  rfl

/-- A commit that is refused is counted, and its words stay. -/
theorem viewSet_refused (hw : canWrite s g .tbe (0x120 + 0x80 * v) w = true) (hv : viewSetRefused s.dev v w = true) :
    onReg g .tbe (0x120 + 0x80 * v) w s =
      .next { s with dev := viewRefuse v (s.dev.setWsh g (Blk.tbe.addr (0x120 + 0x80 * v)) []) } := by
  obtain ⟨x, hx, hty⟩ := viewSet_reg v
  have hdiv : (0x120 + 0x80 * v.val - 0x120) / 0x80 = v := by omega
  rw [onReg_can s g .tbe _ w x (by decide) (by omega) hx hw]
  have h40 : ¬ 0x120 + 0x80 * v.val < 0x040 := by omega
  simp only [regWrite, h40, hty, hdiv, hv, eff, if_false, if_true, and_self, memWrites_nil]

/-- What the hook of a taken commit reads are the words stored. -/
theorem viewSetHook_stored : viewSetHook s.root v (viewStored s g v w) =
    let u := fun i => (viewWords s g v w).getD i 0
    if fld w 1 0 = 0 then
      stepView s.root v { anchorEC := (u 1).toNat + 2 ^ 32 * (u 2).toNat, anchorT := ltTime [u 3, u 4, u 5, u 6], rate := rateOf (u 7) (u 8) }
        (viewStored s g v w)
    else viewRate s.root v (rateOf (u 7) (u 8)) (viewStored s g v w) := by
  unfold viewSetHook
  simp only [viewStored_reg s g v w (i := 0) (by decide), viewStored_reg s g v w (i := 1) (by decide), viewStored_reg s g v w (i := 2) (by decide),
    viewStored_reg s g v w (i := 3) (by decide), viewStored_reg s g v w (i := 4) (by decide), viewStored_reg s g v w (i := 5) (by decide),
    viewStored_reg s g v w (i := 6) (by decide), viewStored_reg s g v w (i := 7) (by decide), viewStored_reg s g v w (i := 8) (by decide)]
  rw [viewWords_kind]

theorem viewStored_view (i : Nat) : (viewStored s g v w).view i = s.dev.view i := by
  unfold Dev.view
  rw [viewStored_tb]

end

/-! ### O28 -/

theorem viewSetStep_completes {s : State} {g : Gal} {v : Fin 3} (hw : canWrite s g .tbe (0x120 + 0x80 * v) (wd 0) = true) (hf : s.dev.feed v = true) :
    Completes (.viewSetStep g v) s fun t =>
      let u := fun i => (viewWords s g v (wd 0)).getD i 0
      DevOnly s t ∧
      t.dev.view v = { anchorEC := (u 1).toNat + 2 ^ 32 * (u 2).toNat, anchorT := ltTime [u 3, u 4, u 5, u 6], rate := rateOf (u 7) (u 8) } ∧
      (∀ i : Fin 3, i ≠ v → t.dev.view i = s.dev.view i) ∧
      (s.dev.tb.atView = v → s.dev.tb.switching = false → t.dev.tb.at' = t.dev.view v) ∧ (s.dev.tb.atView ≠ v → t.dev.tb.at' = s.dev.tb.at') ∧
      nget t.dev.tb.steps v = satInc (nget s.dev.tb.steps v) 0xFFFF ∧
      (s.dev.tb.eraEC ≠ s.root.ec → t.dev.tb.era = eraNext s.dev.tb.era ∧ t.dev.tb.prevEra = s.dev.tb.era ∧ t.dev.tb.cause = 2 ^ (2 + v.val)) := by
  refine ⟨_, viewSet_taken s g v (wd 0) hw (by rw [viewSetRefused, hf]; rfl), ?_⟩
  have htb := viewStored_tb s g v (wd 0)
  rw [viewSetHook_stored]
  dsimp only
  rw [if_pos (by rfl)]
  generalize View.mk _ _ _ = x
  rw [← htb]
  refine ⟨⟨rfl, rfl, rfl⟩, ?_, fun i hi => ?_, fun hat hsw => ?_, fun hat => ?_, stepView_steps .., fun hec => stepView_era _ _ _ _ hec⟩
  · rw [stepView_view, view_setView_self]
  · rw [stepView_view, view_setView_other hi, viewStored_view]
  · rw [stepView_at, stepView_view, view_setView_self, steppedAt, if_pos hat, hsw]
    rfl
  · rw [stepView_at, steppedAt, if_neg hat]

theorem viewSetRate_completes {s : State} {g : Gal} {v : Fin 3} (hw : canWrite s g .tbe (0x120 + 0x80 * v) (wd 1) = true) (hf : s.dev.feed v = true) :
    Completes (.viewSetRate g v) s fun t =>
      let u := fun i => (viewWords s g v (wd 1)).getD i 0
      DevOnly s t ∧ t.dev.view v = { anchorEC := s.root.ec, anchorT := (s.dev.view v).val s.root.ec, rate := rateOf (u 7) (u 8) } ∧
      (t.dev.view v).val s.root.ec = (s.dev.view v).val s.root.ec ∧ (∀ i : Fin 3, i ≠ v → t.dev.view i = s.dev.view i) ∧
      (s.dev.tb.atView = v → s.dev.tb.switching = false → t.dev.tb.at' = t.dev.view v) ∧ t.dev.tb.era = s.dev.tb.era := by
  refine ⟨_, viewSet_taken s g v (wd 1) hw (by rw [viewSetRefused, hf]; rfl), ?_⟩
  have htb := viewStored_tb s g v (wd 1)
  rw [viewSetHook_stored]
  dsimp only
  rw [if_neg (by decide), ← viewStored_view s g v (wd 1) v]
  rw [← htb]
  generalize rateOf _ _ = rate
  refine ⟨⟨rfl, rfl, rfl⟩, ?_, ?_, fun i hi => ?_, fun hat hsw => ?_, viewRate_era ..⟩
  · rw [viewRate_view, view_setView_self]
    rfl
  · rw [viewRate_view, view_setView_self, val_rerate]
  · rw [viewRate_view, view_setView_other hi, viewStored_view]
  · rw [viewRate_at _ _ _ _ hat hsw, viewRate_view, view_setView_self]

/-- A commit that is refused is counted, and moves neither view nor AT nor era (R113). -/
theorem viewSet_refused_completes {s : State} {g : Gal} {v : Fin 3} {w : Word} {i : Instr} (hi : exec i s = onReg g .tbe (0x120 + 0x80 * v) w s)
    (hw : canWrite s g .tbe (0x120 + 0x80 * v) w = true) (hv : viewSetRefused s.dev v w = true) :
    Completes i s fun t => DevOnly s t ∧ nget t.dev.tb.refused v = satInc (nget s.dev.tb.refused v) 0xFFFF ∧
      (∀ i, t.dev.view i = s.dev.view i) ∧ t.dev.tb.at' = s.dev.tb.at' ∧ t.dev.tb.era = s.dev.tb.era ∧ t.dev.regs = s.dev.regs :=
  ⟨_, hi.trans (viewSet_refused s g v w hw hv), ⟨rfl, rfl, rfl⟩, nget_nput_self .., fun _ => rfl, rfl, rfl, rfl⟩

/-- Settles O28: a commit is taken or refused by its KIND and FEED; one taken steps the view or changes its rate. -/
theorem viewSets : Obligations.ViewSets := by
  intro s g v
  have reserved : ∀ k : Fin 4, 2 ≤ k.val → 2 ≤ fld (wd k) 1 0 := by decide
  have unfed : ∀ w, s.dev.feed v = false → viewSetRefused s.dev v w = true := fun w h => by simp [viewSetRefused, h]
  refine ⟨viewSetStep_completes, viewSetRate_completes, fun k hw h => ?_, fun hw h => ?_, fun hw h => ?_⟩
  · refine viewSet_refused_completes rfl hw ?_
    rcases h with h | h
    · simp [viewSetRefused, reserved k h]
    · exact unfed _ h
  · exact viewSet_refused_completes rfl hw (unfed _ h)
  · exact viewSet_refused_completes rfl hw (unfed _ h)

end Sys2Proof.Machine

/-! Stamps of edges, tap measurements and TBE.SNAP (R121, R122, R125, R126). -/

namespace Sys2Proof.Machine

/-! ### TBE.SNAP (R126) -/

/-- TBE.SNAP is a group of nineteen words that is read whole. -/
theorem snap_reg : ∃ x, Blk.reg .tbe 0x080 = some x ∧ x.ty = .lwRo 19 := Option.map_eq_some_iff.mp (by decide : (Blk.reg .tbe 0x080).map (·.ty) = _)

theorem liveReg_snap (r : Root) (d : Dev) (g : Nat) {j : Nat} (hj : j < 19) : liveReg r d g .tbe (0x080 + 4 * j) = (snapWords r d).getD j 0 := by
  have hin : 0x080 ≤ 0x080 + 4 * j ∧ 0x080 + 4 * j < 0x0CC := by omega
  have hdiv : (0x080 + 4 * j - 0x080) / 4 = j := by omega
  calc liveReg r d g .tbe (0x080 + 4 * j)
    _ = tbeRead r d (0x080 + 4 * j) := if_neg (by omega)
    _ = (snapWords r d).getD j 0 := by
      unfold tbeRead
      dsimp only
      rw [if_neg (by omega), if_neg (by omega), if_neg (by omega), if_neg (by omega), if_neg (by omega), if_neg (by omega), if_neg (by omega),
        if_neg (by omega), if_neg (by omega), if_pos hin, hdiv]

theorem snapWords_tail (r : Root) (d : Dev) (g : Nat) :
    (List.range (19 - 1)).map (fun j => liveReg r d g .tbe (0x080 + 4 * (j + 1))) = (snapWords r d).tail := by
  refine List.ext_getElem (by simp [snapWords, ecWords, ltWords]) fun j hj _ => ?_
  have hj : j + 1 < 19 := by simp at hj; omega
  rw [List.getElem_map, List.getElem_range, liveReg_snap r d g hj, List.getElem_tail, List.getElem_eq_getD 0]

/-- A read of TBE.SNAP latches the whole group of one cycle. -/
theorem tbeSnapRead_completes {s : State} {g : Gal} (hr : reaches s g = true) : Completes (.tbeSnapRead g) s fun t =>
    DevOnly s t ∧ wget t.dev.hif.readData g = wd (s.root.ec / 512 * 512) ∧
    t.dev.rsh g (Blk.tbe.addr 0x080) = (snapWords s.root s.dev).tail ∧ t.dev = { s.dev with hif := t.dev.hif, rshadow := t.dev.rshadow } := by
  obtain ⟨x, hx, hty⟩ := snap_reg
  refine ⟨_, lwRead_word (by decide) (by decide) hx hr, ?_⟩
  rw [readWord_lw (by decide) (by decide) hx (.inl hty), snapWords_tail]
  have hlatch : (latch g (Blk.tbe.addr 0x080) (snapWords s.root s.dev).tail s.dev).rsh g (Blk.tbe.addr 0x080) = (snapWords s.root s.dev).tail :=
    by simp only [Dev.rsh, latch, lget_lput_self]
  refine ⟨⟨rfl, rfl, rfl⟩, ?_, hlatch, rfl⟩
  rw [(readData_readState ..).1]
  exact liveReg_snap s.root s.dev g (j := 0) (by decide)

/-! ### Commands of a running core -/

theorem completes_onDev {i : Instr} {s : State} {f : Root → Dev → Dev} {P : State → Prop} (hon : s.root.coreOn = true) (hi : exec i s = onDev f s)
    (h : P { s with dev := f s.root s.dev }) : Completes i s P := ⟨_, hi.trans (onDev_on hon), h⟩

/-! ### Tap measurements (R122) -/

/-- A tap measurement is taken while tracking is on, and fails it outside 80 to 200 taps. -/
theorem tdcTapMeasure_completes {s : State} (hon : s.root.coreOn = true) (taps : Fin 256) : Completes (.tdcTapMeasure taps) s fun t =>
    DevOnly s t ∧ t.dev = { s.dev with tb := t.dev.tb, page := t.dev.page, lines := t.dev.lines } ∧
    (s.dev.rb .tbe 0x040 4 = true → t.dev.tb.taps = taps ∧ t.dev.tb.trackFail = decide (taps.val < 80 ∨ 200 < taps.val)) ∧
    (s.dev.rb .tbe 0x040 4 = false → t.dev.tb = s.dev.tb) := by
  refine completes_onDev hon (show _ = execTdcTapMeasure taps s from rfl) ⟨devOnly_dev .., ?_⟩
  have hrb : (pageUse s.root .tbe [0x040] s.dev).rb .tbe 0x040 4 = s.dev.rb .tbe 0x040 4 := by simp only [Dev.rb, Dev.reg, pageUse_regs]
  dsimp only
  unfold tapMeasure
  rw [hrb, pageUse_eq]
  cases s.dev.rb .tbe 0x040 4 with
  | true => simp
  | false => simp

/-! ### Stamps of the converter (R121, R122, R125) -/

section
variable (r : Root) (e : Int) (point speed : Nat) (d : Dev)

/-- The stamp that a converter makes of EC `e`. -/
def stampAt : Stamp :=
  { ec := ecOf e, era := stampEra d e, point := point, valid := !d.tb.trackFail && !injects .tbe 0 d, uncal := !d.otpRegion 3, speed := speed }

theorem takeStamp_stamp : (takeStamp r e point speed d).1 = stampAt e point speed d := by
  unfold takeStamp stampAt
  cases d.tb.trackFail <;> cases injects .tbe 0 d <;> rfl

/-- A stamp without VALID is counted. -/
theorem takeStamp_tb : ∃ n, (takeStamp r e point speed d).2.tb = { d.tb with invalid := n } := by
  have hop : (opportunity r .tbe 0 d).tb = d.tb := tb_of (of_opportunity (.of (by decide)) ..)
  unfold takeStamp
  dsimp only
  split
  · exact ⟨d.tb.invalid, hop⟩
  · exact ⟨_, by rw [invalidStamp, raise_tb, hop]⟩

end

/-! ### Edges (R121, R122) -/

/-- What counts an edge of channel `ch` before it is stamped: whether it is stamped, and the device with its reference input's count. -/
def edgeCounted (ch : Nat) (d : Dev) : Bool × Dev := if 13 ≤ ch ∧ ch < 16 then refDiv (ch - 10) d else (true, d)

theorem edgeCounted_dev (ch : Nat) (d : Dev) : ∃ x, (edgeCounted ch d).2 = { d with ref := x } ∧ (¬(13 ≤ ch ∧ ch < 16) → x = d.ref) := by
  unfold edgeCounted
  split
  next h => exact ⟨_, rfl, (absurd h ·)⟩
  next => exact ⟨d.ref, rfl, fun _ => rfl⟩

theorem edgeCounted_counts {ch : Nat} {d : Dev} (h : ¬(13 ≤ ch ∧ ch < 16) ∨ (refDiv (ch - 10) d).1 = true) : (edgeCounted ch d).1 = true := by
  unfold edgeCounted
  split
  next hd => exact h.resolve_left (not_not_intro hd)
  next => rfl

section
variable {r : Root} {ch tap : Nat} {rising : Bool} {d : Dev}

theorem edgeCounted_of_stamps (hs : stampsEdge d ch rising = true) :
    (if 13 ≤ ch ∧ ch < 16 ∧ stampsEdge d ch rising then refDiv (ch - 10) d else (true, d)) = edgeCounted ch d := by
  simp [edgeCounted, hs]

theorem tdcEdge_ignored (h : stampsEdge d ch rising = false) : tdcEdge r ch tap rising d = d := by
  simp [tdcEdge, h]

theorem tdcEdge_counted (hs : stampsEdge d ch rising = true) (hc : (edgeCounted ch d).1 = false) :
    tdcEdge r ch tap rising d = (edgeCounted ch d).2 := by
  unfold tdcEdge
  dsimp only
  rw [edgeCounted_of_stamps hs, hc]
  simp

theorem tdcEdge_missed (hs : stampsEdge d ch rising = true) (hc : (edgeCounted ch d).1 = true)
    (hlast : 0 < nget d.tb.lastEdge ch) (he : r.ec + tdcFine r d tap < nget d.tb.lastEdge ch - 1 + 2048) :
    tdcEdge r ch tap rising d = { (edgeCounted ch d).2 with tb := { d.tb with missed := satInc d.tb.missed 0xFFFF } } := by
  obtain ⟨x, hx, -⟩ := edgeCounted_dev ch d
  have hs' : stampsEdge { d with ref := x } ch rising = true := hs
  unfold tdcEdge
  dsimp only
  rw [edgeCounted_of_stamps hs, hc, hx, hs', if_neg (by simp), if_pos ⟨hlast, he⟩]

/-- The timebase with an edge's stamp: kept for its channel, and among the last eight of an SFD channel. -/
def TbSt.stamped (ch e : Nat) (y : Stamp) (x : TbSt) : TbSt :=
  { x with lastEdge := nput x.lastEdge ch (e + 1), chan := sset (fun _ => {}) x.chan ch y,
           hist := if ch < 4 then lput x.hist ch ((y :: lget x.hist ch).take 8) else x.hist }

/-- Outside the dead time an edge is stamped with the pad's delay taken off. -/
theorem tdcEdge_stamped_tb (hs : stampsEdge d ch rising = true) (hc : (edgeCounted ch d).1 = true)
    (he : ¬(0 < nget d.tb.lastEdge ch ∧ r.ec + tdcFine r d tap < nget d.tb.lastEdge ch - 1 + 2048)) :
    ∃ n, (tdcEdge r ch tap rising d).tb = TbSt.stamped ch (r.ec + tdcFine r d tap)
      (stampAt (((r.ec + tdcFine r d tap : Nat) : Int) - padDelay r d ch) (chanPoint ch) 0 d) { d.tb with invalid := n } := by
  obtain ⟨x, hx, -⟩ := edgeCounted_dev ch d
  have hs' : stampsEdge { d with ref := x } ch rising = true := hs
  have used : ∀ (y : Stamp) (a : Dev), (if 4 ≤ ch ∧ ch < 12 then capQueue (ch - 4) y a else if 12 ≤ ch ∧ ch < 16 then refEdge (ch - 10) y.ec a
      else if 16 ≤ ch then fbEdge (ch - 16) y a else a).tb = a.tb := fun y a => by
    split
    · exact tb_of (of_capQueue (.of (by decide)) ..)
    · split
      · exact tb_of (of_refEdge (.of (by decide)) ..)
      · split
        · exact tb_of (of_fbEdge (.of (by decide)) ..)
        · rfl
  obtain ⟨n, hn⟩ := takeStamp_tb r (((r.ec + tdcFine r d tap : Nat) : Int) - padDelay r d ch) (chanPoint ch) 0 { d with ref := x }
  refine ⟨n, ?_⟩
  unfold tdcEdge
  dsimp only
  rw [edgeCounted_of_stamps hs, hc, hx, hs', if_neg (by simp), if_neg he, used, takeStamp_stamp]
  exact congrArg (TbSt.stamped ch (r.ec + tdcFine r d tap) (stampAt _ _ 0 d)) hn

end

/-- An edge that is not a DIV-th one is counted towards it (R153). -/
theorem refDiv_counted {i : Nat} {d : Dev} (h : (refDiv i d).1 = false) :
    (refDiv i d).2 = { d with ref := { d.ref with div := nput d.ref.div i (nget d.ref.div i + 1) } } := by
  unfold refDiv at h ⊢
  dsimp only at h ⊢
  rw [h]
  rfl

/-! ### TDC_STAMP -/

theorem completes_tdcStamp {s : State} {ch : Fin 32} {tap : Fin 256} {rising : Bool} {P : State → Prop} (hon : s.root.coreOn = true)
    (hbank : bankDown s.dev 2 = false) (h : P { s with dev := tdcEdge s.root ch tap rising s.dev }) : Completes (.tdcStamp ch tap rising) s P := by
  refine completes_onDev hon (show _ = execTdcStamp ch tap rising s from rfl) ?_
  simpa only [hbank, Bool.false_and, Bool.false_eq_true, if_false] using h

theorem tdcStamp_unchanged {s : State} {ch : Fin 32} {tap : Fin 256} {rising : Bool} (hon : s.root.coreOn = true)
    (h : stampsEdge s.dev ch rising = false) : Unchanged (.tdcStamp ch tap rising) s := by
  refine (onDev_on hon : execTdcStamp ch tap rising s = _).trans ?_
  rw [tdcEdge_ignored h, ite_self]

section
variable {s : State} {ch : Fin 32} {tap : Fin 256} {rising : Bool}

theorem tdcStamp_stamps (hon : s.root.coreOn = true) (hbank : bankDown s.dev 2 = false) (hs : stampsEdge s.dev ch rising = true)
    (hc : (edgeCounted ch s.dev).1 = true)
    (hlast : nget s.dev.tb.lastEdge ch = 0 ∨ nget s.dev.tb.lastEdge ch - 1 + 2048 ≤ s.root.ec + tdcFine s.root s.dev tap) :
    Completes (.tdcStamp ch tap rising) s fun t =>
      let e := s.root.ec + tdcFine s.root s.dev tap
      let x := sget (fun _ => {}) t.dev.tb.chan ch
      DevOnly s t ∧ x.ec = ecOf (e - padDelay s.root s.dev ch) ∧ x.era = stampEra s.dev (e - padDelay s.root s.dev ch) ∧ x.point = chanPoint ch ∧
      x.valid = (!s.dev.tb.trackFail && !injects .tbe 0 s.dev) ∧ nget t.dev.tb.lastEdge ch = e + 1 ∧ t.dev.tb.missed = s.dev.tb.missed := by
  refine completes_tdcStamp hon hbank ?_
  obtain ⟨n, hn⟩ := tdcEdge_stamped_tb (r := s.root) (tap := tap) hs hc (by omega)
  dsimp only
  rw [hn]
  simp only [TbSt.stamped, sget_sset_self, nget_nput_self, stampAt, and_self, and_true]
  exact devOnly_dev ..

theorem tdcStamp_misses (hon : s.root.coreOn = true) (hbank : bankDown s.dev 2 = false) (hs : stampsEdge s.dev ch rising = true)
    (hc : (edgeCounted ch s.dev).1 = true) (hlast : 0 < nget s.dev.tb.lastEdge ch)
    (he : s.root.ec + tdcFine s.root s.dev tap < nget s.dev.tb.lastEdge ch - 1 + 2048) :
    Completes (.tdcStamp ch tap rising) s fun t =>
      DevOnly s t ∧ t.dev = { s.dev with tb := { s.dev.tb with missed := satInc s.dev.tb.missed 0xFFFF }, ref := t.dev.ref } ∧
      (¬(13 ≤ ch.val ∧ ch.val < 16) → t.dev.ref = s.dev.ref) := by
  refine completes_tdcStamp hon hbank ⟨devOnly_dev .., ?_⟩
  obtain ⟨x, hx, href⟩ := edgeCounted_dev ch s.dev
  dsimp only
  rw [tdcEdge_missed hs hc hlast he, hx]
  exact ⟨rfl, href⟩

theorem tdcStamp_counts (hon : s.root.coreOn = true) (hbank : bankDown s.dev 2 = false) (hs : stampsEdge s.dev ch rising = true)
    (hdiv : 13 ≤ ch.val ∧ ch.val < 16) (hc : (refDiv (ch.val - 10) s.dev).1 = false) :
    Completes (.tdcStamp ch tap rising) s fun t =>
      DevOnly s t ∧ t.dev = { s.dev with ref := { s.dev.ref with div := t.dev.ref.div } } ∧
      nget t.dev.ref.div (ch.val - 10) = nget s.dev.ref.div (ch.val - 10) + 1 := by
  refine completes_tdcStamp hon hbank ⟨devOnly_dev .., ?_⟩
  have hcounted : edgeCounted ch s.dev = refDiv (ch - 10) s.dev := if_pos hdiv
  dsimp only
  rw [tdcEdge_counted hs (by rw [hcounted, hc]), hcounted, refDiv_counted hc]
  exact ⟨rfl, by simp only [nget_nput_self]⟩

end

end Sys2Proof.Machine

/-! Network stamps (R123, R124, R127, R248). -/

namespace Sys2Proof.Machine

/-! ### What the pairing of a delimiter goes by (R123, R124) -/

/-- The SFD channel of a port and direction. -/
def sfdChan (p : Nat) (tx : Bool) : Nat := 2 * p + b2n tx

/-- The correction of the pin's edges. -/
def sfdAdj (d : Dev) (p : Nat) (tx : Bool) : Int := sgn (fld (phyLat d p tx (d.netp p).speed) 31 20) 12 * 4

/-- The half width of the window. -/
def sfdWin (d : Dev) : Int := (max 1 (d.rf .tbe 0x078 7 0) * 256 : Nat)

/-- The R123 stamp at the port's speed. -/
def sfdBase (d : Dev) (p : Nat) (tx : Bool) (boundary : Nat) : Int := boundaryStamp d p tx (d.netp p).speed boundary

/-- The stamped edges of the pin in the window. -/
def sfdEdges (d : Dev) (p : Nat) (tx : Bool) (boundary : Nat) : List Stamp :=
  (lget d.tb.hist (sfdChan p tx)).filter fun x => x.era == stampEra d (sfdBase d p tx boundary) &&
    decide (sfdBase d p tx boundary + sfdAdj d p tx - sfdWin d ≤ x.ec ∧ (x.ec : Int) < sfdBase d p tx boundary + sfdAdj d p tx + sfdWin d)

/-- The device after network stamp `x` of a port and direction is issued. -/
def issued (p : Nat) (tx : Bool) (x : Stamp) (d : Dev) : Dev :=
  { d with tb := { d.tb with issued := sset (fun _ => {}) d.tb.issued (sfdChan p tx + 1) x } }

/-- The network stamp of EC `base` at a speed. -/
def boundaryIssued (r : Root) (p : Nat) (tx : Bool) (base : Int) (speed : Nat) (noPin : Bool) (d : Dev) : Option Stamp × Dev :=
  let x := { stampAt base (sfdChan p tx + 1) speed d with noPin := noPin }
  (some x, issued p tx x (takeStamp r base (sfdChan p tx + 1) speed d).2)

/-- The device after a window of channel `ch` held no edge. -/
def windowMissed (r : Root) (ch : Nat) (d : Dev) : Dev :=
  raise r 98 { d with tb := { d.tb with sfdMiss := nput d.tb.sfdMiss ch (satInc (nget d.tb.sfdMiss ch) 0xFFFF) } }

/-- And after it held several. -/
def windowAmbiguous (r : Root) (ch : Nat) (d : Dev) : Dev :=
  raise r 98 { d with tb := { d.tb with sfdAmbig := nput d.tb.sfdAmbig ch (satInc (nget d.tb.sfdAmbig ch) 0xFFFF) } }

section
variable (r : Root) (p : Nat) (tx : Bool) (boundary : Nat) (yields : Bool) (d : Dev)

/-- The device after the opportunity of TBE point 1. -/
def sfdOffered : Dev := if yields then d else opportunity r .tbe 1 d

theorem sfdOffered_tb : (sfdOffered r yields d).tb = d.tb := by
  unfold sfdOffered
  split
  · rfl
  · exact tb_of (of_opportunity (.of (by decide)) ..)

theorem sfdPair_unpinned (h : d.rb .tbe 0x040 (sfdChan p tx) = false) :
    sfdPair r p tx boundary yields d = boundaryIssued r p tx (sfdBase d p tx boundary) (d.netp p).speed false d := by
  unfold sfdChan at h
  unfold sfdPair
  dsimp only
  rw [h, if_neg (by simp), takeStamp_stamp]
  rfl

theorem sfdPair_open (h : d.rb .tbe 0x040 (sfdChan p tx) = true)
    (ho : (r.ec : Int) < sfdBase d p tx boundary + sfdAdj d p tx + sfdWin d) : sfdPair r p tx boundary yields d = (none, d) := by
  unfold sfdChan at h
  unfold sfdPair
  dsimp only
  rw [h, if_pos rfl, if_pos]
  exact ho

theorem sfdPair_closed (h : d.rb .tbe 0x040 (sfdChan p tx) = true)
    (hc : sfdBase d p tx boundary + sfdAdj d p tx + sfdWin d ≤ r.ec) :
    sfdPair r p tx boundary yields d =
      let missed := boundaryIssued r p tx (sfdBase d p tx boundary) (d.netp p).speed true (windowMissed r (sfdChan p tx) (sfdOffered r yields d))
      if (!yields && injects .tbe 1 d) = true then missed
      else match sfdEdges d p tx boundary with
        | [x] =>
          let y := { x with ec := ecOf ((x.ec : Int) - sfdAdj d p tx), era := stampEra d ((x.ec : Int) - sfdAdj d p tx), point := sfdChan p tx + 1,
                            pin := true, speed := (d.netp p).speed }
          (some y, issued p tx y (sfdOffered r yields d))
        | [] => missed
        | _ => boundaryIssued r p tx (sfdBase d p tx boundary) (d.netp p).speed true (windowAmbiguous r (sfdChan p tx) (sfdOffered r yields d)) := by
  have hoff : (lget (if yields then d else opportunity r .tbe 1 d).tb.hist (2 * p + b2n tx)).filter (fun x =>
      x.era == stampEra d (sfdBase d p tx boundary) && decide (sfdBase d p tx boundary + sfdAdj d p tx - sfdWin d ≤ x.ec ∧
        (x.ec : Int) < sfdBase d p tx boundary + sfdAdj d p tx + sfdWin d)) = sfdEdges d p tx boundary := by
    rw [show (if yields then d else opportunity r .tbe 1 d).tb = d.tb from sfdOffered_tb r yields d]
    rfl
  unfold sfdChan at h
  unfold sfdBase sfdAdj sfdWin at hoff hc
  unfold sfdPair
  dsimp only
  rw [h, if_pos rfl, if_neg (by omega), hoff]
  simp only [takeStamp_stamp]
  cases !yields && injects .tbe 1 d <;> (rcases sfdEdges d p tx boundary with _ | ⟨x, _ | ⟨y, l⟩⟩ <;> rfl)

end

/-! ### The stamp issued, and the counts of the windows -/

/-- The stamp issued last for a port and direction. -/
def Dev.networkStamp (d : Dev) (p : Nat) (tx : Bool) : Stamp := sget (fun _ => {}) d.tb.issued (sfdChan p tx + 1)

theorem networkStamp_issued (p : Nat) (tx : Bool) (x : Stamp) (d : Dev) : (issued p tx x d).networkStamp p tx = x := by
  simp only [Dev.networkStamp, issued, sget_sset_self]

section
variable (r : Root) (p : Nat) (tx : Bool) (base : Int) (speed : Nat) (noPin : Bool) (d : Dev)

theorem boundaryIssued_networkStamp : (boundaryIssued r p tx base speed noPin d).2.networkStamp p tx =
    { stampAt base (sfdChan p tx + 1) speed d with noPin := noPin } := networkStamp_issued ..

theorem boundaryIssued_windows : (boundaryIssued r p tx base speed noPin d).2.tb.sfdMiss = d.tb.sfdMiss ∧
    (boundaryIssued r p tx base speed noPin d).2.tb.sfdAmbig = d.tb.sfdAmbig := by
  obtain ⟨n, hn⟩ := takeStamp_tb r base (sfdChan p tx + 1) speed d
  simp only [boundaryIssued, issued, hn, and_self]

end

theorem windowMissed_count (r : Root) (ch : Nat) (d : Dev) :
    nget (windowMissed r ch d).tb.sfdMiss ch = satInc (nget d.tb.sfdMiss ch) 0xFFFF := by
  rw [windowMissed, raise_tb]
  exact nget_nput_self ..

theorem windowAmbiguous_count (r : Root) (ch : Nat) (d : Dev) :
    nget (windowAmbiguous r ch d).tb.sfdAmbig ch = satInc (nget d.tb.sfdAmbig ch) 0xFFFF := by
  rw [windowAmbiguous, raise_tb]
  exact nget_nput_self ..

end Sys2Proof.Machine

/-! Launch stamps in the records of OUT corridors (R219 to R221, R248). -/

namespace Sys2Proof.Machine

/-! ### Landing writes of an extent without errors (R219 to R221) -/

/-- The extents of `e` are those of `d`, with no Landing word bad that was not. -/
def ExtentsKept (d e : Dev) : Prop := e.lnd.ext = d.lnd.ext ∧ e.lnd.mapUe = d.lnd.mapUe ∧ ∀ w ∈ e.lnd.ue, w ∈ d.lnd.ue

theorem ExtentsKept.of_lnd {d e : Dev} (h : e.lnd = d.lnd) : ExtentsKept d e := by
  unfold ExtentsKept
  rw [h]
  exact ⟨rfl, rfl, fun _ => id⟩

theorem ExtentsKept.trans {d e f : Dev} (h : ExtentsKept d e) (g : ExtentsKept e f) : ExtentsKept d f := by
  obtain ⟨hext, hmap, hue⟩ := h
  obtain ⟨gext, gmap, gue⟩ := g
  exact ⟨gext.trans hext, gmap.trans hmap, fun w hw => hue w (gue w hw)⟩

theorem ExtentsKept.physAt_eq {d e : Dev} (h : ExtentsKept d e) (c off : Nat) : physAt e c off = physAt d c off := by
  simp only [physAt, Dev.ext, h.1]

theorem ExtentsKept.bytesAt_eq {d e : Dev} (h : ExtentsKept d e) (c off : Nat) (l : List Byte) : bytesAt e c off l = bytesAt d c off l := by
  simp only [bytesAt, h.physAt_eq]

theorem ExtentsKept.headWord_eq {d e : Dev} (h : ExtentsKept d e) (m : List Host.Cell) (c pos : Nat) : headWord m e c pos = headWord m d c pos := by
  simp only [headWord, h.physAt_eq]

theorem ExtentsKept.wordBad_of {d e : Dev} (h : ExtentsKept d e) {w : Nat} (hw : wordBad e w = true) : wordBad d w = true := by
  obtain ⟨hext, hmap, hue⟩ := h
  simp only [wordBad, entryNames, entryTread, hext, hmap, Bool.or_eq_true, List.contains_iff_mem] at hw ⊢
  exact hw.imp_left (hue w)

theorem ExtentsKept.clean {d e : Dev} (h : ExtentsKept d e) {c : Nat} (hd : extentClean d c) : extentClean e c := fun off a ha => by
  rw [h.physAt_eq] at ha
  exact Bool.eq_false_iff.mpr fun hw => absurd (h.wordBad_of hw) (by simp [hd off a ha])

theorem extentsKept_ceReport (r : Root) (w : Nat) (d : Dev) : ExtentsKept d (ceReport r w d) := by
  simp only [ExtentsKept, ceReport, raiseIf_lnd]
  exact ⟨rfl, rfl, fun _ => id⟩

theorem extentsKept_ueReport (r : Root) (w : Nat) (d : Dev) : ExtentsKept d (ueReport r w d) := by
  simp only [ExtentsKept, ueReport, raise_lnd]
  split <;> exact ⟨rfl, rfl, fun _ => id⟩

theorem extentsKept_lndWrite (r : Root) (c off : Nat) (bytes : List Byte) (d : Dev) : ExtentsKept d (lndWrite r c off bytes d).1 := by
  unfold lndWrite
  dsimp only
  refine ExtentsKept.trans (e := List.foldl _ d _) (foldl_inv (ExtentsKept d) _ _ _ (.of_lnd rfl) fun x a hx => ?_)
    ⟨rfl, rfl, fun w hw => (List.mem_filter.mp hw).1⟩
  split
  · exact hx.trans (extentsKept_ueReport ..)
  · split
    · exact hx.trans (extentsKept_ceReport ..)
    · exact hx

/-- A write to an extent without errors stores its bytes and nothing else. -/
theorem lndWrite_clean {d : Dev} {c : Nat} (h : extentClean d c) (r : Root) (off : Nat) (bytes : List Byte) :
    (lndWrite r c off bytes d).2 = bytesAt d c off bytes := by
  have hws : ∀ w ∈ wordsOf d c off bytes.length, wordBad d w = false := fun w hw => by
    simp only [wordsOf, List.mem_dedup, List.mem_filterMap, Option.map_eq_some_iff] at hw
    obtain ⟨i, -, a, ha, rfl⟩ := hw
    exact h _ a ha
  have hnone : ∀ part : Nat → Bool, (wordsOf d c off bytes.length).filter (fun w => wordBad d w && part w) = [] := fun part =>
    List.filter_eq_nil_iff.mpr fun w hw => by simp [hws w hw]
  unfold lndWrite
  dsimp only
  rw [hnone]
  rfl

/-! ### The record of a head that has been sent (R248) -/

/-- A completion with DONE keeps the header's other fields. -/
theorem recHeader_done (len h : Nat) : recHeader len 0x80 (h / 2 ^ 32 % 256) (h / 65536) (h % 65536) =
    leBytes 8 (h % 2 ^ 16 + h / 2 ^ 16 % 2 ^ 16 * 2 ^ 16 + h / 2 ^ 32 % 2 ^ 8 * 2 ^ 32 + 0x80 * 2 ^ 40 + len * 2 ^ 48) := by
  have hnum : len * 2 ^ 48 + 0x80 * 2 ^ 40 + h / 2 ^ 32 % 256 * 2 ^ 32 + h / 65536 % 65536 * 65536 + h % 65536 % 65536 =
      h % 2 ^ 16 + h / 2 ^ 16 % 2 ^ 16 * 2 ^ 16 + h / 2 ^ 32 % 2 ^ 8 * 2 ^ 32 + 0x80 * 2 ^ 40 + len * 2 ^ 48 := by omega
  rw [recHeader, hnum]

theorem outFinish_done {m : List Host.Cell} {d : Dev} {c : Nat} (h : extentClean d (consCor c)) (r : Root) (pos len : Nat) :
    (outFinish r m c pos len 0x80 0 d).2 = bytesAt d (consCor c) pos (recHeader len 0x80 (headWord m d c pos / 2 ^ 32 % 256)
      (headWord m d c pos / 65536) (headWord m d c pos % 65536)) := by
  unfold outFinish
  dsimp only
  rw [lndWrite_clean h, if_neg (by decide)]

theorem completion_done (s : State) (c pos len : Nat) : completion s c pos len 0x80 0 = bytesAt s.dev (consCor c) pos
    (recHeader len 0x80 (headWord s.mem s.dev c pos / 2 ^ 32 % 256) (headWord s.mem s.dev c pos / 65536) (headWord s.mem s.dev c pos % 65536)) := by
  rw [completion, if_neg (by decide), recHeader_done]

/-- The slot of a launch stamp. -/
def launchWrites (d : Dev) (c pos i : Nat) (x : Option Stamp) (context : Word) : List MemWr :=
  match x with
  | some x => bytesAt d (consCor c) (pos + 8 + 16 * i) (wordsBytes (stampWords x context))
  | none => []

/-- A launch stamp is written into its slot under a free CONTEXT (log entry 3). -/
def launchPut (r : Root) (c pos i : Nat) (x : Option Stamp) (a : Dev × List MemWr) : Dev × List MemWr :=
  match x with
  | some x =>
    let w := lndWrite r (consCor c) (pos + 8 + 16 * i) (wordsBytes (stampWords x (wd a.1.free))) a.1.drew
    (w.1, a.2 ++ w.2)
  | none => a

theorem stampSlots_eq (r : Root) (c : Nat) (h : OutHead) (d : Dev) :
    stampSlots r c h d = if h.stamp then launchPut r c h.pos 1 h.stB (launchPut r c h.pos 0 h.stA (d, [])) else (d, []) := rfl

theorem launchPut_done {a : Dev × List MemWr} {c : Nat} (h : extentClean a.1 (consCor c)) (r : Root) (pos i : Nat) (x : Option Stamp) :
    ExtentsKept a.1 (launchPut r c pos i x a).1 ∧ ∃ w, (launchPut r c pos i x a).2 = a.2 ++ launchWrites a.1 c pos i x w := by
  cases x with
  | none => exact ⟨.of_lnd rfl, 0, (List.append_nil _).symm⟩
  | some x =>
    have drawn : ExtentsKept a.1 a.1.drew := .of_lnd rfl
    refine ⟨drawn.trans (extentsKept_lndWrite ..), wd a.1.free, ?_⟩
    exact congrArg (a.2 ++ ·) ((lndWrite_clean (drawn.clean h) ..).trans (drawn.bytesAt_eq ..))

theorem ExtentsKept.launchWrites_eq {d e : Dev} (h : ExtentsKept d e) (c pos i : Nat) (x : Option Stamp) (w : Word) :
    launchWrites e c pos i x w = launchWrites d c pos i x w := by
  unfold launchWrites
  split
  · exact h.bytesAt_eq ..
  · rfl

theorem stampSlots_done {d : Dev} {c : Nat} (h : extentClean d (consCor c)) (r : Root) (x : OutHead) :
    ExtentsKept d (stampSlots r c x d).1 ∧ ∃ a b, (stampSlots r c x d).2 =
      if x.stamp then launchWrites d c x.pos 0 x.stA a ++ launchWrites d c x.pos 1 x.stB b else [] := by
  rw [stampSlots_eq]
  split
  · obtain ⟨ka, a, ha⟩ := launchPut_done (a := (d, [])) h r x.pos 0 x.stA
    obtain ⟨kb, b, hb⟩ := launchPut_done (ka.clean h) r x.pos 1 x.stB
    exact ⟨ka.trans kb, a, b, by rw [hb, ha, ka.launchWrites_eq, List.nil_append]⟩
  · exact ⟨.of_lnd rfl, 0, 0, rfl⟩

/-- The head record completes once its stamps stand: they are written first, and then its header. -/
theorem tryComplete_stamped {d : Dev} {c : Nat} {h : OutHead} (hh : d.head c = some h) (hp : h.ports = 0) (hs : h.sent ≠ 0) (hst : h.stamped = true)
    (r : Root) (m : List Host.Cell) : tryComplete r m c d =
      ((outFinish r m c h.pos h.len 0x80 0 ((stampSlots r c h d).1.setHead c none)).1,
        (stampSlots r c h d).2 ++ (outFinish r m c h.pos h.len 0x80 0 ((stampSlots r c h d).1.setHead c none)).2) := by
  simp only [tryComplete, hh, hp, hs, hst, ne_eq, not_true_eq_false, if_false, if_true]

theorem tryComplete_waits {d : Dev} {c : Nat} {h : OutHead} (hh : d.head c = some h) (hp : h.ports = 0) (hs : h.sent ≠ 0) (hst : h.stamped = false)
    (r : Root) (m : List Host.Cell) : tryComplete r m c d = (d, []) := by
  simp only [tryComplete, hh, hp, hs, hst, ne_eq, not_true_eq_false, if_false, Bool.false_eq_true]

/-- The Landing after the record of a head has been sent, from a device with the extents of `s`. -/
theorem recordDone_tryComplete {s t : State} {d : Dev} {c : Nat} {h : OutHead} (hk : ExtentsKept s.dev d) (hh : d.head c = some h) (hp : h.ports = 0)
    (hs : h.sent ≠ 0) (hst : h.stamped = true) {r : Root} (ht : t.mem = memWrites s.mem (tryComplete r s.mem c d).2) : RecordDone s t c h := by
  intro hclean
  obtain ⟨kd, a, b, hslots⟩ := stampSlots_done (hk.clean hclean) r h
  have ke : ExtentsKept s.dev ((stampSlots r c h d).1.setHead c none) := (hk.trans kd).trans (.of_lnd rfl)
  refine ⟨a, b, ?_⟩
  rw [ht, tryComplete_stamped hh hp hs hst]
  dsimp only
  rw [outFinish_done (ke.clean hclean), hslots, ke.bytesAt_eq, ke.headWord_eq, hk.launchWrites_eq, hk.launchWrites_eq, ← completion_done]
  rfl

end Sys2Proof.Machine

/-! SFD_PAIRING, and the obligation on stamps (R123, R124, R127, R248). -/

namespace Sys2Proof.Machine

/-! ### What a network stamp leaves of the timebase (R123, R136, R241, R248) -/

/-- What the stamp is given to lies outside the timebase. -/
theorem of_sfdStamp_pair {π : Part} (h : π.off [.regs, .parityBad, .evc, .lnd, .mon, .log, .net, .ptp, .freeCtr]) (r : Root) (m : List Host.Cell) (p : Nat)
    (tx : Bool) (boundary : Nat) (frag yields : Bool) (d : Dev) :
    π.of (sfdStamp r m p tx boundary frag yields d).1 = π.of (sfdPair r p tx boundary yields d).2 := by
  unfold sfdStamp
  dsimp only
  repeat' split
  all_goals simp_all only [Part.off_one, Part.off_cons, and_self, of_setNetp, of_monTake, of_ptpStamped, of_setHead, of_tryComplete]

theorem sfdStamp_tb (r : Root) (m : List Host.Cell) (p : Nat) (tx : Bool) (boundary : Nat) (frag yields : Bool) (d : Dev) :
    (sfdStamp r m p tx boundary frag yields d).1.tb = (sfdPair r p tx boundary yields d).2.tb := tb_of (of_sfdStamp_pair (.of (by decide)) ..)

/-- No stamp is issued to anything while the pairing waits. -/
theorem sfdStamp_none {r : Root} {p : Nat} {tx : Bool} {boundary : Nat} {yields : Bool} {d : Dev} (h : (sfdPair r p tx boundary yields d).1 = none)
    (m : List Host.Cell) (frag : Bool) : sfdStamp r m p tx boundary frag yields d = ((sfdPair r p tx boundary yields d).2, []) := by
  unfold sfdStamp
  dsimp only
  rw [h]

/-- Nothing waits for the stamp. -/
theorem sfdStamp_unclaimed {r : Root} {p : Nat} {tx : Bool} {boundary : Nat} {frag yields : Bool} {d : Dev}
    (h : if tx then ((sfdPair r p tx boundary yields d).2.netp p).awaitTx = [] else frag = false) (m : List Host.Cell) :
    sfdStamp r m p tx boundary frag yields d = ((sfdPair r p tx boundary yields d).2, []) := by
  unfold sfdStamp
  dsimp only
  cases tx with
  | true =>
    rw [if_pos rfl] at h
    rw [h]
    split <;> simp_all
  | false =>
    rw [if_neg (by simp)] at h
    rw [h]
    split <;> simp_all

theorem net_of {a b : Dev} (h : Part.net.of a = Part.net.of b) : a.net = b.net := Part.same_iff.mpr h

theorem sfdPair_net (r : Root) (p : Nat) (tx : Bool) (boundary : Nat) (yields : Bool) (d : Dev) : (sfdPair r p tx boundary yields d).2.net = d.net :=
  net_of (of_sfdPair (.of (by decide)) ..)

theorem networkStamp_of_tb {a b : Dev} (h : a.tb = b.tb) (p : Nat) (tx : Bool) : a.networkStamp p tx = b.networkStamp p tx := by
  simp only [Dev.networkStamp, h]

/-- The stamp of a first fragment received is kept for its frame (R241). -/
theorem sfdStamp_frag {r : Root} {p : Nat} {boundary : Nat} {yields : Bool} {d : Dev} {x : Stamp} (h : (sfdPair r p false boundary yields d).1 = some x)
    (m : List Host.Cell) : ((sfdStamp r m p false boundary true yields d).1.netp p).fragRx = x := by
  unfold sfdStamp
  dsimp only
  rw [h]
  simp [Dev.setNetp, Dev.netp, Dev.netMap, sget_sset_self]

/-- A head with the launch stamp of a port. -/
def OutHead.launched (p : Nat) (x : Stamp) (h : OutHead) : OutHead := if p = 0 then { h with stA := some x } else { h with stB := some x }

/-- The device once the record of corridor `c` has its launch stamp, which no longer waits. -/
def headLaunched (p c : Nat) (rest : List StampFor) (x : Stamp) (h : OutHead) (d : Dev) : Dev :=
  (d.setNetp p { d.netp p with awaitTx := rest }).setHead c (some (h.launched p x))

theorem headLaunched_head (p c : Nat) (rest : List StampFor) (x : Stamp) (h : OutHead) (d : Dev) :
    (headLaunched p c rest x h d).head c = some (h.launched p x) := by
  simp [headLaunched, Dev.setHead, Dev.head, Dev.netMap, sget_sset_self]

theorem head_setNetp (d : Dev) (p c : Nat) (x : NetP) : (d.setNetp p x).head c = d.head c := rfl

/-- The launch stamp of a gallery's frame goes to the head record of its corridor (R248). -/
theorem sfdStamp_gallery {r : Root} {p boundary c : Nat} {yields : Bool} {d : Dev} {x : Stamp} {rest : List StampFor} {h : OutHead}
    (hx : (sfdPair r p true boundary yields d).1 = some x) (hw : (d.netp p).awaitTx = .gallery c :: rest) (hh : d.head c = some h) (m : List Host.Cell)
    (frag : Bool) : sfdStamp r m p true boundary frag yields d = tryComplete r m c (headLaunched p c rest x h (sfdPair r p true boundary yields d).2) := by
  have hnet := sfdPair_net r p true boundary yields d
  have hw' : ((sfdPair r p true boundary yields d).2.netp p).awaitTx = .gallery c :: rest := by simpa only [Dev.netp, hnet] using hw
  have hh' : (sfdPair r p true boundary yields d).2.head c = some h := by simpa only [Dev.head, hnet] using hh
  unfold sfdStamp
  dsimp only
  rw [hx, hw']
  dsimp only
  rw [head_setNetp, hh']
  rfl

/-- A record that completes leaves of the network's state all but its head. -/
theorem tryComplete_stamped_net {d : Dev} {c : Nat} {h : OutHead} (hh : d.head c = some h) (hp : h.ports = 0) (hs : h.sent ≠ 0)
    (hst : h.stamped = true) (r : Root) (m : List Host.Cell) : (tryComplete r m c d).1.net = (d.setHead c none).net := by
  have hslots : (stampSlots r c h d).1.net = d.net := net_of (of_stampSlots (.of (by decide)) ..)
  rw [tryComplete_stamped hh hp hs hst]
  refine (net_of (of_outFinish (.of (by decide)) ..)).trans ?_
  simp only [Dev.setHead, Dev.netMap, hslots]

theorem lnd_of {a b : Dev} (h : Part.lnd.of a = Part.lnd.of b) : a.lnd = b.lnd := Part.same_iff.mpr h

theorem headLaunched_lnd (p c : Nat) (rest : List StampFor) (x : Stamp) (h : OutHead) {d e : Dev} (hl : d.lnd = e.lnd) :
    (headLaunched p c rest x h d).lnd = e.lnd := hl

theorem headLaunched_awaitTx (p c : Nat) (rest : List StampFor) (x : Stamp) (h : OutHead) (d : Dev) :
    ((headLaunched p c rest x h d).netp p).awaitTx = rest := by
  simp [headLaunched, Dev.setHead, Dev.setNetp, Dev.netp, Dev.netMap, sget_sset_self]

theorem launched_ports (p : Nat) (x : Stamp) (h : OutHead) : (h.launched p x).ports = h.ports ∧ (h.launched p x).sent = h.sent := by
  unfold OutHead.launched
  split <;> exact ⟨rfl, rfl⟩

/-- With its launch stamp a head record completes or waits for the other port's. -/
theorem tryComplete_launched {s : State} {p c : Nat} {rest : List StampFor} {x : Stamp} {h : OutHead} (hp : h.ports = 0) (hs : h.sent ≠ 0) (d : Dev)
    (hk : ExtentsKept s.dev (headLaunched p c rest x h d)) :
    let w := tryComplete s.root s.mem c (headLaunched p c rest x h d)
    let t : State := { s with dev := w.1, mem := memWrites s.mem w.2 }
    (t.dev.netp p).awaitTx = rest ∧ ((h.launched p x).stamped = true → t.dev.head c = none ∧ RecordDone s t c (h.launched p x)) ∧
      ((h.launched p x).stamped = false → t.mem = s.mem ∧ t.dev.head c = some (h.launched p x)) := by
  obtain ⟨hports, hsent⟩ := launched_ports p x h
  have hhead := headLaunched_head p c rest x h d
  have hwait := headLaunched_awaitTx p c rest x h d
  cases hst : (h.launched p x).stamped with
  | true =>
    have hnet := tryComplete_stamped_net hhead (hports.trans hp) (hsent ▸ hs) hst s.root s.mem
    refine ⟨?_, fun _ => ⟨?_, recordDone_tryComplete hk hhead (hports.trans hp) (hsent ▸ hs) hst rfl⟩, nofun⟩
    · simp only [Dev.netp, hnet]
      exact hwait
    · simp only [Dev.head, hnet, Dev.setHead, Dev.netMap, sget_sset_self]
  | false =>
    dsimp only
    rw [tryComplete_waits hhead (hports.trans hp) (hsent ▸ hs) hst]
    exact ⟨hwait, nofun, fun _ => ⟨rfl, hhead⟩⟩

/-! ### The commands -/

theorem completes_sfdPairing {s : State} {p : Port} {tx : Bool} {b : Crossing} {P : State → Prop} (hon : s.root.coreOn = true)
    (h : ∀ pg ln, let w := sfdStamp s.root s.mem p tx b.ec b.frag (sfdYields s.dev p tx b.ec (sfdWaiting s.pending)) { s.dev with page := pg, lines := ln }
      P { s with dev := w.1, mem := memWrites s.mem w.2 }) : Completes (.sfdPairing p tx b) s P := by
  refine ⟨_, (onMem_on hon : execSfdPairing p tx b s = _), ?_⟩
  rw [pageUse_eq]
  exact h _ _

/-- A valid stamp that no injection spoils reports no more than the use of its page. -/
theorem takeStamp_valid (r : Root) (e : Int) (point speed : Nat) {d : Dev} (htrack : d.tb.trackFail = false) (hinj : injects .tbe 0 d = false) :
    (takeStamp r e point speed d).2 = pageUse r .tbe [0x018, 0x01C] d := by
  simp [takeStamp, htrack, hinj, opportunity_idle]

theorem boundaryIssued_valid (r : Root) (p : Nat) (tx : Bool) (base : Int) (speed : Nat) (noPin : Bool) {d : Dev} (htrack : d.tb.trackFail = false)
    (hinj : injects .tbe 0 d = false) : (boundaryIssued r p tx base speed noPin d).2 =
      { d with
        tb := (boundaryIssued r p tx base speed noPin d).2.tb
        page := (boundaryIssued r p tx base speed noPin d).2.page
        lines := (boundaryIssued r p tx base speed noPin d).2.lines } := by
  simp only [boundaryIssued, issued]
  rw [takeStamp_valid _ _ _ _ htrack hinj, pageUse_eq]

theorem issued_windows (p : Nat) (tx : Bool) (x : Stamp) (d : Dev) :
    (issued p tx x d).tb.sfdMiss = d.tb.sfdMiss ∧ (issued p tx x d).tb.sfdAmbig = d.tb.sfdAmbig := ⟨rfl, rfl⟩

section
variable {s : State} {p : Port} {tx frag : Bool} {boundary : Nat}

/-- Without the pin the stamp is the boundary's, and goes to what waits for it. -/
theorem sfdPairing_unpinned (hon : s.root.coreOn = true) (h : s.dev.rb .tbe 0x040 (sfdChan p tx) = false) :
    Completes (.sfdPairing p tx ⟨boundary, frag⟩) s fun t =>
      let base := sfdBase s.dev p tx boundary
      let x := t.dev.networkStamp p tx
      x.ec = ecOf base ∧ x.era = stampEra s.dev base ∧ x.point = sfdChan p tx + 1 ∧ x.valid = (!s.dev.tb.trackFail && !injects .tbe 0 s.dev) ∧
      x.pin = false ∧ x.noPin = false ∧ x.speed = (s.dev.netp p).speed ∧ t.root = s.root ∧ t.pending = s.pending ∧
      (frag = true → tx = false → (t.dev.netp p).fragRx = x) ∧
      (∀ c rest h, tx = true → (s.dev.netp p).awaitTx = .gallery c :: rest → s.dev.head c = some h → h.ports = 0 → h.sent ≠ 0 →
        (t.dev.netp p).awaitTx = rest ∧ ((h.launched p x).stamped = true → t.dev.head c = none ∧ RecordDone s t c (h.launched p x)) ∧
          ((h.launched p x).stamped = false → t.mem = s.mem ∧ t.dev.head c = some (h.launched p x))) := by
  refine completes_sfdPairing hon fun pg ln => ?_
  generalize sfdYields .. = yields
  have hpair := sfdPair_unpinned s.root p tx boundary yields { s.dev with page := pg, lines := ln } h
  have hsome := congrArg Prod.fst hpair
  have hx := (networkStamp_of_tb (sfdStamp_tb s.root s.mem p tx boundary frag yields { s.dev with page := pg, lines := ln }) p tx).trans
    ((congrArg (fun q => q.2.networkStamp p tx) hpair).trans (boundaryIssued_networkStamp ..))
  dsimp only
  rw [hx]
  refine ⟨rfl, rfl, rfl, rfl, rfl, rfl, rfl, rfl, rfl, fun hfrag htx => ?_, fun c rest h htx hw hh hports hsent => ?_⟩
  · subst hfrag htx
    exact sfdStamp_frag hsome s.mem
  · subst htx
    rw [sfdStamp_gallery hsome hw hh s.mem frag]
    exact tryComplete_launched hports hsent _ (.of_lnd (headLaunched_lnd _ _ _ _ _ (lnd_of (of_sfdPair (.of (by decide)) ..))))

/-- Without the pin and with nothing waiting for the stamp, the timebase alone changes. -/
theorem sfdPairing_unclaimed (hon : s.root.coreOn = true) (h : s.dev.rb .tbe 0x040 (sfdChan p tx) = false) (htrack : s.dev.tb.trackFail = false)
    (hinj : injects .tbe 0 s.dev = false) (hfree : if tx then (s.dev.netp p).awaitTx = [] else frag = false) :
    Completes (.sfdPairing p tx ⟨boundary, frag⟩) s fun t =>
      (t.dev.networkStamp p tx).ec = ecOf ((boundary : Int) + (if tx then 1 else -1) * (fld (phyLat s.dev p tx (s.dev.netp p).speed) 19 0 * 4 : Nat)) ∧
      DevOnly s t ∧ t.dev = { s.dev with tb := t.dev.tb, page := t.dev.page, lines := t.dev.lines } := by
  refine completes_sfdPairing hon fun pg ln => ?_
  generalize sfdYields .. = yields
  have hpair := sfdPair_unpinned s.root p tx boundary yields { s.dev with page := pg, lines := ln } h
  have hnet := sfdPair_net s.root p tx boundary yields { s.dev with page := pg, lines := ln }
  dsimp only
  rw [sfdStamp_unclaimed (by simpa only [Dev.netp, hnet] using hfree) s.mem, hpair]
  refine ⟨?_, ⟨rfl, rfl, rfl⟩, ?_⟩
  · rw [boundaryIssued_networkStamp]
    change ecOf (sfdBase s.dev p tx boundary) = _
    rw [sfdBase, boundaryStamp, htrack]
    rfl
  · rw [boundaryIssued_valid (d := { s.dev with page := pg, lines := ln }) _ _ _ _ _ _ htrack hinj]

/-- While its window is open a pairing waits. -/
theorem sfdPairing_open (hon : s.root.coreOn = true) (h : s.dev.rb .tbe 0x040 (sfdChan p tx) = true)
    (ho : (s.root.ec : Int) < sfdBase s.dev p tx boundary + sfdAdj s.dev p tx + sfdWin s.dev) :
    Completes (.sfdPairing p tx ⟨boundary, frag⟩) s fun t => DevOnly s t ∧ t.dev = { s.dev with page := t.dev.page, lines := t.dev.lines } := by
  refine completes_sfdPairing hon fun pg ln => ?_
  generalize sfdYields .. = yields
  have hpair := sfdPair_open s.root p tx boundary yields { s.dev with page := pg, lines := ln } h ho
  dsimp only
  rw [sfdStamp_none (congrArg Prod.fst hpair), hpair]
  exact ⟨⟨rfl, rfl, rfl⟩, rfl⟩

/-- A skipped pairing issues the boundary's stamp with NO_PIN (R363). -/
theorem sfdPairing_skipped (hon : s.root.coreOn = true) (h : s.dev.rb .tbe 0x040 (sfdChan p tx) = true)
    (hc : sfdBase s.dev p tx boundary + sfdAdj s.dev p tx + sfdWin s.dev ≤ s.root.ec) (hinj : injects .tbe 1 s.dev = true)
    (hy : sfdYields s.dev p tx boundary (sfdWaiting s.pending) = false) :
    Completes (.sfdPairing p tx ⟨boundary, frag⟩) s fun t =>
      let x := t.dev.networkStamp p tx
      x.ec = ecOf (sfdBase s.dev p tx boundary) ∧ x.noPin = true ∧ x.pin = false ∧
      nget t.dev.tb.sfdMiss (sfdChan p tx) = satInc (nget s.dev.tb.sfdMiss (sfdChan p tx)) 0xFFFF := by
  refine completes_sfdPairing hon fun pg ln => ?_
  have hpair := sfdPair_closed s.root p tx boundary false { s.dev with page := pg, lines := ln } h hc
  rw [if_pos (show (!false && injects .tbe 1 { s.dev with page := pg, lines := ln }) = true from hinj)] at hpair
  have htb := sfdStamp_tb s.root s.mem p tx boundary frag false { s.dev with page := pg, lines := ln }
  dsimp only
  rw [hy, networkStamp_of_tb htb, htb, hpair, boundaryIssued_networkStamp, (boundaryIssued_windows ..).1, windowMissed_count, sfdOffered_tb]
  exact ⟨rfl, rfl, rfl, rfl⟩

/-- A judged pairing takes the one edge in its window, or the boundary's stamp with NO_PIN (R124). -/
theorem sfdPairing_judged (hon : s.root.coreOn = true) (h : s.dev.rb .tbe 0x040 (sfdChan p tx) = true)
    (hc : sfdBase s.dev p tx boundary + sfdAdj s.dev p tx + sfdWin s.dev ≤ s.root.ec)
    (hj : injects .tbe 1 s.dev = false ∨ sfdYields s.dev p tx boundary (sfdWaiting s.pending) = true) :
    Completes (.sfdPairing p tx ⟨boundary, frag⟩) s fun t =>
      let x := t.dev.networkStamp p tx
      x.point = sfdChan p tx + 1 ∧
      (∀ e, sfdEdges s.dev p tx boundary = [e] → x.ec = ecOf ((e.ec : Int) - sfdAdj s.dev p tx) ∧ x.pin = true ∧
        nget t.dev.tb.sfdMiss (sfdChan p tx) = nget s.dev.tb.sfdMiss (sfdChan p tx) ∧
        nget t.dev.tb.sfdAmbig (sfdChan p tx) = nget s.dev.tb.sfdAmbig (sfdChan p tx)) ∧
      ((sfdEdges s.dev p tx boundary).length ≠ 1 → x.ec = ecOf (sfdBase s.dev p tx boundary) ∧ x.noPin = true ∧ x.pin = false) ∧
      (sfdEdges s.dev p tx boundary = [] → nget t.dev.tb.sfdMiss (sfdChan p tx) = satInc (nget s.dev.tb.sfdMiss (sfdChan p tx)) 0xFFFF) ∧
      (2 ≤ (sfdEdges s.dev p tx boundary).length →
        nget t.dev.tb.sfdAmbig (sfdChan p tx) = satInc (nget s.dev.tb.sfdAmbig (sfdChan p tx)) 0xFFFF) := by
  refine completes_sfdPairing hon fun pg ln => ?_
  have hskip : ¬((!sfdYields s.dev p tx boundary (sfdWaiting s.pending) && injects .tbe 1 s.dev) = true) := by
    rcases hj with hj | hj <;> simp [hj]
  generalize sfdYields .. = yields at hskip ⊢
  have hpair := sfdPair_closed s.root p tx boundary yields { s.dev with page := pg, lines := ln } h hc
  have htb := sfdStamp_tb s.root s.mem p tx boundary frag yields { s.dev with page := pg, lines := ln }
  have hedges : sfdEdges { s.dev with page := pg, lines := ln } p tx boundary = sfdEdges s.dev p tx boundary := rfl
  rw [if_neg (show ¬((!yields && injects .tbe 1 { s.dev with page := pg, lines := ln }) = true) from hskip), hedges] at hpair
  dsimp only
  rw [networkStamp_of_tb htb, htb, hpair]
  rcases sfdEdges s.dev p tx boundary with _ | ⟨e, _ | ⟨e', l⟩⟩
  · dsimp only
    rw [boundaryIssued_networkStamp, (boundaryIssued_windows ..).1, windowMissed_count, sfdOffered_tb]
    exact ⟨rfl, nofun, fun _ => ⟨rfl, rfl, rfl⟩, fun _ => rfl, fun h => absurd h (by simp)⟩
  · dsimp only
    rw [networkStamp_issued, (issued_windows ..).1, (issued_windows ..).2, sfdOffered_tb]
    refine ⟨rfl, fun x hx => ?_, fun h => absurd rfl h, nofun, fun h => absurd h (by simp)⟩
    obtain rfl := List.singleton_injective hx
    exact ⟨rfl, rfl, rfl, rfl⟩
  · dsimp only
    rw [boundaryIssued_networkStamp, (boundaryIssued_windows ..).2, windowAmbiguous_count, sfdOffered_tb]
    exact ⟨rfl, nofun, fun _ => ⟨rfl, rfl, rfl⟩, nofun, fun _ => rfl⟩

end

/-- Settles O29: an edge is ignored, counted towards DIV, missed or stamped; a network stamp waits for its window, and is the boundary's or the pin's. -/
theorem stampsAreTaken : Obligations.StampsAreTaken := by
  intro s hon
  refine ⟨fun ch tap rising hbank hs => ⟨fun hcounts => ?_, tdcStamp_counts hon hbank hs⟩, fun ch tap rising => tdcStamp_unchanged hon,
    tdcTapMeasure_completes hon, fun p boundary tx frag => ?_, fun g => tbeSnapRead_completes⟩
  · have hc := edgeCounted_counts hcounts
    exact ⟨tdcStamp_stamps hon hbank hs hc, tdcStamp_misses hon hbank hs hc⟩
  · exact ⟨sfdPairing_unpinned hon, sfdPairing_unclaimed hon, sfdPairing_open hon, sfdPairing_skipped hon, sfdPairing_judged hon⟩

end Sys2Proof.Machine

/-! PTP messages received: the parent's Sync and Follow_Up, and the answer to a Delay_Req (R125, R131 to R134, R139 to R141). -/

namespace Sys2Proof.Machine

/-! ### An engine's own state -/

theorem ptpn_setPtp (d : Dev) (n : Nat) (x : Ptp) : (d.setPtp n x).ptpn n = x := by
  simp only [Dev.ptpn, Dev.setPtp, sget_sset_self]

theorem ptpn_of {a b : Dev} (h : Part.ptp.of a = Part.ptp.of b) (n : Nat) : a.ptpn n = b.ptpn n := by
  have h : a.ptp = b.ptp := Part.same_iff.mpr h
  simp only [Dev.ptpn, h]

/-- An engine with counter `k` one higher (R139). -/
def Ptp.counted (k : Nat) (x : Ptp) : Ptp := { x with cnt := nput x.cnt k (satInc (nget x.cnt k) (if k < 6 then 0xFFFF else 0xFF)) }

theorem ptpCount_ptpn (n k : Nat) (d : Dev) : (ptpCount n k d).ptpn n = (d.ptpn n).counted k := ptpn_setPtp ..

theorem counted_self (k : Nat) (x : Ptp) : nget (x.counted k).cnt k = satInc (nget x.cnt k) (if k < 6 then 0xFFFF else 0xFF) := nget_nput_self ..

theorem counted_other {j k : Nat} (h : j ≠ k) (x : Ptp) : nget (x.counted k).cnt j = nget x.cnt j := sget_sset_other _ _ _ _ _ h

/-! ### What the servo makes of it (R141 to R150) -/

section
variable (r : Root) (n : Nat) (d : Dev)

/-- A sample leaves of the engines' state all but its engine's mean delay. -/
theorem srvSample_ptp (theta t1 delay : Int) :
    Part.ptp.of (srvSample r n theta t1 delay d) = Part.ptp.of (d.setPtp n { d.ptpn n with meanDelay := delay }) := by
  unfold srvSample
  dsimp only
  generalize (if injects (.srv n) 0 d = true then _ else theta) = th
  generalize hd2 : (opportunity r (.srv n) 0 d).setSrv n _ = d2
  have h2 : d2.ptp = d.ptp := by
    rw [← hd2]
    exact Part.same_iff.mpr ((of_setSrv (π := .ptp) (.of (by decide)) ..).trans (of_opportunity (.of (by decide)) ..))
  have h3 : Part.ptp.of (d2.setPtp n { d2.ptpn n with meanDelay := delay }) = Part.ptp.of (d.setPtp n { d.ptpn n with meanDelay := delay }) :=
    Part.same_iff.mp (by simp only [Part.same, Dev.setPtp, Dev.ptpn, h2])
  have off : Part.ptp.off [.regs, .parityBad, .evc, .tb, .mon, .log, .srv, .ref, .freeCtr] := .of (by decide)
  simp only [Part.off_cons, Part.off_one] at off
  split <;> simp_all only [Part.off_one, Part.off_cons, and_self, of_monTake, of_setSrv, of_refTheta, of_srvUse, of_srvEstimate, Part.of_ite, ite_self]

/-- A Sync's sample leaves of the engine's state all but its mean delay. -/
theorem srvSync_ptpn (y : SyncRx) : ∃ v, (srvSync r n y d).ptpn n = { d.ptpn n with meanDelay := v } := by
  have set : ∀ x, (d.setSrv n x).ptpn n = d.ptpn n := fun x => ptpn_of (of_setSrv (.of (by decide)) ..) n
  unfold srvSync
  dsimp only
  split
  · exact ⟨_, rfl⟩
  · split
    · exact ⟨_, (ptpn_of (of_setSrv (.of (by decide)) ..) n).trans (set _)⟩
    · split
      next => exact ⟨_, set _⟩
      next dl _ => exact ⟨dl, by rw [ptpn_of (srvSample_ptp ..), ptpn_setPtp, set]⟩

theorem syncDone_good {y : SyncRx} (h : ptpGood d y.stamp = true) :
    ∃ v, (syncDone r n y d).ptpn n = { d.ptpn n with lastSync := some y, meanDelay := v } := by
  obtain ⟨v, hv⟩ := srvSync_ptpn r n (d.setPtp n { d.ptpn n with lastSync := some y }) y
  rw [ptpn_setPtp] at hv
  exact ⟨v, by rw [syncDone, if_pos h, hv]⟩

theorem syncDone_bad {y : SyncRx} (h : ptpGood d y.stamp = false) : (syncDone r n y d).ptpn n = (d.ptpn n).counted 8 := by
  rw [syncDone, if_neg (by simp [h]), ptpCount_ptpn]

theorem ptpLost_ptpn : (ptpLost r n d).ptpn n = if (d.ptpn n).st = 2 then { d.ptpn n with st := 1, waitFU := none } else d.ptpn n := by
  unfold ptpLost
  dsimp only
  split
  · rw [ptpn_of (of_srvNoSync (.of (by decide)) ..), ptpn_of (of_raise (.of (by decide)) ..), ptpn_setPtp]
  · rfl

theorem srvSettle_ptpn : (srvSettle n d).ptpn n = d.ptpn n := ptpn_of (of_srvSettle (.of (by decide)) ..) n

end

/-! ### The head of an engine's messages -/

/-- The device with the head of an engine's messages taken, and the uses of its page reported as in `u`. -/
def rxTaken (d u : Dev) (n : Nat) (q : List PtpRx) : Dev :=
  ({ d with page := u.page, lines := u.lines } : Dev).setPtp n { d.ptpn n with rxQ := q }

theorem rxTaken_ptpn (d u : Dev) (n : Nat) (q : List PtpRx) : (rxTaken d u n q).ptpn n = { d.ptpn n with rxQ := q } := ptpn_setPtp ..

theorem completes_ptpTake {i : Instr} {s : State} {n : Nat} {m : PtpRx} {q : List PtpRx} {types ws : List Nat} {f : Root → PtpRx → Dev → Dev}
    {P : State → Prop} (hi : exec i s = onDev (fun r d => ptpTake types (f r) n (pageUse r (.ptp n) ws d)) s) (hon : s.root.coreOn = true)
    (hq : (s.dev.ptpn n).rxQ = m :: q) (ht : types.contains (pType m) = true) (h : ∀ u, P { s with dev := f s.root m (rxTaken s.dev u n q) }) :
    Completes i s P := by
  have taken : ∀ u : Dev, ptpTake types (f s.root) n { s.dev with page := u.page, lines := u.lines } = f s.root m (rxTaken s.dev u n q) := fun u => by
    have hq' : (({ s.dev with page := u.page, lines := u.lines } : Dev).ptpn n).rxQ = m :: q := hq
    unfold ptpTake
    dsimp only
    rw [hq']
    exact if_pos ht
  refine completes_onDev hon hi ?_
  rw [pageUse_eq, taken]
  exact h _

/-! ### SYNC_RX (R132, R133, R139) -/

/-- A RECEIVING engine has timed out (R139). -/
def Ptp.timedOut (x : Ptp) : Ptp := { x.counted 6 with st := 1, waitFU := none }

/-- What a Sync says of its exchange. -/
def syncOf (m : PtpRx) : SyncRx := { seq := pSeq m, stamp := m.stamp, t1 := pTime m, corr := pCorr m }

/-- An engine that takes a Sync. -/
def Ptp.synced (r : Root) (m : PtpRx) (x : Ptp) : Ptp :=
  { x with st := 2, oneStepRx := !pTwoStep m, syncEC := m.stamp.ec, parentAddr := m.src, waitFU := if pTwoStep m then some (syncOf m) else none,
           dreqAt := if x.dreqAt.isNone then some r.ec else x.dreqAt }.counted 0

section
variable {r : Root} {n : Nat} {m : PtpRx} {d : Dev}

theorem lateLost_ptpn (ec : Nat) : ((if syncLate d n ec then ptpLost r n (ptpCount n 6 d) else d : Dev).ptpn n) =
    if syncLate d n ec then (d.ptpn n).timedOut else d.ptpn n := by
  split
  next h =>
    have hst : ((d.ptpn n).counted 6).st = 2 := (of_decide_eq_true h).1
    rw [ptpLost_ptpn, ptpCount_ptpn, if_pos hst]
    rfl
  next => rfl

/-- A Sync of the parent. -/
theorem syncRx_ptpn (hst : (d.ptpn n).st = 1 ∨ (d.ptpn n).st = 2) (hpar : m.par = true) (hsrc : pSrc m = ptpParent d n) : ∃ v l,
    (syncRx r n m d).ptpn n =
      let y := (if syncLate d n m.stamp.ec then (d.ptpn n).timedOut else d.ptpn n).synced r m
      if pTwoStep m then y else if ptpGood d m.stamp then { y with lastSync := l, meanDelay := v } else y.counted 8 := by
  unfold syncRx
  dsimp only
  rw [if_neg (not_not_intro hst), hpar, if_neg (by simp), if_neg (not_not_intro hsrc)]
  generalize hd1 : (if syncLate d n m.stamp.ec then ptpLost r n (ptpCount n 6 d) else d : Dev) = d1
  have hx : d1.ptpn n = if syncLate d n m.stamp.ec then (d.ptpn n).timedOut else d.ptpn n := hd1 ▸ lateLost_ptpn m.stamp.ec
  rw [hx]
  generalize hx1 : (if syncLate d n m.stamp.ec then (d.ptpn n).timedOut else d.ptpn n) = x
  generalize hd2 : srvSettle n _ = d2
  have htb : d2.tb = d.tb := by
    have h1 : Part.tb.of d1 = Part.tb.of d := by
      rw [← hd1]
      split
      · exact (of_ptpLost (.of (by decide)) ..).trans (of_ptpCount (.of (by decide)) ..)
      · rfl
    rw [← hd2]
    exact tb_of ((of_srvSettle (.of (by decide)) ..).trans ((of_ptpCount (.of (by decide)) ..).trans ((of_setPtp (.of (by decide)) ..).trans h1)))
  have hx2 : d2.ptpn n = x.synced r m := by
    rw [← hd2, srvSettle_ptpn, ptpCount_ptpn, ptpn_setPtp]
    rfl
  have hgood : ptpGood d2 m.stamp = ptpGood d m.stamp := by rw [ptpGood, ptpGood, htb]
  cases pTwoStep m with
  | true => exact ⟨0, none, hx2⟩
  | false =>
    cases hg : ptpGood d m.stamp with
    | true =>
      obtain ⟨v, hv⟩ := syncDone_good r n d2 (y := syncOf m) (hgood.trans hg)
      exact ⟨v, some (syncOf m), by rw [← hx2]; exact hv⟩
    | false => exact ⟨0, none, by rw [← hx2]; exact syncDone_bad r n d2 (y := syncOf m) (hgood.trans hg)⟩

/-- What a message of the parent does, `e`, an engine does for no other (R132): one without a parent counts it. -/
def parentOnly (n : Nat) (m : PtpRx) (d e : Dev) : Dev :=
  if ¬((d.ptpn n).st = 1 ∨ (d.ptpn n).st = 2) then d else if !m.par then ptpCount n 4 d else if pSrc m ≠ ptpParent d n then d else e

theorem parentOnly_stopped {e : Dev} (hst : ¬((d.ptpn n).st = 1 ∨ (d.ptpn n).st = 2)) : parentOnly n m d e = d := if_pos hst

theorem parentOnly_orphan {e : Dev} (hst : (d.ptpn n).st = 1 ∨ (d.ptpn n).st = 2) (h : m.par = false) : parentOnly n m d e = ptpCount n 4 d := by
  rw [parentOnly, if_neg (not_not_intro hst), h, if_pos (by decide)]

theorem parentOnly_stranger {e : Dev} (hst : (d.ptpn n).st = 1 ∨ (d.ptpn n).st = 2) (hpar : m.par = true) (h : pSrc m ≠ ptpParent d n) :
    parentOnly n m d e = d := by
  rw [parentOnly, if_neg (not_not_intro hst), hpar, if_neg (by decide), if_pos h]

theorem syncRx_parentOnly (r : Root) (n : Nat) (m : PtpRx) (d : Dev) : ∃ e, syncRx r n m d = parentOnly n m d e := ⟨_, rfl⟩

end

/-- Counter `k` of an engine goes up by one, to its width at most. -/
def CountsUp (n k : Nat) (s t : State) : Prop :=
  nget (t.dev.ptpn n).cnt k = satInc (nget (s.dev.ptpn n).cnt k) (if k < 6 then 0xFFFF else 0xFF)

theorem countsUp_of {n k : Nat} {s t : State} {y : Ptp} (hy : t.dev.ptpn n = y)
    (h : nget y.cnt k = satInc (nget (s.dev.ptpn n).cnt k) (if k < 6 then 0xFFFF else 0xFF)) : CountsUp n k s t := by
  rw [CountsUp, hy, h]

/-- An engine that took a Sync in time or late. -/
theorem synced_counts (r : Root) (m : PtpRx) (late : Bool) (x : Ptp) :
    let y := (if late then x.timedOut else x).synced r m
    nget y.cnt 0 = satInc (nget x.cnt 0) 0xFFFF ∧ nget y.cnt 8 = nget x.cnt 8 ∧ (late = true → nget y.cnt 6 = satInc (nget x.cnt 6) 0xFF) ∧
      y.rxQ = x.rxQ := by
  have h0 : ∀ z : Ptp, nget (z.synced r m).cnt 0 = satInc (nget z.cnt 0) 0xFFFF := fun z => counted_self 0 _
  have hk : ∀ (z : Ptp) (k : Nat), k ≠ 0 → nget (z.synced r m).cnt k = nget z.cnt k := fun z k h => counted_other h _
  have hlate : ∀ k, k ≠ 6 → nget x.timedOut.cnt k = nget x.cnt k := fun k h => counted_other h x
  cases late with
  | true => exact ⟨(h0 _).trans (by rw [if_pos rfl, hlate 0 (by decide)]), (hk _ 8 (by decide)).trans (hlate 8 (by decide)),
      fun _ => (hk _ 6 (by decide)).trans (counted_self 6 x), rfl⟩
  | false => exact ⟨h0 _, hk _ 8 (by decide), nofun, rfl⟩

/-- The engine once it has taken a Sync of its parent. -/
theorem syncRx_taken {r : Root} {n : Nat} {m : PtpRx} {d : Dev} (hst : (d.ptpn n).st = 1 ∨ (d.ptpn n).st = 2) (hpar : m.par = true)
    (hsrc : pSrc m = ptpParent d n) :
    ∃ z, (syncRx r n m d).ptpn n = z ∧ z.rxQ = (d.ptpn n).rxQ ∧ z.st = 2 ∧ z.syncEC = m.stamp.ec ∧ z.oneStepRx = !pTwoStep m ∧
      nget z.cnt 0 = satInc (nget (d.ptpn n).cnt 0) 0xFFFF ∧ (pTwoStep m = true → z.waitFU = some (syncOf m)) ∧
      (pTwoStep m = false → ptpGood d m.stamp = false → nget z.cnt 8 = satInc (nget (d.ptpn n).cnt 8) 0xFF) ∧
      (syncLate d n m.stamp.ec = true → nget z.cnt 6 = satInc (nget (d.ptpn n).cnt 6) 0xFF) := by
  obtain ⟨v, l, he⟩ := syncRx_ptpn (r := r) hst hpar hsrc
  obtain ⟨h0, h8, h6, hrx⟩ := synced_counts r m (syncLate d n m.stamp.ec) (d.ptpn n)
  have hwait : ∀ x : Ptp, (x.synced r m).waitFU = if pTwoStep m then some (syncOf m) else none := fun _ => rfl
  refine ⟨_, he, ?_⟩
  dsimp only
  split
  next h2 => exact ⟨hrx, rfl, rfl, rfl, h0, fun _ => (hwait _).trans (if_pos h2), fun h => by simp [h2] at h, h6⟩
  next h2 =>
    split
    next hg => exact ⟨hrx, rfl, rfl, rfl, h0, fun h => absurd h h2, fun _ h => by simp [hg] at h, h6⟩
    next =>
      exact ⟨hrx, rfl, rfl, rfl, (counted_other (by decide) _).trans h0, fun h => absurd h h2, fun _ _ => (counted_self 8 _).trans (by rw [h8]; rfl),
        fun h => (counted_other (by decide) _).trans (h6 h)⟩

section
variable {s : State} {n : Fin 2} {m : PtpRx} {q : List PtpRx}

theorem syncRx_completes (hon : s.root.coreOn = true) (hq : (s.dev.ptpn n).rxQ = m :: q) (ht : pType m = 0) :
    Completes (.syncRx n) s fun t =>
      let x := s.dev.ptpn n
      let runs := x.st = 1 ∨ x.st = 2
      let fromParent := m.par = true ∧ pSrc m = ptpParent s.dev n
      DevOnly s t ∧ (t.dev.ptpn n).rxQ = q ∧
      (runs → fromParent → (t.dev.ptpn n).st = 2 ∧ (t.dev.ptpn n).syncEC = m.stamp.ec ∧ CountsUp n 0 s t ∧ (t.dev.ptpn n).oneStepRx = !pTwoStep m ∧
        (pTwoStep m = true → (t.dev.ptpn n).waitFU = some (syncOf m)) ∧
        (pTwoStep m = false → ptpGood s.dev m.stamp = false → CountsUp n 8 s t) ∧ (syncLate s.dev n m.stamp.ec = true → CountsUp n 6 s t)) ∧
      (runs → m.par = false → CountsUp n 4 s t ∧ (t.dev.ptpn n).st = x.st) ∧
      (runs → m.par = true → pSrc m ≠ ptpParent s.dev n → t.dev.ptpn n = { x with rxQ := q }) := by
  refine completes_ptpTake (show _ = execSyncRx n s from rfl) hon hq (by rw [ht]; rfl) fun u => ?_
  have hx := rxTaken_ptpn s.dev u n q
  have hlate : syncLate (rxTaken s.dev u n q) n m.stamp.ec = syncLate s.dev n m.stamp.ec := by
    rw [syncLate, hx]
    rfl
  obtain ⟨e, hgate⟩ := syncRx_parentOnly s.root n m (rxTaken s.dev u n q)
  by_cases hruns : (s.dev.ptpn n).st = 1 ∨ (s.dev.ptpn n).st = 2
  · have hst : ((rxTaken s.dev u n q).ptpn n).st = 1 ∨ ((rxTaken s.dev u n q).ptpn n).st = 2 := by rw [hx]; exact hruns
    cases hpar : m.par with
    | false =>
      have he : (syncRx s.root n m (rxTaken s.dev u n q)).ptpn n = Ptp.counted 4 { s.dev.ptpn n with rxQ := q } := by
        rw [hgate, parentOnly_orphan hst hpar, ptpCount_ptpn, hx]
      dsimp only
      rw [he]
      exact ⟨devOnly_dev .., rfl, nofun, fun _ _ => ⟨countsUp_of he (counted_self ..), rfl⟩, nofun⟩
    | true =>
      by_cases hsrc : pSrc m = ptpParent s.dev n
      · obtain ⟨z, he, hrx, hz, hec, hone, h0, hwait, h8, h6⟩ := syncRx_taken (r := s.root) hst hpar hsrc
        rw [hx] at hrx h0 h6 h8
        rw [hlate] at h6
        dsimp only
        rw [he]
        exact ⟨devOnly_dev .., hrx, fun _ _ => ⟨hz, hec, countsUp_of he h0, hone, hwait, fun h hg => countsUp_of he (h8 h hg),
          fun h => countsUp_of he (h6 h)⟩, nofun, fun _ _ h => absurd hsrc h⟩
      · have he : (syncRx s.root n m (rxTaken s.dev u n q)).ptpn n = { s.dev.ptpn n with rxQ := q } := by rw [hgate, parentOnly_stranger hst hpar hsrc, hx]
        dsimp only
        rw [he]
        exact ⟨devOnly_dev .., rfl, fun _ h => absurd h.2 hsrc, nofun, fun _ _ _ => rfl⟩
  · have he : (syncRx s.root n m (rxTaken s.dev u n q)).ptpn n = { s.dev.ptpn n with rxQ := q } := by
      rw [hgate, parentOnly_stopped (by rw [hx]; exact hruns), hx]
    dsimp only
    rw [he]
    exact ⟨devOnly_dev .., rfl, fun h => absurd h hruns, fun h => absurd h hruns, fun h => absurd h hruns⟩

end

/-! ### FOLLOW_UP_RX (R132, R133, R140) -/

section
variable {r : Root} {n : Nat} {m : PtpRx} {d : Dev}

theorem followUpRx_parentOnly (r : Root) (n : Nat) (m : PtpRx) (d : Dev) : ∃ e, followUpRx r n m d = parentOnly n m d e := ⟨_, rfl⟩

/-- A Follow_Up of another Sync, or of none. -/
theorem followUpRx_unmatched (hst : (d.ptpn n).st = 1 ∨ (d.ptpn n).st = 2) (hpar : m.par = true) (hsrc : pSrc m = ptpParent d n)
    (h : (d.ptpn n).waitFU = none ∨ ∃ y, (d.ptpn n).waitFU = some y ∧ pSeq m ≠ y.seq) : followUpRx r n m d = ptpCount n 7 d := by
  unfold followUpRx
  dsimp only
  rw [if_neg (not_not_intro hst), hpar, if_neg (by decide), if_neg (not_not_intro hsrc)]
  rcases h with h | ⟨y, h, hseq⟩
  · rw [h]
  · rw [h]
    exact if_pos hseq

/-- A Follow_Up outside its Sync's window. -/
theorem followUpRx_outside {y : SyncRx} (hst : (d.ptpn n).st = 1 ∨ (d.ptpn n).st = 2) (hpar : m.par = true) (hsrc : pSrc m = ptpParent d n)
    (hy : (d.ptpn n).waitFU = some y) (hseq : pSeq m = y.seq)
    (h : y.stamp.ec + pow2s (ptpLog d n 0) ≤ m.stamp.ec ∨ y.stamp.era = m.stamp.era ∧ m.stamp.ec < y.stamp.ec) :
    (followUpRx r n m d).ptpn n = Ptp.counted 7 { d.ptpn n with waitFU := none } := by
  unfold followUpRx
  dsimp only
  rw [if_neg (not_not_intro hst), hpar, if_neg (by decide), if_neg (not_not_intro hsrc), hy]
  dsimp only
  rw [if_neg (not_not_intro hseq), if_pos h, ptpCount_ptpn, ptpn_setPtp]

/-- A Follow_Up in its Sync's window gives it t1. -/
theorem followUpRx_inside {y : SyncRx} (hst : (d.ptpn n).st = 1 ∨ (d.ptpn n).st = 2) (hpar : m.par = true) (hsrc : pSrc m = ptpParent d n)
    (hy : (d.ptpn n).waitFU = some y) (hseq : pSeq m = y.seq)
    (h : ¬(y.stamp.ec + pow2s (ptpLog d n 0) ≤ m.stamp.ec ∨ y.stamp.era = m.stamp.era ∧ m.stamp.ec < y.stamp.ec)) :
    ∃ z, (followUpRx r n m d).ptpn n = z ∧ z.waitFU = none ∧ z.rxQ = (d.ptpn n).rxQ ∧ nget z.cnt 1 = satInc (nget (d.ptpn n).cnt 1) 0xFFFF ∧
      (ptpGood d y.stamp = false → nget z.cnt 8 = satInc (nget (d.ptpn n).cnt 8) 0xFF) := by
  unfold followUpRx
  dsimp only
  rw [if_neg (not_not_intro hst), hpar, if_neg (by decide), if_neg (not_not_intro hsrc), hy]
  dsimp only
  rw [if_neg (not_not_intro hseq), if_neg h]
  generalize hz : (d.setPtp n { d.ptpn n with waitFU := none }) = d1
  have hx : (ptpCount n 1 d1).ptpn n = Ptp.counted 1 { d.ptpn n with waitFU := none } := by rw [ptpCount_ptpn, ← hz, ptpn_setPtp]
  have hgood : ptpGood (ptpCount n 1 d1) y.stamp = ptpGood d y.stamp := by rw [← hz]; rfl
  have h1 : nget (Ptp.counted 1 { d.ptpn n with waitFU := none }).cnt 1 = satInc (nget (d.ptpn n).cnt 1) 0xFFFF := counted_self ..
  cases hg : ptpGood d y.stamp with
  | true =>
    obtain ⟨v, hv⟩ := syncDone_good r n (ptpCount n 1 d1) (y := { y with t1 := pTime m, corr := y.corr + pCorr m }) (hgood.trans hg)
    rw [hv, hx]
    exact ⟨_, rfl, rfl, rfl, h1, nofun⟩
  | false =>
    rw [syncDone_bad r n (ptpCount n 1 d1) (y := { y with t1 := pTime m, corr := y.corr + pCorr m }) (hgood.trans hg), hx]
    exact ⟨_, rfl, rfl, rfl, (counted_other (by decide) _).trans h1, fun _ => (counted_self 8 _).trans (by rw [counted_other (by decide)]; rfl)⟩

end

section
variable {s : State} {n : Fin 2} {m : PtpRx} {q : List PtpRx}

theorem followUpRx_completes (hon : s.root.coreOn = true) (hq : (s.dev.ptpn n).rxQ = m :: q) (ht : pType m = 8) :
    Completes (.followUpRx n) s fun t =>
      let x := s.dev.ptpn n
      let runs := x.st = 1 ∨ x.st = 2
      let fromParent := m.par = true ∧ pSrc m = ptpParent s.dev n
      DevOnly s t ∧ (t.dev.ptpn n).rxQ = q ∧
      (runs → fromParent → (x.waitFU = none ∨ ∃ y, x.waitFU = some y ∧ pSeq m ≠ y.seq) → CountsUp n 7 s t) ∧
      (∀ y, runs → fromParent → x.waitFU = some y → pSeq m = y.seq → (t.dev.ptpn n).waitFU = none ∧
        ((y.stamp.era = m.stamp.era → y.stamp.ec ≤ m.stamp.ec) → m.stamp.ec < y.stamp.ec + pow2s (ptpLog s.dev n 0) →
          CountsUp n 1 s t ∧ (ptpGood s.dev y.stamp = false → CountsUp n 8 s t)) ∧
        (y.stamp.era = m.stamp.era ∧ m.stamp.ec < y.stamp.ec ∨ y.stamp.ec + pow2s (ptpLog s.dev n 0) ≤ m.stamp.ec → CountsUp n 7 s t)) ∧
      (runs → m.par = false → CountsUp n 4 s t ∧ (t.dev.ptpn n).waitFU = x.waitFU) := by
  refine completes_ptpTake (show _ = execFollowUpRx n s from rfl) hon hq (by rw [ht]; rfl) fun u => ?_
  have hx := rxTaken_ptpn s.dev u n q
  obtain ⟨e, hgate⟩ := followUpRx_parentOnly s.root n m (rxTaken s.dev u n q)
  by_cases hruns : (s.dev.ptpn n).st = 1 ∨ (s.dev.ptpn n).st = 2
  · have hst : ((rxTaken s.dev u n q).ptpn n).st = 1 ∨ ((rxTaken s.dev u n q).ptpn n).st = 2 := by rw [hx]; exact hruns
    cases hpar : m.par with
    | false =>
      have he : (followUpRx s.root n m (rxTaken s.dev u n q)).ptpn n = Ptp.counted 4 { s.dev.ptpn n with rxQ := q } := by
        rw [hgate, parentOnly_orphan hst hpar, ptpCount_ptpn, hx]
      dsimp only
      rw [he]
      exact ⟨devOnly_dev .., rfl, nofun, nofun, fun _ _ => ⟨countsUp_of he (counted_self ..), rfl⟩⟩
    | true =>
      by_cases hsrc : pSrc m = ptpParent s.dev n
      · by_cases hmatch : ∃ y, (s.dev.ptpn n).waitFU = some y ∧ pSeq m = y.seq
        · obtain ⟨y, hy, hseq⟩ := hmatch
          have hwait : ((rxTaken s.dev u n q).ptpn n).waitFU = some y := by rw [hx]; exact hy
          have only : ∀ y', (s.dev.ptpn n).waitFU = some y' → y' = y := fun y' h => Option.some.inj (h.symm.trans hy)
          have matched : ¬((s.dev.ptpn n).waitFU = none ∨ ∃ y, (s.dev.ptpn n).waitFU = some y ∧ pSeq m ≠ y.seq) := by
            rintro (h | ⟨y', h, hne⟩)
            · simp [hy] at h
            · exact hne (only y' h ▸ hseq)
          by_cases hwin : y.stamp.ec + pow2s (ptpLog s.dev n 0) ≤ m.stamp.ec ∨ y.stamp.era = m.stamp.era ∧ m.stamp.ec < y.stamp.ec
          · have he := followUpRx_outside (r := s.root) hst hpar hsrc hwait hseq hwin
            rw [hx] at he
            dsimp only
            rw [he]
            refine ⟨devOnly_dev .., rfl, fun _ _ h => absurd h matched, fun y' _ _ h _ => ⟨rfl, fun hlo hhi => ?_, fun _ => countsUp_of he
              (counted_self ..)⟩, nofun⟩
            rw [only y' h] at hlo hhi
            omega
          · obtain ⟨z, he, hnone, hrx, h1, h8⟩ := followUpRx_inside (r := s.root) hst hpar hsrc hwait hseq hwin
            rw [hx] at hrx h1 h8
            have inside : ¬(y.stamp.era = m.stamp.era ∧ m.stamp.ec < y.stamp.ec ∨ y.stamp.ec + pow2s (ptpLog s.dev n 0) ≤ m.stamp.ec) := by omega
            dsimp only
            rw [he]
            exact ⟨devOnly_dev .., hrx, fun _ _ h => absurd h matched, fun y' _ _ h _ => only y' h ▸ ⟨hnone, fun _ _ => ⟨countsUp_of he h1,
              fun hg => countsUp_of he (h8 hg)⟩, fun h => absurd h inside⟩, nofun⟩
        · have he : (followUpRx s.root n m (rxTaken s.dev u n q)).ptpn n = Ptp.counted 7 { s.dev.ptpn n with rxQ := q } := by
            rw [followUpRx_unmatched hst hpar hsrc, ptpCount_ptpn, hx]
            rw [hx]
            cases hy : (s.dev.ptpn n).waitFU with
            | none => exact .inl rfl
            | some y => exact .inr ⟨y, rfl, fun hs => hmatch ⟨y, hy, hs⟩⟩
          dsimp only
          rw [he]
          exact ⟨devOnly_dev .., rfl, fun _ _ _ => countsUp_of he (counted_self ..), fun y _ _ h hs => absurd ⟨y, h, hs⟩ hmatch, nofun⟩
      · have he : (followUpRx s.root n m (rxTaken s.dev u n q)).ptpn n = { s.dev.ptpn n with rxQ := q } := by
          rw [hgate, parentOnly_stranger hst hpar hsrc, hx]
        dsimp only
        rw [he]
        exact ⟨devOnly_dev .., rfl, fun _ h => absurd h.2 hsrc, fun _ _ h => absurd h.2 hsrc, nofun⟩
  · have he : (followUpRx s.root n m (rxTaken s.dev u n q)).ptpn n = { s.dev.ptpn n with rxQ := q } := by
      rw [hgate, parentOnly_stopped (by rw [hx]; exact hruns), hx]
    dsimp only
    rw [he]
    exact ⟨devOnly_dev .., rfl, fun h => absurd h hruns, fun _ h => absurd h hruns, fun h => absurd h hruns⟩

end

/-! ### DELAY_RESP_RX (R134, R140, R141) -/

/-- An opportunity changes no register of its block but PAGE_INJ_SEL and PAGE_INJ_CTRL. -/
theorem opportunity_reg {o : Nat} (ho : 0x040 ≤ o) (r : Root) (b : Blk) (pt : Nat) (d : Dev) : (opportunity r b pt d).reg b o = d.reg b o := by
  have hset : ∀ (e : Dev) (q : Nat) (w : Word), q < 0x040 → (e.setReg b q w).reg b o = e.reg b o := fun e q w hq => reg_setReg_other e b q o w (by omega)
  have hrec : ∀ e : Dev, (recordInj r b pt e).reg b o = e.reg b o := fun e =>
    congrArg (sget regReset · (b.addr o)) (Part.same_iff.mpr (of_recordInj (π := .regs) (.of (by decide)) ..))
  have huse : (pageUse r b [0x018, 0x01C] d).reg b o = d.reg b o := by simp only [Dev.reg, pageUse_regs]
  unfold opportunity
  dsimp only
  split
  · rw [hrec]
    unfold disarm
    split <;> split <;> simp only [hset, huse, Nat.reduceLT]
  · exact huse

/-- LOG_DREQ takes the message's interval (R134). -/
theorem fld_logDreq (a b : Nat) {l : Nat} (hl : l < 256) (hb : b < 256) : fld (wd (a * 65536 + l * 256 + b)) 15 8 = l := by
  simp only [fld, wd, BitVec.toNat_ofNat]
  omega

/-- The engine once its Delay_Resp is counted and its Delay_Req done. -/
def Ptp.answered (m : PtpRx) (x : Ptp) : Ptp := (dreqDone x m).counted 3

/-- The device once the engine has adopted the message's interval. -/
def drespTaken (r : Root) (n : Nat) (m : PtpRx) (d : Dev) : Dev :=
  let d1 := ptpCount n 3 (d.setPtp n (dreqDone (d.ptpn n) m))
  if d.rb (.ptp n) 0x040 12 then
    hwSets r (.ptp n) 0x060 (d1.setReg (.ptp n) 0x060 (wd (d.rf (.ptp n) 0x060 31 16 * 65536 + pLog m * 256 + d.rf (.ptp n) 0x060 7 0)))
  else d1

section
variable {r : Root} {n : Nat} {m : PtpRx} {d : Dev}

theorem drespTaken_ptpn : (drespTaken r n m d).ptpn n = (d.ptpn n).answered m := by
  have h1 : (ptpCount n 3 (d.setPtp n (dreqDone (d.ptpn n) m))).ptpn n = (d.ptpn n).answered m := by
    rw [ptpCount_ptpn, ptpn_setPtp]
    rfl
  unfold drespTaken
  dsimp only
  split
  · exact h1
  · exact h1

theorem drespTaken_logDreq (h : d.rb (.ptp n) 0x040 12 = true) : (drespTaken r n m d).rf (.ptp n) 0x060 15 8 = pLog m := by
  have hset : (drespTaken r n m d).reg (.ptp n) 0x060 = wd (d.rf (.ptp n) 0x060 31 16 * 65536 + pLog m * 256 + d.rf (.ptp n) 0x060 7 0) := by
    rw [drespTaken, if_pos h]
    exact reg_setReg_self ..
  rw [Dev.rf, hset, fld_logDreq]
  · exact (m.bytes.getD 33 0).isLt
  · exact Nat.mod_lt _ (by decide)

theorem opportunity_ptpn (r : Root) (n : Nat) (d : Dev) : (opportunity r (.ptp n) 1 d).ptpn n = d.ptpn n :=
  ptpn_of (of_opportunity (.of (by decide)) ..) n

theorem opportunity_ident (r : Root) (n : Nat) (d : Dev) : ptpIdent (opportunity r (.ptp n) 1 d) n 0x054 = ptpIdent d n 0x054 := by
  simp only [ptpIdent, opportunity_reg (show 0x040 ≤ 0x054 by decide), opportunity_reg (show 0x040 ≤ 0x054 + 4 by decide),
    opportunity_reg (show 0x040 ≤ 0x054 + 8 by decide)]

theorem drespRx_unmatched (h : dreqOf (d.ptpn n) m = none ∨ injects (.ptp n) 1 d = true ∨ pReq m ≠ ptpIdent d n 0x054) :
    (drespRx r n m d).ptpn n = (d.ptpn n).counted 7 := by
  have hx := opportunity_ptpn r n d
  unfold drespRx
  dsimp only
  rw [hx, opportunity_ident]
  split
  · rw [ptpCount_ptpn, hx]
  next t3 ht3 =>
    have : (injects (.ptp n) 1 d || pReq m != ptpIdent d n 0x054) = true := by
      rcases h with h | h | h <;> simp_all
    rw [if_pos this, ptpCount_ptpn, hx]

/-- A Delay_Resp that answers a Delay_Req of this engine gives a measurement from good stamps, or an exchange discarded. -/
theorem drespRx_matched {t3 : Option Stamp} (ht3 : dreqOf (d.ptpn n) m = some t3) (hinj : injects (.ptp n) 1 d = false)
    (hto : pReq m = ptpIdent d n 0x054) :
    (drespRx r n m d = ptpCount n 8 (drespTaken r n m (opportunity r (.ptp n) 1 d))) ∨
    (∃ v s3 y, drespRx r n m d = srvDelay n v (drespTaken r n m (opportunity r (.ptp n) 1 d)) ∧ t3 = some s3 ∧ (d.ptpn n).lastSync = some y ∧
      ptpGood d s3 = true ∧ ptpGood d y.stamp = true) := by
  have hx := opportunity_ptpn r n d
  have hgood : ∀ z, ptpGood (opportunity r (.ptp n) 1 d) z = ptpGood d z := fun z => by
    rw [ptpGood, ptpGood, tb_of (of_opportunity (.of (by decide)) ..)]
  unfold drespRx
  dsimp only
  rw [hx, opportunity_ident]
  split
  next h => simp [h] at ht3
  next t h =>
    obtain rfl : t = t3 := Option.some.inj (h.symm.trans ht3)
    rw [if_neg (by simp [hinj, hto])]
    split
    next s3 y hy =>
      split
      next hg =>
        simp only [hgood, Bool.and_eq_true] at hg
        exact .inr ⟨_, s3, y, by rw [drespTaken, hx], rfl, hy, hg.1.1, hg.1.2⟩
      next => exact .inl (by rw [drespTaken, hx])
    next => exact .inl (by rw [drespTaken, hx])

end

theorem dreqDone_kept (x : Ptp) (m : PtpRx) : (dreqDone x m).cnt = x.cnt ∧ (dreqDone x m).rxQ = x.rxQ := by
  unfold dreqDone
  split <;> exact ⟨rfl, rfl⟩

theorem dreqDone_self {x : Ptp} {m : PtpRx} {t3 : Option Stamp} (h : x.dreq = some (pSeq m, t3)) : (dreqDone x m).dreq = none := by
  rw [dreqDone, if_pos (by rw [h]; rfl)]

theorem dreqDone_other {x : Ptp} {m : PtpRx} {k : Nat} {t3 : Option Stamp} (h : x.dreq = some (k, t3)) (hk : pSeq m ≠ k) :
    (dreqDone x m).dreq = x.dreq := by
  rw [dreqDone, if_neg (by rw [h]; exact fun e => hk (Option.some.inj e).symm)]

theorem dreqOf_other {x : Ptp} {m : PtpRx} {k : Nat} {t3 : Option Stamp} (h : x.dreq = some (k, t3)) (hk : pSeq m ≠ k) (hp : x.dreqPrev = none) :
    dreqOf x m = none := by
  simp [dreqOf, h, hk, hp]

/-- The engine and its registers once a Delay_Resp has answered its Delay_Req. -/
theorem drespRx_answered {r : Root} {n : Nat} {m : PtpRx} {d : Dev} {t3 : Option Stamp} (ht3 : dreqOf (d.ptpn n) m = some t3)
    (hinj : injects (.ptp n) 1 d = false) (hto : pReq m = ptpIdent d n 0x054) :
    ∃ z, (drespRx r n m d).ptpn n = z ∧ z.dreq = (dreqDone (d.ptpn n) m).dreq ∧ z.rxQ = (d.ptpn n).rxQ ∧
      nget z.cnt 3 = satInc (nget (d.ptpn n).cnt 3) 0xFFFF ∧
      (d.rb (.ptp n) 0x040 12 = true → (drespRx r n m d).rf (.ptp n) 0x060 15 8 = pLog m) ∧
      (∀ s3 y, t3 = some s3 → (d.ptpn n).lastSync = some y → (ptpGood d s3 = false ∨ ptpGood d y.stamp = false) →
        nget z.cnt 8 = satInc (nget (d.ptpn n).cnt 8) 0xFF) := by
  obtain ⟨hcnt, hrx⟩ := dreqDone_kept (d.ptpn n) m
  have hx : (drespTaken r n m (opportunity r (.ptp n) 1 d)).ptpn n = (d.ptpn n).answered m := by rw [drespTaken_ptpn, opportunity_ptpn]
  have h3 : nget ((d.ptpn n).answered m).cnt 3 = satInc (nget (d.ptpn n).cnt 3) 0xFFFF := hcnt ▸ counted_self 3 (dreqDone (d.ptpn n) m)
  have h8 : nget ((d.ptpn n).answered m).cnt 8 = nget (d.ptpn n).cnt 8 := hcnt ▸ counted_other (by decide) (dreqDone (d.ptpn n) m)
  have hlog : d.rb (.ptp n) 0x040 12 = true → (drespTaken r n m (opportunity r (.ptp n) 1 d)).rf (.ptp n) 0x060 15 8 = pLog m := fun h =>
    drespTaken_logDreq (by rwa [Dev.rb, opportunity_reg (by decide)])
  rcases drespRx_matched (r := r) ht3 hinj hto with e | ⟨v, s3, y, e, hs, hy, g3, gy⟩
  · rw [e, ptpCount_ptpn, hx]
    exact ⟨_, rfl, rfl, hrx, (counted_other (by decide) _).trans h3, hlog, fun _ _ _ _ _ => (counted_self ..).trans (by rw [h8]; rfl)⟩
  · rw [e, ptpn_of (of_srvDelay (.of (by decide)) ..), hx]
    refine ⟨_, rfl, rfl, hrx, h3, fun h => ?_, fun s3' y' hs' hy' hb => ?_⟩
    · have hregs : (srvDelay n v (drespTaken r n m (opportunity r (.ptp n) 1 d))).regs = (drespTaken r n m (opportunity r (.ptp n) 1 d)).regs :=
        Part.same_iff.mpr (of_srvDelay (π := .regs) (.of (by decide)) ..)
      simpa only [Dev.rf, Dev.reg, hregs] using hlog h
    · obtain rfl : s3' = s3 := Option.some.inj (hs'.symm.trans hs)
      obtain rfl : y' = y := Option.some.inj (hy'.symm.trans hy)
      simp [g3, gy] at hb

section
variable {s : State} {n : Fin 2} {m : PtpRx} {q : List PtpRx}

theorem delayRespRx_completes (hon : s.root.coreOn = true) (hq : (s.dev.ptpn n).rxQ = m :: q) (ht : pType m = 9) :
    Completes (.delayRespRx n) s fun t =>
      let x := s.dev.ptpn n
      let toUs := pReq m = ptpIdent s.dev n 0x054
      DevOnly s t ∧ (t.dev.ptpn n).rxQ = q ∧
      (dreqOf x m = none → CountsUp n 7 s t ∧ (t.dev.ptpn n).dreq = x.dreq) ∧
      ((injects (.ptp n) 1 s.dev = true ∨ ¬toUs) → CountsUp n 7 s t ∧ (t.dev.ptpn n).dreq = x.dreq) ∧
      (∀ t3, injects (.ptp n) 1 s.dev = false → toUs → dreqOf x m = some t3 → CountsUp n 3 s t ∧
        (x.dreq = some (pSeq m, t3) → (t.dev.ptpn n).dreq = none) ∧
        (s.dev.rb (.ptp n) 0x040 12 = true → t.dev.rf (.ptp n) 0x060 15 8 = pLog m) ∧
        (∀ s3 y, t3 = some s3 → x.lastSync = some y → (ptpGood s.dev s3 = false ∨ ptpGood s.dev y.stamp = false) → CountsUp n 8 s t)) ∧
      (∀ k t3, x.dreq = some (k, t3) → pSeq m ≠ k → (t.dev.ptpn n).dreq = some (k, t3)) ∧
      (∀ k t3, x.dreq = some (k, t3) → pSeq m ≠ k → x.dreqPrev = none → CountsUp n 7 s t) := by
  refine completes_ptpTake (show _ = execDelayRespRx n s from rfl) hon hq (by rw [ht]; rfl) fun u => ?_
  have hx := rxTaken_ptpn s.dev u n q
  by_cases hu : dreqOf (s.dev.ptpn n) m = none ∨ injects (.ptp n) 1 s.dev = true ∨ pReq m ≠ ptpIdent s.dev n 0x054
  · have he : (drespRx s.root n m (rxTaken s.dev u n q)).ptpn n = Ptp.counted 7 { s.dev.ptpn n with rxQ := q } := by
      rw [drespRx_unmatched (by rw [hx]; exact hu), hx]
    have h7 := countsUp_of (s := s) (t := { s with dev := drespRx s.root n m (rxTaken s.dev u n q) }) he (counted_self ..)
    dsimp only
    rw [he]
    exact ⟨devOnly_dev .., rfl, fun _ => ⟨h7, rfl⟩, fun _ => ⟨h7, rfl⟩, fun t3 hi hto h => absurd hu (by simp [hi, hto, h]), fun k t3 h _ => h,
      fun _ _ _ _ _ => h7⟩
  · simp only [not_or, not_not, Bool.not_eq_true] at hu
    obtain ⟨hsome, hinj, hto⟩ := hu
    obtain ⟨t3, ht3⟩ := Option.ne_none_iff_exists'.mp hsome
    obtain ⟨z, he, hdreq, hrx, h3, hlog, hbad⟩ := drespRx_answered (r := s.root) (d := rxTaken s.dev u n q) (by rw [hx]; exact ht3) hinj hto
    rw [hx] at hdreq hrx h3 hbad
    have other : ∀ k t, (s.dev.ptpn n).dreq = some (k, t) → pSeq m ≠ k → z.dreq = some (k, t) := fun k t h hk =>
      hdreq.trans ((dreqDone_other (x := { s.dev.ptpn n with rxQ := q }) h hk).trans h)
    dsimp only
    rw [he]
    refine ⟨devOnly_dev .., hrx, fun h => absurd h hsome, fun h => absurd h (by simp [hinj, hto]), fun t3' _ _ h => ?_, other,
      fun k t h hk hp => absurd (dreqOf_other h hk hp) hsome⟩
    obtain rfl : t3' = t3 := Option.some.inj (h.symm.trans ht3)
    exact ⟨countsUp_of he h3, fun h => hdreq.trans (dreqDone_self h), hlog, fun s3 y hs hy hb => countsUp_of he (hbad s3 y hs hy hb)⟩

end

end Sys2Proof.Machine

/-! PTP messages received: Delay_Req and the peer delay's messages (R125, R135, R137, R142). -/

namespace Sys2Proof.Machine

/-! ### DELAY_REQ_RX (R137) -/

section
variable {n : Nat} {m : PtpRx} {d : Dev}

theorem dreqRx_answers (hst : (d.ptpn n).st = 3) (h : pSrc m ∈ (d.ptpn n).served ∨ (d.ptpn n).served.length < 64) : ∃ l,
    (dreqRx n m d).ptpn n = { d.ptpn n with served := l, answers := (d.ptpn n).answers ++ [(pSrc m, pSeq m, m.stamp, pCorr m)] } := by
  unfold dreqRx
  dsimp only
  rw [if_neg (not_not_intro hst), if_pos (by simpa using h), ptpn_setPtp]
  exact ⟨_, rfl⟩

theorem dreqRx_full (hst : (d.ptpn n).st = 3) (h : ¬(pSrc m ∈ (d.ptpn n).served ∨ (d.ptpn n).served.length < 64)) :
    dreqRx n m d = ptpCount n 5 d := by
  unfold dreqRx
  dsimp only
  rw [if_neg (not_not_intro hst), if_neg (by simpa using h)]

end

section
variable {s : State} {n : Fin 2} {m : PtpRx} {q : List PtpRx}

theorem delayReqRx_completes (hon : s.root.coreOn = true) (hq : (s.dev.ptpn n).rxQ = m :: q) (ht : pType m = 1) :
    Completes (.delayReqRx n) s fun t =>
      let x := s.dev.ptpn n
      DevOnly s t ∧ (t.dev.ptpn n).rxQ = q ∧
      (x.st = 3 → (pSrc m ∈ x.served ∨ x.served.length < 64) → (t.dev.ptpn n).answers = x.answers ++ [(pSrc m, pSeq m, m.stamp, pCorr m)]) ∧
      (x.st = 3 → pSrc m ∉ x.served → 64 ≤ x.served.length → (t.dev.ptpn n).answers = x.answers ∧ CountsUp n 5 s t) := by
  refine completes_ptpTake (f := fun _ => dreqRx n) (show _ = execDelayReqRx n s from rfl) hon hq (by rw [ht]; rfl) fun u => ?_
  have hx := rxTaken_ptpn s.dev u n q
  by_cases hst : (s.dev.ptpn n).st = 3
  · have hst' : ((rxTaken s.dev u n q).ptpn n).st = 3 := by rw [hx]; exact hst
    by_cases hroom : pSrc m ∈ (s.dev.ptpn n).served ∨ (s.dev.ptpn n).served.length < 64
    · obtain ⟨l, he⟩ := dreqRx_answers hst' (by rw [hx]; exact hroom)
      rw [hx] at he
      dsimp only
      rw [he]
      exact ⟨devOnly_dev .., rfl, fun _ _ => rfl, fun _ h hlen => absurd hroom (not_or.mpr ⟨h, by omega⟩)⟩
    · have he : (dreqRx n m (rxTaken s.dev u n q)).ptpn n = Ptp.counted 5 { s.dev.ptpn n with rxQ := q } := by
        rw [dreqRx_full hst' (by rw [hx]; exact hroom), ptpCount_ptpn, hx]
      dsimp only
      rw [he]
      exact ⟨devOnly_dev .., rfl, fun _ h => absurd h hroom, fun _ _ _ => ⟨rfl, countsUp_of he (counted_self ..)⟩⟩
  · have he : (dreqRx n m (rxTaken s.dev u n q)).ptpn n = { s.dev.ptpn n with rxQ := q } := by
      rw [dreqRx, if_pos (by rw [hx]; exact hst), hx]
    dsimp only
    rw [he]
    exact ⟨devOnly_dev .., rfl, fun h => absurd h hst, fun h => absurd h hst⟩

end

/-! ### PDELAY_REQ_RX (R135) -/

/-- A message sent joins the frames of its engine's port. -/
theorem ptpSend_queued (m : PtpOut) (d : Dev) : ((ptpSend m d).netp (ptpPort d m.eng)).ptpQ = (d.netp (ptpPort d m.eng)).ptpQ ++ [m] := by
  simp only [ptpSend, Dev.setNetp, Dev.netp, Dev.netMap, sget_sset_self]

section
variable {n : Nat} {m : PtpRx} {d : Dev}

theorem ptpRuns_iff : ptpRuns d n = true ↔ 1 ≤ (d.ptpn n).st ∧ (d.ptpn n).st ≤ 3 := decide_eq_true_iff

theorem pdreqRx_stopped (h : ¬(1 ≤ (d.ptpn n).st ∧ (d.ptpn n).st ≤ 3)) : pdreqRx n m d = d := by
  have : ptpRuns d n = false := Bool.eq_false_iff.mpr fun e => h (ptpRuns_iff.mp e)
  rw [pdreqRx, if_pos (by simp [this])]

theorem pdreqRx_bad (h : 1 ≤ (d.ptpn n).st ∧ (d.ptpn n).st ≤ 3) (hg : ptpGood d m.stamp = false) : pdreqRx n m d = ptpCount n 8 d := by
  rw [pdreqRx, if_neg (by simp [ptpRuns_iff.mpr h]), if_neg (by simp [hg])]

theorem pdreqRx_good (h : 1 ≤ (d.ptpn n).st ∧ (d.ptpn n).st ≤ 3) (hg : ptpGood d m.stamp = true) :
    (pdreqRx n m d).ptpn n = Ptp.counted 3 { d.ptpn n with pdAnswers := (d.ptpn n).pdAnswers ++ [(pSrc m, pSeq m, pCorr m, none)] } ∧
    ((pdreqRx n m d).netp (ptpPort d n)).ptpQ =
      (d.netp (ptpPort d n)).ptpQ ++ [{ eng := n, type := 3, seq := pSeq m, ts := d.tb.at'.val m.stamp.ec, req := pSrc m }] := by
  unfold pdreqRx
  dsimp only
  rw [if_neg (by simp [ptpRuns_iff.mpr h]), if_pos hg]
  refine ⟨?_, ptpSend_queued _ _⟩
  rw [ptpCount_ptpn, ptpn_of (of_ptpSend (.of (by decide)) ..), ptpn_setPtp]

end

section
variable {s : State} {n : Fin 2} {m : PtpRx} {q : List PtpRx}

theorem pdelayReqRx_completes (hon : s.root.coreOn = true) (hq : (s.dev.ptpn n).rxQ = m :: q) (ht : pType m = 2) :
    Completes (.pdelayReqRx n) s fun t =>
      let x := s.dev.ptpn n
      DevOnly s t ∧ (t.dev.ptpn n).rxQ = q ∧
      (1 ≤ x.st → x.st ≤ 3 → ptpGood s.dev m.stamp = false → CountsUp n 8 s t ∧ (t.dev.ptpn n).pdAnswers = x.pdAnswers) ∧
      (1 ≤ x.st → x.st ≤ 3 → ptpGood s.dev m.stamp = true → CountsUp n 3 s t ∧
        (t.dev.ptpn n).pdAnswers = x.pdAnswers ++ [(pSrc m, pSeq m, pCorr m, none)] ∧
        (t.dev.netp (ptpPort s.dev n)).ptpQ = (s.dev.netp (ptpPort s.dev n)).ptpQ ++
          [{ eng := n, type := 3, seq := pSeq m, ts := s.dev.tb.at'.val m.stamp.ec, req := pSrc m }]) := by
  refine completes_ptpTake (f := fun _ => pdreqRx n) (show _ = execPdelayReqRx n s from rfl) hon hq (by rw [ht]; rfl) fun u => ?_
  have hx := rxTaken_ptpn s.dev u n q
  by_cases hst : 1 ≤ (s.dev.ptpn n).st ∧ (s.dev.ptpn n).st ≤ 3
  · have hst' : 1 ≤ ((rxTaken s.dev u n q).ptpn n).st ∧ ((rxTaken s.dev u n q).ptpn n).st ≤ 3 := by rw [hx]; exact hst
    cases hg : ptpGood s.dev m.stamp with
    | true =>
      obtain ⟨he, hsent⟩ := pdreqRx_good hst' (show ptpGood (rxTaken s.dev u n q) m.stamp = true from hg)
      rw [hx] at he
      dsimp only
      rw [he]
      exact ⟨devOnly_dev .., rfl, nofun, fun _ _ _ => ⟨countsUp_of he (counted_self ..), rfl, hsent⟩⟩
    | false =>
      have he : (pdreqRx n m (rxTaken s.dev u n q)).ptpn n = Ptp.counted 8 { s.dev.ptpn n with rxQ := q } := by
        rw [pdreqRx_bad hst' hg, ptpCount_ptpn, hx]
      dsimp only
      rw [he]
      exact ⟨devOnly_dev .., rfl, fun _ _ _ => ⟨countsUp_of he (counted_self ..), rfl⟩, nofun⟩
  · have he : (pdreqRx n m (rxTaken s.dev u n q)).ptpn n = { s.dev.ptpn n with rxQ := q } := by
      rw [pdreqRx_stopped (by rw [hx]; exact hst), hx]
    dsimp only
    rw [he]
    exact ⟨devOnly_dev .., rfl, fun h1 h3 => absurd ⟨h1, h3⟩ hst, fun h1 h3 => absurd ⟨h1, h3⟩ hst⟩

end

/-! ### PDELAY_RESP_RX (R135) -/

section
variable {n : Nat} {m : PtpRx} {d : Dev} {e : PdelayEx}

theorem pdrespRx_ours (he : (d.ptpn n).pd = some e) (h : pReq m = ptpIdent d n 0x054 ∧ pSeq m = e.seq) : (pdrespRx n m d).ptpn n =
    Ptp.counted 3 { d.ptpn n with pd := some { e with t2 := some (pTime m), t4 := m.stamp, corr := pCorr m, src := pSrc m } } := by
  unfold pdrespRx
  dsimp only
  rw [he]
  dsimp only
  rw [if_pos h, ptpCount_ptpn, ptpn_setPtp]

theorem pdrespRx_others (he : (d.ptpn n).pd = some e) (h : ¬(pReq m = ptpIdent d n 0x054 ∧ pSeq m = e.seq)) : pdrespRx n m d = d := by
  unfold pdrespRx
  dsimp only
  rw [he]
  exact if_neg h

theorem pdrespRx_none (he : (d.ptpn n).pd = none) : pdrespRx n m d = d := by
  unfold pdrespRx
  dsimp only
  rw [he]

end

section
variable {s : State} {n : Fin 2} {m : PtpRx} {q : List PtpRx}

theorem pdelayRespRx_completes (hon : s.root.coreOn = true) (hq : (s.dev.ptpn n).rxQ = m :: q) (ht : pType m = 3) :
    Completes (.pdelayRespRx n) s fun t =>
      let x := s.dev.ptpn n
      let toUs := pReq m = ptpIdent s.dev n 0x054
      DevOnly s t ∧ (t.dev.ptpn n).rxQ = q ∧
      ∀ e, x.pd = some e → (toUs → pSeq m = e.seq → CountsUp n 3 s t ∧
          (t.dev.ptpn n).pd = some { e with t2 := some (pTime m), t4 := m.stamp, corr := pCorr m, src := pSrc m }) ∧
        ((¬toUs ∨ pSeq m ≠ e.seq) → (t.dev.ptpn n).pd = x.pd) := by
  refine completes_ptpTake (f := fun _ => pdrespRx n) (show _ = execPdelayRespRx n s from rfl) hon hq (by rw [ht]; rfl) fun u => ?_
  have hx := rxTaken_ptpn s.dev u n q
  cases hpd : (s.dev.ptpn n).pd with
  | none =>
    have he : (pdrespRx n m (rxTaken s.dev u n q)).ptpn n = { s.dev.ptpn n with rxQ := q } := by rw [pdrespRx_none (by rw [hx]; exact hpd), hx]
    dsimp only
    rw [he]
    exact ⟨devOnly_dev .., rfl, fun _ h => absurd (hpd.symm.trans h) (by simp)⟩
  | some e =>
    have hpd' : ((rxTaken s.dev u n q).ptpn n).pd = some e := by rw [hx]; exact hpd
    by_cases hours : pReq m = ptpIdent s.dev n 0x054 ∧ pSeq m = e.seq
    · have he := pdrespRx_ours hpd' hours
      rw [hx] at he
      dsimp only
      rw [he]
      refine ⟨devOnly_dev .., rfl, fun e' h => ?_⟩
      obtain rfl := Option.some.inj (hpd.symm.trans h)
      exact ⟨fun _ _ => ⟨countsUp_of he (counted_self ..), rfl⟩, fun h => absurd hours (by rwa [not_and_or])⟩
    · have he : (pdrespRx n m (rxTaken s.dev u n q)).ptpn n = { s.dev.ptpn n with rxQ := q } := by rw [pdrespRx_others hpd' hours, hx]
      dsimp only
      rw [he]
      refine ⟨devOnly_dev .., rfl, fun e' h => ?_⟩
      obtain rfl := Option.some.inj (hpd.symm.trans h)
      exact ⟨fun h1 h2 => absurd ⟨h1, h2⟩ hours, fun _ => rfl⟩

end

/-! ### PDELAY_RESP_FU_RX (R135, R142) -/

theorem srvn_setSrv (d : Dev) (n : Nat) (x : Srv) : (d.setSrv n x).srvn n = x := by
  simp only [Dev.srvn, Dev.setSrv, sget_sset_self]

/-- A delay measurement of a running servo joins its window. -/
theorem srvDelay_window {n : Nat} {d : Dev} (h : (d.srvn n).st ≠ 0) (v : Int) :
    ((srvDelay n v d).srvn n).dWin.tail = (d.srvn n).dWin.take (selWin d n - 1) ∧ ((srvDelay n v d).srvn n).dWin ≠ [] := by
  obtain ⟨k, hk⟩ : ∃ k, selWin d n = k + 1 := Nat.exists_eq_succ_of_ne_zero (by unfold selWin; omega)
  have hw : ((srvDelay n v d).srvn n).dWin = v :: (d.srvn n).dWin.take k := by
    rw [srvDelay, if_neg h, srvn_setSrv, hk]
    rfl
  rw [hw, hk]
  exact ⟨rfl, List.cons_ne_nil _ _⟩

section
variable {n : Nat} {m : PtpRx} {d : Dev} {e : PdelayEx} {s1 : Stamp} {t2 : Int}

/-- A good exchange gives the servo a measurement. -/
theorem pdfuRx_good (he : (d.ptpn n).pd = some e) (h1 : e.t1 = some s1) (h2 : e.t2 = some t2)
    (h : pReq m = ptpIdent d n 0x054 ∧ pSeq m = e.seq ∧ pSrc m = e.src) (hg : ptpGood d s1 = true ∧ ptpGood d e.t4 = true) :
    ∃ v nrr, pdfuRx n m d = srvDelay n v (d.setPtp n { d.ptpn n with pd := none, pdPrev := some (pTime m + rdiv (pCorr m) 256, e.t4), nrr := nrr }) := by
  unfold pdfuRx
  dsimp only
  rw [he]
  dsimp only
  rw [h1, h2]
  dsimp only
  rw [if_pos h, if_pos (by simp [hg])]
  exact ⟨_, _, rfl⟩

theorem pdfuRx_bad (he : (d.ptpn n).pd = some e) (h1 : e.t1 = some s1) (h2 : e.t2 = some t2)
    (h : pReq m = ptpIdent d n 0x054 ∧ pSeq m = e.seq ∧ pSrc m = e.src) (hg : ¬(ptpGood d s1 = true ∧ ptpGood d e.t4 = true)) :
    pdfuRx n m d = ptpCount n 8 (d.setPtp n { d.ptpn n with pd := none }) := by
  unfold pdfuRx
  dsimp only
  rw [he]
  dsimp only
  rw [h1, h2]
  dsimp only
  rw [if_pos h, if_neg (by simpa using hg)]

/-- Whatever it does, the queue waits on. -/
theorem pdfuRx_rxQ : ((pdfuRx n m d).ptpn n).rxQ = (d.ptpn n).rxQ := by
  unfold pdfuRx
  dsimp only
  split
  · split
    · split
      · split
        · rw [ptpn_of (of_srvDelay (.of (by decide)) ..), ptpn_setPtp]
        · rw [ptpCount_ptpn, ptpn_setPtp]
          rfl
      · rfl
    · rfl
  · rfl

end

section
variable {s : State} {n : Fin 2} {m : PtpRx} {q : List PtpRx}

theorem pdelayRespFuRx_completes (hon : s.root.coreOn = true) (hq : (s.dev.ptpn n).rxQ = m :: q) (ht : pType m = 10) :
    Completes (.pdelayRespFuRx n) s fun t =>
      let x := s.dev.ptpn n
      let toUs := pReq m = ptpIdent s.dev n 0x054
      DevOnly s t ∧ (t.dev.ptpn n).rxQ = q ∧
      ∀ e s1 t2, x.pd = some e → e.t1 = some s1 → e.t2 = some t2 → toUs → pSeq m = e.seq → pSrc m = e.src → (t.dev.ptpn n).pd = none ∧
        (ptpGood s.dev s1 = true → ptpGood s.dev e.t4 = true →
          (t.dev.ptpn n).pdPrev = some (pTime m + rdiv (pCorr m) 256, e.t4) ∧
          ((s.dev.srvn n).st ≠ 0 → (t.dev.srvn n).dWin.tail = (s.dev.srvn n).dWin.take (selWin s.dev n - 1) ∧ (t.dev.srvn n).dWin ≠ [])) ∧
        (¬(ptpGood s.dev s1 = true ∧ ptpGood s.dev e.t4 = true) → CountsUp n 8 s t ∧ t.dev.srv = s.dev.srv) := by
  refine completes_ptpTake (f := fun _ => pdfuRx n) (show _ = execPdelayRespFuRx n s from rfl) hon hq (by rw [ht]; rfl) fun u => ?_
  have hx := rxTaken_ptpn s.dev u n q
  refine ⟨devOnly_dev .., pdfuRx_rxQ.trans (by rw [hx]), fun e s1 t2 hpd h1 h2 hto hseq hsrc => ?_⟩
  have hpd' : ((rxTaken s.dev u n q).ptpn n).pd = some e := by rw [hx]; exact hpd
  by_cases hg : ptpGood s.dev s1 = true ∧ ptpGood s.dev e.t4 = true
  · obtain ⟨v, nrr, hf⟩ := pdfuRx_good hpd' h1 h2 ⟨hto, hseq, hsrc⟩ hg
    have he := ptpn_of (of_srvDelay (π := .ptp) (.of (by decide)) n v
      ((rxTaken s.dev u n q).setPtp n { (rxTaken s.dev u n q).ptpn n with pd := none, pdPrev := some (pTime m + rdiv (pCorr m) 256, e.t4), nrr := nrr })) n
    rw [ptpn_setPtp] at he
    dsimp only
    rw [hf, he]
    exact ⟨rfl, fun _ _ => ⟨rfl, fun hst => srvDelay_window (d := (rxTaken s.dev u n q).setPtp n _) hst v⟩, fun h => absurd hg h⟩
  · have hf := pdfuRx_bad hpd' h1 h2 ⟨hto, hseq, hsrc⟩ hg
    have he : (pdfuRx n m (rxTaken s.dev u n q)).ptpn n = Ptp.counted 8 { s.dev.ptpn n with rxQ := q, pd := none } := by
      rw [hf, ptpCount_ptpn, ptpn_setPtp, hx]
    dsimp only
    rw [he]
    exact ⟨rfl, fun g1 g4 => absurd ⟨g1, g4⟩ hg, fun _ => ⟨countsUp_of he (counted_self ..), by rw [hf]; rfl⟩⟩

end

end Sys2Proof.Machine

/-! PTP messages received: those handed to the host, and the obligation on messages received (R131, R229, R230). -/

namespace Sys2Proof.Machine

/-! ### Records that a corridor takes (R229, R230) -/

theorem cor_setCor (d : Dev) (c : Nat) (x : Cor) : (d.setCor c x).cor c = x := by
  simp only [Dev.cor, Dev.setCor, Dev.lndMap, sget_sset_self]

theorem cor_of_lnd {a b : Dev} (h : a.lnd = b.lnd) (c : Nat) : a.cor c = b.cor c := by
  simp only [Dev.cor, h]

section
variable {r : Root} {c type info : Nat} {payload : List Byte} {d : Dev}

/-- The opportunity of COR point 0 leaves the corridors. -/
theorem produce_offered_cor : (if corInjTarget r d == c then opportunity r .cor 0 d else d : Dev).cor c = d.cor c := by
  split
  · exact cor_of_lnd (lnd_of (of_opportunity (.of (by decide)) ..)) c
  · rfl

/-- A corridor that takes no records takes none. -/
theorem produce_refused (h : (d.cor c).takes = false) : (produce r c type info payload d).1 = false ∧ (produce r c type info payload d).2.2 = [] := by
  unfold produce
  dsimp only
  rw [produce_offered_cor, if_pos (by simp [h])]
  exact ⟨rfl, rfl⟩

/-- A record with room that no injection drops is written under the corridor's next sequence number. -/
theorem produce_taken (hinj : ¬(corInjTarget r d = c ∧ injects .cor 0 d = true)) (htakes : (d.cor c).takes = true)
    (hfits : (d.cor c).fits [min payload.length (min ((d.cor c).len - 16) 65528)] = true) :
    (produce r c type info payload d).1 = true ∧ ((produce r c type info payload d).2.1.cor c).seq = ((d.cor c).seq + 1) % 65536 := by
  have hdrop : (corInjTarget r d == c && injects .cor 0 d) = false := by simpa using hinj
  unfold produce
  dsimp only
  rw [produce_offered_cor, if_neg (by rw [List.length_take, Nat.min_comm, hfits, htakes, hdrop]; decide)]
  exact ⟨rfl, by rw [cor_of_lnd (raiseIf_lnd ..), cor_setCor]⟩

end

/-! ### ANNOUNCE_RX and SIGNALING_MANAGEMENT_RX (R131) -/

/-- A stamp record has sixteen bytes (R126). -/
theorem length_stampBytes (x : Stamp) (context : Word) : (wordsBytes (stampWords x context)).length = 16 := rfl

section
variable {r : Root} {n bit : Nat} {m : PtpRx} {d : Dev}

theorem produce_ptpn (c type info : Nat) (payload : List Byte) : (produce r c type info payload d.drew).2.1.ptpn n = d.ptpn n :=
  ptpn_of (of_produce (.of (by decide)) ..) n

/-- A message for the host that its engine does not hand on. -/
theorem ptpToCor_dropped (h : (ptpRuns d n && d.rb (.ptp n) 0x068 bit) = false) : ptpToCor r n bit m d = (d, []) := by
  rw [ptpToCor, if_neg (by simp [h])]

theorem ptpToCor_refused (h : (ptpRuns d n && d.rb (.ptp n) 0x068 bit) = true) (hc : (d.cor (d.rf (.ptp n) 0x068 7 0)).takes = false) :
    (ptpToCor r n bit m d).1.ptpn n = (d.ptpn n).counted 9 ∧ (ptpToCor r n bit m d).2 = [] := by
  have hc' : (d.drew.cor (d.rf (.ptp n) 0x068 7 0)).takes = false := hc
  rw [ptpToCor, if_pos h]
  dsimp only
  rw [(produce_refused hc').1, if_neg (by decide), ptpCount_ptpn, produce_ptpn]
  exact ⟨rfl, (produce_refused hc').2⟩

theorem ptpToCor_taken (h : (ptpRuns d n && d.rb (.ptp n) 0x068 bit) = true)
    (hinj : ¬(corInjTarget r d = d.rf (.ptp n) 0x068 7 0 ∧ injects .cor 0 d = true)) (htakes : (d.cor (d.rf (.ptp n) 0x068 7 0)).takes = true)
    (hfits : (d.cor (d.rf (.ptp n) 0x068 7 0)).fits
      [min (m.bytes.length + 16) (min ((d.cor (d.rf (.ptp n) 0x068 7 0)).len - 16) 65528)] = true) :
    (ptpToCor r n bit m d).1.ptpn n = d.ptpn n ∧
    ((ptpToCor r n bit m d).1.cor (d.rf (.ptp n) 0x068 7 0)).seq = ((d.cor (d.rf (.ptp n) 0x068 7 0)).seq + 1) % 65536 := by
  rw [ptpToCor, if_pos h]
  dsimp only
  obtain ⟨hdone, hseq⟩ := produce_taken (d := d.drew) (type := 0x03) (info := d.free % 65536)
    (payload := m.bytes ++ wordsBytes (stampWords m.stamp (wd (n * 2 ^ 24 + ptpPort d n * 2 ^ 16 + m.bytes.length)))) hinj htakes
    (by rw [List.length_append, length_stampBytes]; exact hfits)
  rw [hdone, if_pos rfl, produce_ptpn]
  exact ⟨rfl, hseq⟩

end

/-- Whatever becomes of it, the message has left the queue alone. -/
theorem ptpToCor_rxQ (r : Root) (n bit : Nat) (m : PtpRx) (d : Dev) : ((ptpToCor r n bit m d).1.ptpn n).rxQ = (d.ptpn n).rxQ := by
  unfold ptpToCor
  dsimp only
  split
  · split
    · rw [produce_ptpn]
    · rw [ptpCount_ptpn, produce_ptpn]
      rfl
  · rfl

/-- What the host is told of a message: dropped and counted where the corridor takes no records, else a record where it has room. -/
def HandsOn (n : Nat) (m : PtpRx) (s t : State) : Prop :=
  let x := s.dev.ptpn n
  let c := s.dev.rf (.ptp n) 0x068 7 0
  let z := s.dev.cor c
  1 ≤ x.st → x.st ≤ 3 → (z.takes = false → CountsUp n 9 s t ∧ t.mem = s.mem) ∧
    (¬(corInjTarget s.root s.dev = c ∧ injects .cor 0 s.dev = true) → z.takes = true →
      z.fits [min (m.bytes.length + 16) (min (z.len - 16) 65528)] = true →
      (t.dev.cor c).seq = (z.seq + 1) % 65536 ∧ (t.dev.ptpn n).cnt = x.cnt)

theorem completes_ptpTakeMem {i : Instr} {s : State} {n : Nat} {m : PtpRx} {q : List PtpRx} {types ws : List Nat} {bit : Nat}
    (hi : exec i s = onMem (fun r _ d => ptpTakeMem r types bit n (pageUse r (.ptp n) ws d)) s) (hon : s.root.coreOn = true)
    (hq : (s.dev.ptpn n).rxQ = m :: q) (ht : types.contains (pType m) = true) :
    Completes i s fun t => t.root = s.root ∧ t.pending = s.pending ∧ (t.dev.ptpn n).rxQ = q ∧
      (s.dev.rb (.ptp n) 0x068 bit = false → t.mem = s.mem) ∧ (s.dev.rb (.ptp n) 0x068 bit = true → HandsOn n m s t) := by
  have taken : ∀ u : Dev, ptpTakeMem s.root types bit n { s.dev with page := u.page, lines := u.lines } =
      ptpToCor s.root n bit m (rxTaken s.dev u n q) := fun u => by
    have hq' : (({ s.dev with page := u.page, lines := u.lines } : Dev).ptpn n).rxQ = m :: q := hq
    unfold ptpTakeMem
    dsimp only
    rw [hq']
    exact if_pos ht
  refine ⟨_, hi.trans (onMem_on hon), ?_⟩
  rw [pageUse_eq, taken]
  generalize pageUse s.root (.ptp n) ws s.dev = u
  have hx := rxTaken_ptpn s.dev u n q
  have hruns : ptpRuns (rxTaken s.dev u n q) n = ptpRuns s.dev n := by rw [ptpRuns, ptpRuns, hx]
  have hrb : (rxTaken s.dev u n q).rb (.ptp n) 0x068 bit = s.dev.rb (.ptp n) 0x068 bit := rfl
  refine ⟨rfl, rfl, (ptpToCor_rxQ ..).trans (by rw [hx]), fun hoff => ?_, fun hbit h1 h3 => ?_⟩
  · rw [ptpToCor_dropped (by rw [hrb, hoff, Bool.and_false])]
    rfl
  · have hgo : (ptpRuns (rxTaken s.dev u n q) n && (rxTaken s.dev u n q).rb (.ptp n) 0x068 bit) = true := by
      rw [hruns, hrb, hbit, ptpRuns_iff.mpr ⟨h1, h3⟩]
      rfl
    refine ⟨fun hc => ?_, fun hinj htakes hfits => ?_⟩
    · obtain ⟨he, hmem⟩ := ptpToCor_refused (r := s.root) (m := m) hgo hc
      rw [hmem]
      exact ⟨countsUp_of he (by rw [hx]; exact counted_self 9 _), rfl⟩
    · obtain ⟨he, hseq⟩ := ptpToCor_taken (r := s.root) (m := m) hgo hinj htakes hfits
      exact ⟨hseq, by dsimp only; rw [he, hx]⟩

/-- Settles O31: each kind of message by its own event, from the head of its engine's queue. -/
theorem ptpReceive : Obligations.PtpReceive := by
  intro s n m q hon hq
  refine ⟨syncRx_completes hon hq, followUpRx_completes hon hq, delayRespRx_completes hon hq, delayReqRx_completes hon hq,
    pdelayReqRx_completes hon hq, pdelayRespRx_completes hon hq, pdelayRespFuRx_completes hon hq, fun ht => ?_, fun ht => ?_⟩
  · exact completes_ptpTakeMem (show _ = execAnnounceRx n s from rfl) hon hq (by rw [ht]; rfl)
  · refine completes_ptpTakeMem (show _ = execSignalingManagementRx n s from rfl) hon hq ?_
    rcases ht with ht | ht <;> rw [ht] <;> rfl

end Sys2Proof.Machine

/-! PTP messages sent, and the Sync timeout (R134 to R137, R139). -/

namespace Sys2Proof.Machine

/-- A command of a running core that uses words of a page acts on the device with those uses reported. -/
theorem completes_onPage {i : Instr} {s : State} {b : Blk} {ws : List Nat} {f : Root → Dev → Dev} {P : State → Prop} (hon : s.root.coreOn = true)
    (hi : exec i s = onDev (fun r d => f r (pageUse r b ws d)) s)
    (h : ∀ pg ln, P { s with dev := f s.root { s.dev with page := pg, lines := ln } }) : Completes i s P := by
  refine completes_onDev hon hi ?_
  rw [pageUse_eq]
  exact h _ _

/-- A message changes the engines, the frames of the ports, what its use of words reports and the free values alone. -/
def PtpFrame (s t : State) : Prop :=
  DevOnly s t ∧ t.dev = { s.dev with ptp := t.dev.ptp, net := t.dev.net, page := t.dev.page, lines := t.dev.lines, freeCtr := t.dev.freeCtr }

/-! ### Messages -/

/-- Engine `n` becomes `y` and sends `m`, which counter `k` counts. -/
def ptpSent (n k : Nat) (m : PtpOut) (y : Ptp) (d : Dev) : Dev := ptpCount n k (ptpSend m (d.setPtp n y))

section
variable (n k : Nat) (m : PtpOut) (y : Ptp) (d : Dev)

theorem ptpSend_ptpn : (ptpSend m (d.setPtp n y)).ptpn n = y := ptpn_setPtp ..

theorem ptpSent_ptpn : (ptpSent n k m y d).ptpn n = y.counted k := by rw [ptpSent, ptpCount_ptpn, ptpSend_ptpn]

theorem ptpSent_queued : ((ptpSent n k m y d).netp (ptpPort d m.eng)).ptpQ = (d.netp (ptpPort d m.eng)).ptpQ ++ [m] :=
  ptpSend_queued m (d.setPtp n y)

end

/-! ### Requests and Sync (R134, R135, R137) -/

section
variable {r : Root} {n : Nat} {d : Dev}

/-- The engine once its Delay_Req is sent, the next one due at `e`. -/
def Ptp.requested (now e : Nat) (x : Ptp) : Ptp :=
  { x with dreq := some (x.dreqSeq, none), dreqPrev := x.dreq.map fun q => (q.1, q.2, now), dreqSeq := (x.dreqSeq + 1) % 65536, dreqAt := some e }

theorem dreqSend_due {e : Nat} (hat : (d.ptpn n).dreqAt = some e) (h : ((d.ptpn n).st = 1 ∨ (d.ptpn n).st = 2) ∧ d.rf (.ptp n) 0x040 7 6 = 0 ∧
    ptpParent d n ≠ 0 ∧ e ≤ r.ec ∧ (d.netp (ptpPort d n)).link = true) :
    dreqSend r n d =
      ptpSent n 2 { eng := n, type := 1, seq := (d.ptpn n).dreqSeq, dest := if d.rb (.ptp n) 0x040 11 then (d.ptpn n).parentAddr else [] }
        ((d.ptpn n).requested r.ec (r.ec + d.free % max 1 (2 * pow2s (ptpLog d n 8)))) d.drew := by
  unfold dreqSend
  dsimp only
  rw [hat]
  exact if_pos h

theorem pdreqSend_due (h : ptpRuns d n = true ∧ d.rf (.ptp n) 0x040 7 6 = 1 ∧ (d.ptpn n).pdAt ≤ r.ec ∧ (d.netp (ptpPort d n)).link = true) :
    pdreqSend r n d = ptpSent n 2 { eng := n, type := 2, seq := (d.ptpn n).pdSeq }
      { d.ptpn n with pd := some { seq := (d.ptpn n).pdSeq }, pdSeq := ((d.ptpn n).pdSeq + 1) % 65536, pdAt := r.ec + pow2s (ptpLog d n 16) } d :=
  if_pos h

theorem syncSend_due (h : (d.ptpn n).st = 3 ∧ (d.netp (ptpPort d n)).link = true ∧
    syncSend.cdiv' (d.tb.at'.val r.ec) (pow2s (ptpLog d n 0)) < syncSend.cdiv' (d.tb.at'.val (r.ec + 512)) (pow2s (ptpLog d n 0))) :
    ∃ l, syncSend r n d = ptpSent n 0 { eng := n, type := 0, seq := (d.ptpn n).syncSeq, oneStep := d.rb (.ptp n) 0x040 10 }
      { d.ptpn n with syncSeq := ((d.ptpn n).syncSeq + 1) % 65536, syncOut := l } d :=
  ⟨_, if_pos h⟩

end

section
variable {s : State} {n : Fin 2}

theorem delayReqSend_completes (hon : s.root.coreOn = true) {e : Nat} (hat : (s.dev.ptpn n).dreqAt = some e)
    (hst : (s.dev.ptpn n).st = 1 ∨ (s.dev.ptpn n).st = 2) (he2e : s.dev.rf (.ptp n) 0x040 7 6 = 0) (hpar : ptpParent s.dev n ≠ 0) (hdue : e ≤ s.root.ec)
    (hlink : (s.dev.netp (ptpPort s.dev n)).link = true) :
    Completes (.delayReqSend n) s fun t =>
      let x := s.dev.ptpn n
      let p := ptpPort s.dev n
      PtpFrame s t ∧ CountsUp n 2 s t ∧
      (t.dev.netp p).ptpQ = (s.dev.netp p).ptpQ ++
        [{ eng := n, type := 1, seq := x.dreqSeq, dest := if s.dev.rb (.ptp n) 0x040 11 then x.parentAddr else [] }] ∧
      (t.dev.ptpn n).dreq = some (x.dreqSeq, none) ∧ (t.dev.ptpn n).dreqPrev = x.dreq.map (fun y => (y.1, y.2, s.root.ec)) ∧
      (t.dev.ptpn n).dreqSeq = (x.dreqSeq + 1) % 65536 ∧
      (0 < pow2s (ptpLog s.dev n 8) →
        ∃ e, (t.dev.ptpn n).dreqAt = some e ∧ s.root.ec ≤ e ∧ e < s.root.ec + 2 * pow2s (ptpLog s.dev n 8)) := by
  refine completes_onPage hon (show _ = execDelayReqSend n s from rfl) fun pg ln => ?_
  rw [dreqSend_due (d := { s.dev with page := pg, lines := ln }) hat ⟨hst, he2e, hpar, hdue, hlink⟩]
  refine ⟨⟨devOnly_dev .., rfl⟩, countsUp_of (ptpSent_ptpn ..) (counted_self ..), ptpSent_queued .., ?_⟩
  dsimp only
  rw [ptpSent_ptpn]
  refine ⟨rfl, rfl, rfl, fun hpos => ⟨_, rfl, Nat.le_add_right .., Nat.add_lt_add_left ?_ _⟩⟩
  calc s.dev.free % max 1 (2 * pow2s (ptpLog s.dev n 8)) < max 1 (2 * pow2s (ptpLog s.dev n 8)) := Nat.mod_lt _ (by omega)
    _ = 2 * pow2s (ptpLog s.dev n 8) := by omega

theorem pdelayReqSend_completes (hon : s.root.coreOn = true) (hruns : ptpRuns s.dev n = true) (hp2p : s.dev.rf (.ptp n) 0x040 7 6 = 1)
    (hdue : (s.dev.ptpn n).pdAt ≤ s.root.ec) (hlink : (s.dev.netp (ptpPort s.dev n)).link = true) :
    Completes (.pdelayReqSend n) s fun t =>
      let x := s.dev.ptpn n
      let p := ptpPort s.dev n
      PtpFrame s t ∧ CountsUp n 2 s t ∧ (t.dev.netp p).ptpQ = (s.dev.netp p).ptpQ ++ [{ eng := n, type := 2, seq := x.pdSeq }] ∧
      (t.dev.ptpn n).pd = some { seq := x.pdSeq } ∧ (t.dev.ptpn n).pdAt = s.root.ec + pow2s (ptpLog s.dev n 16) := by
  refine completes_onPage hon (show _ = execPdelayReqSend n s from rfl) fun pg ln => ?_
  rw [pdreqSend_due (d := { s.dev with page := pg, lines := ln }) ⟨hruns, hp2p, hdue, hlink⟩]
  refine ⟨⟨devOnly_dev .., rfl⟩, countsUp_of (ptpSent_ptpn ..) (counted_self ..), ptpSent_queued .., ?_⟩
  dsimp only
  rw [ptpSent_ptpn]
  exact ⟨rfl, rfl⟩

theorem syncSend_completes (hon : s.root.coreOn = true) (hst : (s.dev.ptpn n).st = 3) (hlink : (s.dev.netp (ptpPort s.dev n)).link = true)
    (hdue : syncSend.cdiv' (s.dev.tb.at'.val s.root.ec) (pow2s (ptpLog s.dev n 0)) <
      syncSend.cdiv' (s.dev.tb.at'.val (s.root.ec + 512)) (pow2s (ptpLog s.dev n 0))) :
    Completes (.syncSend n) s fun t =>
      let x := s.dev.ptpn n
      let p := ptpPort s.dev n
      PtpFrame s t ∧ CountsUp n 0 s t ∧
      (t.dev.netp p).ptpQ = (s.dev.netp p).ptpQ ++ [{ eng := n, type := 0, seq := x.syncSeq, oneStep := s.dev.rb (.ptp n) 0x040 10 }] ∧
      (t.dev.ptpn n).syncSeq = (x.syncSeq + 1) % 65536 := by
  refine completes_onPage hon (show _ = execSyncSend n s from rfl) fun pg ln => ?_
  obtain ⟨l, hl⟩ := syncSend_due (d := { s.dev with page := pg, lines := ln }) ⟨hst, hlink, hdue⟩
  rw [hl]
  refine ⟨⟨devOnly_dev .., rfl⟩, countsUp_of (ptpSent_ptpn ..) (counted_self ..), ptpSent_queued .., ?_⟩
  dsimp only
  rw [ptpSent_ptpn]
  rfl

end

/-! ### Follow_Up, Delay_Resp and Pdelay_Resp_Follow_Up (R136, R137) -/

section
variable {n : Nat} {d : Dev} {st : Stamp}

theorem followUpSend_due {k : Nat} {q : List (Nat × Option Stamp)} (h : (d.ptpn n).syncOut = (k, some st) :: q) :
    followUpSend n d =
      if ptpGood d st then ptpSent n 1 { eng := n, type := 8, seq := k, ts := d.tb.at'.val st.ec } { d.ptpn n with syncOut := q } d
      else ptpCount n 8 (d.setPtp n { d.ptpn n with syncOut := q }) := by
  unfold followUpSend
  dsimp only
  rw [h]
  rfl

theorem drespSend_due {req k : Nat} {c : Int} {q : List (Nat × Nat × Stamp × Int)} (h : (d.ptpn n).answers = (req, k, st, c) :: q) :
    drespSend n d =
      if ptpGood d st then
        ptpSent n 2 { eng := n, type := 9, seq := k, ts := d.tb.at'.val st.ec, corr := c, req := req } { d.ptpn n with answers := q } d
      else ptpCount n 8 (d.setPtp n { d.ptpn n with answers := q }) := by
  unfold drespSend
  dsimp only
  rw [h]
  rfl

theorem pdfuSend_due {req k : Nat} {c : Int} {q : List (Nat × Nat × Int × Option Stamp)} (h : (d.ptpn n).pdAnswers = (req, k, c, some st) :: q) :
    pdfuSend n d =
      if ptpGood d st then
        ptpSend { eng := n, type := 10, seq := k, ts := d.tb.at'.val st.ec, corr := c, req := req } (d.setPtp n { d.ptpn n with pdAnswers := q })
      else ptpCount n 8 (d.setPtp n { d.ptpn n with pdAnswers := q }) := by
  unfold pdfuSend
  dsimp only
  rw [h]

end

section
variable {s : State} {n : Fin 2} {st : Stamp}

/-- An exchange whose stamp may take no part in it is discarded and counted (R125, R140). -/
theorem exchange_discarded {y : Ptp} {pg ln} (hcnt : y.cnt = (s.dev.ptpn n).cnt) :
    let t : State := { s with dev := ptpCount n 8 (({ s.dev with page := pg, lines := ln } : Dev).setPtp n y) }
    PtpFrame s t ∧ t.dev.ptpn n = y.counted 8 ∧ CountsUp n 8 s t ∧ t.dev.net = s.dev.net := by
  have hx : (ptpCount n 8 (({ s.dev with page := pg, lines := ln } : Dev).setPtp n y)).ptpn n = y.counted 8 := by rw [ptpCount_ptpn, ptpn_setPtp]
  exact ⟨⟨devOnly_dev .., rfl⟩, hx, countsUp_of hx (hcnt ▸ counted_self 8 y), rfl⟩

/-- The answer of an exchange goes out when its stamp is good, and is counted. -/
theorem answer_sent {k : Nat} {m : PtpOut} {y : Ptp} {pg ln} (hm : m.eng = n) (hcnt : y.cnt = (s.dev.ptpn n).cnt) :
    let t : State := { s with dev := ptpSent n k m y { s.dev with page := pg, lines := ln } }
    PtpFrame s t ∧ t.dev.ptpn n = y.counted k ∧ CountsUp n k s t ∧
      (t.dev.netp (ptpPort s.dev n)).ptpQ = (s.dev.netp (ptpPort s.dev n)).ptpQ ++ [m] := by
  have hx := ptpSent_ptpn n k m y { s.dev with page := pg, lines := ln }
  exact ⟨⟨devOnly_dev .., rfl⟩, hx, countsUp_of hx (hcnt ▸ counted_self k y), hm ▸ ptpSent_queued n k m y { s.dev with page := pg, lines := ln }⟩

theorem followUpSend_completes (hon : s.root.coreOn = true) {k : Nat} {q : List (Nat × Option Stamp)}
    (h : (s.dev.ptpn n).syncOut = (k, some st) :: q) :
    Completes (.followUpSend n) s fun t =>
      let p := ptpPort s.dev n
      PtpFrame s t ∧ (t.dev.ptpn n).syncOut = q ∧
      (ptpGood s.dev st = true → CountsUp n 1 s t ∧
        (t.dev.netp p).ptpQ = (s.dev.netp p).ptpQ ++ [{ eng := n, type := 8, seq := k, ts := s.dev.tb.at'.val st.ec }]) ∧
      (ptpGood s.dev st = false → CountsUp n 8 s t ∧ t.dev.net = s.dev.net) := by
  refine completes_onPage (f := fun _ => followUpSend n) hon (show _ = execFollowUpSend n s from rfl) fun pg ln => ?_
  rw [followUpSend_due (d := { s.dev with page := pg, lines := ln }) h]
  split
  next hg =>
    obtain ⟨hf, hx, hc, hsent⟩ := answer_sent (s := s) (n := n) (k := 1) (m := { eng := n, type := 8, seq := k, ts := s.dev.tb.at'.val st.ec })
      (y := { s.dev.ptpn n with syncOut := q }) (pg := pg) (ln := ln) rfl rfl
    exact ⟨hf, congrArg Ptp.syncOut hx, fun _ => ⟨hc, hsent⟩, fun h => absurd (h.symm.trans hg) Bool.false_ne_true⟩
  next hg =>
    obtain ⟨hf, hx, hc, hnet⟩ := exchange_discarded (s := s) (n := n) (y := { s.dev.ptpn n with syncOut := q }) (pg := pg) (ln := ln) rfl
    exact ⟨hf, congrArg Ptp.syncOut hx, fun h => absurd h hg, fun _ => ⟨hc, hnet⟩⟩

theorem delayRespSend_completes (hon : s.root.coreOn = true) {req k : Nat} {c : Int} {q : List (Nat × Nat × Stamp × Int)}
    (h : (s.dev.ptpn n).answers = (req, k, st, c) :: q) :
    Completes (.delayRespSend n) s fun t =>
      let p := ptpPort s.dev n
      PtpFrame s t ∧ (t.dev.ptpn n).answers = q ∧
      (ptpGood s.dev st = true → CountsUp n 2 s t ∧
        (t.dev.netp p).ptpQ = (s.dev.netp p).ptpQ ++ [{ eng := n, type := 9, seq := k, ts := s.dev.tb.at'.val st.ec, corr := c, req := req }]) ∧
      (ptpGood s.dev st = false → CountsUp n 8 s t ∧ t.dev.net = s.dev.net) := by
  refine completes_onPage (f := fun _ => drespSend n) hon (show _ = execDelayRespSend n s from rfl) fun pg ln => ?_
  rw [drespSend_due (d := { s.dev with page := pg, lines := ln }) h]
  split
  next hg =>
    obtain ⟨hf, hx, hc, hsent⟩ := answer_sent (s := s) (n := n) (k := 2)
      (m := { eng := n, type := 9, seq := k, ts := s.dev.tb.at'.val st.ec, corr := c, req := req })
      (y := { s.dev.ptpn n with answers := q }) (pg := pg) (ln := ln) rfl rfl
    exact ⟨hf, congrArg Ptp.answers hx, fun _ => ⟨hc, hsent⟩, fun h => absurd (h.symm.trans hg) Bool.false_ne_true⟩
  next hg =>
    obtain ⟨hf, hx, hc, hnet⟩ := exchange_discarded (s := s) (n := n) (y := { s.dev.ptpn n with answers := q }) (pg := pg) (ln := ln) rfl
    exact ⟨hf, congrArg Ptp.answers hx, fun h => absurd h hg, fun _ => ⟨hc, hnet⟩⟩

theorem pdelayRespFuSend_completes (hon : s.root.coreOn = true) {req k : Nat} {c : Int} {q : List (Nat × Nat × Int × Option Stamp)}
    (h : (s.dev.ptpn n).pdAnswers = (req, k, c, some st) :: q) :
    Completes (.pdelayRespFuSend n) s fun t =>
      let p := ptpPort s.dev n
      PtpFrame s t ∧ (t.dev.ptpn n).pdAnswers = q ∧
      (ptpGood s.dev st = true →
        (t.dev.netp p).ptpQ = (s.dev.netp p).ptpQ ++ [{ eng := n, type := 10, seq := k, ts := s.dev.tb.at'.val st.ec, corr := c, req := req }]) ∧
      (ptpGood s.dev st = false → CountsUp n 8 s t ∧ t.dev.net = s.dev.net) := by
  refine completes_onPage (f := fun _ => pdfuSend n) hon (show _ = execPdelayRespFuSend n s from rfl) fun pg ln => ?_
  rw [pdfuSend_due (d := { s.dev with page := pg, lines := ln }) h]
  split
  next hg =>
    exact ⟨⟨devOnly_dev .., rfl⟩, congrArg Ptp.pdAnswers (ptpSend_ptpn ..), fun _ => ptpSend_queued ..,
      fun h => absurd (h.symm.trans hg) Bool.false_ne_true⟩
  next hg =>
    obtain ⟨hf, hx, hc, hnet⟩ := exchange_discarded (s := s) (n := n) (y := { s.dev.ptpn n with pdAnswers := q }) (pg := pg) (ln := ln) rfl
    exact ⟨hf, congrArg Ptp.pdAnswers hx, fun h => absurd h hg, fun _ => ⟨hc, hnet⟩⟩

end

/-! ### The Sync timeout (R139, R148) -/

theorem srvn_of {a b : Dev} (h : Part.srv.of a = Part.srv.of b) (n : Nat) : a.srvn n = b.srvn n := by
  have h : a.srv = b.srv := Part.same_iff.mpr h
  simp only [Dev.srvn, h]

/-- Without a Sync a servo that waits, estimates, locks or is locked has NO_SYNC. -/
theorem srvNoSync_st {n : Nat} {d : Dev} (h : 1 ≤ (d.srvn n).st ∧ (d.srvn n).st ≤ 4) : ((srvNoSync n d).srvn n).st = 5 := by
  rw [srvNoSync, if_pos h, srvn_setSrv]

theorem ptpLost_srv {r : Root} {n : Nat} {d : Dev} (hst : (d.ptpn n).st = 2) (h : 1 ≤ (d.srvn n).st ∧ (d.srvn n).st ≤ 4) :
    ((ptpLost r n d).srvn n).st = 5 := by
  have hsrv : (raise r (100 + n) (d.setPtp n { d.ptpn n with st := 1, waitFU := none })).srvn n = d.srvn n :=
    srvn_of (of_raise (.of (by decide)) ..) n
  rw [ptpLost, if_pos hst]
  exact srvNoSync_st (by rwa [hsrv])

theorem syncTimeout_completes {s : State} {n : Fin 2} (hon : s.root.coreOn = true) (hst : (s.dev.ptpn n).st = 2)
    (hlate : (s.dev.ptpn n).syncEC + max 1 (s.dev.rf (.ptp n) 0x060 31 24) * pow2s (ptpLog s.dev n 0) ≤ s.root.ec) :
    Completes (.syncTimeout n) s fun t =>
      DevOnly s t ∧ CountsUp n 6 s t ∧ (t.dev.ptpn n).st = 1 ∧ (t.dev.ptpn n).waitFU = none ∧
      (1 ≤ (s.dev.srvn n).st → (s.dev.srvn n).st ≤ 4 → (t.dev.srvn n).st = 5) := by
  refine completes_onPage hon (show _ = execSyncTimeout n s from rfl) fun pg ln => ?_
  have late : syncLate { s.dev with page := pg, lines := ln } n s.root.ec = true := decide_eq_true ⟨hst, hlate⟩
  have hx : (syncTimeout s.root n { s.dev with page := pg, lines := ln }).ptpn n = (s.dev.ptpn n).timedOut :=
    (lateLost_ptpn (r := s.root) s.root.ec).trans (if_pos late)
  refine ⟨devOnly_dev .., countsUp_of hx (counted_self 6 _), congrArg Ptp.st hx, congrArg Ptp.waitFU hx, fun h1 h4 => ?_⟩
  dsimp only
  rw [syncTimeout, if_pos late]
  exact ptpLost_srv (by rw [ptpCount_ptpn]; exact hst) ⟨h1, h4⟩

end Sys2Proof.Machine

namespace Sys2Proof

open Machine in
/-- Settles O32: each message by its own event when it is due, and the timeout. -/
theorem ptpSend : Obligations.PtpSend := by
  intro s n hon
  exact ⟨fun _ => delayReqSend_completes hon, pdelayReqSend_completes hon, syncSend_completes hon, fun _ _ _ => followUpSend_completes hon,
    fun _ _ _ _ _ => delayRespSend_completes hon, fun _ _ _ _ _ => pdelayRespFuSend_completes hon, syncTimeout_completes hon⟩

end Sys2Proof

/-! Engine control: enabling, disabling and a new parent (R132, R138, R139). -/

namespace Sys2Proof.Machine

/-! ### Words with one bit set or cleared -/

/-- A word whose bit `i` an access sets shows it. -/
theorem bitOf_setBit {i : Nat} (hi : i < 32) (w : Word) (v : Bool) : bitOf (setBit w i v) i = v := by
  have word : ∀ k, bitOf (wd k) i = k.testBit i := fun k => by
    rw [bitOf_eq_testBit, wd, BitVec.toNat_ofNat, Nat.testBit_mod_two_pow, decide_eq_true hi, Bool.true_and]
  unfold setBit
  split
  next h => exact h
  next h =>
    rw [bitOf_eq_testBit] at h
    cases v with
    | true =>
      rw [if_pos rfl, word, Nat.add_comm, Nat.testBit_two_pow_add_eq, Bool.eq_false_iff.mpr h]
      rfl
    | false =>
      have hset : w.toNat.testBit i = true := by simpa using h
      have hsum : 2 ^ i + (w.toNat - 2 ^ i) = w.toNat := Nat.add_sub_cancel' (Nat.ge_two_pow_of_testBit hset)
      rw [if_neg (by decide), word]
      rw [← hsum, Nat.testBit_two_pow_add_eq] at hset
      simpa using hset

/-! ### Writes of registers on which their block acts -/

theorem reg_of {a b : Dev} (h : Part.regs.of a = Part.regs.of b) (p : Blk) (o : Nat) : a.reg p o = b.reg p o := by
  have h : a.regs = b.regs := Part.same_iff.mpr h
  simp only [Dev.reg, h]

/-- A write of an RW register that the device does not set stores its word, and its block acts on it. -/
theorem completes_onReg_rw {i : Instr} {s : State} {g : Gal} {b : Blk} {o : Nat} {w : Word} {x : Reg} {act : Dev → Dev} {P : State → Prop}
    (hi : exec i s = onReg g b o w s) (hb : b ∈ Blk.all) (h40 : 0x040 ≤ o) (ho : o < 0x1000) (hx : b.reg o = some x) (hty : x.ty = .rw)
    (hshp : b ≠ .shp) (hlog : b ≠ .log) (hmask : hwMask b o = 0) (hw : canWrite s g b o w = true)
    (hact : ∀ d, afterWrite s.root s.mem b o [s.dev.reg b o] [w] w d = eff (act d))
    (h : ∀ pg ln, P { s with dev := act { s.dev.setReg b o w with page := pg, lines := ln } }) : Completes i s P := by
  refine ⟨_, hi.trans (onReg_can s g b o w x hb ho hx hw), ?_⟩
  have stored : regWrite s.root s.mem g b o x w s.dev = eff (act (pageUse s.root b (actUses b o) (s.dev.setReg b o w))) := by
    simp only [regWrite, Nat.not_lt.mpr h40, hty, hlog, storeAct, hshp, false_and, if_false, hostFirst_eq fun _ => hmask]
    exact hact _
  rw [stored, pageUse_eq]
  exact h _ _

/-! ### CTRL (R138, R139) -/

theorem ptp_ctrl (n : Fin 2) : ∃ x, (Blk.ptp n).reg 0x040 = some x ∧ x.ty = .rw := by
  have h : ((Blk.ptp n).reg 0x040).map (·.ty) = some .rw := by
    revert n
    decide
  exact Option.map_eq_some_iff.mp h

/-- The engine once enabled, started or refused. -/
theorem ptpStart_ptpn (r : Root) (n : Nat) (d : Dev) :
    let y := (ptpStart r n d).ptpn n
    y.refuse = ptpRefuse r d n ∧ y.cnt = [] ∧ y.rxQ = [] ∧ y.st = if ptpRefuse r d n ≠ 0 then 4 else if d.rf (.ptp n) 0x040 5 4 = 1 then 3 else 1 := by
  unfold ptpStart
  dsimp only
  rw [srvSettle_ptpn, ptpn_of (of_raiseIf (.of (by decide)) ..), ptpn_setPtp]
  exact ⟨rfl, rfl, rfl, rfl⟩

theorem ptpCtrlHook_enable {r : Root} {n : Nat} {old new : Word} {d : Dev} (hnew : bitOf new 0 = true) (hold : bitOf old 0 = false) :
    ptpCtrlHook r n old new d = ptpStart r n d := by
  simp [ptpCtrlHook, hnew, hold]

/-- A disabled engine keeps its counters, and no message or exchange. -/
theorem ptpCtrlHook_disable {r : Root} {n : Nat} {old new : Word} {d : Dev} (hnew : bitOf new 0 = false) :
    (ptpCtrlHook r n old new d).ptpn n =
      { d.ptpn n with st := 0, refuse := 0, rxQ := [], waitFU := none, lastSync := none, dreq := none, dreqPrev := none, dreqAt := none, pd := none,
                      answers := [], pdAnswers := [], syncOut := [] } := by
  unfold ptpCtrlHook
  dsimp only
  rw [hnew, if_neg (by decide), srvSettle_ptpn, ptpn_setPtp]

theorem ptpCtrlHook_reg (r : Root) (n : Nat) (old new : Word) (d : Dev) (b : Blk) (o : Nat) : (ptpCtrlHook r n old new d).reg b o = d.reg b o :=
  reg_of (of_ptpCtrlHook (.of (by decide)) ..) b o

section
variable {s : State} {g : Gal} {n : Fin 2} {w : Word}

theorem completes_ptpCtrl {i : Instr} {v : Word} {P : State → Prop} (hi : exec i s = onReg g (.ptp n) 0x040 v s)
    (hw : canWrite s g (.ptp n) 0x040 v = true)
    (h : ∀ pg ln, P { s with dev := ptpCtrlHook s.root n (s.dev.reg (.ptp n) 0x040) v { s.dev.setReg (.ptp n) 0x040 v with page := pg, lines := ln } }) :
    Completes i s P := by
  obtain ⟨x, hx, hty⟩ := ptp_ctrl n
  exact completes_onReg_rw hi (ptp_mem n) (by decide) (by decide) hx hty (by simp) (by simp) rfl hw (fun _ => rfl) h

theorem ptpEnable_completes (hw : canWrite s g (.ptp n) 0x040 (setBit w 0 true) = true) (hoff : s.dev.rb (.ptp n) 0x040 0 = false) :
    Completes (.ptpEnable g n w) s fun t =>
      let v := setBit w 0 true
      let x := t.dev.ptpn n
      let why := ptpRefuse s.root (s.dev.setReg (.ptp n) 0x040 v) n
      DevOnly s t ∧ t.dev.reg (.ptp n) 0x040 = v ∧ x.refuse = why ∧ x.cnt = [] ∧ x.rxQ = [] ∧
      (why ≠ 0 → x.st = 4) ∧ (why = 0 → x.st = if fld v 5 4 = 1 then 3 else 1) := by
  refine completes_ptpCtrl (show _ = execPtpEnable g n w s from rfl) hw fun pg ln => ?_
  have hv : bitOf (setBit w 0 true) 0 = true := bitOf_setBit (by decide) w true
  generalize setBit w 0 true = v at hv ⊢
  have hreg : (s.dev.setReg (.ptp n) 0x040 v).reg (.ptp n) 0x040 = v := reg_setReg_self ..
  obtain ⟨hwhy, hcnt, hrx, hst⟩ := ptpStart_ptpn s.root n { s.dev.setReg (.ptp n) 0x040 v with page := pg, lines := ln }
  have hrole : ({ s.dev.setReg (.ptp n) 0x040 v with page := pg, lines := ln } : Dev).rf (.ptp n) 0x040 5 4 = fld v 5 4 :=
    congrArg (fld · 5 4) hreg
  rw [hrole] at hst
  refine ⟨devOnly_dev .., (ptpCtrlHook_reg ..).trans hreg, ?_⟩
  dsimp only
  rw [ptpCtrlHook_enable hv hoff]
  exact ⟨hwhy, hcnt, hrx, fun h => hst.trans (if_pos h), fun h => hst.trans (if_neg (not_not_intro h))⟩

theorem ptpDisable_completes (hw : canWrite s g (.ptp n) 0x040 (setBit w 0 false) = true) :
    Completes (.ptpDisable g n w) s fun t =>
      let x := t.dev.ptpn n
      DevOnly s t ∧ t.dev.reg (.ptp n) 0x040 = setBit w 0 false ∧ x.st = 0 ∧ x.rxQ = [] ∧ x.waitFU = none ∧ x.dreq = none ∧ x.pd = none ∧
      x.answers = [] ∧ x.cnt = (s.dev.ptpn n).cnt := by
  refine completes_ptpCtrl (show _ = execPtpDisable g n w s from rfl) hw fun pg ln => ?_
  refine ⟨devOnly_dev .., (ptpCtrlHook_reg ..).trans (reg_setReg_self s.dev (.ptp n) 0x040 _), ?_⟩
  dsimp only
  rw [ptpCtrlHook_disable (bitOf_setBit (by decide) w false)]
  exact ⟨rfl, rfl, rfl, rfl, rfl, rfl, rfl⟩

end

/-! ### PARENT (R132, R139) -/

theorem parent_reg (n : Fin 2) : ∃ x, (Blk.ptp n).reg 0x048 = some x ∧ x.ty = .lwRw 3 := by
  have h : ((Blk.ptp n).reg 0x048).map (·.ty) = some (.lwRw 3) := by
    revert n
    decide
  exact Option.map_eq_some_iff.mp h

theorem srvWait_st {n : Nat} {d : Dev} (h : (d.srvn n).st ≠ 0) : ((srvWait n d).srvn n).st = 1 := by
  rw [srvWait, if_neg h, srvn_setSrv]

theorem parentHook_same (r : Root) (n : Nat) (l : List Word) (d : Dev) : parentHook r n l l d = d := if_pos rfl

section
variable {r : Root} {n : Nat} {old new : List Word} {d : Dev}

/-- Under a new parent no exchange of the old one goes on. -/
theorem parentHook_ptpn (h : old ≠ new) : ∃ c o, (parentHook r n old new d).ptpn n =
    { d.ptpn n with waitFU := none, lastSync := none, dreq := none, dreqPrev := none, pd := none, dreqAt := none,
                    st := if (d.ptpn n).st = 2 then 1 else (d.ptpn n).st, parCyc := c, parOld := o } := by
  unfold parentHook
  dsimp only
  rw [if_neg h, ptpn_setPtp, ptpn_of (of_srvWait (.of (by decide)) ..), ptpDiscard, ptpn_setPtp]
  exact ⟨_, _, rfl⟩

theorem parentHook_srv (h : old ≠ new) (hst : (d.srvn n).st ≠ 0) : ((parentHook r n old new d).srvn n).st = 1 := by
  unfold parentHook
  dsimp only
  rw [if_neg h]
  exact srvWait_st (d := ptpDiscard n d) hst

end

section
variable {s : State} {g : Gal} {n : Fin 2} {w : Word}

/-- A commit of PARENT stores its three words, and the engine compares them with those before. -/
theorem completes_parentCommit {P : State → Prop} (hw : canWrite s g (.ptp n) 0x048 w = true)
    (h : ∀ (a b : Word) (d : Dev), d.ptp = s.dev.ptp → d.srv = s.dev.srv →
      d.reg (.ptp n) 0x048 = w → d.reg (.ptp n) 0x04C = a → d.reg (.ptp n) 0x050 = b →
      P { s with dev := parentHook s.root n [s.dev.reg (.ptp n) 0x048, s.dev.reg (.ptp n) 0x04C, s.dev.reg (.ptp n) 0x050] [w, a, b] d }) :
    Completes (.parentCommit g n w) s P := by
  obtain ⟨x, hx, hty⟩ := parent_reg n
  obtain ⟨a, b, hwords⟩ : ∃ a b, groupWords s.dev g (.ptp n) 0x048 3 w = [w, a, b] := ⟨_, _, groupWords_plain (by simp) (by simp) (by simp) ..⟩
  refine ⟨_, (show _ = execParentCommit g n w s from rfl).trans (onReg_can s g (.ptp n) 0x048 w x (ptp_mem n) (by decide) hx hw), ?_⟩
  rw [regWrite_lwRw (by decide) hty (by simp), hwords]
  set d := pageUse s.root (.ptp n) (actUses (.ptp n) 0x048)
    (storeWords (.ptp n) 0x048 [w, a, b] (s.dev.setWsh g ((Blk.ptp n).addr 0x048) [])) with hd
  have hreg : ∀ j < 3, d.reg (.ptp n) (0x048 + 4 * j) = [w, a, b].getD j 0 := fun j hj => by
    rw [← reg_storeWords (.ptp n) 0x048 j [w, a, b] (s.dev.setWsh g ((Blk.ptp n).addr 0x048) []) hj]
    simp only [Dev.reg, hd, pageUse_regs]
  exact h a b d (by rw [hd, pageUse_ptp, storeWords_eq]; rfl) (by rw [hd, pageUse_srv, storeWords_eq]; rfl) (hreg 0 (by decide)) (hreg 1 (by decide))
    (hreg 2 (by decide))

theorem parentCommit_completes (hw : canWrite s g (.ptp n) 0x048 w = true) :
    Completes (.parentCommit g n w) s fun t =>
      let x := t.dev.ptpn n
      let changed := t.dev.reg (.ptp n) 0x048 ≠ s.dev.reg (.ptp n) 0x048 ∨ t.dev.reg (.ptp n) 0x04C ≠ s.dev.reg (.ptp n) 0x04C ∨
        t.dev.reg (.ptp n) 0x050 ≠ s.dev.reg (.ptp n) 0x050
      DevOnly s t ∧ t.dev.reg (.ptp n) 0x048 = w ∧
      (changed → x.waitFU = none ∧ x.dreq = none ∧ x.pd = none ∧ (x.st = if (s.dev.ptpn n).st = 2 then 1 else (s.dev.ptpn n).st) ∧
        ((s.dev.srvn n).st ≠ 0 → (t.dev.srvn n).st = 1)) ∧
      (¬changed → t.dev.ptp = s.dev.ptp ∧ t.dev.srv = s.dev.srv) := by
  refine completes_parentCommit hw fun a b d hptp hsrv h0 h1 h2 => ?_
  have hreg : ∀ old new o, (parentHook s.root n old new d).reg (.ptp n) o = d.reg (.ptp n) o := fun old new o =>
    reg_of (of_parentHook (.of (by decide)) ..) (.ptp n) o
  dsimp only
  simp only [hreg, h0, h1, h2]
  refine ⟨devOnly_dev .., trivial, fun hch => ?_, fun hsame => ?_⟩
  · have hne : [s.dev.reg (.ptp n) 0x048, s.dev.reg (.ptp n) 0x04C, s.dev.reg (.ptp n) 0x050] ≠ [w, a, b] := by
      rintro ⟨⟩
      simp at hch
    obtain ⟨c, o, hx⟩ := parentHook_ptpn (r := s.root) (n := n) (d := d) hne
    have hpn : d.ptpn n = s.dev.ptpn n := by simp only [Dev.ptpn, hptp]
    have hsn : d.srvn n = s.dev.srvn n := by simp only [Dev.srvn, hsrv]
    rw [hx, hpn]
    exact ⟨rfl, rfl, rfl, rfl, fun hst => parentHook_srv hne (hsn ▸ hst)⟩
  · simp only [not_or, not_not] at hsame
    obtain ⟨rfl, rfl, rfl⟩ := hsame
    rw [parentHook_same]
    exact ⟨hptp, hsrv⟩

end

/-- Settles O30: the two writes of CTRL, and the commit of PARENT. -/
theorem ptpControl : Obligations.PtpControl := fun _ _ _ _ => ⟨ptpEnable_completes, ptpDisable_completes, parentCommit_completes⟩

end Sys2Proof.Machine

/-! The servos: steps, lock, narrowing of the gains and control (R146 to R150). -/

namespace Sys2Proof.Machine

theorem view_of {a b : Dev} (h : Part.tb.of a = Part.tb.of b) (i : Nat) : a.view i = b.view i := by
  apply view_eq <;> rw [tb_of h]

/-! ### SERVO_STEP (R146, R150) -/

/-- A servo that has taken its step and locks again. -/
def Srv.stepped (x : Srv) : Srv :=
  { x with stepDue := none, st := 3, stepRun := 0, lockRun := 0, narrow := 0, stage := 0, dWin := [], qWin := [] }

section
variable {r : Root} {n : Nat} {th : Int} {d : Dev}

theorem srvStep_taken (hdue : (d.srvn n).stepDue = some th) (hf : d.feed n = false) :
    srvStep r n d = raise r (104 + n) (stepView r n { anchorEC := r.ec, anchorT := (d.view n).val r.ec - th, rate := (d.view n).rate }
      (d.setSrv n (d.srvn n).stepped)) := by
  unfold srvStep
  dsimp only
  rw [hdue]
  dsimp only
  rw [hf]
  rfl

/-- While FEED is 1 the step is discarded and counted. -/
theorem srvStep_fed (hdue : (d.srvn n).stepDue = some th) (hf : d.feed n = true) :
    (srvStep r n d).tb = d.tb ∧ (srvStep r n d).srvn n = { (d.srvn n).stepped with discarded := satInc (d.srvn n).discarded 0xFFFF } := by
  unfold srvStep
  dsimp only
  rw [hdue]
  dsimp only
  rw [if_pos hf, srvn_setSrv, srvn_setSrv]
  exact ⟨rfl, rfl⟩

end

section
variable {s : State} {n : Fin 2} {th : Int}

theorem servoStep_taken_completes (hon : s.root.coreOn = true) (hdue : (s.dev.srvn n).stepDue = some th) (hf : s.dev.feed n = false) :
    Completes (.servoStep n) s fun t =>
      DevOnly s t ∧ t.dev.view n = { anchorEC := s.root.ec, anchorT := (s.dev.view n).val s.root.ec - th, rate := (s.dev.view n).rate } ∧
      (t.dev.srvn n).st = 3 ∧ (t.dev.srvn n).stepDue = none ∧ (t.dev.srvn n).dWin = [] ∧ (t.dev.srvn n).qWin = [] ∧
      (t.dev.srvn n).i = (s.dev.srvn n).i := by
  refine completes_onPage hon (show _ = execServoStep n s from rfl) fun pg ln => ?_
  rw [srvStep_taken (d := { s.dev with page := pg, lines := ln }) hdue hf]
  refine ⟨devOnly_dev .., ?_, ?_⟩
  · dsimp only
    rw [view_of (of_raise (.of (by decide)) ..), stepView_view, view_setView_self]
    rfl
  · dsimp only
    rw [srvn_of (of_raise (.of (by decide)) ..), srvn_of (of_stepView (.of (by decide)) ..), srvn_setSrv]
    exact ⟨rfl, rfl, rfl, rfl, rfl⟩

theorem servoStep_fed_completes (hon : s.root.coreOn = true) (hdue : (s.dev.srvn n).stepDue = some th) (hf : s.dev.feed n = true) :
    Completes (.servoStep n) s fun t =>
      DevOnly s t ∧ (∀ i, t.dev.view i = s.dev.view i) ∧ (t.dev.srvn n).discarded = satInc (s.dev.srvn n).discarded 0xFFFF ∧
      (t.dev.srvn n).stepDue = none := by
  refine completes_onPage hon (show _ = execServoStep n s from rfl) fun pg ln => ?_
  obtain ⟨htb, hx⟩ := srvStep_fed (r := s.root) (d := { s.dev with page := pg, lines := ln }) hdue hf
  refine ⟨devOnly_dev .., fun i => ?_, congrArg Srv.discarded hx, congrArg Srv.stepDue hx⟩
  apply view_eq <;> rw [htb]

/-! ### SERVO_LOCK and GAIN_NARROW (R147, R148) -/

theorem servoLock_completes (hon : s.root.coreOn = true) (hst : (s.dev.srvn n).st = 3)
    (hrun : max 1 (s.dev.rf (.srv n) 0x054 23 16) ≤ (s.dev.srvn n).lockRun) :
    Completes (.servoLock n) s fun t =>
      DevOnly s t ∧ (t.dev.srvn n).st = 4 ∧ (t.dev.srvn n).i = (s.dev.srvn n).i ∧ (∀ i, t.dev.view i = s.dev.view i) := by
  refine completes_onPage hon (show _ = execServoLock n s from rfl) fun pg ln => ?_
  rw [srvLock, if_pos ⟨hst, hrun⟩]
  dsimp only
  rw [srvn_of (of_raise (.of (by decide)) ..), srvn_setSrv]
  exact ⟨devOnly_dev .., rfl, rfl, view_of (of_raise (.of (by decide)) ..)⟩

/-- The gains that start at bit `lo` of their registers are down to their tracking value at halving stage `k`. -/
abbrev gainDone (d : Dev) (n k lo : Nat) : Prop :=
  gainAt (d.rf (.srv n) 0x048 (lo + 15) lo) (d.rf (.srv n) 0x04C (lo + 15) lo) k ≤ d.rf (.srv n) 0x04C (lo + 15) lo

/-- A halving that is due goes one stage on until both gains are at their tracking values. -/
theorem srvNarrow_due {n : Nat} {d : Dev} (h : (d.srvn n).st = 4 ∧ d.rb (.srv n) 0x040 3 = true ∧ max 1 (d.rf (.srv n) 0x054 31 24) ≤ (d.srvn n).narrow) :
    ∃ k, (srvNarrow n d).srvn n = { d.srvn n with narrow := 0, stage := k } ∧
      (gainDone d n (d.srvn n).stage 0 ∧ gainDone d n (d.srvn n).stage 16 → k = (d.srvn n).stage) ∧
      (¬(gainDone d n (d.srvn n).stage 0 ∧ gainDone d n (d.srvn n).stage 16) → (d.srvn n).stage < 15 → k = (d.srvn n).stage + 1) := by
  unfold srvNarrow
  dsimp only
  rw [if_pos h, srvn_setSrv]
  refine ⟨_, rfl, fun hdone => if_pos ?_, fun hdone hlt => if_neg ?_⟩
  · exact Bool.or_eq_true_iff.mpr (.inl (Bool.and_eq_true_iff.mpr ⟨decide_eq_true hdone.1, decide_eq_true hdone.2⟩))
  · rintro hor
    rcases Bool.or_eq_true_iff.mp hor with hand | hge
    · obtain ⟨h0, h16⟩ := Bool.and_eq_true_iff.mp hand
      exact hdone ⟨of_decide_eq_true h0, of_decide_eq_true h16⟩
    · exact Nat.not_lt.mpr (of_decide_eq_true hge) hlt

theorem gainNarrow_completes (hon : s.root.coreOn = true) (hst : (s.dev.srvn n).st = 4) (hadapt : s.dev.rb (.srv n) 0x040 3 = true)
    (hrun : max 1 (s.dev.rf (.srv n) 0x054 31 24) ≤ (s.dev.srvn n).narrow) :
    Completes (.gainNarrow n) s fun t =>
      let x := s.dev.srvn n
      DevOnly s t ∧ (t.dev.srvn n).narrow = 0 ∧ (t.dev.srvn n).st = 4 ∧
      (gainDone s.dev n x.stage 0 ∧ gainDone s.dev n x.stage 16 → (t.dev.srvn n).stage = x.stage) ∧
      (¬(gainDone s.dev n x.stage 0 ∧ gainDone s.dev n x.stage 16) → x.stage < 15 → (t.dev.srvn n).stage = x.stage + 1) := by
  refine completes_onPage (f := fun _ => srvNarrow n) hon (show _ = execGainNarrow n s from rfl) fun pg ln => ?_
  obtain ⟨k, hx, hdone, hmore⟩ := srvNarrow_due (d := { s.dev with page := pg, lines := ln }) ⟨hst, hadapt, hrun⟩
  dsimp only
  rw [hx]
  exact ⟨devOnly_dev .., rfl, hst, hdone, hmore⟩

end

/-! ### CTRL and CMD.RESTART (R148) -/

theorem srv_ctrl : ∃ x, (∀ n, (Blk.srv n).reg 0x040 = some x) ∧ x.ty = .rw := ⟨_, fun _ => rfl, rfl⟩

section
variable {n : Nat} {old new : Word} {d : Dev}

/-- A disabled servo keeps I. -/
theorem srvSettle_disabled (h : d.rb (.srv n) 0x040 0 = false) : (srvSettle n d).srvn n = { d.srvn n with st := 0, stage := 0, stepDue := none } := by
  unfold srvSettle
  dsimp only
  rw [h, if_pos (by simp), srvn_setSrv]

/-- An enabled servo of an engine that follows a parent waits if it was disabled, and goes on else. -/
theorem srvSettle_enabled (h : d.rb (.srv n) 0x040 0 = true) (hrole : d.rf (.ptp n) 0x040 5 4 ≠ 1) : ∃ y, (srvSettle n d).srvn n = y ∧
    y.discarded = (d.srvn n).discarded ∧ y.gated = (d.srvn n).gated ∧ y.clamps = (d.srvn n).clamps ∧ y.samples = (d.srvn n).samples ∧
    ((d.srvn n).st = 0 → ((d.ptpn n).st = 1 ∨ (d.ptpn n).st = 2) → y.st = 1) := by
  unfold srvSettle
  dsimp only
  rw [h, if_neg (by simpa using hrole)]
  split
  next => exact ⟨_, srvn_setSrv .., rfl, rfl, rfl, rfl, fun _ _ => rfl⟩
  next hc => exact ⟨_, rfl, rfl, rfl, rfl, rfl, fun hst he => absurd ⟨hst, he⟩ hc⟩

theorem srvCtrlHook_enable (hold : bitOf old 0 = false) (hnew : bitOf new 0 = true) :
    srvCtrlHook n old new d = srvSettle n (d.setSrv n { d.srvn n with discarded := 0, gated := 0, clamps := 0, samples := 0 }) := by
  simp [srvCtrlHook, hold, hnew]

theorem srvCtrlHook_disable (hnew : bitOf new 0 = false) : srvCtrlHook n old new d = srvSettle n d := by
  simp [srvCtrlHook, hnew]

theorem srvCtrlHook_reg (b : Blk) (o : Nat) : (srvCtrlHook n old new d).reg b o = d.reg b o := reg_of (of_srvCtrlHook (.of (by decide)) ..) b o

theorem srvRestart_srvn : (srvRestart n d).srvn n = if (d.srvn n).st = 0 then d.srvn n else
    { d.srvn n with st := 1, dWin := [], qWin := [], first := none, stepRun := 0, lockRun := 0, narrow := 0, stage := 0, stepDue := none, i := 0 } := by
  unfold srvRestart
  dsimp only
  split
  next => rfl
  next h => rw [srvn_setSrv, srvWait, if_neg h, srvn_setSrv]

end

section
variable {s : State} {g : Gal} {n : Fin 2} {w : Word}

theorem completes_srvCtrl {i : Instr} {v : Word} {P : State → Prop} (hi : exec i s = onReg g (.srv n) 0x040 v s)
    (hw : canWrite s g (.srv n) 0x040 v = true)
    (h : ∀ pg ln, P { s with dev := srvCtrlHook n (s.dev.reg (.srv n) 0x040) v { s.dev.setReg (.srv n) 0x040 v with page := pg, lines := ln } }) :
    Completes i s P := by
  obtain ⟨x, hx, hty⟩ := srv_ctrl
  exact completes_onReg_rw hi (srv_mem n) (by decide) (by decide) (hx n) hty (by simp) (by simp) rfl hw (fun _ => rfl) h

theorem servoEnable_completes (hw : canWrite s g (.srv n) 0x040 (setBit w 0 true) = true) (hoff : s.dev.rb (.srv n) 0x040 0 = false)
    (hrole : s.dev.rf (.ptp n) 0x040 5 4 ≠ 1) :
    Completes (.servoEnable g n w) s fun t =>
      let x := s.dev.srvn n
      let y := t.dev.srvn n
      DevOnly s t ∧ t.dev.reg (.srv n) 0x040 = setBit w 0 true ∧ y.discarded = 0 ∧ y.gated = 0 ∧ y.clamps = 0 ∧ y.samples = 0 ∧
      (x.st = 0 → ((s.dev.ptpn n).st = 1 ∨ (s.dev.ptpn n).st = 2) → y.st = 1) := by
  refine completes_srvCtrl (show _ = execServoEnable g n w s from rfl) hw fun pg ln => ?_
  have hv : bitOf (setBit w 0 true) 0 = true := bitOf_setBit (by decide) w true
  generalize setBit w 0 true = v at hv ⊢
  have hreg : (s.dev.setReg (.srv n) 0x040 v).reg (.srv n) 0x040 = v := reg_setReg_self ..
  refine ⟨devOnly_dev .., (srvCtrlHook_reg ..).trans hreg, ?_⟩
  dsimp only
  rw [srvCtrlHook_enable hoff hv]
  generalize hd : Dev.setSrv _ _ _ = d
  have hx : d.srvn n = { s.dev.srvn n with discarded := 0, gated := 0, clamps := 0, samples := 0 } := by
    rw [← hd, srvn_setSrv]
    rfl
  have hena : d.rb (.srv n) 0x040 0 = true := by
    rw [← hd]
    exact (congrArg (bitOf · 0) hreg).trans hv
  have hrole' : d.rf (.ptp n) 0x040 5 4 ≠ 1 := by
    have hother : (s.dev.setReg (.srv n) 0x040 v).reg (.ptp n) 0x040 = s.dev.reg (.ptp n) 0x040 :=
      sget_setReg_other _ _ _ _ _ (by simp only [Blk.addr, Blk.page]; omega)
    rw [← hd]
    exact fun h => hrole ((congrArg (fld · 5 4) hother).symm.trans h)
  obtain ⟨y, hy, hd0, hg0, hc0, hs0, hst⟩ := srvSettle_enabled hena hrole'
  rw [hx] at hd0 hg0 hc0 hs0 hst
  rw [hy]
  exact ⟨hd0, hg0, hc0, hs0, fun h he => hst h (by rw [← hd]; exact he)⟩

theorem servoDisable_completes (hw : canWrite s g (.srv n) 0x040 (setBit w 0 false) = true) :
    Completes (.servoDisable g n w) s fun t =>
      DevOnly s t ∧ t.dev.reg (.srv n) 0x040 = setBit w 0 false ∧ (t.dev.srvn n).st = 0 ∧ (t.dev.srvn n).stage = 0 ∧
      (t.dev.srvn n).i = (s.dev.srvn n).i := by
  refine completes_srvCtrl (show _ = execServoDisable g n w s from rfl) hw fun pg ln => ?_
  have hv : bitOf (setBit w 0 false) 0 = false := bitOf_setBit (by decide) w false
  generalize setBit w 0 false = v at hv ⊢
  have hreg : (s.dev.setReg (.srv n) 0x040 v).reg (.srv n) 0x040 = v := reg_setReg_self ..
  have hoff : ({ s.dev.setReg (.srv n) 0x040 v with page := pg, lines := ln } : Dev).rb (.srv n) 0x040 0 = false :=
    (congrArg (bitOf · 0) hreg).trans hv
  refine ⟨devOnly_dev .., (srvCtrlHook_reg ..).trans hreg, ?_⟩
  dsimp only
  rw [srvCtrlHook_disable hv, srvSettle_disabled hoff]
  exact ⟨rfl, rfl, rfl⟩

theorem servoRestart_completes (hw : canWrite s g (.srv n) 0x07C 1 = true) :
    Completes (.servoRestart g n) s fun t =>
      let x := s.dev.srvn n
      let y := t.dev.srvn n
      DevOnly s t ∧ (x.st ≠ 0 → y.st = 1 ∧ y.i = 0 ∧ y.dWin = [] ∧ y.qWin = [] ∧ y.stage = 0) ∧ (x.st = 0 → y = x) := by
  obtain ⟨x, hx, hty⟩ : ∃ x, (Blk.srv n).reg 0x07C = some x ∧ x.ty = .wo := ⟨_, rfl, rfl⟩
  have hstrobe : regWrite s.root s.mem g (.srv n) 0x07C x 1 s.dev = eff (srvRestart n (pageUse s.root (.srv n) [0x040] s.dev)) := by
    simp only [regWrite, hty]
    rfl
  refine ⟨_, (show _ = execServoRestart g n s from rfl).trans (onReg_can s g (.srv n) 0x07C 1 x (srv_mem n) (by decide) hx hw), ?_⟩
  have hy : (srvRestart n (pageUse s.root (.srv n) [0x040] s.dev)).srvn n = _ := srvRestart_srvn
  have hsame : (pageUse s.root (.srv n) [0x040] s.dev).srvn n = s.dev.srvn n := by simp only [Dev.srvn, pageUse_srv]
  rw [hsame] at hy
  rw [hstrobe]
  dsimp only [eff]
  rw [hy]
  refine ⟨⟨rfl, rfl, rfl⟩, fun h => ?_, fun h => if_pos h⟩
  rw [if_neg h]
  exact ⟨rfl, rfl, rfl, rfl, rfl⟩

end

/-- Settles O33: steps, lock and narrowing by the servo's own events, ENA and RESTART by writes. -/
theorem servoCommands : Obligations.ServoCommands := fun _ _ _ _ =>
  ⟨fun _ => servoStep_taken_completes, fun _ => servoStep_fed_completes, servoLock_completes, gainNarrow_completes, servoEnable_completes,
    servoDisable_completes, servoRestart_completes⟩

end Sys2Proof.Machine

/-! The selector's state machine: what each of its operations makes of the selector, of the timebase and of the inputs (R157, R158, R163 to R166). -/

namespace Sys2Proof.Machine

/-! ### Operations that touch the selector's rate sums alone -/

section
variable (r : Root) (v : Nat) (d : Dev)

theorem accRate_ref : ∃ acc, (accRate r v d).ref = { d.ref with acc := acc } := ⟨_, rfl⟩

/-- AT's and the view's sums are brought up to now together where AT follows the view. -/
theorem accRates_ref (c : Prop) [Decidable c] :
    ∃ acc, (if c then accRate r 3 (accRate r v d) else accRate r v d).ref = { d.ref with acc := acc } := by
  split <;> exact ⟨_, rfl⟩

theorem viewRate_ref (rate : Int) : ∃ acc, (viewRate r v rate d).ref = { d.ref with acc := acc } := by
  obtain ⟨acc, h⟩ := accRates_ref r v d (d.tb.atView = v)
  unfold viewRate
  dsimp only
  rw [ref_of (of_followAt (.of (by decide)) ..), ref_of (of_setView (.of (by decide)) ..)]
  exact ⟨acc, h⟩

theorem stepView_ref (x : View) : ∃ acc, (stepView r v x d).ref = { d.ref with acc := acc } := by
  obtain ⟨acc, h⟩ := accRates_ref r v d (d.tb.atView = v)
  unfold stepView
  dsimp only
  generalize (if d.tb.atView = v then accRate r 3 (accRate r v d) else accRate r v d) = d0 at h ⊢
  refine ⟨acc, ?_⟩
  rw [ref_of (of_trigEraCancel (.of (by decide)) ..), ← h]
  have jumped : ∀ e : Dev, e.ref = d0.ref → (if d.tb.atView = v then atJump r (d0.setView v x) e else d0.setView v x).ref = d0.ref := fun e he => by
    split
    · rw [ref_of (of_atJump (.of (by decide)) ..), he]
    · exact ref_of (of_setView (.of (by decide)) ..)
  have placed : ∀ e : Dev, (eraBump r (2 + v) e).ref = e.ref := fun e => ref_of (of_eraBump (.of (by decide)) ..)
  have timed : ∀ e : Dev, (setTimeState r 1 e).ref = e.ref := fun e => ref_of (of_setTimeState (.of (by decide)) ..)
  have hset : ∀ y : View, ((d0.setView v x).setAt y).ref = d0.ref := fun y => ref_of (of_setView (π := .ref) (.of (by decide)) d0 v x)
  split
  · rw [timed, placed]
    exact jumped _ (by split <;> exact hset _)
  · rw [placed]
    exact jumped _ (by split <;> exact hset _)

theorem adoptView_ref : ∃ acc, (adoptView r v d).ref = { d.ref with acc := acc } := by
  unfold adoptView
  dsimp only
  rw [ref_of (of_atJump (.of (by decide)) ..)]
  exact ⟨_, rfl⟩

theorem adoptView_tb : ∃ run, (adoptView r v d).tb = { d.tb with at' := d.view v, atView := v, switching := false, run := run } := by
  unfold adoptView
  dsimp only
  obtain ⟨run, h⟩ := atJump_tb r d
    { accRate r 3 d with tb := { (accRate r 3 d).tb with at' := (accRate r 3 d).view v, atView := v, switching := false } }
  exact ⟨run, h⟩

theorem towardsView_ref : ∃ acc, (towardsView r v d).ref = { d.ref with acc := acc } := by
  unfold towardsView
  split
  · exact ⟨_, rfl⟩
  · split
    · exact adoptView_ref ..
    · exact ⟨_, rfl⟩

theorem towardsView_timeState : (towardsView r v d).tb.timeState = d.tb.timeState := by
  unfold towardsView
  split
  · rfl
  · split
    · obtain ⟨run, h⟩ := adoptView_tb r v d
      rw [h]
    · rfl

end

/-! ### STATUS.STATE (R117, R163) -/

/-- The selector in state `n`. -/
def RefSt.entered (n : Nat) (x : RefSt) : RefSt :=
  if x.st = n then x else { x with st := n, unlocked := true, switches := if n = 3 then satInc x.switches 0xFFFF else x.switches }

/-- TIME_STATE once the selector has come to state `n` from another. -/
def timeStateIn (n t : Nat) : Nat := if n = 2 ∨ n = 3 then 2 else if n = 4 then (if t = 2 then 3 else t) else if n = 5 then t else min t 1

section
variable (r : Root) (n : Nat) (d : Dev)

theorem refState_ref : (refState r n d).ref = d.ref.entered n := by
  have timed : ∀ k (e : Dev), (setTimeState r k e).ref = e.ref := fun k e => ref_of (of_setTimeState (.of (by decide)) ..)
  unfold refState RefSt.entered
  dsimp only
  simp only [apply_ite Dev.ref, timed, raise_ref, ite_self]
  rfl

theorem refState_tb : (refState r n d).tb =
    { d.tb with timeState := if d.ref.st = n then d.tb.timeState else timeStateIn n d.tb.timeState } := by
  have kept : ∀ f, (raise r 128 (d.refMap f)).tb = d.tb := fun f => raise_tb ..
  unfold refState timeStateIn
  dsimp only
  split
  · rfl
  · split
    · rw [setTimeState_tb, kept]
    · split
      · split
        · rw [setTimeState_tb, kept]
        · exact kept _
      · split
        · exact kept _
        · split
          next h => rw [setTimeState_tb, kept, Nat.min_eq_right (by omega)]
          next h => rw [kept, Nat.min_eq_left (by omega)]

end

theorem entered_st (n : Nat) (x : RefSt) : (x.entered n).st = n := by
  unfold RefSt.entered
  split
  · assumption
  · rfl

theorem entered_other {n : Nat} {x : RefSt} (h : x.st ≠ n) :
    x.entered n = { x with st := n, unlocked := true, switches := if n = 3 then satInc x.switches 0xFFFF else x.switches } := if_neg h

/-! ### Turns (R113, R163, R164, R166) -/

section
variable (r : Root) (d : Dev)

theorem stepX_ref (x : View) : ∃ acc n, (stepX r x d).ref = { d.ref with acc := acc, discarded := n } := by
  unfold stepX
  split
  · exact ⟨_, _, rfl⟩
  · obtain ⟨acc, h⟩ := stepView_ref r 2 d x
    exact ⟨acc, _, h⟩

theorem refEntryStep_ref (i : Nat) (acquire entry : Bool) :
    ∃ acc n b, (refEntryStep r i acquire entry d).ref = { d.ref with acc := acc, discarded := n, allowStep := b } := by
  unfold refEntryStep
  dsimp only
  obtain ⟨b, h1⟩ : ∃ b, (if entry then d.refMap fun s => { s with allowStep := false } else d).ref = { d.ref with allowStep := b } := by
    split <;> exact ⟨_, rfl⟩
  generalize (if entry then d.refMap fun s => { s with allowStep := false } else d) = d1 at h1 ⊢
  split
  · exact ⟨_, _, b, by simp only [discardX, Dev.refMap, h1]; rfl⟩
  · split
    · obtain ⟨acc2, h2⟩ : ∃ acc, (if d1.tb.atView = 2 ∧ ¬d1.tb.switching then d1 else adoptView r 2 d1).ref = { d1.ref with acc := acc } := by
        split
        · exact ⟨_, rfl⟩
        · exact adoptView_ref ..
      generalize (if d1.tb.atView = 2 ∧ ¬d1.tb.switching then d1 else adoptView r 2 d1) = d2 at h2 ⊢
      obtain ⟨acc, n, h⟩ := stepX_ref r d2 { anchorEC := r.ec, anchorT := (d2.view (viewOf i)).val r.ec - refPhi d2 i, rate := (d2.view (viewOf i)).rate }
      exact ⟨acc, n, b, by rw [h, h2, h1]⟩
    · exact ⟨_, _, b, h1⟩

/-- The selector once it has turned to input `i`. -/
def RefSt.turned (i st : Nat) (retarget : Bool) (x : RefSt) : RefSt :=
  let y := { x with sel := i, target := i, passed := false }
  if retarget then { y with retargets := satInc x.retargets 0xFFFF } else y.entered st

theorem refTurn_ref (i st : Nat) (retarget : Bool) :
    ∃ acc n b, (refTurn r i st retarget d).ref = { d.ref.turned i st retarget with acc := acc, discarded := n, allowStep := b } := by
  unfold refTurn
  dsimp only
  generalize hd : (if retarget then raise .. else _ : Dev) = e
  obtain ⟨acc, ht⟩ := towardsView_ref r (viewOf i) (refEntryStep r i (st == 1) (!retarget) e)
  obtain ⟨_, n, b, he⟩ := refEntryStep_ref r e i (st == 1) (!retarget)
  refine ⟨acc, n, b, ?_⟩
  rw [ht, he, ← hd]
  cases retarget with
  | true => simp only [if_true, raise_ref]; rfl
  | false => simp only [Bool.false_eq_true, if_false, refState_ref]; rfl

end

/-! ### What decisions leave: the inputs, their last clock fault, and the history -/

/-- What no decision of the selector changes. -/
def Dev.judged (d : Dev) : SMap RefIn × Bool × List (Option (Int × Int)) := (d.ref.inp, d.ref.sapFault, d.ref.hist)

theorem judged_ite (c : Prop) [Decidable c] (a b : Dev) : (if c then a else b).judged = if c then a.judged else b.judged := apply_ite ..

section
variable (r : Root) (d : Dev)

theorem judged_towardsView (v : Nat) : (towardsView r v d).judged = d.judged := by
  obtain ⟨_, h⟩ := towardsView_ref r v d
  simp only [Dev.judged, h]

theorem judged_refState (n : Nat) : (refState r n d).judged = d.judged := by
  simp only [Dev.judged, refState_ref, RefSt.entered]
  split <;> rfl

theorem judged_refTurn (i st : Nat) (retarget : Bool) : (refTurn r i st retarget d).judged = d.judged := by
  obtain ⟨_, _, _, h⟩ := refTurn_ref r d i st retarget
  simp only [Dev.judged, h, RefSt.turned, RefSt.entered]
  split
  · rfl
  · split <;> rfl

theorem judged_refNone : (refNone r d).judged = d.judged := by
  unfold refNone
  dsimp only
  split
  · rw [judged_refState]
    exact judged_towardsView ..
  · rw [judged_refState, judged_towardsView]
    rfl

theorem judged_refDecide : (refDecide r d).judged = d.judged := by
  have turn : ∀ (o : Option Nat) (st : Nat) (b : Bool) (e : Dev), e.judged = d.judged →
      (match o with | some i => refTurn r i st b d | none => e).judged = d.judged := fun o st b e he =>
    match o with
    | some i => judged_refTurn ..
    | none => he
  unfold refDecide
  dsimp only
  split
  · exact turn _ _ _ _ rfl
  · split
    · exact turn _ _ _ _ rfl
    · refine turn _ _ _ _ ?_
      rw [judged_refState, judged_towardsView]
      rfl
  · split
    · exact turn _ _ _ _ rfl
    · exact turn _ _ _ _ (judged_refNone ..)
  · split
    · exact turn _ _ _ _ rfl
    · exact turn _ _ _ _ (judged_refNone ..)
  · exact turn _ _ _ _ rfl
  · exact turn _ _ _ _ rfl
  · rfl

/-- FAULT discards the history. -/
theorem judged_refFault (cause : Nat) : (refFault r cause d).judged = (d.ref.inp, d.ref.sapFault, []) := by
  unfold refFault
  dsimp only
  split
  · rfl
  · rw [judged_refState, judged_towardsView]
    rfl

theorem refFault_st (cause : Nat) : (refFault r cause d).ref.st = 7 ∧ (refFault r cause d).ref.faultCause = cause := by
  unfold refFault
  dsimp only
  split
  next h => exact ⟨h, rfl⟩
  next h =>
    obtain ⟨_, ht⟩ := towardsView_ref r 2 (d.refMap fun s => { s with faultCause := cause, okRun := 0, hist := [], sel := 15, target := 15 })
    rw [refState_ref, entered_other (by rw [ht]; exact h), ht]
    exact ⟨rfl, rfl⟩

end

theorem refDecide_fault {r : Root} {d : Dev} (hst : d.ref.st = 7) : refDecide r d = d := by
  unfold refDecide
  dsimp only
  rw [hst]
  rfl

end Sys2Proof.Machine

/-! Writes of the selector's registers (R158, R159, R162 to R164, R168, R171). -/

namespace Sys2Proof.Machine

theorem rin_of_ref {a b : Dev} (h : a.ref = b.ref) (i : Nat) : a.rin i = b.rin i := by simp only [Dev.rin, h]

/-! ### PREFERRED (R158, R159) -/

/-- The input that PREFERRED names. -/
def preferredOf (d : Dev) : Nat := d.rf .ref 0x048 3 0

/-- It is eligible. -/
def preferredOk (d : Dev) : Prop := preferredOf d < 8 ∧ (d.rin (preferredOf d)).st = 2

section
variable {r : Root} {d : Dev}

/-- An eligible PREFERRED input is the best one. -/
theorem refBest_preferred (h : preferredOk d) : refBest d = some (preferredOf d) := by
  refine if_pos (Bool.and_eq_true_iff.mpr ?_)
  exact ⟨decide_eq_true h.1, beq_iff_eq.mpr h.2⟩

/-- From FREE or a holdover the selector turns to the best input. -/
theorem refDecide_idle {b : Nat} (hst : d.ref.st = 0 ∨ d.ref.st = 4 ∨ d.ref.st = 5) (hb : refBest d = some b) :
    refDecide r d = refTurn r b (if d.ref.st = 0 then 1 else 3) false d := by
  unfold refDecide
  dsimp only
  rcases hst with h | h | h
  all_goals
    rw [h, hb]
    rfl

theorem preferredHook_same (h : ¬preferredOk d) : preferredHook r d = d := if_neg fun ⟨h8, hst, _⟩ => h ⟨h8, hst⟩

theorem preferredHook_following (hok : preferredOk d) (hsel : preferredOf d ≠ d.ref.sel) (hst : 1 ≤ d.ref.st ∧ d.ref.st ≤ 3) :
    preferredHook r d = refTurn r (preferredOf d) (if d.ref.st = 1 then 1 else 3) (decide (d.ref.st ≠ 2)) d := by
  refine (if_pos ⟨hok.1, hok.2, hsel⟩).trans ?_
  obtain h | h | h : d.ref.st = 1 ∨ d.ref.st = 2 ∨ d.ref.st = 3 := by omega
  all_goals
    rw [h]
    rfl

theorem preferredHook_decides (hok : preferredOk d) (hsel : preferredOf d ≠ d.ref.sel) (hst : d.ref.st = 0 ∨ d.ref.st = 4 ∨ d.ref.st = 5 ∨ d.ref.st = 7) :
    preferredHook r d = refDecide r d := by
  refine (if_pos ⟨hok.1, hok.2, hsel⟩).trans ?_
  rcases hst with h | h | h | h
  all_goals
    rw [h]
    rfl

/-- A turn to another input of a selector that follows one already is a retarget. -/
theorem refTurn_retargets (i st : Nat) :
    (refTurn r i st true d).ref.sel = i ∧ (refTurn r i st true d).ref.target = i ∧ (refTurn r i st true d).ref.st = d.ref.st ∧
    (refTurn r i st true d).ref.retargets = satInc d.ref.retargets 0xFFFF := by
  obtain ⟨_, _, _, h⟩ := refTurn_ref r d i st true
  rw [h]
  exact ⟨rfl, rfl, rfl, rfl⟩

/-- A turn into another state is an entry of it. -/
theorem refTurn_enters {n : Nat} (i : Nat) (hst : d.ref.st ≠ n) :
    (refTurn r i n false d).ref.sel = i ∧ (refTurn r i n false d).ref.target = i ∧ (refTurn r i n false d).ref.st = n ∧
    (refTurn r i n false d).ref.switches = if n = 3 then satInc d.ref.switches 0xFFFF else d.ref.switches := by
  obtain ⟨_, _, _, h⟩ := refTurn_ref r d i n false
  have hturn : d.ref.turned i n false = _ := entered_other (x := { d.ref with sel := i, target := i, passed := false }) hst
  rw [h, hturn]
  exact ⟨rfl, rfl, rfl, rfl⟩

end

theorem preferredHook_inp (r : Root) (d : Dev) : (preferredHook r d).ref.inp = d.ref.inp := by
  have h : (preferredHook r d).judged = d.judged := by
    unfold preferredHook
    dsimp only
    split
    · split
      · exact judged_refTurn ..
      · exact judged_refTurn ..
      · exact judged_refTurn ..
      · exact judged_refDecide ..
    · rfl
  exact congrArg (·.1) h

section
variable {s : State} {g : Gal} {w : Word}

theorem refPreferredWrite_completes (hw : canWrite s g .ref 0x048 w = true) : Completes (.refPreferredWrite g w) s fun t =>
    let x := s.dev.ref
    let p := fld w 3 0
    let ok := p < 8 ∧ (s.dev.rin p).st = 2
    DevOnly s t ∧ t.dev.reg .ref 0x048 = w ∧ t.dev.ref.inp = x.inp ∧ (¬ok → t.dev.ref = x ∧ t.dev.tb = s.dev.tb) ∧
    (ok → p ≠ x.sel → (1 ≤ x.st ∧ x.st ≤ 3) → t.dev.ref.sel = p ∧ t.dev.ref.target = p ∧
      (x.st = 2 → t.dev.ref.st = 3 ∧ t.dev.ref.switches = satInc x.switches 0xFFFF) ∧
      (x.st ≠ 2 → t.dev.ref.st = x.st ∧ t.dev.ref.retargets = satInc x.retargets 0xFFFF)) ∧
    (ok → p ≠ x.sel → (x.st = 0 ∨ x.st = 4 ∨ x.st = 5) → t.dev.ref.sel = p ∧ t.dev.ref.st = if x.st = 0 then 1 else 3) ∧
    (ok → p ≠ x.sel → x.st = 7 → t.dev.ref = x) := by
  obtain ⟨x, hx, hty⟩ : ∃ x, Blk.ref.reg 0x048 = some x ∧ x.ty = .rw := ⟨_, rfl, rfl⟩
  refine completes_onReg_rw (act := preferredHook s.root) (show _ = execRefPreferredWrite g w s from rfl) (by decide) (by decide) (by decide) hx hty
    (by simp) (by simp) rfl hw (fun _ => rfl) fun pg ln => ?_
  generalize hd : ({ s.dev.setReg .ref 0x048 w with page := pg, lines := ln } : Dev) = d
  have hreg : d.reg .ref 0x048 = w := by
    rw [← hd]
    exact reg_setReg_self s.dev .ref 0x048 w
  have href : d.ref = s.dev.ref := by rw [← hd]; rfl
  have htb : d.tb = s.dev.tb := by rw [← hd]; rfl
  have hp : preferredOf d = fld w 3 0 := congrArg (fld · 3 0) hreg
  have hok : preferredOk d ↔ fld w 3 0 < 8 ∧ (s.dev.rin (fld w 3 0)).st = 2 := by rw [preferredOk, hp, rin_of_ref href]
  dsimp only
  refine ⟨devOnly_dev .., ?_, ?_, fun h => ?_, fun h hsel hst => ?_, fun h hsel hst => ?_, fun h hsel hst => ?_⟩
  · exact (reg_of (of_preferredHook (.of (by decide)) ..) ..).trans hreg
  · rw [preferredHook_inp, href]
  · rw [preferredHook_same (mt hok.mp h)]
    exact ⟨href, htb⟩
  · rw [← href] at hsel hst ⊢
    rw [← hp] at hsel ⊢
    rw [preferredHook_following (hok.mpr h) hsel hst]
    by_cases h2 : d.ref.st = 2
    · rw [if_neg (by omega), decide_eq_false (not_not_intro h2)]
      obtain ⟨hs, ht, hst', hsw⟩ := refTurn_enters (r := s.root) (d := d) (n := 3) (preferredOf d) (by omega)
      exact ⟨hs, ht, fun _ => ⟨hst', hsw⟩, fun hn => absurd h2 hn⟩
    · rw [decide_eq_true h2]
      obtain ⟨hs, ht, hst', hre⟩ := refTurn_retargets (r := s.root) (d := d) (preferredOf d) (if d.ref.st = 1 then 1 else 3)
      exact ⟨hs, ht, fun hn => absurd hn h2, fun _ => ⟨hst', hre⟩⟩
  · rw [← href] at hsel hst ⊢
    rw [← hp] at hsel ⊢
    rw [preferredHook_decides (hok.mpr h) hsel (by omega), refDecide_idle hst (refBest_preferred (hok.mpr h))]
    obtain ⟨hs, -, hst', -⟩ := refTurn_enters (r := s.root) (d := d) (n := if d.ref.st = 0 then 1 else 3) (preferredOf d) (by split <;> omega)
    exact ⟨hs, hst'⟩
  · rw [← href] at hsel hst ⊢
    rw [← hp] at hsel
    rw [preferredHook_decides (hok.mpr h) hsel (by omega), refDecide_fault hst]

end

/-! ### X_TOD (R162) -/

theorem xTod_reg : ∃ x, Blk.ref.reg 0x160 = some x ∧ x.ty = .lwRw 3 := Option.map_eq_some_iff.mp (by decide : (Blk.ref.reg 0x160).map (·.ty) = _)

section
variable {s : State} {g : Gal} {w : Word}

theorem xTodArm_completes (hw : canWrite s g .ref 0x160 w = true) : Completes (.xTodArm g w) s fun t =>
    DevOnly s t ∧ t.dev.ref = { s.dev.ref with pps := none } ∧ t.dev.reg .ref 0x160 = w ∧
    ∀ i : Fin 2, t.dev.reg .ref (0x164 + 4 * i) = sget (fun _ => s.dev.reg .ref (0x164 + 4 * i)) (s.dev.wsh g (Blk.addr .ref 0x160)) (i + 1) := by
  obtain ⟨x, hx, hty⟩ := xTod_reg
  refine ⟨_, (show _ = execXTodArm g w s from rfl).trans (onReg_can s g .ref 0x160 w x (by decide) (by decide) hx hw), ?_⟩
  rw [regWrite_lwRw (by decide) hty (by simp), groupWords_plain (by simp) (by simp) (by simp)]
  set ws : List Word := w :: _ with hws
  have hreg : ∀ j < 3, (todHook (pageUse s.root .ref [] (storeWords .ref 0x160 ws (s.dev.setWsh g (Blk.ref.addr 0x160) [])))).reg .ref (0x160 + 4 * j) =
      ws.getD j 0 := fun j hj => by
    rw [← reg_storeWords .ref 0x160 j ws (s.dev.setWsh g (Blk.ref.addr 0x160) []) (by simpa [hws] using hj)]
    simp only [todHook, Dev.refMap, Dev.reg, pageUse_regs]
  refine ⟨⟨rfl, rfl, rfl⟩, ?_, hreg 0 (by decide), fun i => ?_⟩
  · show (todHook (pageUse ..)).ref = _
    rw [todHook, Dev.refMap, pageUse_ref, storeWords_eq]
    rfl
  · fin_cases i
    · exact hreg 1 (by decide)
    · exact hreg 2 (by decide)

/-! ### REF.CMD (R163, R164, R168, R171) -/

/-- A strobe of REF.CMD acts on the device with its uses of the page reported. -/
theorem completes_refCmd {i : Instr} {P : State → Prop} (hi : exec i s = onReg g .ref 0x090 w s) (hw : canWrite s g .ref 0x090 w = true)
    (h : ∀ pg ln, P { s with dev := refCmd s.root w { s.dev with page := pg, lines := ln } }) : Completes i s P := by
  obtain ⟨x, hx, hty⟩ : ∃ x, Blk.ref.reg 0x090 = some x ∧ x.ty = .wo := ⟨_, rfl, rfl⟩
  have hstrobe : regWrite s.root s.mem g .ref 0x090 x w s.dev = eff (refCmd s.root w (pageUse s.root .ref [0x040, 0x044] s.dev)) := by
    simp only [regWrite, hty]
    rfl
  refine ⟨_, hi.trans (onReg_can s g .ref 0x090 w x (by decide) (by decide) hx hw), ?_⟩
  rw [hstrobe, pageUse_eq]
  exact h _ _

/-- FREE by command. -/
theorem refFree_ref (r : Root) (d : Dev) : (refFree r d).ref.st = 0 ∧ (refFree r d).ref.sel = 15 ∧ (refFree r d).ref.target = 15 ∧
    (refFree r d).judged = d.judged := by
  obtain ⟨acc, ht⟩ := towardsView_ref r 2 (d.refMap fun s => { s with sel := 15, target := 15, faultCause := 0 })
  have href : (refFree r d).ref = RefSt.entered 0 { d.ref with sel := 15, target := 15, faultCause := 0, acc := acc } := by
    rw [refFree, refState_ref, ht]
    rfl
  simp only [Dev.judged, href]
  refine ⟨entered_st .., ?_⟩
  unfold RefSt.entered
  split <;> exact ⟨rfl, rfl, rfl⟩

theorem refFree_timeState {r : Root} {d : Dev} (h : d.ref.st ≠ 0) : (refFree r d).tb.timeState = min d.tb.timeState 1 := by
  obtain ⟨_, ht⟩ := towardsView_ref r 2 (d.refMap fun s => { s with sel := 15, target := 15, faultCause := 0 })
  rw [refFree, refState_tb, towardsView_timeState, ht]
  exact if_neg h

theorem refForceFree_completes (hw : canWrite s g .ref 0x090 1 = true) : Completes (.refForceFree g) s fun t =>
    DevOnly s t ∧ t.dev.ref.st = 0 ∧ t.dev.ref.sel = 15 ∧ t.dev.ref.target = 15 ∧ t.dev.ref.inp = s.dev.ref.inp ∧ t.dev.ref.hist = s.dev.ref.hist ∧
    (s.dev.ref.st ≠ 0 → t.dev.tb.timeState = min s.dev.tb.timeState 1) := by
  refine completes_refCmd (show _ = execRefForceFree g s from rfl) hw fun pg ln => ?_
  have hcmd : refCmd s.root 1 { s.dev with page := pg, lines := ln } = refFree s.root { s.dev with page := pg, lines := ln } := rfl
  obtain ⟨hst, hsel, htarget, hkept⟩ := refFree_ref s.root { s.dev with page := pg, lines := ln }
  rw [hcmd]
  exact ⟨devOnly_dev .., hst, hsel, htarget, congrArg (·.1) hkept, congrArg (·.2.2) hkept, fun h => refFree_timeState h⟩

theorem refClearHist_completes (hw : canWrite s g .ref 0x090 2 = true) : Completes (.refClearHist g) s fun t =>
    DevOnly s t ∧ t.dev.ref = { s.dev.ref with hist := [] } ∧ t.dev.tb = s.dev.tb :=
  completes_refCmd (show _ = execRefClearHist g s from rfl) hw fun _ _ => ⟨devOnly_dev .., rfl, rfl⟩

theorem refAllowStep_completes (hw : canWrite s g .ref 0x090 8 = true) : Completes (.refAllowStep g) s fun t =>
    DevOnly s t ∧ t.dev.ref = { s.dev.ref with allowStep := true } ∧ t.dev.tb = s.dev.tb :=
  completes_refCmd (show _ = execRefAllowStep g s from rfl) hw fun _ _ => ⟨devOnly_dev .., rfl, rfl⟩

/-- Registers cleared one after another. -/
theorem reg_foldl_clear (b : Blk) (f : Nat → Nat) (l : List Nat) (o : Nat) (d : Dev) :
    (l.foldl (fun d j => d.setReg b (f j) 0) d).reg b o = if o ∈ l.map f then 0 else d.reg b o := by
  induction l generalizing d with
  | nil => simp
  | cons j l ih =>
    rw [List.foldl_cons, ih]
    by_cases ho : o = f j
    · simp [ho]
    · simp only [List.map_cons, List.mem_cons, ho, false_or, reg_setReg_other d b (f j) o 0 ho]

theorem refClearTable_completes (hw : canWrite s g .ref 0x090 4 = true) : Completes (.refClearTable g) s fun t =>
    DevOnly s t ∧ t.dev.ref = s.dev.ref ∧ (∀ j : Fin 16, t.dev.reg .ref (0x120 + 4 * j) = 0) ∧
    ∀ o < 0x1000, (o < 0x120 ∨ 0x160 ≤ o) → t.dev.reg .ref o = s.dev.reg .ref o := by
  refine completes_refCmd (show _ = execRefClearTable g s from rfl) hw fun pg ln => ?_
  have hcmd : refCmd s.root 4 { s.dev with page := pg, lines := ln } =
      (List.range 16).foldl (fun d j => d.setReg .ref (0x120 + 4 * j) 0) { s.dev with page := pg, lines := ln } := rfl
  rw [hcmd]
  refine ⟨devOnly_dev .., ref_of (Part.of_foldl (fun _ _ => of_setReg (.of (by decide)) ..) ..), fun j => ?_, fun o _ ho => ?_⟩
  · dsimp only
    rw [reg_foldl_clear, if_pos (List.mem_map_of_mem (List.mem_range.mpr j.isLt))]
  · dsimp only
    rw [reg_foldl_clear, if_neg]
    · rfl
    · simp only [List.mem_map, List.mem_range]
      omega

end

/-- Settles O36: PREFERRED and X_TOD by their blocks' hooks, the strobes of REF.CMD bit by bit. -/
theorem refCommands : Obligations.RefCommands := fun _ _ _ =>
  ⟨refPreferredWrite_completes, xTodArm_completes, refForceFree_completes, refClearHist_completes, refClearTable_completes, refAllowStep_completes⟩

end Sys2Proof.Machine

/-! The selector's updates each millisecond, and X_TOD (R160 to R162, R165, R167, R170, R173). -/

namespace Sys2Proof.Machine

/-! ### RATE updates of view X (R112, R113) -/

/-- View `y` is view `x` from now on at `rate`, where that is a Rate value. -/
def Rerated (r : Root) (x y : View) (rate : Int) : Prop :=
  y.anchorEC = r.ec ∧ y.anchorT = x.val r.ec ∧ (-(2 ^ 39) ≤ rate ∧ rate < 2 ^ 39 → y.rate = rate)

theorem rate40_fits {x : Int} (h : -(2 ^ 39) ≤ x ∧ x < 2 ^ 39) (d : Dev) : rate40 x d = (x, d) := if_pos h

theorem rerated_rate40 (r : Root) (x : View) (rate : Int) (d : Dev) : Rerated r x (x.rerate r.ec (rate40 rate d).1) rate :=
  ⟨rfl, rfl, fun h => congrArg Prod.fst (rate40_fits h d)⟩

/-- An update of view X while FEED is 1 is counted and changes no view. -/
def UpdateDiscarded (d e : Dev) : Prop := e.tb = d.tb ∧ e.ref.discarded = satInc d.ref.discarded 0xFFFF

section
variable {r : Root} {rate : Int} {d : Dev}

theorem rateX_fed (h : d.feed 2 = true) : rateX r rate d = discardX d := if_pos h

theorem rateX_open (h : d.feed 2 = false) : (∃ x at', (rateX r rate d).tb = { d.tb with x := x, at' := at' } ∧ Rerated r d.tb.x x rate ∧
    (d.tb.atView ≠ 2 ∨ d.tb.switching = true → at' = d.tb.at')) ∧ ∃ acc, (rateX r rate d).ref = { d.ref with acc := acc } := by
  have hrate : rateX r rate d = viewRate r 2 (rate40 rate d).1 (rate40 rate d).2 := if_neg (by simp [h])
  have htb : (rate40 rate d).2.tb = d.tb := tb_of (of_rate40 (.of (by decide)) ..)
  have href : (rate40 rate d).2.ref = d.ref := ref_of (of_rate40 (.of (by decide)) ..)
  rw [hrate]
  constructor
  · have hview : (rate40 rate d).2.view 2 = d.tb.x := congrArg TbSt.x htb
    have hset : ∀ x, ((rate40 rate d).2.setView 2 x).tb = { d.tb with x := x } := fun x => by
      rw [← htb]
      rfl
    rw [viewRate_tb, hview, hset, htb]
    exact ⟨_, _, rfl, rerated_rate40 .., fun hat => if_neg fun ⟨h2, hsw⟩ => hat.elim (· h2) hsw⟩
  · obtain ⟨acc, hacc⟩ := viewRate_ref r 2 (rate40 rate d).2 (rate40 rate d).1
    exact ⟨acc, by rw [hacc, href]⟩

/-! ### VIEW_X_DISCIPLINE and VIEW_X_SHADOW_UPDATE (R160, R161) -/

/-- The rate that VIEW_X_DISCIPLINE gives view X from the input's rate. -/
def disciplined (d : Dev) (x : Int) : Int :=
  x + max (-ppbRate (slewLimit d)) (min (ppbRate (slewLimit d)) (rdiv (-(refPhi d d.ref.sel) * 2 ^ 48) (10 * secEC : Nat)))

/-- The selector follows a pin input, whose measured rate is `x`. -/
def FollowsPin (d : Dev) (x : Int) : Prop := 1 ≤ d.ref.st ∧ d.ref.st ≤ 3 ∧ 2 ≤ d.ref.sel ∧ d.ref.sel < 8 ∧ (d.rin d.ref.sel).rate = some x

theorem disciplineX_follows {x : Int} (h : FollowsPin d x) : disciplineX r d = rateX r (disciplined d x) d := by
  obtain ⟨h1, h3, h2, h8, hx⟩ := h
  unfold disciplineX
  dsimp only
  rw [if_pos ⟨h1, h3, h2, h8⟩, hx]
  rfl

theorem disciplineX_open {x : Int} (h : FollowsPin d x) (hf : d.feed 2 = false) :
    (disciplineX r d).tb.a = d.tb.a ∧ (disciplineX r d).tb.b = d.tb.b ∧ (disciplineX r d).tb.era = d.tb.era ∧
    Rerated r d.tb.x (disciplineX r d).tb.x (disciplined d x) := by
  obtain ⟨y, at', htb, hy, -⟩ := (rateX_open (r := r) (rate := disciplined d x) hf).1
  rw [disciplineX_follows h, htb]
  exact ⟨rfl, rfl, rfl, hy⟩

/-- The rate that brings view X onto AT in a millisecond. -/
def shadowed (r : Root) (d : Dev) : Int := d.tb.at'.rate + rdiv ((d.atNow r - d.tb.x.val r.ec) * 2 ^ 48) msEC

/-- The selector follows a servo, and AT is not on view X. -/
def FollowsServo (d : Dev) : Prop := 1 ≤ d.ref.st ∧ d.ref.st ≤ 3 ∧ d.ref.sel < 2 ∧ (d.tb.atView ≠ 2 ∨ d.tb.switching = true)

theorem shadowX_follows (h : FollowsServo d) : shadowX r d = rateX r (shadowed r d) d := if_pos h

theorem shadowX_open (h : FollowsServo d) (hf : d.feed 2 = false) :
    (shadowX r d).tb = { d.tb with x := (shadowX r d).tb.x } ∧ Rerated r d.tb.x (shadowX r d).tb.x (shadowed r d) := by
  obtain ⟨y, at', htb, hy, hkept⟩ := (rateX_open (r := r) (rate := shadowed r d) hf).1
  have hat : d.tb.atView ≠ 2 ∨ d.tb.switching = true := by
    obtain ⟨-, -, -, hat⟩ := h
    exact hat
  rw [shadowX_follows h, htb, hkept hat]
  exact ⟨rfl, hy⟩

/-! ### Holdover (R170, R173) -/

theorem holdUpdate_holds (h : d.ref.st = 4 ∨ d.ref.st = 5) :
    holdUpdate r d = rateX r (holdRate d) (d.refMap fun s => { s with hoRate := holdRate d }) := if_pos h

theorem holdUpdate_open (h : d.ref.st = 4 ∨ d.ref.st = 5) (hf : d.feed 2 = false) :
    (holdUpdate r d).ref.hoRate = holdRate d ∧ (holdUpdate r d).ref.st = d.ref.st ∧ Rerated r d.tb.x (holdUpdate r d).tb.x (holdRate d) := by
  obtain ⟨⟨y, at', htb, hy, -⟩, acc, href⟩ := rateX_open (r := r) (rate := holdRate d) (d := d.refMap fun s => { s with hoRate := holdRate d }) hf
  rw [holdUpdate_holds h, htb, href]
  exact ⟨rfl, rfl, hy⟩

theorem holdUpdate_fed (h : d.ref.st = 4 ∨ d.ref.st = 5) (hf : d.feed 2 = true) :
    UpdateDiscarded d (holdUpdate r d) ∧ (holdUpdate r d).ref.hoRate = holdRate d := by
  rw [holdUpdate_holds h, rateX_fed (d := d.refMap _) hf]
  exact ⟨⟨rfl, rfl⟩, rfl⟩

/-- The bound is kept; past HO_LIMIT the holdover is out of its specification. -/
theorem boundUpdate_holds (h : d.ref.st = 4 ∨ d.ref.st = 5) : (boundUpdate r d).tb = d.tb ∧ ∃ u, (boundUpdate r d).ref =
      { d.ref with hoBound := min 0xFFFFFFFF (cdiv (holdBound r d) (2000000 * secEC ^ 2)), unlocked := u,
                   st := if (d.reg .ref 0x078).toNat * (2000000 * secEC ^ 2) < holdBound r d then 5 else d.ref.st } := by
  unfold boundUpdate
  dsimp only
  rw [if_pos h]
  generalize 2000000 * secEC ^ 2 = q
  generalize hd : Dev.refMap _ _ = e
  have htb : e.tb = d.tb := by rw [← hd, Dev.refMap_tb]
  have href : e.ref = { d.ref with hoBound := min 0xFFFFFFFF (cdiv (holdBound r d) q) } := by rw [← hd]; rfl
  by_cases hb : (d.reg .ref 0x078).toNat * q < holdBound r d
  · rw [if_pos hb]
    by_cases h4 : d.ref.st = 4
    · have hne : e.ref.st ≠ 5 := by
        rw [href]
        exact fun h5 => absurd (h4.symm.trans h5) (by decide)
      rw [if_pos ⟨h4, hb⟩, raise_tb, raise_ref, refState_tb, refState_ref, entered_other hne, htb, href]
      refine ⟨?_, _, rfl⟩
      rw [if_neg]
      · rfl
      · exact href ▸ hne
    · rw [if_neg (fun hc => h4 hc.1), ← h.resolve_left h4, htb, href]
      exact ⟨rfl, _, rfl⟩
  · rw [if_neg hb, if_neg fun hc => hb hc.2, htb, href]
    exact ⟨rfl, _, rfl⟩

/-! ### AT_SLEW_UPDATE (R163, R165) -/

/-- The view that AT slews to. -/
def slewView (d : Dev) : Nat := if d.ref.sel < 8 then viewOf d.ref.sel else 2

/-- How far it is ahead of AT. -/
def slewGap (r : Root) (d : Dev) : Int := (d.view (slewView d)).val r.ec - d.atNow r

/-- The rate at which AT nears it. -/
def slewRate (r : Root) (d : Dev) : Int :=
  (d.view (slewView d)).rate + (if 0 ≤ slewGap r d then 1 else -1) * min (ppbRate (slewLimit d)) (rdiv ((slewGap r d).natAbs * 2 ^ 48) msEC)

/-- AT once its update has moved it, before STATUS.STATE is judged. -/
def slewed (r : Root) (d : Dev) : Dev :=
  if d.tb.switching then
    if (slewGap r d).natAbs ≤ 1 then adoptView r (slewView d) d
    else
      let mag := min (ppbRate (slewLimit d)) (rdiv ((slewGap r d).natAbs * 2 ^ 48) msEC)
      let q := rate40 ((d.view (slewView d)).rate + if 0 ≤ slewGap r d then mag else -mag) (accRate r 3 d)
      q.2.setAt (d.tb.at'.rerate r.ec q.1)
  else d

/-- The selector enters LOCKED. -/
def lockedIn (r : Root) (e : Dev) : Dev := refState r 2 (e.refMap fun s => { s with target := 15 })

/-- An update ends in LOCKED from SWITCHING where AT has come to the view, and may from ACQUIRE. -/
theorem slewAt_ends : slewAt r d = lockedIn r (slewed r d) ∧ (d.ref.st = 3 ∧ (slewGap r d).natAbs ≤ 1 ∨ d.ref.st = 1) ∨
    slewAt r d = slewed r d ∧ ¬(d.ref.st = 3 ∧ (slewGap r d).natAbs ≤ 1) := by
  have hslew : slewAt r d = if d.ref.st = 3 ∧ (slewGap r d).natAbs ≤ 1 then lockedIn r (slewed r d)
      else if d.ref.st = 1 ∧ (d.ref.sel < 2 ∨ (refMode d d.ref.sel ≠ 0 ∧ (refLastEdge d d.ref.sel).isSome)) ∧
        (refDelta r d d.ref.sel).natAbs ≤ d.rf .ref 0x060 31 16 * 256 then lockedIn r (slewed r d)
      else slewed r d := rfl
  rw [hslew]
  split
  next h => exact .inl ⟨rfl, .inl h⟩
  next h =>
    split
    next h1 => exact .inl ⟨rfl, .inr h1.1⟩
    next => exact .inr ⟨rfl, h⟩

theorem slewed_near (hs : d.tb.switching = true) (hg : (slewGap r d).natAbs ≤ 1) :
    (∃ run, (slewed r d).tb = { d.tb with at' := d.view (slewView d), atView := slewView d, switching := false, run := run }) ∧
    ∃ acc, (slewed r d).ref = { d.ref with acc := acc } := by
  rw [slewed, if_pos hs, if_pos hg]
  exact ⟨adoptView_tb .., adoptView_ref ..⟩

theorem slewed_far (hs : d.tb.switching = true) (hg : ¬(slewGap r d).natAbs ≤ 1) :
    (∃ q, (slewed r d).tb = { d.tb with at' := d.tb.at'.rerate r.ec q } ∧ (-(2 ^ 39) ≤ slewRate r d ∧ slewRate r d < 2 ^ 39 → q = slewRate r d)) ∧
    ∃ acc, (slewed r d).ref = { d.ref with acc := acc } := by
  have hrate : ∀ m : Int, (d.view (slewView d)).rate + (if 0 ≤ slewGap r d then m else -m) =
      (d.view (slewView d)).rate + (if 0 ≤ slewGap r d then 1 else -1) * m := fun m => by split <;> omega
  rw [slewed, if_pos hs, if_neg hg]
  dsimp only
  rw [hrate]
  have htb : ∀ x, (rate40 x (accRate r 3 d)).2.tb = d.tb := fun x => (tb_of (of_rate40 (.of (by decide)) ..)).trans (accRate_tb ..)
  have href : ∀ x, (rate40 x (accRate r 3 d)).2.ref = (accRate r 3 d).ref := fun x => ref_of (of_rate40 (.of (by decide)) ..)
  refine ⟨⟨_, ?_, fun h => congrArg Prod.fst (rate40_fits h (accRate r 3 d))⟩, ?_⟩
  · rw [Dev.setAt, htb]
    rfl
  · rw [ref_of (of_setAt (.of (by decide)) ..), href]
    exact accRate_ref ..

theorem lockedIn_eq {e : Dev} (h : e.ref.st ≠ 2) : (∃ n, (lockedIn r e).tb = { e.tb with timeState := n }) ∧
    (lockedIn r e).ref.sel = e.ref.sel ∧ (lockedIn r e).ref.st = 2 ∧ (lockedIn r e).ref.target = 15 := by
  have href : (lockedIn r e).ref = _ := (refState_ref ..).trans (entered_other (x := { e.ref with target := 15 }) h)
  rw [href]
  exact ⟨⟨_, refState_tb ..⟩, rfl, rfl, rfl⟩

/-- What an update leaves of the timebase and the selector, whether it ends in LOCKED or not. -/
theorem slewAt_course {acc : SMap (Int × Nat)} (href : (slewed r d).ref = { d.ref with acc := acc }) :
    (∃ n, (slewAt r d).tb = { (slewed r d).tb with timeState := n }) ∧ (slewAt r d).ref.sel = d.ref.sel ∧
    (d.ref.st = 3 → if (slewGap r d).natAbs ≤ 1 then (slewAt r d).ref.st = 2 ∧ (slewAt r d).ref.target = 15 else (slewAt r d).ref.st = 3) := by
  rcases slewAt_ends (r := r) (d := d) with ⟨hend, hfrom⟩ | ⟨hend, hstay⟩
  · have hne : (slewed r d).ref.st ≠ 2 := by
      rw [href]
      show d.ref.st ≠ 2
      omega
    obtain ⟨htb, hsel, hst, htarget⟩ := lockedIn_eq (r := r) hne
    rw [hend]
    refine ⟨htb, hsel.trans (congrArg RefSt.sel href :), fun h3 => ?_⟩
    rw [if_pos (by omega)]
    exact ⟨hst, htarget⟩
  · rw [hend]
    refine ⟨⟨_, rfl⟩, (congrArg RefSt.sel href :), fun h3 => ?_⟩
    rw [if_neg (fun hg => hstay ⟨h3, hg⟩), href]
    exact h3

theorem slewAt_near (hs : d.tb.switching = true) (hg : (slewGap r d).natAbs ≤ 1) :
    (∀ i, (slewAt r d).view i = d.view i) ∧ (slewAt r d).ref.sel = d.ref.sel ∧ (slewAt r d).tb.at' = d.view (slewView d) ∧
    (slewAt r d).tb.atView = slewView d ∧ (slewAt r d).tb.switching = false ∧
    (d.ref.st = 3 → (slewAt r d).ref.st = 2 ∧ (slewAt r d).ref.target = 15) := by
  obtain ⟨⟨run, htb⟩, acc, href⟩ := slewed_near hs hg
  obtain ⟨⟨n, hend⟩, hsel, hst⟩ := slewAt_course href
  rw [htb] at hend
  rw [if_pos hg] at hst
  refine ⟨fun i => view_eq ?_ ?_ ?_ i, hsel, ?_, ?_, ?_, hst⟩ <;> rw [hend]

theorem slewAt_far (hs : d.tb.switching = true) (hg : ¬(slewGap r d).natAbs ≤ 1) :
    (∀ i, (slewAt r d).view i = d.view i) ∧ (slewAt r d).ref.sel = d.ref.sel ∧ (slewAt r d).tb.switching = true ∧
    (slewAt r d).atNow r = d.atNow r ∧ (-(2 ^ 39) ≤ slewRate r d ∧ slewRate r d < 2 ^ 39 → (slewAt r d).tb.at'.rate = slewRate r d) ∧
    (d.ref.st = 3 → (slewAt r d).ref.st = 3) := by
  obtain ⟨⟨q, htb, hq⟩, acc, href⟩ := slewed_far hs hg
  obtain ⟨⟨n, hend⟩, hsel, hst⟩ := slewAt_course href
  rw [htb] at hend
  rw [if_neg hg] at hst
  refine ⟨fun i => view_eq ?_ ?_ ?_ i, hsel, ?_, ?_, fun h => ?_, hst⟩
  · rw [hend]
  · rw [hend]
  · rw [hend]
  · rw [hend]
    exact hs
  · rw [Dev.atNow, hend]
    exact val_rerate ..
  · rw [hend]
    exact hq h

/-! ### X_TOD_APPLY (R162) -/

/-- X_TOD is armed and its second is due. -/
def todDue (d : Dev) : Prop := d.rb .ref 0x160 0 = true ∧ d.ref.st ≤ 1

/-- View X from the armed second at an edge. -/
def todView (d : Dev) (e : Int) : View :=
  { anchorEC := ecOf e, anchorT := ((d.reg .ref 0x164).toNat + 2 ^ 32 * d.rf .ref 0x168 15 0 : Nat) * secUnits, rate := d.tb.x.rate }

/-- The device once the edge is taken and X_TOD disarmed. -/
def todDisarmed (d : Dev) : Dev := (d.refMap fun s => { s with pps := none }).setReg .ref 0x160 (d.reg .ref 0x160 &&& ~~~1)

theorem todApply_due {e : Int} (hp : d.ref.pps = some e) (h : todDue d) : todApply r d = stepX r (todView d e) (todDisarmed d) := by
  unfold todApply
  rw [hp]
  refine (if_pos h).trans ?_
  unfold todView
  push_cast
  rfl

theorem todApply_idle {e : Int} (hp : d.ref.pps = some e) (h : ¬todDue d) : todApply r d = d.refMap fun s => { s with pps := none } := by
  unfold todApply
  rw [hp]
  exact if_neg h

theorem bitOf_disarmed (w : Word) : bitOf (w &&& ~~~1) 0 = false := by
  rw [bitOf_eq_testBit, BitVec.toNat_and, Nat.testBit_and]
  have : (~~~(1 : Word)).toNat.testBit 0 = false := by decide
  rw [this, Bool.and_false]

theorem todDisarmed_rb : (todDisarmed d).rb .ref 0x160 0 = false := by
  rw [Dev.rb, todDisarmed, reg_setReg_self, bitOf_disarmed]

theorem todDisarmed_feed (v : Nat) : (todDisarmed d).feed v = d.feed v :=
  congrArg (bitOf · v) (sget_setReg_other _ _ _ _ _ (by decide))

theorem stepX_open {x : View} (hf : d.feed 2 = false) : stepX r x d = stepView r 2 x d := if_neg (by simp [hf])

theorem stepX_fed {x : View} (hf : d.feed 2 = true) : stepX r x d = discardX d := if_pos hf

/-- What X_TOD makes of the timebase and of its own arming. -/
theorem todApply_takes {e : Int} (hp : d.ref.pps = some e) (h : todDue d) :
    (todApply r d).rb .ref 0x160 0 = false ∧ (todApply r d).ref.pps = none ∧ (todApply r d).ref.st = d.ref.st ∧
    (d.feed 2 = false → (d.tb.eraEC ≠ r.ec → (todApply r d).tb.era = eraNext d.tb.era) ∧ (todApply r d).tb.x = todView d e) ∧
    (d.feed 2 = true → UpdateDiscarded d (todApply r d)) := by
  rw [todApply_due hp h]
  obtain ⟨acc, n, href⟩ := stepX_ref r (todDisarmed d) (todView d e)
  have hreg : (stepX r (todView d e) (todDisarmed d)).reg .ref 0x160 = (todDisarmed d).reg .ref 0x160 := reg_of (of_stepX (.of (by decide)) ..) ..
  refine ⟨(congrArg (bitOf · 0) hreg).trans todDisarmed_rb, (congrArg RefSt.pps href :), (congrArg RefSt.st href :), fun hf => ?_, fun hf => ?_⟩
  · rw [stepX_open ((todDisarmed_feed 2).trans hf)]
    refine ⟨fun hec => (stepView_era r 2 _ (todDisarmed d) hec).1, ?_⟩
    exact (stepView_view r 2 _ (todDisarmed d) 2).trans (view_setView_self ..)
  · rw [stepX_fed ((todDisarmed_feed 2).trans hf)]
    exact ⟨rfl, rfl⟩

theorem todApply_passes {e : Int} (hp : d.ref.pps = some e) (h : ¬todDue d) :
    (todApply r d).rb .ref 0x160 0 = d.rb .ref 0x160 0 ∧ (todApply r d).ref.pps = none ∧ (todApply r d).ref.st = d.ref.st ∧ (todApply r d).tb = d.tb := by
  rw [todApply_idle hp h]
  exact ⟨rfl, rfl, rfl, rfl⟩

theorem disagree_judged (h0 : (d.rin 0).st = 2) (h1 : (d.rin 1).st = 2) :
    (disagree r d).ref = { d.ref with disagree := decide ((d.reg .ref 0x064).toNat * 256 < (d.tb.a.val r.ec - d.tb.b.val r.ec).natAbs) } ∧
    (disagree r d).tb = d.tb := by
  rw [disagree, if_pos ⟨h0, h1⟩, raiseIf_ref, raiseIf_tb]
  exact ⟨rfl, rfl⟩

end

/-- Settles O35: each update by what it makes of the device, its uses of the page reported. -/
theorem refUpdates : Obligations.RefUpdates := by
  intro s hon
  refine ⟨fun x h1 h3 h2 h8 hx hf => ?_, fun x h1 h3 h2 h8 hx hf => ?_, fun h1 h3 h2 hat hf => ?_, fun h1 h3 h2 hat hf => ?_, fun hs => ?_,
    fun h0 h1 => ?_, fun hst hf => ?_, fun hst hf => ?_, fun hst => ?_, fun e hp => ?_⟩
  · exact completes_onPage hon (show _ = execViewXDiscipline s from rfl) fun pg ln =>
      ⟨devOnly_dev .., disciplineX_open (d := { s.dev with page := pg, lines := ln }) ⟨h1, h3, h2, h8, hx⟩ hf⟩
  · refine completes_onPage hon (show _ = execViewXDiscipline s from rfl) fun pg ln => ?_
    rw [disciplineX_follows (d := { s.dev with page := pg, lines := ln }) ⟨h1, h3, h2, h8, hx⟩, rateX_fed (d := { s.dev with page := pg, lines := ln }) hf]
    exact ⟨devOnly_dev .., rfl, rfl⟩
  · refine completes_onPage hon (show _ = execViewXShadowUpdate s from rfl) fun pg ln => ?_
    rw [shadowX_follows (d := { s.dev with page := pg, lines := ln }) ⟨h1, h3, h2, hat⟩, rateX_fed (d := { s.dev with page := pg, lines := ln }) hf]
    exact ⟨devOnly_dev .., rfl, rfl⟩
  · exact completes_onPage hon (show _ = execViewXShadowUpdate s from rfl) fun pg ln =>
      ⟨devOnly_dev .., shadowX_open (d := { s.dev with page := pg, lines := ln }) ⟨h1, h3, h2, hat⟩ hf⟩
  · refine completes_onPage hon (show _ = execAtSlewUpdate s from rfl) fun pg ln => ?_
    by_cases hg : (slewGap s.root s.dev).natAbs ≤ 1
    · obtain ⟨hv, hsel, hat, hatv, hsw, hst⟩ := slewAt_near (r := s.root) (d := { s.dev with page := pg, lines := ln }) hs hg
      exact ⟨devOnly_dev .., hv, hsel, fun _ => ⟨hat, hatv, hsw, hst⟩, fun hfar => absurd hg (Nat.not_le.mpr hfar)⟩
    · obtain ⟨hv, hsel, hsw, hnow, hrate, hst⟩ := slewAt_far (r := s.root) (d := { s.dev with page := pg, lines := ln }) hs hg
      exact ⟨devOnly_dev .., hv, hsel, fun hnear => absurd hnear hg, fun _ => ⟨hsw, hnow, hrate, hst⟩⟩
  · exact completes_onPage hon (show _ = execViewDisagreeCheck s from rfl) fun pg ln =>
      ⟨devOnly_dev .., disagree_judged (d := { s.dev with page := pg, lines := ln }) h0 h1⟩
  · exact completes_onPage hon (show _ = execHoldoverRateUpdate s from rfl) fun pg ln =>
      ⟨devOnly_dev .., holdUpdate_open (d := { s.dev with page := pg, lines := ln }) hst hf⟩
  · refine completes_onPage hon (show _ = execHoldoverRateUpdate s from rfl) fun pg ln => ?_
    obtain ⟨hdis, hho⟩ := holdUpdate_fed (r := s.root) (d := { s.dev with page := pg, lines := ln }) hst hf
    exact ⟨⟨devOnly_dev .., hdis⟩, hho⟩
  · refine completes_onPage hon (show _ = execHoldoverBoundUpdate s from rfl) fun pg ln => ?_
    obtain ⟨htb, u, href⟩ := boundUpdate_holds (r := s.root) (d := { s.dev with page := pg, lines := ln }) hst
    refine ⟨devOnly_dev .., htb, ?_⟩
    dsimp only
    rw [href]
    exact ⟨rfl, rfl, rfl⟩
  · refine completes_onPage hon (show _ = execXTodApply s from rfl) fun pg ln => ?_
    by_cases h : todDue s.dev
    · obtain ⟨hrb, hpps, hst, hopen, hfed⟩ := todApply_takes (r := s.root) (d := { s.dev with page := pg, lines := ln }) hp h
      refine ⟨devOnly_dev .., hpps, hst, fun _ _ => ⟨hrb, hopen, fun hf => ⟨devOnly_dev .., hfed hf⟩⟩, fun hn => ?_⟩
      obtain ⟨harm, hle⟩ := h
      rcases hn with hn | hn
      · exact absurd (harm.symm.trans hn) (by decide)
      · exact absurd hle (Nat.not_le.mpr hn)
    · obtain ⟨hrb, hpps, hst, htb⟩ := todApply_passes (r := s.root) (d := { s.dev with page := pg, lines := ln }) hp h
      exact ⟨devOnly_dev .., hpps, hst, fun harm hle => absurd ⟨harm, hle⟩ h, fun _ => ⟨hrb, htb⟩⟩

end Sys2Proof.Machine

/-! The reference inputs (R155 to R157): what a change of state, a check and a decision make of each, and what passes over all eight of them. -/

namespace Sys2Proof.Machine

/-! ### An input read after it is set -/

theorem rin_setRin (d : Dev) (i j : Nat) (x : RefIn) : (d.setRin i x).rin j = if j = i then x else d.rin j := sget_sset ..

theorem rin_of_inp {a b : Dev} (h : a.ref.inp = b.ref.inp) (j : Nat) : a.rin j = b.rin j := by simp only [Dev.rin, h]

theorem rin_of_judged {a b : Dev} (h : a.judged = b.judged) (j : Nat) : a.rin j = b.rin j := rin_of_inp (congrArg Prod.fst h :) j

/-- An input that changes state at EC `ec` (R157). -/
def RefIn.moved (ec st timer : Nat) (x : RefIn) : RefIn :=
  { x with st := st, timer := timer, run := 0, lost := x.lost || x.st == 2, changes := satInc x.changes 255, since := if x.st = 0 then ec else x.since }

/-- What a check with outcome `fail` at EC `ec` makes of an input's state and timers (R157). -/
def RefIn.counted (ec qual fail : Nat) (x : RefIn) : RefIn :=
  match x.st, fail with
  | 1, 0 => { x with timer := x.timer - 1 }
  | 1, _ => { x with timer := qual }
  | 2, 0 => { x with run := 0 }
  | 2, _ => { x with run := x.run + 1, failSec := if x.run = 0 then ec / secEC else x.failSec }
  | 3, 0 => { x with timer := x.timer - 1 }
  | 3, _ => x.moved ec 1 qual
  | 4, 0 => x.moved ec 1 qual
  | _, _ => x

section
variable (r : Root) (d : Dev) (i : Nat)

theorem refTo_rin (st timer j : Nat) : (refTo r i st timer d).rin j = if j = i then (d.rin i).moved r.ec st timer else d.rin j :=
  (rin_of_ref (raise_ref ..) j).trans (rin_setRin ..)

/-- The selector's decision after an input has left its state changes no input. -/
theorem judged_refLeave (st timer sec : Nat) : (refLeave r i st timer sec d).judged = (refTo r i st timer d).judged := by
  unfold refLeave
  dsimp only
  rw [judged_refDecide]
  simp only [Dev.judged, refTo, raise_ref]
  split <;> rfl

theorem refLeave_rin (st timer sec j : Nat) : (refLeave r i st timer sec d).rin j = if j = i then (d.rin i).moved r.ec st timer else d.rin j :=
  (rin_of_judged (judged_refLeave ..) j).trans (refTo_rin ..)

theorem refTo_ref (st timer : Nat) : ∃ m, (refTo r i st timer d).ref = { d.ref with inp := m } := ⟨_, raise_ref ..⟩

/-- A check takes the outcome and the rate of an input, and then counts. -/
theorem refCount_rin (fail j : Nat) : (refCount r i fail d).rin j =
    if j = i then RefIn.counted r.ec (qualTime d) fail { d.rin i with fail := fail, rate := (refMeasure r d i).map (·.1) } else d.rin j := by
  unfold refCount
  extract_lets _ x d1
  have once : ∀ y, (d1.setRin i y).rin j = if j = i then y else d.rin j := fun y => by
    rw [rin_setRin, rin_setRin]
    split <;> rfl
  have move : (refTo r i 1 (qualTime d) d1).rin j = if j = i then x.moved r.ec 1 (qualTime d) else d.rin j := by
    rw [refTo_rin, rin_setRin, rin_setRin, if_pos rfl]
    split <;> rfl
  change _ = if j = i then x.counted r.ec (qualTime d) fail else d.rin j
  have same : d1.rin j = if j = i then x else d.rin j := rin_setRin ..
  clear_value d1 x
  unfold RefIn.counted
  split
  case h_8 => simp_all only
  all_goals simp only [*]

theorem refCount_ref (fail : Nat) : ∃ m, (refCount r i fail d).ref = { d.ref with inp := m } := by
  unfold refCount
  extract_lets _ x d1
  have move : ∃ m, (refTo r i 1 (qualTime d) d1).ref = { d.ref with inp := m } := by
    obtain ⟨m, h⟩ := refTo_ref r d1 i 1 (qualTime d)
    exact ⟨m, h⟩
  split
  case h_6 => exact move
  case h_7 => exact move
  all_goals exact ⟨_, rfl⟩

end

/-! ### A pass over the inputs -/

section
variable {F : Dev → Nat → Dev} {I : Dev → Prop}

theorem rin_foldl_above (hother : ∀ e j k, k ≠ j → (F e j).rin k = e.rin k) (d : Dev) (n k : Nat) (h : n ≤ k) : ((List.range n).foldl F d).rin k = d.rin k := by
  induction n with
  | zero => rfl
  | succ n ih =>
    rw [List.range_succ, List.foldl_append]
    exact (hother _ _ _ (by omega)).trans (ih (by omega))

/-- A pass whose every step changes one input alone finds an input as it was before the pass, at a device that keeps what the steps keep. -/
theorem rin_foldl (hstep : ∀ e j, I e → I (F e j)) (hother : ∀ e j k, k ≠ j → (F e j).rin k = e.rin k) {d : Dev} (hd : I d) {n i : Nat} (hi : i < n) :
    ∃ e, I e ∧ e.rin i = d.rin i ∧ ((List.range n).foldl F d).rin i = (F e i).rin i := by
  induction n with
  | zero => omega
  | succ n ih =>
    rw [List.range_succ, List.foldl_append]
    by_cases h : i = n
    · subst h
      exact ⟨_, foldl_inv I F _ d hd hstep, rin_foldl_above hother d i i le_rfl, rfl⟩
    · obtain ⟨e, he, hx, hy⟩ := ih (by omega)
      exact ⟨e, he, hx, (hother _ _ _ h).trans hy⟩

end

/-! ### Settings -/

/-- The selector's settings are as they were: the registers of its page above the shared ones. -/
def SettingsKept (d e : Dev) : Prop := ∀ o, 0x040 ≤ o → e.reg .ref o = d.reg .ref o

section
variable {d e : Dev}

theorem SettingsKept.of_regs {f : Dev} (h : SettingsKept d e) (hf : Part.regs.of f = Part.regs.of e) : SettingsKept d f :=
  fun o ho => (reg_of hf ..).trans (h o ho)

theorem SettingsKept.refEna (h : SettingsKept d e) (i : Nat) : refEna e i = refEna d i := by
  simp only [Machine.refEna, Dev.rb, h (0x0A0 + 4 * i) (by omega)]

theorem SettingsKept.qualTime (h : SettingsKept d e) : qualTime e = qualTime d := by
  simp only [Machine.qualTime, Dev.rf, h 0x050 (by omega)]

theorem SettingsKept.refPeriod (h : SettingsKept d e) (i : Nat) : refPeriod e i = refPeriod d i := by
  simp only [Machine.refPeriod, h (0x0C0 + 4 * i) (by omega)]

theorem settingsKept_opportunity (r : Root) (pt : Nat) (d : Dev) : SettingsKept d (opportunity r .ref pt d) := fun _ ho => opportunity_reg ho ..

end

/-! ### Timers (R157) -/

section
variable {r : Root} {i : Nat} {d : Dev}

theorem qualExpiry_rin (h : (d.rin i).st = 1) (h0 : (d.rin i).timer = 0) (j : Nat) : (qualExpiry r i d).rin j =
    if j = i then (if (d.rin i).lost then (d.rin i).moved r.ec 3 (wtrTime d) else (d.rin i).moved r.ec 2 0) else d.rin j := by
  refine (congrArg (Dev.rin · j) (if_pos ⟨h, h0⟩)).trans ((rin_of_judged (judged_refDecide ..) j).trans ?_)
  split <;> exact refTo_rin ..

theorem qualExpiry_failed (h : (d.rin i).st = 2) (hq : qualTime d ≤ (d.rin i).run) (j : Nat) : (qualExpiry r i d).rin j =
    if j = i then (d.rin i).moved r.ec 4 0 else d.rin j := by
  refine (congrArg (Dev.rin · j) ((if_neg ?_).trans (if_pos ⟨h, hq⟩))).trans (refLeave_rin ..)
  rw [h]
  exact fun h' => absurd h'.1 (by decide)

theorem wtrExpiry_rin (h : (d.rin i).st = 3) (h0 : (d.rin i).timer = 0) (j : Nat) : (wtrExpiry r i d).rin j =
    if j = i then (d.rin i).moved r.ec 2 0 else d.rin j :=
  (congrArg (Dev.rin · j) (if_pos ⟨h, h0⟩)).trans ((rin_of_judged (judged_refDecide ..) j).trans (refTo_rin ..))

end

end Sys2Proof.Machine

/-! REF_CHECK (R155, R157, R163, R168): the outcome of each input, the record of the second, and the selector's faults. -/

namespace Sys2Proof.Machine

/-! ### The second's end -/

/-- The device whose inputs keep the edges of the last second, and forget that their settings changed. -/
def edgesCut (r : Root) (d : Dev) : Dev :=
  (List.range 8).foldl (fun d i =>
    let x := d.rin i
    let recent := x.edges.takeWhile fun e => decide ((r.ec : Int) - secEC ≤ e)
    d.setRin i { x with edges := x.edges.take (recent.length + 1), cut := false }) d

/-- The selector as a second begins. -/
def RefSt.begun (ec : Nat) (bad : SMap Bool) (x : RefSt) : RefSt :=
  { x with acc := [], accFrom := ec, unlocked := x.st != 2, thetaCnt := [], thetaMax := [], srvBad := bad, tempSum := 0, tempCnt := 0, checkSec := ec / secEC }

section
variable (r : Root) (d : Dev)

theorem refNextSecond_eq : refNextSecond r d = (edgesCut r d).refMap (RefSt.begun r.ec (srvSeed d)) := rfl

theorem rin_refMap {f : RefSt → RefSt} (h : ∀ x, (f x).inp = x.inp) (i : Nat) : (d.refMap f).rin i = d.rin i := by simp only [Dev.rin, Dev.refMap, h]

theorem edgesCut_ref : ∃ m, (edgesCut r d).ref = { d.ref with inp := m } :=
  foldl_inv (fun e : Dev => ∃ m, e.ref = { d.ref with inp := m }) _ _ d ⟨_, rfl⟩ fun _ _ ⟨_, h⟩ => ⟨_, by
    dsimp only [Dev.setRin, Dev.refMap]
    rw [h]⟩

theorem edgesCut_rin (i : Nat) : ∃ es c, (edgesCut r d).rin i = { d.rin i with edges := es, cut := c } :=
  foldl_inv (fun e : Dev => ∃ es c, e.rin i = { d.rin i with edges := es, cut := c }) _ _ d ⟨_, _, rfl⟩ fun e j ⟨es, c, h⟩ => by
    dsimp only
    rw [rin_setRin]
    split
    next hij => exact ⟨_, _, by rw [← hij, h]⟩
    next => exact ⟨es, c, h⟩

theorem refNextSecond_rin (i : Nat) : ∃ es c, (refNextSecond r d).rin i = { d.rin i with edges := es, cut := c } := by
  rw [refNextSecond_eq, rin_refMap (f := RefSt.begun r.ec (srvSeed d)) (h := fun _ => rfl)]
  exact edgesCut_rin r d i

theorem refNextSecond_keeps : (refNextSecond r d).ref.hist = d.ref.hist ∧ (refNextSecond r d).ref.st = d.ref.st ∧
    (refNextSecond r d).ref.faultCause = d.ref.faultCause ∧ (refNextSecond r d).ref.checkSec = r.ec / secEC ∧ (refNextSecond r d).ref.accFrom = r.ec := by
  obtain ⟨m, h⟩ := edgesCut_ref r d
  rw [refNextSecond_eq]
  dsimp only [Dev.refMap]
  rw [h]
  exact ⟨rfl, rfl, rfl, rfl, rfl⟩

/-- The history takes a record of the second, an invalid one unless the selector was LOCKED throughout (R168). -/
theorem judged_refRecord (ok : Bool) : ∃ e, (refRecord r ok d).judged = (d.ref.inp, d.ref.sapFault, (e :: d.ref.hist).take 1024) ∧
    (d.ref.st ≠ 2 ∨ d.ref.unlocked = true → e = none) := by
  unfold refRecord
  extract_lets t e d1
  refine ⟨e, ?_, fun h => if_neg fun h' => ?_⟩
  · have learned : ∀ x y, (ttLearn r x y d1).ref = d1.ref := fun x y => ref_of (of_ttLearn (.of (by decide)) ..)
    clear_value e
    split
    · split
      · simp only [Dev.judged, learned]
        rfl
      · rfl
    · rfl
  · obtain ⟨hst, hun, _⟩ := h'
    exact h.elim (absurd hst) hun

end

/-! ### The pass over the inputs -/

/-- The device once every enabled input has been counted, input `i` with outcome `fails i`. -/
def checked (r : Root) (fails : Nat → Nat) (d : Dev) : Dev := (List.range 8).foldl (fun d i => if refEna d i then refCount r i (fails i) d else d) d

section
variable (r : Root) (fails : Nat → Nat) (d : Dev)

theorem checked_ref : ∃ m, (checked r fails d).ref = { d.ref with inp := m } :=
  foldl_inv (fun e : Dev => ∃ m, e.ref = { d.ref with inp := m }) _ _ d ⟨_, rfl⟩ fun e i ⟨m, h⟩ => by
    dsimp only
    split
    · obtain ⟨m', h'⟩ := refCount_ref r e i (fails i)
      exact ⟨m', by rw [h', h]⟩
    · exact ⟨m, h⟩

theorem checked_rin {i : Nat} (hi : i < 8) : ∃ rate, (checked r fails d).rin i =
    if refEna d i then RefIn.counted r.ec (qualTime d) (fails i) { d.rin i with fail := fails i, rate := rate } else d.rin i := by
  obtain ⟨e, he, hx, h⟩ := rin_foldl (F := fun d i => if refEna d i then refCount r i (fails i) d else d) (I := SettingsKept d) (d := d) (fun e j he => by
      split
      · exact he.of_regs (of_refCount (.of (by decide)) ..)
      · exact he) (fun e j k hk => by
      split
      · exact (refCount_rin ..).trans (if_neg hk)
      · rfl) (fun _ _ => rfl) hi
  refine ⟨(refMeasure r e i).map (·.1), h.trans ?_⟩
  dsimp only
  rw [he.refEna]
  split
  · rw [refCount_rin, if_pos rfl, he.qualTime, hx]
  · exact hx

end

/-! ### The check -/

/-- The outcomes of a check: each enabled input as judged, and the followed one failed by point 0 (R155). -/
def Outcomes (r : Root) (d : Dev) (fails : Nat → Nat) : Prop :=
  ∀ i, i < 8 → refEna d i = true → (¬(d.ref.sel = i ∧ injects .ref 0 d = true) → fails i = (refJudge r d i).1) ∧
    (d.ref.sel = i → injects .ref 0 d = true → fails i ≠ 0)

/-- What is left of the history once a fault may have discarded it. -/
theorem inp_hist_of_judged {a b : Dev} {c : Prop} [Decidable c] (h : a.judged = if c then (b.ref.inp, b.ref.sapFault, []) else b.judged) :
    a.ref.inp = b.ref.inp ∧ (a.ref.hist = [] ∨ a.ref.hist = b.ref.hist) := by
  split at h
  all_goals
    simp only [Dev.judged, Prod.mk.injEq] at h
    obtain ⟨hinp, _, hhist⟩ := h
  · exact ⟨hinp, .inl hhist⟩
  · exact ⟨hinp, .inr hhist⟩

/-- The check counts its outcomes, records the second, judges the selector's faults and decides. -/
theorem refCheck_course (r : Root) (d : Dev) : ∃ (d1 x : Dev) (fails : Nat → Nat) (ok : Bool), d1.ref = d.ref ∧ SettingsKept d d1 ∧ Outcomes r d fails ∧
    refCheck r d = refNextSecond r x ∧ x.ref.inp = (checked r fails d1).ref.inp ∧
    (x.ref.hist = [] ∨ x.ref.hist = (refRecord r ok (checked r fails d1)).ref.hist) ∧
    (d.flt.tempValid = false → x.ref.st = 7 ∧ x.ref.faultCause = 1) := by
  unfold refCheck
  extract_lets sel inj d0 res failOf d1 d2 selOk d3 agree susp d4 cause d5 d6
  have h0 : d0.ref = d.ref ∧ SettingsKept d d0 := by
    simp only [d0]
    split
    · exact ⟨ref_of (of_opportunity (.of (by decide)) ..), settingsKept_opportunity r 0 d⟩
    · exact ⟨rfl, fun _ _ => rfl⟩
  have h1 : d1.ref = d.ref ∧ SettingsKept d d1 := by
    simp only [d1]
    split
    · exact h0
    · exact h0
  have hres : ∀ i, i < 8 → refEna d i = true → failOf i = if inj && i == sel && (refJudge r d i).1 == 0 then 1 + d0.free % 31 else (refJudge r d i).1 := by
    intro i hi hena
    have h : res.getD i none = some (refJudge r d i) := by simp [res, List.getD, hi, hena]
    simp only [failOf, h]
  have hfail : Outcomes r d failOf := by
    intro i hi hena
    rw [hres i hi hena]
    refine ⟨fun hno => if_neg fun h => hno ?_, fun hs hj => ?_⟩
    · simp only [inj, sel, Bool.and_eq_true, beq_iff_eq] at h
      obtain ⟨⟨⟨_, hj⟩, hs⟩, _⟩ := h
      exact ⟨hs.symm, hj⟩
    · have hinj : inj = true := by simp [inj, sel, hs, hi, hena, hj]
      simp only [hinj, sel, hs, beq_self_eq_true, Bool.true_and, beq_iff_eq]
      split <;> omega
  have h5 : d5.judged = if cause ≠ 0 then (d4.ref.inp, d4.ref.sapFault, []) else d4.judged := by
    simp only [d5, judged_ite, judged_refFault, judged_refState]
    split
    · rfl
    · split
      · split <;> rfl
      · rfl
  have h6 : d6.judged = d5.judged := by
    simp only [d6, judged_ite, judged_refState]
    split <;> rfl
  have hx : (refDecide r d6).judged = if cause ≠ 0 then (d4.ref.inp, d4.ref.sapFault, []) else d4.judged := (judged_refDecide ..).trans (h6.trans h5)
  have hvalid : d.flt.tempValid = false → (refDecide r d6).ref.st = 7 ∧ (refDecide r d6).ref.faultCause = 1 := fun ht => by
    have hc : cause = 1 := by simp [cause, ht]
    have h5 : d5 = refFault r 1 d4 := by simp only [d5, hc]; rfl
    obtain ⟨hst, hcause⟩ := refFault_st r d4 1
    have h6 : d6 = d5 := if_neg fun h => by rw [h5, hst] at h; exact absurd h.1 (by decide)
    rw [h6, h5, refDecide_fault hst]
    exact ⟨hst, hcause⟩
  obtain ⟨hinp, hhist⟩ := inp_hist_of_judged hx
  obtain ⟨e, h3, -⟩ := judged_refRecord r d2 selOk
  refine ⟨d1, refDecide r d6, failOf, selOk, h1.1, h1.2, hfail, rfl, hinp.trans (congrArg Prod.fst h3 :), hhist, hvalid⟩

/-! ### What the check leaves of an input and of the history -/

/-- An input has come to state `n` from the one it had in `x`. -/
def HasMoved (x y : RefIn) (n timer : Nat) : Prop := y.st = n ∧ y.timer = timer ∧ y.run = 0 ∧ y.changes = satInc x.changes 255

theorem hasMoved (x : RefIn) (ec n timer : Nat) : HasMoved x (x.moved ec n timer) n timer := ⟨rfl, rfl, rfl, rfl⟩

/-- What a check with outcome `fail` makes of an input (R157). -/
def CheckedAs (qual fail : Nat) (x y : RefIn) : Prop :=
  y.fail = fail ∧ y.lost = (x.lost || (x.st == 2 && y.st != 2)) ∧
  (x.st = 1 → y.st = 1 ∧ y.timer = if fail = 0 then x.timer - 1 else qual) ∧
  (x.st = 2 → y.st = 2 ∧ y.run = if fail = 0 then 0 else x.run + 1) ∧
  (x.st = 3 → fail = 0 → y.st = 3 ∧ y.timer = x.timer - 1) ∧
  (x.st = 3 → fail ≠ 0 → HasMoved x y 1 qual) ∧
  (x.st = 4 → fail = 0 → HasMoved x y 1 qual) ∧ (x.st = 4 → fail ≠ 0 → y.st = 4)

theorem counted_fail (ec qual fail : Nat) (x : RefIn) : (x.counted ec qual fail).fail = x.fail := by
  unfold RefIn.counted
  split <;> rfl

/-- A count that takes an input out of QUALIFIED makes it lost. -/
theorem counted_lost (ec qual fail : Nat) (x : RefIn) :
    (x.counted ec qual fail).lost = (x.lost || (x.st == 2 && (x.counted ec qual fail).st != 2)) := by
  unfold RefIn.counted
  split
  all_goals simp_all [RefIn.moved]

theorem checkedAs_counted (ec qual fail : Nat) (x : RefIn) (rate : Option Int) :
    CheckedAs qual fail x (RefIn.counted ec qual fail { x with fail := fail, rate := rate }) := by
  refine ⟨counted_fail .., counted_lost .., ?_⟩
  rcases fail with _ | f
  all_goals
    refine ⟨fun h => ?_, fun h => ?_, fun h hf => ?_, fun h hf => ?_, fun h hf => ?_, fun h hf => ?_⟩
    all_goals simp_all [RefIn.counted, HasMoved, RefIn.moved]

section
variable (r : Root) (d : Dev)

theorem refCheck_selector : (refCheck r d).ref.checkSec = r.ec / secEC ∧ (refCheck r d).ref.accFrom = r.ec ∧
    ((refCheck r d).ref.hist = [] ∨
      ∃ e, (refCheck r d).ref.hist = (e :: d.ref.hist).take 1024 ∧ (d.ref.st ≠ 2 ∨ d.ref.unlocked = true → e = none)) ∧
    (d.flt.tempValid = false → (refCheck r d).ref.st = 7 ∧ (refCheck r d).ref.faultCause = 1) := by
  obtain ⟨d1, x, fails, ok, h1, -, -, he, -, hhist, hvalid⟩ := refCheck_course r d
  obtain ⟨m, hm⟩ := checked_ref r fails d1
  obtain ⟨e, hrec, hnone⟩ := judged_refRecord r (checked r fails d1) ok
  obtain ⟨hh, hst, hcause, hsec, hfrom⟩ := refNextSecond_keeps r x
  rw [he, hh, hst, hcause]
  refine ⟨hsec, hfrom, hhist.imp_right fun hhist => ⟨e, ?_, ?_⟩, hvalid⟩
  · refine hhist.trans ((congrArg (·.2.2) hrec :).trans ?_)
    rw [hm, h1]
  · rw [hm, h1] at hnone
    exact hnone

theorem refCheck_rin {i : Nat} (hi : i < 8) : ∃ fails, Outcomes r d fails ∧ ∃ rate es c, (refCheck r d).rin i =
    { (if refEna d i then RefIn.counted r.ec (qualTime d) (fails i) { d.rin i with fail := fails i, rate := rate } else d.rin i) with edges := es, cut := c } := by
  obtain ⟨d1, x, fails, ok, h1, hset, hfails, he, hinp, -, -⟩ := refCheck_course r d
  obtain ⟨rate, hx⟩ := checked_rin r fails d1 hi
  obtain ⟨es, c, hy⟩ := refNextSecond_rin r x i
  refine ⟨fails, hfails, rate, es, c, ?_⟩
  rw [he, hy, rin_of_inp hinp, hx, hset.refEna, hset.qualTime, rin_of_ref h1]

theorem refCheck_disabled {i : Nat} (hi : i < 8) (hena : refEna d i = false) :
    ((refCheck r d).rin i).st = (d.rin i).st ∧ ((refCheck r d).rin i).timer = (d.rin i).timer ∧ ((refCheck r d).rin i).fail = (d.rin i).fail := by
  obtain ⟨_, _, _, _, _, h⟩ := refCheck_rin r d hi
  rw [h, if_neg (by simp [hena])]
  exact ⟨rfl, rfl, rfl⟩

theorem refCheck_enabled {i : Nat} (hi : i < 8) (hena : refEna d i = true) : ∃ fails, Outcomes r d fails ∧
    CheckedAs (qualTime d) (fails i) (d.rin i) ((refCheck r d).rin i) := by
  obtain ⟨fails, hfails, rate, _, _, h⟩ := refCheck_rin r d hi
  refine ⟨fails, hfails, ?_⟩
  rw [h, if_pos hena]
  exact checkedAs_counted ..

end

end Sys2Proof.Machine

/-! REF_LOS_DETECT (R153, R156, R157): the pads' edges, the judgement of each input's signal, and what becomes of an input with and without one. -/

namespace Sys2Proof.Machine

/-- A change of every value of a sparse array that keeps the unlisted one. -/
theorem sget_smap {α : Type} [DecidableEq α] {f : α → α} {z : α} (hz : f z = z) (m : SMap α) (k : Nat) :
    sget (fun _ => z) (smap z f m) k = f (sget (fun _ => z) m k) := by
  induction m with
  | nil => exact hz.symm
  | cons p t ih =>
    refine (sget_sset ..).trans ?_
    simp only [sget]
    split
    · rfl
    · exact ih

/-! ### Edges of the SYNCE pads -/

/-- A device whose pages' reports are others. -/
def Dev.paged (pg : SMap PageSt) (ln : SMap LineSt) (d : Dev) : Dev := { d with page := pg, lines := ln }

theorem synceEdge_paged (pg : SMap PageSt) (ln : SMap LineSt) (e : SynceEdge) (d : Dev) : synceEdge e (d.paged pg ln) = (synceEdge e d).paged pg ln := by
  by_cases hpad : (bankDown d 2 || e.b != d.rb .ref 0x040 4) = true
  · exact (if_pos hpad).trans (congrArg (Dev.paged pg ln) (if_pos hpad)).symm
  · refine (if_neg hpad).trans (Eq.trans ?_ (congrArg (Dev.paged pg ln) (if_neg hpad)).symm)
    dsimp only
    by_cases hdiv : (refDiv 7 d).1 = true
    · rw [if_pos hdiv]
      exact if_pos hdiv
    · rw [if_neg hdiv]
      exact if_neg hdiv

/-- What edges of the pads leave: the choice, every input but the seventh, and the state of that one. -/
structure EdgesOnly (d e : Dev) : Prop where
  sel : e.ref.sel = d.ref.sel
  others : ∀ j, j ≠ 7 → e.rin j = d.rin j
  st : (e.rin 7).st = (d.rin 7).st
  changes : (e.rin 7).changes = (d.rin 7).changes

theorem edgesOnly_refEdge (ec : Int) (d : Dev) : EdgesOnly d (refEdge 7 ec d) := by
  have h : ∀ j, (refEdge 7 ec d).rin j = if j = 7 then (refEdge 7 ec d).rin 7 else d.rin j := fun j => by
    split
    next hj => rw [hj]
    next hj => exact sget_sset_other _ _ _ _ _ hj
  have h7 : (refEdge 7 ec d).rin 7 = _ := sget_sset_self ..
  exact ⟨rfl, fun j hj => (h j).trans (if_neg hj), by rw [h7]; rfl, by rw [h7]; rfl⟩

theorem edgesOnly_synceEdge (e : SynceEdge) (d : Dev) : EdgesOnly d (synceEdge e d) := by
  unfold synceEdge
  split
  · exact ⟨rfl, fun _ _ => rfl, rfl, rfl⟩
  · dsimp only
    split
    · obtain ⟨hsel, hothers, hst, hchanges⟩ := edgesOnly_refEdge (e.ec / 512 * 512 : Nat) (refDiv 7 d).2
      exact ⟨hsel, hothers, hst, hchanges⟩
    · exact ⟨rfl, fun _ _ => rfl, rfl, rfl⟩

/-- The device once the pads' edges have come. -/
def edged (synce : List SynceEdge) (d : Dev) : Dev := synce.foldl (fun d e => synceEdge e d) d

section
variable (synce : List SynceEdge) (d : Dev)

theorem edged_paged (pg : SMap PageSt) (ln : SMap LineSt) : edged synce (d.paged pg ln) = (edged synce d).paged pg ln :=
  List.foldl_hom (Dev.paged pg ln) fun x e => synceEdge_paged pg ln e x

theorem edgesOnly_edged : EdgesOnly d (edged synce d) :=
  foldl_inv (EdgesOnly d) _ synce d ⟨rfl, fun _ _ => rfl, rfl, rfl⟩ fun x e h => by
    obtain ⟨hsel, hothers, hst, hchanges⟩ := edgesOnly_synceEdge e x
    exact ⟨hsel.trans h.sel, fun j hj => (hothers j hj).trans (h.others j hj), hst.trans h.st, hchanges.trans h.changes⟩

theorem of_edged {π : Part} (h : π.off [.ref]) : π.of (edged synce d) = π.of d := Part.of_foldl (fun x e => of_synceEdge h e x) ..

end

/-- Edges of the pads change neither the state of any input nor its count of changes. -/
theorem EdgesOnly.st_changes {d e : Dev} (h : EdgesOnly d e) (i : Nat) : (e.rin i).st = (d.rin i).st ∧ (e.rin i).changes = (d.rin i).changes := by
  by_cases hi : i = 7
  · subst hi
    exact ⟨h.st, h.changes⟩
  · rw [h.others i hi]
    exact ⟨rfl, rfl⟩

/-! ### The judgement -/

/-- What a judgement reads beside the input: settings, engines and servos, the port's clock fault and the reading of the temperature. -/
structure JudgedAlike (d e : Dev) : Prop where
  settings : SettingsKept d e
  ptp : e.ptp = d.ptp
  srv : e.srv = d.srv
  clock : e.ref.sapFault = d.ref.sapFault
  temp : e.flt.tempValid = d.flt.tempValid

theorem judgedAlike_of {d e : Dev} (hregs : Part.regs.of e = Part.regs.of d) (hptp : Part.ptp.of e = Part.ptp.of d) (hsrv : Part.srv.of e = Part.srv.of d)
    (hflt : Part.flt.of e = Part.flt.of d) (hclock : e.ref.sapFault = d.ref.sapFault) : JudgedAlike d e :=
  ⟨fun _ _ => reg_of hregs .., Part.same_iff.mpr hptp, Part.same_iff.mpr hsrv, hclock, congrArg FltSt.tempValid (Part.same_iff.mpr hflt)⟩

theorem JudgedAlike.trans {a b c : Dev} (h : JudgedAlike a b) (h' : JudgedAlike b c) : JudgedAlike a c :=
  ⟨fun o ho => (h'.settings o ho).trans (h.settings o ho), h'.ptp.trans h.ptp, h'.srv.trans h.srv, h'.clock.trans h.clock, h'.temp.trans h.temp⟩

theorem JudgedAlike.refLos {d e : Dev} (h : JudgedAlike d e) {i : Nat} (hx : e.rin i = d.rin i) (r : Root) : refLos r e i = refLos r d i := by
  simp only [Machine.refLos, Dev.ptpn, Dev.srvn, h.ptp, h.srv, h.clock, h.settings.refPeriod, hx]

/-- What a judgement makes of an input: with signal an absent one qualifies, without signal any other is absent (R157). -/
def RefIn.judged (ec qual : Nat) (ena los : Bool) (x : RefIn) : RefIn :=
  if ena && x.st == 0 && !los then x.moved ec 1 qual else if x.st ≠ 0 ∧ (los || !ena) then x.moved ec 0 0 else x

/-- The judgement of one input, `inj` where point 1 forces LOS on input `sel`. -/
def losJudge (r : Root) (inj : Bool) (sel : Nat) (d : Dev) (i : Nat) : Dev :=
  let x := d.rin i
  let los := refLos r d i || (inj && i == sel)
  if refEna d i && x.st == 0 && !los then refTo r i 1 (qualTime d) d
  else if x.st ≠ 0 ∧ (los || !refEna d i) then
    let good := if x.late then x.gap else x.last.getD r.ec
    refLeave r i 0 0 (good / secEC) d
  else d

section
variable (r : Root) (inj : Bool) (sel : Nat) (d : Dev) (i : Nat)

theorem losJudge_rin (j : Nat) : (losJudge r inj sel d i).rin j =
    if j = i then (d.rin i).judged r.ec (qualTime d) (refEna d i) (refLos r d i || (inj && i == sel)) else d.rin j := by
  have same : d.rin j = if j = i then d.rin i else d.rin j := by split <;> simp_all only
  unfold losJudge RefIn.judged
  dsimp only
  split
  · exact refTo_rin ..
  · split
    · exact refLeave_rin ..
    · exact same

theorem judgedAlike_losJudge : JudgedAlike d (losJudge r inj sel d i) := by
  have moved : ∀ n timer, (refTo r i n timer d).ref.sapFault = d.ref.sapFault := fun n timer => by
    obtain ⟨_, h⟩ := refTo_ref r d i n timer
    rw [h]
  unfold losJudge
  dsimp only
  split
  · exact judgedAlike_of (of_refTo (.of (by decide)) ..) (of_refTo (.of (by decide)) ..) (of_refTo (.of (by decide)) ..) (of_refTo (.of (by decide)) ..)
      (moved ..)
  · split
    · exact judgedAlike_of (of_refLeave (.of (by decide)) ..) (of_refLeave (.of (by decide)) ..) (of_refLeave (.of (by decide)) ..)
        (of_refLeave (.of (by decide)) ..) ((congrArg (·.2.1) (judged_refLeave ..) :).trans (moved ..))
    · exact judgedAlike_of rfl rfl rfl rfl rfl

theorem opportunity_tempValid (b : Blk) (pt : Nat) : (opportunity r b pt d).flt.tempValid = d.flt.tempValid := by
  have recorded : ∀ e : Dev, (recordInj r b pt e).flt.tempValid = e.flt.tempValid := fun e => by simp only [recordInj, raiseIf_flt, pageUse_flt]
  unfold opportunity
  simp only [apply_ite Dev.flt, apply_ite FltSt.tempValid, recorded, disarm_flt, Dev.setReg_flt, pageUse_flt, ite_self]

theorem judgedAlike_opportunity (pt : Nat) : JudgedAlike d (opportunity r .ref pt d) :=
  ⟨settingsKept_opportunity r pt d, Part.same_iff.mpr (of_opportunity (π := .ptp) (.of (by decide)) ..),
    Part.same_iff.mpr (of_opportunity (π := .srv) (.of (by decide)) ..), congrArg RefSt.sapFault (ref_of (of_opportunity (.of (by decide)) ..)),
    opportunity_tempValid ..⟩

end

/-! ### The step -/

section
variable (r : Root) (synce : List SynceEdge) (d : Dev)

/-- Whether point 1 forces LOS on the followed input. -/
def losForced (d : Dev) : Bool := decide (d.ref.sel < 8) && injects .ref 1 d

/-- The device once every input has been judged. -/
def losJudged (r : Root) (d : Dev) : Dev :=
  (List.range 8).foldl (losJudge r (losForced d) d.ref.sel) (if decide (d.ref.sel < 8) then opportunity r .ref 1 d else d)

/-- An input whose next window is open. -/
def RefIn.reopened (x : RefIn) : RefIn := { x with late := false }

/-- The device once the judgement has reopened every window and forgotten the port's clock fault. -/
def reopened (d : Dev) : Dev := d.refMap fun s => { s with inp := smap {} RefIn.reopened s.inp, sapFault := false }

theorem reopened_rin (i : Nat) : (reopened d).rin i = (d.rin i).reopened := sget_smap (z := {}) (f := RefIn.reopened) rfl d.ref.inp i

theorem refLosStep_eq : refLosStep r synce d =
    let e := reopened (losJudged r (edged synce d))
    if e.flt.tempValid then e else refFault r 1 e := rfl

theorem losJudged_start : JudgedAlike d (if decide (d.ref.sel < 8) then opportunity r .ref 1 d else d) ∧
    (if decide (d.ref.sel < 8) then opportunity r .ref 1 d else d).ref = d.ref := by
  split
  · exact ⟨judgedAlike_opportunity .., ref_of (of_opportunity (.of (by decide)) ..)⟩
  · exact ⟨judgedAlike_of rfl rfl rfl rfl rfl, rfl⟩

theorem losJudged_tempValid : (losJudged r d).flt.tempValid = d.flt.tempValid :=
  foldl_inv (fun e : Dev => e.flt.tempValid = d.flt.tempValid) _ _ _ (losJudged_start r d).1.temp fun _ _ h => (judgedAlike_losJudge ..).temp.trans h

/-- Each input is judged as it was before the pass. -/
theorem losJudged_rin {i : Nat} (hi : i < 8) : (losJudged r d).rin i =
    (d.rin i).judged r.ec (qualTime d) (refEna d i) (refLos r d i || (losForced d && i == d.ref.sel)) := by
  obtain ⟨hstart, href⟩ := losJudged_start r d
  obtain ⟨e, he, hx, h⟩ := rin_foldl (F := losJudge r (losForced d) d.ref.sel) (I := JudgedAlike d) (fun e j he => he.trans (judgedAlike_losJudge ..))
    (fun e j k hk => (losJudge_rin ..).trans (if_neg hk)) hstart hi
  have hx : e.rin i = d.rin i := hx.trans (rin_of_ref href i)
  refine h.trans ((losJudge_rin ..).trans ((if_pos rfl).trans ?_))
  rw [hx, he.settings.qualTime, he.settings.refEna, he.refLos hx]

theorem refLosStep_rin {i : Nat} (hi : i < 8) :
    let e := edged synce d
    (refLosStep r synce d).rin i =
      ((e.rin i).judged r.ec (qualTime e) (refEna e i) (refLos r e i || (losForced e && i == e.ref.sel))).reopened := by
  have hfault : ∀ e : Dev, (if e.flt.tempValid then e else refFault r 1 e).rin i = e.rin i := fun e => by
    split
    · rfl
    · exact rin_of_inp (congrArg Prod.fst (judged_refFault r e 1) :) i
  rw [refLosStep_eq]
  exact (hfault _).trans ((reopened_rin ..).trans (congrArg RefIn.reopened (losJudged_rin r _ hi)))

theorem refLosStep_fault (h : d.flt.tempValid = false) : (refLosStep r synce d).ref.st = 7 := by
  have ht : (reopened (losJudged r (edged synce d))).flt.tempValid = false := by
    refine (losJudged_tempValid ..).trans (Eq.trans ?_ h)
    exact congrArg FltSt.tempValid (Part.same_iff.mpr (of_edged (π := .flt) synce d (.of (by decide))))
  rw [refLosStep_eq]
  exact (congrArg (fun e : Dev => e.ref.st) (if_neg (Bool.eq_false_iff.mp ht))).trans (refFault_st ..).1

end

end Sys2Proof.Machine

/-! The check, the timers and the loss of signal as commands (R155 to R157, R168). -/

namespace Sys2Proof.Machine

section
variable {ec qual : Nat} {ena los : Bool} {x : RefIn}

theorem judged_returns (hena : ena = true) (hst : x.st = 0) (hlos : los = false) : x.judged ec qual ena los = x.moved ec 1 qual := by
  rw [RefIn.judged, if_pos (by simp [hena, hst, hlos])]

theorem judged_loses (hst : x.st ≠ 0) (h : los = true ∨ ena = false) : x.judged ec qual ena los = x.moved ec 0 0 := by
  rw [RefIn.judged, if_neg (by simp [hst]), if_pos ⟨hst, by simpa using h⟩]

theorem judged_present (hena : ena = true) (hst : x.st ≠ 0) (hlos : los = false) : x.judged ec qual ena los = x := by
  rw [RefIn.judged, if_neg (by simp [hst]), if_neg (by simp [hena, hlos])]

theorem judged_absent (hst : x.st = 0) (h : los = true ∨ ena = false) : x.judged ec qual ena los = x := by
  rw [RefIn.judged, if_neg (by rcases h with h | h <;> simp [h]), if_neg fun h' => h'.1 hst]

end

/-- An input judged once the pads' edges have come, the pages' reports aside. -/
theorem refLosStep_judges (r : Root) (synce : List SynceEdge) (d : Dev) (pg : SMap PageSt) (ln : SMap LineSt) {i : Nat} (hi : i < 8) : ∃ los : Bool,
    (los = true ↔ refLos r (edged synce d) i = true ∨ d.ref.sel = i ∧ injects .ref 1 d = true) ∧
    (refLosStep r synce (d.paged pg ln)).rin i = (((edged synce d).rin i).judged r.ec (qualTime d) (refEna d i) los).reopened := by
  have hregs : Part.regs.of (edged synce d) = Part.regs.of d := of_edged synce d (.of (by decide))
  have hset : SettingsKept d (edged synce d) := fun o _ => reg_of hregs ..
  have hinj : injects .ref 1 (edged synce d) = injects .ref 1 d := by simp only [injects, Dev.armed, Dev.rb, Dev.rf, reg_of hregs]
  have hsel : (edged synce d).ref.sel = d.ref.sel := (edgesOnly_edged synce d).sel
  refine ⟨refLos r (edged synce d) i || (losForced (edged synce d) && i == (edged synce d).ref.sel), ?_, ?_⟩
  · simp only [losForced, hinj, hsel, Bool.or_eq_true, Bool.and_eq_true, decide_eq_true_eq, beq_iff_eq]
    refine or_congr_right ⟨fun ⟨⟨_, h⟩, hs⟩ => ⟨hs.symm, h⟩, fun ⟨hs, h⟩ => ⟨⟨hs ▸ hi, h⟩, hs.symm⟩⟩
  · have h := refLosStep_rin r synce (d.paged pg ln) hi
    rw [edged_paged] at h
    rw [← hset.qualTime, ← hset.refEna]
    exact h

theorem hasMoved_of {x y : RefIn} {ec n timer : Nat} (h : y = x.moved ec n timer) : HasMoved x y n timer := h ▸ hasMoved ..

theorem hasMoved_reopened {x y : RefIn} (hc : y.changes = x.changes) (ec n timer : Nat) : HasMoved x (y.moved ec n timer).reopened n timer :=
  ⟨rfl, rfl, rfl, congrArg (satInc · 255) hc⟩

/-- A command whose block first uses words of its page: its effect on a device that differs in the pages' reports alone. -/
theorem completes_paged {c : Instr} {s : State} {b : Blk} {ws : List Nat} {f : Root → Dev → Dev} {P : State → Prop} (hon : s.root.coreOn = true)
    (hi : exec c s = onDev (fun r d => f r (pageUse r b ws d)) s) (h : ∀ pg ln, P { s with dev := f s.root (s.dev.paged pg ln) }) : Completes c s P :=
  completes_onPage hon hi h

section
variable (r : Root) (d : Dev) (pg : SMap PageSt) (ln : SMap LineSt)

theorem ref_paged : (d.paged pg ln).ref = d.ref := rfl
theorem rin_paged : (d.paged pg ln).rin = d.rin := rfl
theorem rf_paged : (d.paged pg ln).rf = d.rf := rfl
theorem srvn_paged : (d.paged pg ln).srvn = d.srvn := rfl
theorem refMode_paged : refMode (d.paged pg ln) = refMode d := rfl
theorem tempNow_paged : tempNow (d.paged pg ln) = tempNow d := rfl
theorem tblAt_paged : tblAt (d.paged pg ln) = tblAt d := rfl
theorem refMeasure_paged : refMeasure r (d.paged pg ln) = refMeasure r d := rfl

/-- The judgement reads no page's report. The definition is unfolded as a function and not at its arguments: compared there, the kernel would evaluate
the test against a second of EC units, one unit at a time. -/
theorem refJudge_paged (i : Nat) : refJudge r (d.paged pg ln) i = refJudge r d i := by
  have h : @refJudge = @refJudge := rfl
  conv at h => rhs; delta refJudge
  rw [h]
  beta_reduce
  rw [ref_paged, rin_paged, rf_paged, srvn_paged, refMode_paged, tempNow_paged, tblAt_paged, refMeasure_paged]

end

/-- Settles O34: each command by what it makes of the input, its uses of the page reported. -/
theorem refInputs : Obligations.RefInputs := by
  intro s i hon
  have hi := i.isLt
  refine ⟨?_, fun hst h0 => ?_, fun hst hq => ?_, fun hst h0 => ?_, fun synce => ?_⟩
  · refine completes_paged hon (show _ = execRefCheck s from rfl) fun pg ln => ?_
    obtain ⟨hsec, hfrom, hhist, hvalid⟩ := refCheck_selector s.root (s.dev.paged pg ln)
    refine ⟨devOnly_dev .., hsec, hfrom, hhist, hvalid, ?_, ?_, ?_⟩
    · exact fun hena => refCheck_disabled s.root (s.dev.paged pg ln) hi hena
    · intro hena hinj
      obtain ⟨fails, hfails, hfail, -⟩ := refCheck_enabled s.root (s.dev.paged pg ln) hi hena
      exact hfail.trans_ne ((hfails i hi hena).2 hinj.1 hinj.2)
    · intro hena hinj
      obtain ⟨fails, hfails, h⟩ := refCheck_enabled s.root (s.dev.paged pg ln) hi hena
      rw [(hfails i hi hena).1 hinj, refJudge_paged] at h
      exact h
  · refine completes_paged hon (show _ = execQualTimeExpiry i s from rfl) fun pg ln => ?_
    have h := qualExpiry_rin (r := s.root) (d := s.dev.paged pg ln) hst h0
    refine ⟨devOnly_dev .., fun hl => ?_, fun hl => ?_, fun j _ hj => (h j).trans (if_neg hj)⟩
    · exact hasMoved_of ((h i).trans ((if_pos rfl).trans (if_neg (Bool.eq_false_iff.mp hl))))
    · exact hasMoved_of ((h i).trans ((if_pos rfl).trans (if_pos hl)))
  · refine completes_paged hon (show _ = execQualTimeExpiry i s from rfl) fun pg ln => ?_
    have h := qualExpiry_failed (r := s.root) (d := s.dev.paged pg ln) hst hq
    have hx := (h i).trans (if_pos rfl)
    refine ⟨devOnly_dev .., hasMoved_of hx, ?_, fun j _ hj => (h j).trans (if_neg hj)⟩
    refine (congrArg RefIn.lost hx).trans ?_
    simp [RefIn.moved, rin_paged, hst]
  · refine completes_paged hon (show _ = execWtrExpiry i s from rfl) fun pg ln => ?_
    have h := wtrExpiry_rin (r := s.root) (d := s.dev.paged pg ln) hst h0
    exact ⟨devOnly_dev .., hasMoved_of ((h i).trans (if_pos rfl)), fun j _ hj => (h j).trans (if_neg hj)⟩
  · refine completes_paged hon (show _ = execRefLosDetect synce s from rfl) fun pg ln => ?_
    obtain ⟨los, hlos, h⟩ := refLosStep_judges s.root synce s.dev pg ln hi
    obtain ⟨hst, hchanges⟩ := (edgesOnly_edged synce s.dev).st_changes i
    have moved : ∀ {n timer : Nat}, ((edged synce s.dev).rin i).judged s.root.ec (qualTime s.dev) (refEna s.dev i) los =
        ((edged synce s.dev).rin i).moved s.root.ec n timer → HasMoved (s.dev.rin i) ((refLosStep s.root synce (s.dev.paged pg ln)).rin i) n timer := by
      intro n timer hm
      rw [h, hm]
      exact hasMoved_reopened hchanges ..
    have kept : ((edged synce s.dev).rin i).judged s.root.ec (qualTime s.dev) (refEna s.dev i) los = (edged synce s.dev).rin i →
        (refLosStep s.root synce (s.dev.paged pg ln)).rin i = ((edged synce s.dev).rin i).reopened := fun hk => by rw [h, hk]
    refine ⟨devOnly_dev .., (edgesOnly_edged synce s.dev).others i, fun ht => refLosStep_fault s.root synce (s.dev.paged pg ln) ht, fun hena h0 hno => ?_,
      fun h0 hl => ?_, fun hena h0 hno => ?_, fun h0 hl => ?_⟩
    · exact moved (judged_returns hena (hst.trans h0) (Bool.eq_false_iff.mpr fun hl => hno (hlos.mp hl)))
    · exact moved (judged_loses (fun h' => h0 (hst.symm.trans h')) (hl.imp_left hlos.mpr))
    · exact kept (judged_present hena (fun h' => h0 (hst.symm.trans h')) (Bool.eq_false_iff.mpr fun hl => hno (hlos.mp hl)))
    · exact kept (judged_absent (hst.trans h0) (hl.imp_left hlos.mpr))

end Sys2Proof.Machine

/-! PROOFS of the family 08_media_clock_synthesizers: first a synthesizer read after each of the operations that its commands share (R180 to R189, R196). -/

namespace Sys2Proof.Machine

/-! ### Synthesizers after an update

`mcsn_f` says what `f` makes of all eight synthesizers, as an update of the function that reads them. -/

open Function (update)

theorem mcsn_setMcs (d : Dev) (n : Nat) (x : Mcs) : (d.setMcs n x).mcsn = update d.mcsn n x := by
  funext m
  rw [Function.update_apply]
  exact sget_sset ..

theorem mcsn_of {a b : Dev} (h : Part.mcs.of a = Part.mcs.of b) : a.mcsn = b.mcsn := by
  have h : a.mcs = b.mcs := Part.same_iff.mpr h
  funext m
  simp only [Dev.mcsn, h]

theorem eff_of {a b : Dev} (h : Part.eff.of a = Part.eff.of b) : a.eff = b.eff := Part.same_iff.mpr h

theorem regs_of {a b : Dev} (h : Part.regs.of a = Part.regs.of b) : a.regs = b.regs := Part.same_iff.mpr h

theorem posted_of {a b : Dev} (h : Part.posted.of a = Part.posted.of b) : a.posted = b.posted := Part.same_iff.mpr h

theorem pwv_of_eff {a b : Dev} (h : a.eff = b.eff) (p : Blk) (o : Nat) : a.pwv p o = b.pwv p o := by simp only [Dev.pwv, h]

theorem pf_of_eff {a b : Dev} (h : a.eff = b.eff) (p : Blk) (o hi lo : Nat) : a.pf p o hi lo = b.pf p o hi lo := by simp only [Dev.pf, Dev.pwv, h]

theorem mcsOuts_of_eff {a b : Dev} (h : a.eff = b.eff) (n : Nat) : mcsOuts a n = mcsOuts b n := by simp only [mcsOuts, pf_of_eff h]

section
variable (r : Root) (n : Nat) (d : Dev)

theorem mcsn_raiseIf (c : Bool) (k : Nat) : (raiseIf c r k d).mcsn = d.mcsn := mcsn_of (of_raiseIf (.of (by decide)) ..)

theorem mcsn_mcsEvt (k : Nat) : (mcsEvt r n k d).mcsn = d.mcsn := mcsn_of (of_mcsEvt (.of (by decide)) ..)

theorem mcsn_mcsRefuse (why : Nat) : (mcsRefuse r n why d).mcsn = update d.mcsn n { d.mcsn n with refuse := why } := by
  rw [mcsRefuse, mcsn_mcsEvt, mcsn_setMcs]

/-- The discipline state follows the ramp (R196). -/
def Mcs.settled (x : Mcs) : Mcs :=
  if (x.disc = 1 ∨ x.disc = 2) ∧ x.rampSt ≠ 0 then { x with disc := 3, inRun := 0 }
  else if x.disc = 3 ∧ x.rampSt = 0 then { x with disc := 1, inRun := 0 }
  else x

theorem Mcs.settled_eq (x : Mcs) : x.settled = { x with disc := x.settled.disc, inRun := x.settled.inRun } := by
  unfold Mcs.settled
  split
  · rfl
  · split <;> rfl

theorem mcsn_discSettle : (discSettle n d).mcsn = update d.mcsn n (d.mcsn n).settled := by
  unfold discSettle Mcs.settled
  dsimp only
  split
  · exact mcsn_setMcs ..
  · split
    · exact mcsn_setMcs ..
    · rw [Function.update_eq_self]

/-- A ramp that runs stops with its offset kept (R189). -/
def Mcs.rampHeld (x : Mcs) : Mcs := if x.rampSt = 1 then { x with rampSt := 2 }.settled else x

theorem Mcs.rampHeld_eq (x : Mcs) :
    x.rampHeld = { x with rampSt := if x.rampSt = 1 then 2 else x.rampSt, disc := x.rampHeld.disc, inRun := x.rampHeld.inRun } := by
  unfold Mcs.rampHeld
  split
  · exact Mcs.settled_eq _
  · rfl

theorem mcsn_rampStop : (rampStop r n d).mcsn = update d.mcsn n (d.mcsn n).rampHeld := by
  unfold rampStop Mcs.rampHeld
  dsimp only
  split
  · rw [mcsn_discSettle, mcsn_mcsEvt, mcsn_setMcs, Function.update_self, Function.update_idem]
  · rw [Function.update_eq_self]

/-- Outputs `on` go to bypass, those that were not there counted (R182). -/
def Mcs.bypassing (on : Nat) (x : Mcs) : Mcs :=
  { x with bypass := on, bypasses := min 0xFFFF (x.bypasses + ((List.range 4).filter fun k => nbit on k && !nbit x.bypass k).length) }

theorem mcsn_bypassAll : (bypassAll r n d).mcsn = update d.mcsn n ((d.mcsn n).bypassing (mcsOuts d n)) := by
  unfold bypassAll
  rw [mcsn_raiseIf, mcsn_setMcs]
  rfl

theorem mcsn_bypassNone : (bypassNone r n d).mcsn = update d.mcsn n { d.mcsn n with bypass := 0 } := by
  rw [bypassNone, mcsn_raiseIf, mcsn_setMcs]

/-- The outputs of a synthesizer that is LOCKED leave bypass where BYP_MANUAL is 0 (R182). -/
def Mcs.returned (manual : Nat) (x : Mcs) : Mcs := if x.st = 3 ∧ manual = 0 then { x with bypass := 0 } else x

theorem mcsn_mcsReturnAuto : (mcsReturnAuto r n d).mcsn = update d.mcsn n ((d.mcsn n).returned (d.pf (.mcs n) 0x040 8 8)) := by
  unfold mcsReturnAuto Mcs.returned
  split
  · exact mcsn_bypassNone ..
  · rw [Function.update_eq_self]

/-- The exit from LOCKED to ACQUIRING with outputs `on` enabled (R180, R182, R189). -/
def Mcs.unlocked (on : Nat) (x : Mcs) : Mcs :=
  if x.st = 3 then ({ x with st := 2, unlocks := satInc x.unlocks 0xFFFF, inWin := 0, outWin := 0 }.rampHeld).bypassing on else x

theorem mcsn_mcsUnlock : (mcsUnlock r n d).mcsn = update d.mcsn n ((d.mcsn n).unlocked (mcsOuts d n)) := by
  unfold mcsUnlock Mcs.unlocked
  dsimp only
  split
  · have hon : ∀ x, mcsOuts (rampStop r n (mcsEvt r n 0 (d.setMcs n x))) n = mcsOuts d n := fun x => mcsOuts_of_eff
      (eff_of ((of_rampStop (.of (by decide)) ..).trans ((of_mcsEvt (.of (by decide)) ..).trans (of_setMcs (.of (by decide)) ..)))) n
    rw [mcsn_bypassAll, hon, mcsn_rampStop, mcsn_mcsEvt, mcsn_setMcs, Function.update_self, Function.update_idem, Function.update_self,
      Function.update_idem]
  · rw [Function.update_eq_self]

end

theorem Mcs.unlocked_other {x : Mcs} (h : x.st ≠ 3) (on : Nat) : x.unlocked on = x := if_neg h

/-- What an exit from LOCKED leaves. -/
theorem Mcs.unlocked_eq (on : Nat) {x : Mcs} (h : x.st = 3) : ∃ disc inRun bypasses, x.unlocked on =
    { x with st := 2, inWin := 0, outWin := 0, unlocks := satInc x.unlocks 0xFFFF, rampSt := if x.rampSt = 1 then 2 else x.rampSt, bypass := on,
             bypasses := bypasses, disc := disc, inRun := inRun } := by
  rw [Mcs.unlocked, if_pos h, Mcs.rampHeld_eq]
  exact ⟨_, _, _, rfl⟩

theorem Mcs.unlocked_st (on : Nat) (x : Mcs) : (x.unlocked on).st ≠ 3 := by
  by_cases h : x.st = 3
  · obtain ⟨_, _, _, he⟩ := Mcs.unlocked_eq on h
    simp [he]
  · rwa [Mcs.unlocked_other h]

theorem Mcs.unlocked_refLoss (on : Nat) (x : Mcs) : (x.unlocked on).refLoss = x.refLoss := by
  by_cases h : x.st = 3
  · obtain ⟨_, _, _, he⟩ := Mcs.unlocked_eq on h
    rw [he]
  · rw [Mcs.unlocked_other h]

end Sys2Proof.Machine

/-! Synthesizers: lock and unlock by runs of phase errors, and losses of the reference (R180 to R182). -/

namespace Sys2Proof.Machine

open Function (update)

/-! ### Commands that act on one synthesizer -/

/-- The command changes the device alone, keeps the PW registers, and makes `y` of synthesizer `n` and nothing of the others. -/
def McsMoves (n : Nat) (s t : State) (y : Mcs) : Prop := DevOnly s t ∧ t.dev.mcsn = update s.dev.mcsn n y ∧ t.dev.eff = s.dev.eff

theorem McsMoves.frame {n : Nat} {s t : State} {y : Mcs} (h : McsMoves n s t y) :
    DevOnly s t ∧ (∀ m, m ≠ n → t.dev.mcsn m = s.dev.mcsn m) ∧ t.dev.eff = s.dev.eff := by
  obtain ⟨hdev, hmcs, heff⟩ := h
  refine ⟨hdev, fun m hm => ?_, heff⟩
  rw [hmcs, Function.update_of_ne hm]

theorem McsMoves.self {n : Nat} {s t : State} {y : Mcs} (h : McsMoves n s t y) : t.dev.mcsn n = y := by
  obtain ⟨-, hmcs, -⟩ := h
  rw [hmcs, Function.update_self]

theorem mcsMoves_same (n : Nat) (s : State) (d : Dev) (hmcs : d.mcsn = s.dev.mcsn) (heff : d.eff = s.dev.eff) :
    McsMoves n s { s with dev := d } (s.dev.mcsn n) := ⟨devOnly_dev .., hmcs.trans (Function.update_eq_self ..).symm, heff⟩

/-- A command that first uses registers of a page, while the core runs: its operation acts on the device with what that use reports. -/
theorem completes_mcsUse {i : Instr} {s : State} {f : Root → Dev → Dev} {b : Blk} {os : List Nat} {P : State → Prop} (hon : s.root.coreOn = true)
    (hi : exec i s = onDev (fun r d => f r (pageUse r b os d)) s) (h : ∀ pg ln, P { s with dev := f s.root { s.dev with page := pg, lines := ln } }) :
    Completes i s P := by
  refine completes_onDev hon hi ?_
  rw [pageUse_eq]
  exact h _ _

/-! ### Phase errors (R180, R181) -/

/-- LOCK_CNT; 0 acts as 1. -/
def lockCnt (d : Dev) (n : Nat) : Nat := max 1 (d.pf (.mcs n) 0x058 31 16)

/-- UNLOCK_CNT; 0 acts as 1. -/
def unlockCnt (d : Dev) (n : Nat) : Nat := max 1 (d.pf (.mcs n) 0x058 15 12)

/-- The cycles counted neither lock nor unlock. -/
def Mcs.quiet (d : Dev) (n : Nat) (x : Mcs) : Prop := x.inWin < lockCnt d n ∧ x.outWin < unlockCnt d n

theorem Mcs.judge_eq (win : Nat) (x : Mcs) (p : PhaseRun) : ∃ a b, x.judge win p = { x with inWin := a, outWin := b } := by
  unfold Mcs.judge
  split
  · exact ⟨_, _, rfl⟩
  · split <;> exact ⟨_, _, rfl⟩

/-- Cycles judged move the two counts alone. -/
theorem Mcs.foldl_judge_eq (win : Nat) (x : Mcs) (l : List PhaseRun) : ∃ a b, l.foldl (Mcs.judge win) x = { x with inWin := a, outWin := b } :=
  foldl_inv (fun y => ∃ a b, y = { x with inWin := a, outWin := b }) _ l x ⟨_, _, rfl⟩ fun y p ⟨a, b, hy⟩ => by
    obtain ⟨a', b', h⟩ := y.judge_eq win p
    exact ⟨a', b', by rw [h, hy]⟩

section
variable {r : Root} {n : Nat} {d : Dev} {p : PhaseRun}

theorem phaseRun_eq {z : Mcs} (hz : (d.mcsn n).judge (lockWin d n) p = z) : phaseRun r n d p =
    if z.st = 2 ∧ z.noRef r = false ∧ lockCnt d n ≤ z.inWin then mcsReturnAuto r n (mcsEvt r n 0 ((d.setMcs n z).setMcs n { z with st := 3 }))
    else if unlockCnt d n ≤ z.outWin then mcsUnlock r n (d.setMcs n z)
    else d.setMcs n z := by
  subst hz
  rfl

theorem phaseRun_locks {z : Mcs} (hz : (d.mcsn n).judge (lockWin d n) p = z) (hst : z.st = 2) (href : z.noRef r = false) (hin : lockCnt d n ≤ z.inWin) :
    (phaseRun r n d p).mcsn = update d.mcsn n (Mcs.returned (d.pf (.mcs n) 0x040 8 8) { z with st := 3 }) := by
  rw [phaseRun_eq hz, if_pos ⟨hst, href, hin⟩, mcsn_mcsReturnAuto, pf_of_eff (eff_of (of_mcsEvt (.of (by decide)) ..)), mcsn_mcsEvt, mcsn_setMcs,
    mcsn_setMcs, Function.update_self, Function.update_idem, Function.update_idem]
  rfl

theorem phaseRun_unlocks {z : Mcs} (hz : (d.mcsn n).judge (lockWin d n) p = z) (hst : z.st = 3) (hout : unlockCnt d n ≤ z.outWin) :
    (phaseRun r n d p).mcsn = update d.mcsn n (z.unlocked (mcsOuts d n)) := by
  rw [phaseRun_eq hz, if_neg (fun h => by omega), if_pos hout, mcsn_mcsUnlock, mcsn_setMcs, Function.update_self, Function.update_idem]
  rfl

theorem phaseRun_stays {z : Mcs} (hz : (d.mcsn n).judge (lockWin d n) p = z) (hin : ¬(z.st = 2 ∧ z.noRef r = false ∧ lockCnt d n ≤ z.inWin))
    (hout : z.outWin < unlockCnt d n) : (phaseRun r n d p).mcsn = update d.mcsn n z := by
  rw [phaseRun_eq hz, if_neg hin, if_neg (Nat.not_le.mpr hout), mcsn_setMcs]

theorem foldl_phaseRun_eff (err : List PhaseRun) : (err.foldl (phaseRun r n) d).eff = d.eff :=
  eff_of (Part.of_foldl (fun _ _ => of_phaseRun (.of (by decide)) ..) err d)

/-- Runs whose every prefix is quiet are counted, and nothing else. -/
theorem foldl_phaseRun_quiet (err : List PhaseRun)
    (h : ∀ k, 1 ≤ k → k ≤ err.length → ((err.take k).foldl (Mcs.judge (lockWin d n)) (d.mcsn n)).quiet d n) :
    (err.foldl (phaseRun r n) d).mcsn = update d.mcsn n (err.foldl (Mcs.judge (lockWin d n)) (d.mcsn n)) := by
  induction err using List.reverseRecOn with
  | nil => exact (Function.update_eq_self ..).symm
  | append_singleton err p ih =>
    have hlast := h (err ++ [p]).length (by simp) le_rfl
    rw [List.take_length] at hlast
    have hbefore := ih fun k h1 hk => by
      have := h k h1 (by simp; omega)
      rwa [List.take_append_of_le_length hk] at this
    rw [List.foldl_append, List.foldl_append] at *
    have heff := foldl_phaseRun_eff (r := r) (n := n) (d := d) err
    have hwin : lockWin (err.foldl (phaseRun r n) d) n = lockWin d n := by simp only [lockWin, pf_of_eff heff]
    have hlock : lockCnt (err.foldl (phaseRun r n) d) n = lockCnt d n := by simp only [lockCnt, pf_of_eff heff]
    have hunlock : unlockCnt (err.foldl (phaseRun r n) d) n = unlockCnt d n := by simp only [unlockCnt, pf_of_eff heff]
    obtain ⟨hin, hout⟩ := hlast
    refine (phaseRun_stays (z := (err.foldl (Mcs.judge (lockWin d n)) (d.mcsn n)).judge (lockWin d n) p) ?_ ?_ ?_).trans ?_
    · rw [hbefore, Function.update_self, hwin]
    · rw [hlock]
      exact fun hc => absurd hc.2.2 (Nat.not_le.mpr hin)
    · rwa [hunlock]
    · rw [hbefore, Function.update_idem]
      rfl

end

/-- After the runs of `err`, none of whose prefixes locks or unlocks, `p` is judged on a device that keeps the settings. -/
theorem judged_last {r : Root} {d : Dev} {n : Nat} {err : List PhaseRun} {p : PhaseRun}
    (h : ∀ k, 1 ≤ k → k ≤ err.length → ((err.take k).foldl (Mcs.judge (lockWin d n)) (d.mcsn n)).quiet d n) :
    ∃ e : Dev, (err ++ [p]).foldl (phaseRun r n) d = phaseRun r n e p ∧ e.eff = d.eff ∧ (∀ y, update e.mcsn n y = update d.mcsn n y) ∧
      (e.mcsn n).judge (lockWin e n) p = (err ++ [p]).foldl (Mcs.judge (lockWin d n)) (d.mcsn n) := by
  have heff := foldl_phaseRun_eff (r := r) (n := n) (d := d) err
  have hm := foldl_phaseRun_quiet (r := r) err h
  refine ⟨err.foldl (phaseRun r n) d, by rw [List.foldl_append]; rfl, heff, fun y => by rw [hm, Function.update_idem], ?_⟩
  rw [hm, Function.update_self, List.foldl_append]
  simp only [lockWin, pf_of_eff heff]
  rfl

/-! ### MCS_LOCK_ACQUIRED and MCS_LOCK_LOST -/

/-- The exit from LOCKED, with outputs `on` enabled. -/
def Mcs.Dropped (on : Nat) (x y : Mcs) : Prop :=
  y.st = 2 ∧ y.inWin = 0 ∧ y.outWin = 0 ∧ y.unlocks = satInc x.unlocks 0xFFFF ∧ y.bypass = on ∧ y.r = x.r ∧ y.rampSt = if x.rampSt = 1 then 2 else x.rampSt

theorem Mcs.dropped_unlocked (on : Nat) {x : Mcs} (h : x.st = 3) : x.Dropped on (x.unlocked on) := by
  obtain ⟨_, _, _, he⟩ := Mcs.unlocked_eq on h
  rw [he]
  exact ⟨rfl, rfl, rfl, rfl, rfl, rfl, rfl⟩

/-- The command carries the runs of `err`. -/
def CarriesRuns (c : Instr) (n : Fin 8) (err : List PhaseRun) : Prop := c = .mcsLockAcquired ⟨n, err⟩ ∨ c = .mcsLockLost ⟨n, err⟩

theorem CarriesRuns.exec {c : Instr} {n : Fin 8} {err : List PhaseRun} (h : CarriesRuns c n err) (s : State) :
    exec c s = onDev (fun r d => lockAcquired r n err (pageUse r (.mcs n) [0x040, 0x058] d)) s := by
  rcases h with rfl | rfl <;> rfl

section
variable {s : State} {n : Fin 8} {err : List PhaseRun} {p : PhaseRun} {c : Instr} (hon : s.root.coreOn = true)
include hon

theorem noRuns_completes (hc : CarriesRuns c n []) : Completes c s fun t => McsMoves n s t (s.dev.mcsn n) :=
  completes_mcsUse (f := fun r => lockAcquired r n []) hon (hc.exec s) fun _ _ => mcsMoves_same _ _ _ rfl rfl

/-- What the last run makes of the synthesizer, when no run before it has locked or unlocked. -/
theorem lastRun_completes {y : Mcs} (hc : CarriesRuns c n (err ++ [p]))
    (hquiet : ∀ k, 1 ≤ k → k ≤ err.length → ((err.take k).foldl (Mcs.judge (lockWin s.dev n)) (s.dev.mcsn n)).quiet s.dev n)
    (h : ∀ e : Dev, e.eff = s.dev.eff → (e.mcsn n).judge (lockWin e n) p = (err ++ [p]).foldl (Mcs.judge (lockWin s.dev n)) (s.dev.mcsn n) →
      (phaseRun s.root n e p).mcsn = update e.mcsn n y) : Completes c s fun t => McsMoves n s t y := by
  refine completes_mcsUse (f := fun r => lockAcquired r n (err ++ [p])) hon (hc.exec s) fun pg ln => ?_
  obtain ⟨e, hfold, heff, hmcs, hz⟩ := judged_last (r := s.root) (d := { s.dev with page := pg, lines := ln }) (p := p) hquiet
  refine ⟨devOnly_dev .., ?_, foldl_phaseRun_eff _⟩
  dsimp only
  rw [lockAcquired, hfold, h e heff hz]
  exact hmcs y

theorem lockRuns_complete (hc : CarriesRuns c n (err ++ [p]))
    (hquiet : ∀ k, 1 ≤ k → k ≤ err.length → ((err.take k).foldl (Mcs.judge (lockWin s.dev n)) (s.dev.mcsn n)).quiet s.dev n) :
    let x := s.dev.mcsn n
    let z := (err ++ [p]).foldl (Mcs.judge (lockWin s.dev n)) x
    (x.st = 2 → x.noRef s.root = false → lockCnt s.dev n ≤ z.inWin → Completes c s fun t =>
      McsMoves n s t { z with st := 3, bypass := if s.dev.pf (.mcs n) 0x040 8 8 = 0 then 0 else x.bypass }) ∧
    ((x.st ≠ 2 ∨ x.noRef s.root = true) → z.outWin < unlockCnt s.dev n → Completes c s fun t => McsMoves n s t z) ∧
    (z.inWin < lockCnt s.dev n → z.outWin < unlockCnt s.dev n → Completes c s fun t => McsMoves n s t z) ∧
    (x.st = 3 → unlockCnt s.dev n ≤ z.outWin → Completes c s fun t => McsMoves n s t (z.unlocked (mcsOuts s.dev n))) := by
  intro x z
  obtain ⟨a, b, hxz⟩ : ∃ a b, z = { x with inWin := a, outWin := b } := Mcs.foldl_judge_eq ..
  have hst : z.st = x.st := by rw [hxz]
  have href : z.noRef s.root = x.noRef s.root := by rw [hxz]; rfl
  have hbypass : z.bypass = x.bypass := by rw [hxz]
  have hlock : ∀ e : Dev, e.eff = s.dev.eff → lockCnt e n = lockCnt s.dev n := fun e he => by simp only [lockCnt, pf_of_eff he]
  have hunlock : ∀ e : Dev, e.eff = s.dev.eff → unlockCnt e n = unlockCnt s.dev n := fun e he => by simp only [unlockCnt, pf_of_eff he]
  refine ⟨fun h2 hr hin => lastRun_completes hon hc hquiet fun e he hz => ?_, fun h hout => lastRun_completes hon hc hquiet fun e he hz => ?_,
    fun hin hout => lastRun_completes hon hc hquiet fun e he hz => ?_, fun h3 hout => lastRun_completes hon hc hquiet fun e he hz => ?_⟩
  · rw [phaseRun_locks hz (hst.trans h2) (href.trans hr) (by rwa [hlock e he]), pf_of_eff he, ← hbypass]
    unfold Mcs.returned
    by_cases hm : s.dev.pf (.mcs n) 0x040 8 8 = 0
    · rw [if_pos ⟨rfl, hm⟩, if_pos hm]
    · rw [if_neg (fun hc => hm hc.2), if_neg hm]
  · refine phaseRun_stays hz (fun hc => ?_) (by rwa [hunlock e he])
    obtain ⟨h2, hr, -⟩ := hc
    exact h.elim (fun hn => hn (hst.symm.trans h2)) fun ht => Bool.false_ne_true ((href.symm.trans hr).symm.trans ht)
  · refine phaseRun_stays hz (fun hc => ?_) (by rwa [hunlock e he])
    obtain ⟨-, -, hle⟩ := hc
    rw [hlock e he] at hle
    exact absurd hle (Nat.not_le.mpr hin)
  · rw [phaseRun_unlocks hz (hst.trans h3) (by rwa [hunlock e he]), mcsOuts_of_eff he]

/-! ### MCS_VCO_SETTLED, MCS_REF_LOSS -/

omit hon in
theorem mcsn_vcoSettled {d : Dev} {n : Nat} (h : (d.mcsn n).st = 1) :
    (vcoSettled n d).mcsn = update d.mcsn n { d.mcsn n with st := 2, inWin := 0, outWin := 0 } := by
  unfold vcoSettled
  dsimp only
  rw [if_pos h, mcsn_setMcs]

theorem vcoSettled_completes (h : (s.dev.mcsn n).st = 1) :
    Completes (.mcsVcoSettled n) s fun t => McsMoves n s t { s.dev.mcsn n with st := 2, inWin := 0, outWin := 0 } :=
  completes_onDev hon (show _ = execMcsVcoSettled n s from rfl)
    ⟨devOnly_dev .., mcsn_vcoSettled h, eff_of (of_vcoSettled (.of (by decide)) ..)⟩

theorem refLost_completes :
    Completes (.mcsRefLoss n true) s fun t => McsMoves n s t (Mcs.unlocked (mcsOuts s.dev n) { s.dev.mcsn n with refLoss := true }) := by
  refine completes_mcsUse (f := fun r => mcsRef r n true) hon (show _ = execMcsRefLoss n true s from rfl) fun pg ln =>
    ⟨devOnly_dev .., ?_, eff_of (of_mcsRef (π := .eff) (.of (by decide)) ..)⟩
  show (mcsUnlock ..).mcsn = _
  rw [mcsn_mcsUnlock, mcsn_setMcs, Function.update_self, Function.update_idem]
  rfl

theorem refBack_completes : Completes (.mcsRefLoss n false) s fun t => McsMoves n s t { s.dev.mcsn n with refLoss := false } :=
  completes_mcsUse (f := fun r => mcsRef r n false) hon (show _ = execMcsRefLoss n false s from rfl) fun _ _ => ⟨devOnly_dev .., mcsn_setMcs .., rfl⟩

end

end Sys2Proof.Machine

/-! Synthesizers: starts from OFF, the end of a stop, and the segments of a ramp (R178 to R180, R187, R189). -/

namespace Sys2Proof.Machine

open Function (update)

/-! ### Starts (R178 to R180) -/

section
variable (r : Root) {n : Nat} {d : Dev}

theorem bandless_iff : ((List.range 64).all fun j => (bandOf d n j).isNone) = true ↔ ∀ j < 64, bandOf d n j = none := by
  simp only [List.all_eq_true, List.mem_range, Option.isNone_iff_eq_none]

theorem mcsStart_bandless (h : ∀ j < 64, bandOf d n j = none) :
    (mcsStart r n d).mcsn = update d.mcsn n { d.mcsn n with st := 5, refuse := 1 } := by
  unfold mcsStart
  dsimp only
  rw [if_pos (bandless_iff.mpr h), mcsn_mcsEvt, mcsn_setMcs]

theorem not_bandless (h : ∃ j < 64, bandOf d n j ≠ none) : ¬((List.range 64).all fun j => (bandOf d n j).isNone) = true := by
  obtain ⟨j, hj, hb⟩ := h
  exact fun hall => hb (bandless_iff.mp hall j hj)

theorem mcsStart_outside (h : ∃ j < 64, bandOf d n j ≠ none) (hf : mcsN d n / 2 ^ 48 < 70 ∨ 90 * 2 ^ 48 < mcsN d n) :
    (mcsStart r n d).mcsn = update d.mcsn n { d.mcsn n with st := 5, refuse := 3 } := by
  unfold mcsStart
  dsimp only
  rw [if_neg (not_bandless h), if_pos hf, mcsn_mcsEvt, mcsn_setMcs]

theorem mcsStart_unfit (h : ∃ j < 64, bandOf d n j ≠ none) (hf : ¬(mcsN d n / 2 ^ 48 < 70 ∨ 90 * 2 ^ 48 < mcsN d n))
    (hb : bandSelect d n (mcsN d n) = none) : (mcsStart r n d).mcsn = update d.mcsn n { d.mcsn n with st := 5, refuse := 2 } := by
  unfold mcsStart
  dsimp only
  rw [if_neg (not_bandless h), if_neg hf, hb]
  dsimp only
  rw [mcsn_mcsEvt, mcsn_setMcs]

theorem mcsStart_fits (h : ∃ j < 64, bandOf d n j ≠ none) (hf : ¬(mcsN d n / 2 ^ 48 < 70 ∨ 90 * 2 ^ 48 < mcsN d n)) {b : Nat × Nat × Nat}
    (hb : bandSelect d n (mcsN d n) = some b) :
    (mcsStart r n d).mcsn = update d.mcsn n { d.mcsn n with st := 1, refuse := 0, band := b.1, lim := b.2, sscFrom := d.free,
                                                            lfsr := max 1 (d.pwv (.mcs n) 0x050).toNat } := by
  have hdrew : d.drew.mcsn = d.mcsn := mcsn_of (of_drew (.of (by decide)) ..)
  unfold mcsStart
  dsimp only
  rw [if_neg (not_bandless h), if_neg hf, hb]
  dsimp only
  rw [mcsn_setMcs, hdrew]

/-- A start ends in STARTING or REFUSED, and sets beside these the refusal, the band, the spread's phase and the dither's seed. -/
theorem mcsn_mcsStart (n : Nat) (d : Dev) : ∃ st why band lim ssc seed, (st = 1 ∨ st = 5) ∧ (mcsStart r n d).mcsn =
    update d.mcsn n { d.mcsn n with st := st, refuse := why, band := band, lim := lim, sscFrom := ssc, lfsr := seed } := by
  by_cases h : ∀ j < 64, bandOf d n j = none
  · exact ⟨_, _, _, _, _, _, .inr rfl, mcsStart_bandless r h⟩
  · have h : ∃ j < 64, bandOf d n j ≠ none := by simpa using h
    by_cases hf : mcsN d n / 2 ^ 48 < 70 ∨ 90 * 2 ^ 48 < mcsN d n
    · exact ⟨_, _, _, _, _, _, .inr rfl, mcsStart_outside r h hf⟩
    · cases hb : bandSelect d n (mcsN d n) with
      | none => exact ⟨_, _, _, _, _, _, .inr rfl, mcsStart_unfit r h hf hb⟩
      | some b => exact ⟨_, _, _, _, _, _, .inl rfl, mcsStart_fits r h hf hb⟩

end

/-! ### MCS_STOP_COMPLETE (R180) -/

/-- What the end of a stop makes of synthesizer `x`: OFF, or a start where EN is 1 again. -/
def Mcs.Stopped (en : Bool) (x y : Mcs) : Prop :=
  y.bandLimit = false ∧ (en = false → y = { x with st := 0, bandLimit := false }) ∧ (en = true → y.st = 1 ∨ y.st = 5)

theorem mcsn_stopComplete (r : Root) {n : Nat} {d : Dev} (h : (d.mcsn n).st = 4) :
    ∃ y, (stopComplete r n d).mcsn = update d.mcsn n y ∧ (d.mcsn n).Stopped (mcsEn d n) y := by
  unfold stopComplete
  dsimp only
  rw [if_pos h]
  cases mcsEn d n with
  | false => exact ⟨_, mcsn_setMcs .., rfl, fun _ => rfl, nofun⟩
  | true =>
    obtain ⟨_, _, _, _, _, _, hst, hm⟩ := mcsn_mcsStart r n (d.setMcs n { d.mcsn n with st := 0, bandLimit := false })
    rw [mcsn_setMcs, Function.update_self, Function.update_idem] at hm
    rw [if_pos rfl, hm]
    exact ⟨_, rfl, rfl, nofun, fun _ => hst⟩

section
variable {s : State} {n : Fin 8} (hon : s.root.coreOn = true)
include hon

theorem stopComplete_completes (h : (s.dev.mcsn n).st = 4) :
    Completes (.mcsStopComplete n) s fun t => ∃ y, McsMoves n s t y ∧ (s.dev.mcsn n).Stopped (mcsEn s.dev n) y := by
  refine completes_mcsUse (f := fun r => stopComplete r n) hon (show _ = execMcsStopComplete n s from rfl) fun pg ln => ?_
  obtain ⟨y, hm, hy⟩ := mcsn_stopComplete s.root (d := { s.dev with page := pg, lines := ln }) h
  exact ⟨y, ⟨devOnly_dev .., hm, eff_of (of_stopComplete (π := .eff) (.of (by decide)) ..)⟩, hy⟩

/-! ### RAMP_SEGMENT_END (R187, R189) -/

omit hon in
/-- The synthesizer as the last segment of its profile ends, by END. -/
def Mcs.profileEnded (x : Mcs) : Mcs :=
  let fin := (x.prof.getD x.seg (0, 1)).1 * rUnits
  match x.endAct with
  | 1 => { x with r := 0, rampSt := 0 }
  | 2 => { x with r := fin, seg := 0, elapsed := 0, from' := fin }
  | _ => { x with r := fin, rampSt := 2 }

omit hon in
theorem segmentEnd_next {r : Root} {n : Nat} {d : Dev} (hrun : (d.mcsn n).rampSt = 1)
    (hend : ((d.mcsn n).prof.getD (d.mcsn n).seg (0, 1)).2 ≤ (d.mcsn n).elapsed) (hseg : (d.mcsn n).seg + 1 < (d.mcsn n).prof.length) :
    (segmentEnd r n d).mcsn =
      let x := d.mcsn n
      let fin := (x.prof.getD x.seg (0, 1)).1 * rUnits
      update d.mcsn n { x with r := fin, seg := x.seg + 1, elapsed := 0, from' := fin } := by
  unfold segmentEnd
  dsimp only
  rw [if_pos ⟨hrun, hend⟩, if_pos hseg, mcsn_setMcs]

omit hon in
theorem segmentEnd_last {r : Root} {n : Nat} {d : Dev} (hrun : (d.mcsn n).rampSt = 1)
    (hend : ((d.mcsn n).prof.getD (d.mcsn n).seg (0, 1)).2 ≤ (d.mcsn n).elapsed) (hseg : (d.mcsn n).prof.length ≤ (d.mcsn n).seg + 1) :
    (segmentEnd r n d).mcsn = update d.mcsn n (d.mcsn n).profileEnded.settled := by
  unfold segmentEnd
  dsimp only
  rw [if_pos ⟨hrun, hend⟩, if_neg (Nat.not_lt.mpr hseg), mcsn_discSettle, mcsn_mcsEvt, mcsn_setMcs, Function.update_self, Function.update_idem]
  rfl

theorem segmentEnd_idle (h : (s.dev.mcsn n).rampSt ≠ 1) : Completes (.rampSegmentEnd n) s fun t => McsMoves n s t (s.dev.mcsn n) := by
  refine completes_onDev hon (show _ = execRampSegmentEnd n s from rfl) ?_
  have hidle : segmentEnd s.root n s.dev = s.dev := if_neg fun hc => h hc.1
  rw [hidle]
  exact mcsMoves_same n s _ rfl rfl

theorem segmentEnd_completes (hrun : (s.dev.mcsn n).rampSt = 1)
    (hend : ((s.dev.mcsn n).prof.getD (s.dev.mcsn n).seg (0, 1)).2 ≤ (s.dev.mcsn n).elapsed) :
    Completes (.rampSegmentEnd n) s fun t => ∃ y, McsMoves n s t y ∧
      let x := s.dev.mcsn n
      let fin := (x.prof.getD x.seg (0, 1)).1 * rUnits
      (x.seg + 1 < x.prof.length → y = { x with r := fin, seg := x.seg + 1, elapsed := 0, from' := fin }) ∧
      (x.prof.length ≤ x.seg + 1 → y = x.profileEnded.settled) := by
  refine completes_onDev hon (show _ = execRampSegmentEnd n s from rfl) ?_
  have heff : (segmentEnd s.root n s.dev).eff = s.dev.eff := eff_of (of_segmentEnd (.of (by decide)) ..)
  by_cases hseg : (s.dev.mcsn n).seg + 1 < (s.dev.mcsn n).prof.length
  · exact ⟨_, ⟨devOnly_dev .., segmentEnd_next hrun hend hseg, heff⟩, fun _ => rfl, fun h => absurd h (by omega)⟩
  · exact ⟨_, ⟨devOnly_dev .., segmentEnd_last hrun hend (by omega), heff⟩, fun h => absurd h hseg, fun _ => rfl⟩

end

end Sys2Proof.Machine

/-! Synthesizers: where an output's delay stands (R191), and the injections of an update's microsecond (R359, R363). -/

namespace Sys2Proof.Machine

open Function (update)

/-! ### Delays (R191) -/

/-- The delay kept of output `k`: the steps it moves from, the EC since, and the part of an output period gone then. -/
def Mcs.delayOf (x : Mcs) (k : Nat) : Nat × Nat × Nat := sget (fun _ => (0, 0, 0)) x.delay k

theorem delayAt_part_lt (r : Root) (x : Mcs) (k goal div : Nat) : (delayAt r x k goal div).2 < 2 ^ 32 := Nat.mod_lt _ (by decide)

/-- A delay kept as of the present EC stands where it was kept, whatever it moves to. -/
theorem delayAt_present {r : Root} {x : Mcs} {k a b : Nat} (h : x.delayOf k = (a, r.ec, b)) (hb : b < 2 ^ 32) (goal div : Nat) :
    (delayAt r x k goal div).1 = a := by
  unfold Mcs.delayOf at h
  simp only [delayAt, h, Nat.sub_self, Nat.zero_mul, Nat.zero_div, Nat.add_zero, Nat.div_eq_of_lt hb, Nat.sub_zero]
  split
  · omega
  · omega

/-- A delay that has reached its goal stays there. -/
theorem delayAt_reached {r : Root} {x : Mcs} {k goal : Nat} (h : (x.delayOf k).1 = goal) (div : Nat) : (delayAt r x k goal div).1 = goal := by
  unfold Mcs.delayOf at h
  simp only [delayAt, h, le_refl, if_true]
  exact Nat.min_eq_left (Nat.le_add_right ..)

theorem delayOf_sput_self (x : Mcs) (k : Nat) (p : Nat × Nat × Nat) : { x with delay := sput k p x.delay }.delayOf k = p := sget_sput_self ..

/-- One step of `delaysStand`: output `k` goes on from where it stands, when it is under way. -/
def delayStands (r : Root) (d : Dev) (n : Nat) (m : SMap (Nat × Nat × Nat)) (k : Nat) : SMap (Nat × Nat × Nat) :=
  if (sget (fun _ => (0, 0, 0)) m k).1 = delayGoal d n k then m
  else
    let q := delayAt r (d.mcsn n) k (delayGoal d n k) (outDiv d n k)
    sput k (q.1, r.ec, q.2) m

theorem delayStands_other {r : Root} {d : Dev} {n k j : Nat} (h : j ≠ k) (m : SMap (Nat × Nat × Nat)) :
    sget (fun _ => (0, 0, 0)) (delayStands r d n m k) j = sget (fun _ => (0, 0, 0)) m j := by
  unfold delayStands
  split
  · rfl
  · exact sget_sput_other _ _ _ _ _ h

/-- A pass over distinct outputs steps each of them once. -/
theorem foldl_delayStands {r : Root} {d : Dev} {n k : Nat} (l : List Nat) (hl : l.Nodup) (hk : k ∈ l) (m : SMap (Nat × Nat × Nat)) :
    sget (fun _ => (0, 0, 0)) (l.foldl (delayStands r d n) m) k = sget (fun _ => (0, 0, 0)) (delayStands r d n m k) k := by
  have rest : ∀ (l : List Nat) (m : SMap (Nat × Nat × Nat)), k ∉ l →
      sget (fun _ => (0, 0, 0)) (l.foldl (delayStands r d n) m) k = sget (fun _ => (0, 0, 0)) m k := fun l m hl => by
    induction l generalizing m with
    | nil => rfl
    | cons j l ih =>
      obtain ⟨hj, hl⟩ := not_or.mp (List.mem_cons.not.mp hl)
      rw [List.foldl_cons, ih _ hl, delayStands_other hj]
  induction l generalizing m with
  | nil => cases hk
  | cons j l ih =>
    obtain ⟨hj, hl⟩ := List.nodup_cons.mp hl
    rw [List.foldl_cons]
    rcases List.mem_cons.mp hk with rfl | hkl
    · exact rest l _ hj
    · have hjk : k ≠ j := fun h => hj (h ▸ hkl)
      rw [ih hl hkl]
      unfold delayStands
      have hkeep : sget (fun _ => (0, 0, 0)) (delayStands r d n m j) k = sget (fun _ => (0, 0, 0)) m k := delayStands_other hjk m
      unfold delayStands at hkeep
      rw [hkeep]
      split
      · exact hkeep
      · rw [sget_sput_self, sget_sput_self]

/-- Delays that stand anew go on from where they stood, with whatever frequency and divider follow. -/
theorem delayAt_delaysStand {r : Root} {d : Dev} {n k : Nat} (hk : k < 4) {y : Mcs} (hy : y.delay = delaysStand r d n) (div : Nat) :
    (delayAt r y k (delayGoal d n k) div).1 = delayNow r d n k (delayGoal d n k) := by
  have hstand : y.delayOf k = sget (fun _ => (0, 0, 0)) (delayStands r d n (d.mcsn n).delay k) k := by
    unfold Mcs.delayOf
    rw [hy]
    exact foldl_delayStands (List.range 4) List.nodup_range (List.mem_range.mpr hk) _
  unfold delayStands at hstand
  split at hstand
  next hgoal => rw [delayAt_reached (hstand ▸ hgoal), delayNow, delayAt_reached hgoal]
  next => exact delayAt_present (hstand.trans (sget_sput_self ..)) (delayAt_part_lt ..) ..

/-- Where a delay stands goes by what the synthesizer keeps of it, its applied frequency and the output's divider. -/
theorem delayNow_congr {r : Root} {a b : Dev} {n k goal : Nat} (heff : a.eff = b.eff) (hdelay : (a.mcsn n).delay = (b.mcsn n).delay)
    (happ : (a.mcsn n).applied = (b.mcsn n).applied) : delayNow r a n k goal = delayNow r b n k goal := by
  simp only [delayNow, delayAt, outDiv, pf_of_eff heff, hdelay, happ]

theorem delayGoal_of_eff {a b : Dev} (h : a.eff = b.eff) (n k : Nat) : delayGoal a n k = delayGoal b n k := pf_of_eff h ..

/-! ### Injections (R359, R363) -/

section
variable {r : Root} {n : Nat} {d : Dev}

theorem mcsn_opportunity (b : Blk) (pt : Nat) : (opportunity r b pt d).mcsn = d.mcsn := mcsn_of (of_opportunity (.of (by decide)) ..)

theorem eff_opportunity (b : Blk) (pt : Nat) : (opportunity r b pt d).eff = d.eff := eff_of (of_opportunity (.of (by decide)) ..)

theorem injects_of_regs {a e : Dev} (h : a.regs = e.regs) (b : Blk) (pt : Nat) : injects b pt a = injects b pt e := by
  simp only [injects, Dev.armed, Dev.rb, Dev.rf, Dev.reg, h]

theorem rf_ite (c : Prop) [Decidable c] (x y : Dev) (b : Blk) (o hi lo : Nat) :
    (if c then x else y).rf b o hi lo = if c then x.rf b o hi lo else y.rf b o hi lo := apply_ite (fun e : Dev => e.rf b o hi lo) ..

/-- An opportunity leaves POINT as it is. -/
theorem opportunity_point (b : Blk) (pt : Nat) : (opportunity r b pt d).rf b 0x018 4 0 = d.rf b 0x018 4 0 := by
  have hcount : ∀ e : Dev, (e.setReg b 0x018 (wd ((e.injCount b - 1) * 2 ^ 16 + e.rf b 0x018 15 0))).rf b 0x018 4 0 = e.rf b 0x018 4 0 := fun e => by
    simp only [Dev.rf, reg_setReg_self, fld, wd, BitVec.toNat_ofNat]
    omega
  have hdisarm : ∀ e : Dev, (disarm b e).rf b 0x018 4 0 = e.rf b 0x018 4 0 := fun e =>
    congrArg (fld · 4 0) (reg_setReg_other e b 0x01C 0x018 _ (by decide))
  have hrecord : ∀ e : Dev, (recordInj r b pt e).rf b 0x018 4 0 = e.rf b 0x018 4 0 := fun e =>
    congrArg (fld · 4 0) (reg_of (of_recordInj (.of (by decide)) ..) ..)
  have huse : (pageUse r b [0x018, 0x01C] d).rf b 0x018 4 0 = d.rf b 0x018 4 0 := congrArg (fld · 4 0) (reg_of (of_pageUse (.of (by decide)) ..) ..)
  simp only [opportunity, rf_ite, hrecord, hdisarm, hcount, huse, ite_self]

/-- POINT names one point. -/
theorem injects_point {b : Blk} {pt : Nat} {d : Dev} (h : injects b pt d = true) : d.rf b 0x018 4 0 = pt := by
  simp only [injects, Bool.and_eq_true, beq_iff_eq] at h
  obtain ⟨⟨-, hpt⟩, -⟩ := h
  exact hpt

theorem not_injects_two {b : Blk} {p q : Nat} (hpq : p ≠ q) (h : injects b p d = true) : injects b q d = false :=
  Bool.eq_false_iff.mpr fun hq => hpq ((injects_point h).symm.trans (injects_point hq))

/-- An opportunity of one point leaves another as it was. -/
theorem injects_opportunity_other {b : Blk} {p q : Nat} (hpq : p ≠ q) : injects b q (opportunity r b p d) = injects b q d := by
  cases hp : injects b p d with
  | false => rw [opportunity_idle hp, injects_pageUse]
  | true =>
    have hq : injects b q (opportunity r b p d) = false := Bool.eq_false_iff.mpr fun hq =>
      hpq ((injects_point hp).symm.trans ((opportunity_point b p).symm.trans (injects_point hq)))
    rw [hq, not_injects_two hpq hp]

theorem injects_mcsUnlock (pt : Nat) : injects (.mcs n) pt (mcsUnlock r n d) = injects (.mcs n) pt d :=
  injects_of_regs (regs_of (of_mcsUnlock (.of (by decide)) ..)) ..

end

end Sys2Proof.Machine

/-! Synthesizers: MCS_FREQ_UPDATE, from the injections of its microsecond through the ramp to the frequency formed (R184, R185, R187, R191, R363). -/

namespace Sys2Proof.Machine

open Function (update)

/-! ### The MREF_CLK cycles of the microsecond (R181, R363) -/

theorem Mcs.unlocked_refInj (on e : Nat) (x : Mcs) : { x with refInj := e }.unlocked on = { x.unlocked on with refInj := e } := by
  unfold Mcs.unlocked Mcs.rampHeld Mcs.settled
  by_cases h3 : x.st = 3
  · simp only [h3, if_true]
    split
    · split
      · rfl
      · split <;> rfl
    · rfl
  · simp only [h3, if_false]

section
variable {r : Root} {n k : Nat} {d : Dev}

/-- A cycle that injects loses the reference for itself. -/
def refCycle (r : Root) (n : Nat) (d : Dev) : Dev :=
  let d1 := opportunity r (.mcs n) 1 d
  mcsUnlock r n (d1.setMcs n { d1.mcsn n with refInj := r.ec + mrefUnits })

theorem mcsn_refCycle : (refCycle r n d).mcsn = update d.mcsn n { (d.mcsn n).unlocked (mcsOuts d n) with refInj := r.ec + mrefUnits } := by
  unfold refCycle
  dsimp only
  rw [mcsn_mcsUnlock, mcsn_setMcs, mcsn_opportunity, Function.update_self, Function.update_idem, mcsOuts_of_eff (Dev.setMcs_eff ..),
    mcsOuts_of_eff (eff_opportunity ..), Mcs.unlocked_refInj]

theorem refCycles_injects (hs : (d.mcsn n).started = true) (hi : injects (.mcs n) 1 d = true) :
    refCycles r n (k + 1) d = refCycles { r with ec := r.ec + mrefUnits } n k (refCycle r n d) := by
  rw [refCycles, if_pos (by rw [hs, hi]; rfl)]
  rfl

theorem refCycles_idle (h : ((d.mcsn n).started && injects (.mcs n) 1 d) = false) : refCycles r n k d = d := by
  cases k with
  | zero => rfl
  | succ k => rw [refCycles, if_neg (by rw [h]; decide)]

/-- While the synthesizer is not LOCKED, its cycles move the EC up to which the reference is lost, and nothing else of it. -/
theorem mcsn_refCycles (k : Nat) (h3 : (d.mcsn n).st ≠ 3) : ∃ e, (refCycles r n k d).mcsn = update d.mcsn n { d.mcsn n with refInj := e } ∧
    (e = (d.mcsn n).refInj ∨ r.ec < e ∧ e ≤ r.ec + k * mrefUnits) := by
  induction k generalizing r d with
  | zero => exact ⟨_, (Function.update_eq_self ..).symm, .inl rfl⟩
  | succ k ih =>
    cases hgo : (d.mcsn n).started && injects (.mcs n) 1 d with
    | false => exact ⟨_, by rw [refCycles_idle hgo]; exact (Function.update_eq_self ..).symm, .inl rfl⟩
    | true =>
      obtain ⟨hs, hi⟩ := Bool.and_eq_true_iff.mp hgo
      have hcycle : (refCycle r n d).mcsn n = { d.mcsn n with refInj := r.ec + mrefUnits } := by
        rw [mcsn_refCycle, Function.update_self, Mcs.unlocked_other h3]
      obtain ⟨e, hm, he⟩ := ih (r := { r with ec := r.ec + mrefUnits }) (d := refCycle r n d) (by rw [hcycle]; exact h3)
      refine ⟨e, ?_, .inr ?_⟩
      · rw [refCycles_injects hs hi, hm, hcycle, mcsn_refCycle, Function.update_idem]
      · rw [hcycle] at he
        simp only [mrefUnits] at he ⊢
        omega

/-- Cycles the first of which injects: the synthesizer leaves LOCKED, and its reference is lost up to an EC among them. -/
theorem mcsn_refCycles_injects (hs : (d.mcsn n).started = true) (hi : injects (.mcs n) 1 d = true) :
    ∃ e, (refCycles r n (k + 1) d).mcsn = update d.mcsn n { (d.mcsn n).unlocked (mcsOuts d n) with refInj := e } ∧
      r.ec < e ∧ e ≤ r.ec + (k + 1) * mrefUnits := by
  have hcycle : (refCycle r n d).mcsn n = { (d.mcsn n).unlocked (mcsOuts d n) with refInj := r.ec + mrefUnits } := by
    rw [mcsn_refCycle, Function.update_self]
  have h3 : ((refCycle r n d).mcsn n).st ≠ 3 := by
    rw [hcycle]
    exact Mcs.unlocked_st _ _
  obtain ⟨e, hm, he⟩ := mcsn_refCycles (r := { r with ec := r.ec + mrefUnits }) (d := refCycle r n d) k h3
  refine ⟨e, ?_, ?_⟩
  · rw [refCycles_injects hs hi, hm, hcycle, mcsn_refCycle, Function.update_idem]
  · rw [hcycle] at he
    simp only [mrefUnits] at he ⊢
    omega

end

/-- A synthesizer that is LOCKED loses its lock at either point. -/
def McsLost (n : Nat) (d : Dev) : Prop := (d.mcsn n).st = 3 ∧ (injects (.mcs n) 0 d = true ∨ injects (.mcs n) 1 d = true)

/-- Synthesizer `x` after the cycles of an update's microsecond is `y`. -/
structure McsPointed (r : Root) (n : Nat) (d : Dev) (x y : Mcs) : Prop where
  lost : McsLost n d → y = { x.unlocked (mcsOuts d n) with refInj := y.refInj }
  kept : ¬McsLost n d → y = { x with refInj := y.refInj }
  injected : x.started = true → injects (.mcs n) 1 d = true → r.ec < y.refInj ∧ y.refInj ≤ r.ec + 256000
  quiet : injects (.mcs n) 1 d = false ∨ x.started = false → y.refInj = x.refInj

theorem Mcs.refInj_unlocked (on : Nat) (x : Mcs) : (x.unlocked on).refInj = x.refInj :=
  (congrArg Mcs.refInj (Mcs.unlocked_refInj on x.refInj x) :)

section
variable (r : Root) {n : Nat} {d : Dev}

/-- With POINT 1 not armed the first cycle alone matters. -/
theorem mcsn_mcsPoints_one (h : injects (.mcs n) 1 d = false) : ∃ y, (mcsPoints r n d).mcsn = update d.mcsn n y ∧ McsPointed r n d (d.mcsn n) y := by
  have hother : injects (.mcs n) 1 (opportunity r (.mcs n) 0 d) = false := (injects_opportunity_other (by decide)).trans h
  unfold mcsPoints
  dsimp only
  by_cases h3 : (d.mcsn n).st = 3
  · rw [if_pos h3, h3]
    cases h0 : injects (.mcs n) 0 d with
    | true =>
      have hidle : ∀ e : Dev, injects (.mcs n) 1 e = false → refCycles r n 50 e = e := fun e he => refCycles_idle (by rw [he, Bool.and_false])
      rw [if_pos (by decide), hidle _ (by rw [injects_mcsUnlock, hother]), mcsn_mcsUnlock, mcsn_opportunity, mcsOuts_of_eff (eff_opportunity ..)]
      exact ⟨_, rfl, fun _ => rfl, fun hn => absurd ⟨h3, .inl h0⟩ hn, fun _ h1 => by simp [h] at h1, fun _ => Mcs.refInj_unlocked ..⟩
    | false =>
      rw [if_neg (by decide), refCycles_idle (by rw [hother, Bool.and_false]), mcsn_opportunity]
      refine ⟨_, (Function.update_eq_self ..).symm, fun hl => ?_, fun _ => rfl, fun _ h1 => by simp [h] at h1, fun _ => rfl⟩
      exact absurd hl.2 (by simp [h0, h])
  · have hst : ((d.mcsn n).st == 3) = false := beq_eq_false_iff_ne.mpr h3
    rw [if_neg h3, hst, Bool.false_and, if_neg (by decide), refCycles_idle (by rw [h, Bool.and_false])]
    exact ⟨_, (Function.update_eq_self ..).symm, fun hl => absurd hl.1 h3, fun _ => rfl, fun _ h1 => by simp [h] at h1, fun _ => rfl⟩

/-- With POINT 1 armed every cycle of a started synthesizer injects, and POINT 0 does not. -/
theorem mcsn_mcsPoints_each (h : injects (.mcs n) 1 d = true) : ∃ y, (mcsPoints r n d).mcsn = update d.mcsn n y ∧ McsPointed r n d (d.mcsn n) y := by
  obtain ⟨e, hpoints, hmcs, heff, hinj⟩ : ∃ e : Dev, mcsPoints r n d = refCycles r n 50 e ∧ e.mcsn = d.mcsn ∧ e.eff = d.eff ∧ injects (.mcs n) 1 e = true := by
    have h0 : injects (.mcs n) 0 d = false := not_injects_two (by decide) h
    unfold mcsPoints
    dsimp only
    rw [h0, Bool.and_false, if_neg (by decide)]
    split
    · exact ⟨_, rfl, mcsn_opportunity .., eff_opportunity .., (injects_opportunity_other (by decide)).trans h⟩
    · exact ⟨_, rfl, rfl, rfl, h⟩
  cases hs : (d.mcsn n).started with
  | true =>
    obtain ⟨t, hm, hlo, hhi⟩ := mcsn_refCycles_injects (r := r) (k := 49) (d := e) (by rw [hmcs]; exact hs) hinj
    rw [hmcs, mcsOuts_of_eff heff] at hm
    rw [hpoints, hm]
    refine ⟨_, rfl, fun _ => rfl, fun hn => ?_, fun _ _ => ⟨hlo, by simpa [mrefUnits] using hhi⟩, fun hq => ?_⟩
    · have h3 : (d.mcsn n).st ≠ 3 := fun h3 => hn ⟨h3, .inr h⟩
      rw [Mcs.unlocked_other h3]
    · simp [h, hs] at hq
  | false =>
    have h3 : (d.mcsn n).st ≠ 3 := fun h3 => by simp [Mcs.started, h3] at hs
    rw [hpoints, refCycles_idle (by rw [hmcs, hs, Bool.false_and]), hmcs]
    exact ⟨_, (Function.update_eq_self ..).symm, fun hl => absurd hl.1 h3, fun _ => rfl, fun ht => by simp [hs] at ht, fun _ => rfl⟩

theorem mcsn_mcsPoints (n : Nat) (d : Dev) : ∃ y, (mcsPoints r n d).mcsn = update d.mcsn n y ∧ McsPointed r n d (d.mcsn n) y := by
  cases h : injects (.mcs n) 1 d with
  | false => exact mcsn_mcsPoints_one r h
  | true => exact mcsn_mcsPoints_each r h

end

end Sys2Proof.Machine

/-! Synthesizers: the ramp's offset and the frequency formed each microsecond (R185 to R187, R191, R194). -/

namespace Sys2Proof.Machine

open Function (update)

/-! ### The wanted frequency (R186, R194) -/

/-- The wanted frequency goes by the settings and by what the synthesizer keeps of ramp, spread, rate and discipline. -/
theorem mcsWanted_congr {r : Root} {a b : Dev} {n : Nat} (heff : a.eff = b.eff) (hr : (a.mcsn n).r = (b.mcsn n).r)
    (hssc : (a.mcsn n).sscFrom = (b.mcsn n).sscFrom) (hrho : (a.mcsn n).rho = (b.mcsn n).rho) (hu : (a.mcsn n).u = (b.mcsn n).u) :
    mcsWanted r a n = mcsWanted r b n := by
  have hmode : mcsMode a n = mcsMode b n := by simp only [mcsMode, pf_of_eff heff]
  have hfreq : mcsN a n = mcsN b n := by simp only [mcsN, pwv_of_eff heff]
  have hdepth : mcsDepth a n = mcsDepth b n := by simp only [mcsDepth, pf_of_eff heff]
  have hspread : spreadAt r a n = spreadAt r b n := by simp only [spreadAt, hdepth, pf_of_eff heff, hssc]
  simp only [mcsWanted, hmode, hfreq, hspread, hr, hrho, hu]

/-! ### The ramp (R187) -/

/-- A microsecond of a ramp that runs. -/
def Mcs.rampStep (x : Mcs) : Mcs :=
  let t := min (x.prof.getD x.seg (0, 1)).2 (x.elapsed + 1)
  { x with elapsed := t, r := rampAt x t }

/-- A microsecond of a synthesizer's ramp, if it runs. -/
def Mcs.ramped (x : Mcs) : Mcs := if x.rampSt = 1 then x.rampStep else x

theorem Mcs.ramped_eq (x : Mcs) : x.ramped = { x with elapsed := x.ramped.elapsed, r := x.ramped.r } := by
  unfold Mcs.ramped
  split <;> rfl

/-- The device once synthesizer `n`'s ramp has moved on. -/
def ramping (n : Nat) (d : Dev) : Dev := if (d.mcsn n).rampSt = 1 then d.setMcs n (d.mcsn n).rampStep else d

theorem mcsn_ramping (n : Nat) (d : Dev) : (ramping n d).mcsn = update d.mcsn n (d.mcsn n).ramped := by
  unfold ramping Mcs.ramped
  split
  · exact mcsn_setMcs ..
  · rw [Function.update_eq_self]

theorem eff_ramping (n : Nat) (d : Dev) : (ramping n d).eff = d.eff := by
  unfold ramping
  split <;> rfl

/-! ### The frequency formed (R185, R186) -/

/-- The edges of the band in use, in units of 2^-48. -/
def Mcs.bandLo (x : Mcs) : Nat := cdiv (x.lim.1 * 2 ^ 48) 50000
def Mcs.bandHi (x : Mcs) : Nat := x.lim.2 * 2 ^ 48 / 50000

/-- `y` is what forming the wanted frequency `w` makes of synthesizer `x`; the modulator takes it with the dither of an LSB, if any. -/
structure Mcs.Formed (dither : Bool) (w : Int) (x y : Mcs) : Prop where
  rest : y = { x with applied := y.applied, delay := y.delay, bandLimit := y.bandLimit, lfsr := y.lfsr, driven := y.driven }
  applied : (y.applied : Int) = max (x.bandLo : Int) (min (x.bandHi : Int) w)
  limited : y.bandLimit = true ↔ w < x.bandLo ∨ x.bandHi < w
  plain : dither = false → y.driven = y.applied
  above : y.driven ≤ y.applied + 1
  below : y.applied ≤ y.driven + 1

/-- The frequency of synthesizer `n` is formed. -/
def forming (r : Root) (n : Nat) (d : Dev) : Dev :=
  let y := d.mcsn n
  let w := mcsWanted r d n
  let a := (max (y.bandLo : Int) (min (y.bandHi : Int) w)).toNat
  let dither := d.pf (.mcs n) 0x040 5 4 == 1
  let next := if dither then Config.ditherNext y.lfsr % 2 ^ 32 else y.lfsr
  let step : Int := if dither then (Config.ditherOf next % 3 : Nat) - 1 else 0
  d.setMcs n { y with applied := a, delay := if a = y.applied then y.delay else delaysStand r d n,
                      bandLimit := decide (w < y.bandLo ∨ y.bandHi < w), lfsr := next, driven := ((a : Int) + step).toNat }

theorem mcsn_forming (r : Root) (n : Nat) (d : Dev) : ∃ y, (forming r n d).mcsn = update d.mcsn n y ∧
    (d.mcsn n).Formed (d.pf (.mcs n) 0x040 5 4 == 1) (mcsWanted r d n) y ∧
    (y.delay = (d.mcsn n).delay ∧ y.applied = (d.mcsn n).applied ∨ y.delay = delaysStand r d n) := by
  unfold forming
  dsimp only
  rw [mcsn_setMcs]
  refine ⟨_, rfl, ⟨rfl, ?_, decide_eq_true_iff, fun h => ?_, ?_, ?_⟩, ?_⟩
  · exact Int.toNat_of_nonneg (le_max_of_le_left (Int.natCast_nonneg _))
  · simp [h]
  · dsimp only
    split <;> omega
  · dsimp only
    split <;> omega
  · dsimp only
    split
    next h => exact .inl ⟨rfl, h⟩
    next => exact .inr rfl

theorem freqUpdate_eq (r : Root) (n : Nat) (d : Dev) : freqUpdate r n d =
    if 1 ≤ ((mcsPoints r n d).mcsn n).st ∧ ((mcsPoints r n d).mcsn n).st ≤ 3 then forming r n (ramping n (mcsPoints r n d)) else mcsPoints r n d := rfl

/-! ### MCS_FREQ_UPDATE -/

section
variable {r : Root} {n : Nat} {d : Dev} {x z y : Mcs}

/-- The cycles of the microsecond leave ramp, band and delays but for a ramp that stops with the lock. -/
theorem McsPointed.kept_rest (h : McsPointed r n d x z) (hx : d.mcsn n = x) :
    z.delay = x.delay ∧ z.applied = x.applied ∧ z.lim = x.lim ∧ z.r = x.r ∧ z.elapsed = x.elapsed ∧ (x.rampSt ≠ 1 → z.rampSt ≠ 1) := by
  by_cases hl : McsLost n d
  · obtain ⟨_, _, _, he⟩ := Mcs.unlocked_eq (mcsOuts d n) (x := x) (hx ▸ hl.1)
    rw [h.lost hl, he]
    exact ⟨rfl, rfl, rfl, rfl, rfl, fun hr => by simp [hr]⟩
  · rw [h.kept hl]
    exact ⟨rfl, rfl, rfl, rfl, rfl, id⟩

theorem McsPointed.started (h : McsPointed r n d x z) (hx : d.mcsn n = x) : (1 ≤ z.st ∧ z.st ≤ 3) ↔ (1 ≤ x.st ∧ x.st ≤ 3) := by
  by_cases hl : McsLost n d
  · obtain ⟨_, _, _, he⟩ := Mcs.unlocked_eq (mcsOuts d n) (x := x) (hx ▸ hl.1)
    have h3 : x.st = 3 := hx ▸ hl.1
    have h2 : z.st = 2 := by rw [h.lost hl, he]
    rw [h2, h3]
    decide
  · rw [h.kept hl]

theorem eff_freqUpdate (r : Root) (n : Nat) (d : Dev) : (freqUpdate r n d).eff = d.eff := eff_of (of_freqUpdate (.of (by decide)) ..)

theorem eff_mcsPoints (r : Root) (n : Nat) (d : Dev) : (mcsPoints r n d).eff = d.eff := eff_of (of_mcsPoints (.of (by decide)) ..)

/-- A synthesizer that does not run is left as it is. -/
theorem mcsn_freqUpdate_idle (h : ¬(1 ≤ (d.mcsn n).st ∧ (d.mcsn n).st ≤ 3)) : (freqUpdate r n d).mcsn = d.mcsn := by
  obtain ⟨z, hm, hz⟩ := mcsn_mcsPoints r n d
  have hself : (mcsPoints r n d).mcsn n = z := by rw [hm, Function.update_self]
  have hs : (d.mcsn n).started = false := decide_eq_false h
  have hl : ¬McsLost n d := fun hl => h (by rw [hl.1]; decide)
  have hzx : z = d.mcsn n := by
    have hkept := hz.kept hl
    rw [hz.quiet (.inr hs)] at hkept
    exact hkept
  rw [freqUpdate_eq, hself, if_neg (fun hc => h ((hz.started rfl).mp hc)), hm, hzx, Function.update_eq_self]

/-- A synthesizer that runs takes the cycles, its ramp moves on, and its frequency is formed; its delays go on from where they stood. -/
theorem mcsn_freqUpdate_runs (h : 1 ≤ (d.mcsn n).st ∧ (d.mcsn n).st ≤ 3) : ∃ z y, (freqUpdate r n d).mcsn = update d.mcsn n y ∧
    McsPointed r n d (d.mcsn n) z ∧ z.ramped.Formed (d.pf (.mcs n) 0x040 5 4 == 1) (mcsWanted r (freqUpdate r n d) n) y ∧
    ∀ k < 4, delayNow r (freqUpdate r n d) n k (delayGoal d n k) = delayNow r d n k (delayGoal d n k) := by
  obtain ⟨z, hm, hz⟩ := mcsn_mcsPoints r n d
  have hself : (mcsPoints r n d).mcsn n = z := by rw [hm, Function.update_self]
  have hupdate : freqUpdate r n d = forming r n (ramping n (mcsPoints r n d)) := by
    rw [freqUpdate_eq, hself, if_pos ((hz.started rfl).mpr h)]
  generalize he : ramping n (mcsPoints r n d) = e at hupdate
  have heff : e.eff = d.eff := by rw [← he, eff_ramping, eff_mcsPoints]
  have hmcs : e.mcsn = update d.mcsn n z.ramped := by rw [← he, mcsn_ramping, hself, hm, Function.update_idem]
  have hramped : e.mcsn n = z.ramped := by rw [hmcs, Function.update_self]
  obtain ⟨y, hy, hformed, hdelay⟩ := mcsn_forming r n e
  rw [hramped] at hformed hdelay
  rw [← hupdate, hmcs, Function.update_idem] at hy
  have hyself : (freqUpdate r n d).mcsn n = y := by rw [hy, Function.update_self]
  have hwanted : mcsWanted r e n = mcsWanted r (freqUpdate r n d) n := by
    have hrest := hformed.rest
    refine mcsWanted_congr (heff.trans (eff_freqUpdate ..).symm) ?_ ?_ ?_ ?_
    all_goals rw [hramped, hyself, hrest]
  obtain ⟨hzdelay, hzapplied, -⟩ := hz.kept_rest rfl
  have hstood : z.ramped.delay = (d.mcsn n).delay ∧ z.ramped.applied = (d.mcsn n).applied := by
    rw [Mcs.ramped_eq]
    exact ⟨hzdelay, hzapplied⟩
  obtain ⟨hrdelay, hrapplied⟩ := hstood
  refine ⟨z, y, hy, hz, ?_, fun k hk => ?_⟩
  · rw [← hwanted, ← pf_of_eff heff]
    exact hformed
  · rcases hdelay with ⟨hsame, happ⟩ | hstand
    · refine delayNow_congr (eff_freqUpdate ..) ?_ ?_
      · rw [hyself, hsame, hrdelay]
      · rw [hyself, happ, hrapplied]
    · have hnow : delayNow r e n k (delayGoal d n k) = delayNow r d n k (delayGoal d n k) := by
        refine delayNow_congr heff ?_ ?_
        · rw [hramped, hrdelay]
        · rw [hramped, hrapplied]
      have hgoal := delayGoal_of_eff heff n k
      rw [← hnow, delayNow, hyself, ← hgoal]
      exact delayAt_delaysStand hk hstand _

theorem mcsn_freqUpdate (r : Root) (n : Nat) (d : Dev) : ∃ y, (freqUpdate r n d).mcsn = update d.mcsn n y := by
  by_cases h : 1 ≤ (d.mcsn n).st ∧ (d.mcsn n).st ≤ 3
  · obtain ⟨_, y, hm, -⟩ := mcsn_freqUpdate_runs (r := r) h
    exact ⟨y, hm⟩
  · exact ⟨_, (mcsn_freqUpdate_idle h).trans (Function.update_eq_self ..).symm⟩

/-- What MCS_FREQ_UPDATE makes of synthesizer `n` of device `d` on its way to device `e` (R184 to R187, R363). -/
def FreqUpdates (r : Root) (n : Nat) (d e : Dev) : Prop :=
  let x := d.mcsn n
  let y := e.mcsn n
  let lost := x.st = 3 ∧ (injects (.mcs n) 0 d = true ∨ injects (.mcs n) 1 d = true)
  let runs := 1 ≤ x.st ∧ x.st ≤ 3
  let lo : Nat := cdiv (x.lim.1 * 2 ^ 48) 50000
  let hi : Nat := x.lim.2 * 2 ^ 48 / 50000
  let w := mcsWanted r e n
  (runs → injects (.mcs n) 1 d = true → r.ec < y.refInj ∧ y.refInj ≤ r.ec + 256000) ∧
  (runs → injects (.mcs n) 1 d = false → y.refInj = x.refInj) ∧
  (∀ k < 4, delayNow r e n k (delayGoal d n k) = delayNow r d n k (delayGoal d n k)) ∧
  (lost → y.st = 2 ∧ y.unlocks = satInc x.unlocks 0xFFFF ∧ y.bypass = mcsOuts d n) ∧ (¬lost → y.st = x.st ∧ y.bypass = x.bypass) ∧
  (¬runs → y = x) ∧
  (runs → (y.applied : Int) = max (lo : Int) (min (hi : Int) w) ∧ (y.bandLimit = true ↔ w < lo ∨ hi < w) ∧
    (d.pf (.mcs n) 0x040 5 4 ≠ 1 → y.driven = y.applied) ∧ y.driven ≤ y.applied + 1 ∧ y.applied ≤ y.driven + 1) ∧
  (runs → ¬lost → x.rampSt = 1 → y.elapsed = min (x.prof.getD x.seg (0, 1)).2 (x.elapsed + 1) ∧ y.r = rampAt x y.elapsed) ∧
  (x.rampSt ≠ 1 → y.r = x.r ∧ y.elapsed = x.elapsed)

theorem FreqUpdates.congr {a b e : Dev} (h : FreqUpdates r n a e) (hmcs : a.mcsn = b.mcsn) (heff : a.eff = b.eff) (hregs : a.regs = b.regs) :
    FreqUpdates r n b e := by
  have hnow : ∀ k goal, delayNow r a n k goal = delayNow r b n k goal := fun k goal => delayNow_congr heff (by rw [hmcs]) (by rw [hmcs])
  unfold FreqUpdates at h ⊢
  simpa only [hmcs, injects_of_regs hregs, delayGoal_of_eff heff, mcsOuts_of_eff heff, pf_of_eff heff, hnow] using h

theorem freqUpdate_updates (r : Root) (n : Nat) (d : Dev) : FreqUpdates r n d (freqUpdate r n d) := by
  unfold FreqUpdates
  intro x y lost runs lo hi w
  by_cases hruns : runs
  · obtain ⟨z, y', hm, hz, hformed, hdelays⟩ := mcsn_freqUpdate_runs (r := r) hruns
    have hy : y = y' := by
      show (freqUpdate r n d).mcsn n = y'
      rw [hm, Function.update_self]
    rw [← hy] at hformed
    obtain ⟨hrest, happlied, hlimited, hplain, habove, hbelow⟩ := hformed
    obtain ⟨-, -, hlim, hr, helapsed, hramp⟩ := hz.kept_rest rfl
    rw [Mcs.ramped_eq] at hrest
    have hkeep : y.refInj = z.refInj ∧ y.st = z.st ∧ y.unlocks = z.unlocks ∧ y.bypass = z.bypass ∧ y.elapsed = z.ramped.elapsed ∧ y.r = z.ramped.r := by
      rw [hrest]
      exact ⟨rfl, rfl, rfl, rfl, rfl, rfl⟩
    have hband : z.ramped.bandLo = x.bandLo ∧ z.ramped.bandHi = x.bandHi := by
      rw [Mcs.ramped_eq]
      exact ⟨congrArg (fun l : Nat × Nat => cdiv (l.1 * 2 ^ 48) 50000) hlim, congrArg (fun l : Nat × Nat => l.2 * 2 ^ 48 / 50000) hlim⟩
    obtain ⟨hrefInj, hst, hunlocks, hbypass, hyelapsed, hyr⟩ := hkeep
    obtain ⟨hlo, hhi⟩ := hband
    rw [hlo, hhi] at happlied hlimited
    refine ⟨fun _ hi => ?_, fun _ hi => ?_, hdelays, fun hl => ?_, fun hl => ?_, fun hn => absurd hruns hn, fun _ => ?_, fun _ hl hr1 => ?_, fun hr1 => ?_⟩
    · rw [hrefInj]
      exact hz.injected (decide_eq_true hruns) hi
    · rw [hrefInj]
      exact hz.quiet (.inl hi)
    · obtain ⟨_, _, _, hu⟩ := Mcs.unlocked_eq (mcsOuts d n) hl.1
      rw [hst, hunlocks, hbypass, hz.lost hl, hu]
      exact ⟨rfl, rfl, rfl⟩
    · rw [hst, hbypass, hz.kept hl]
      exact ⟨rfl, rfl⟩
    · exact ⟨happlied, hlimited, fun h => hplain (beq_eq_false_iff_ne.mpr h), habove, hbelow⟩
    · have hstep : z.ramped = z.rampStep := if_pos ((congrArg Mcs.rampSt (hz.kept hl)).trans hr1)
      rw [hyelapsed, hyr, hstep, hz.kept hl]
      exact ⟨rfl, rfl⟩
    · have hstill : z.ramped = z := if_neg (hramp hr1)
      rw [hyelapsed, hyr, hstill]
      exact ⟨hr, helapsed⟩
  · have hm := mcsn_freqUpdate_idle (r := r) hruns
    have hy : y = x := congrFun hm n
    have hl : ¬lost := fun ⟨h3, _⟩ => hruns ⟨le_trans (by decide) h3.ge, h3.le⟩
    rw [hy]
    refine ⟨fun h => absurd h hruns, fun h => absurd h hruns, fun k _ => ?_, fun h => absurd h hl, fun _ => ⟨rfl, rfl⟩, fun _ => rfl,
      fun h => absurd h hruns, fun h => absurd h hruns, fun _ => ⟨rfl, rfl⟩⟩
    exact delayNow_congr (eff_freqUpdate ..) (congrArg Mcs.delay hy) (congrArg Mcs.applied hy)

end

end Sys2Proof.Machine

/-! The obligation on a synthesizer's starting, lock and applied frequency (R180 to R182, R184, R185, R187, R189). -/

namespace Sys2Proof.Machine

theorem Completes.imp {i : Instr} {s : State} {P Q : State → Prop} (h : Completes i s P) (hpq : ∀ t, P t → Q t) : Completes i s Q := by
  obtain ⟨t, ht, hP⟩ := h
  exact ⟨t, ht, hpq t hP⟩

/-- The command keeps everything beside the device, the other synthesizers, and the PW registers. -/
def McsFrame (n : Nat) (s t : State) : Prop := DevOnly s t ∧ (∀ m, m ≠ n → t.dev.mcsn m = s.dev.mcsn m) ∧ t.dev.eff = s.dev.eff

theorem Completes.frame_self {i : Instr} {s : State} {n : Nat} {z : Mcs} (h : Completes i s fun t => McsMoves n s t z) :
    Completes i s fun t => McsFrame n s t ∧ t.dev.mcsn n = z := h.imp fun _ hm => ⟨hm.frame, hm.self⟩

theorem Mcs.settled_ramp (x : Mcs) : x.settled.r = x.r ∧ x.settled.rampSt = x.rampSt ∧ x.settled.seg = x.seg ∧ x.settled.elapsed = x.elapsed ∧
    x.settled.from' = x.from' := by
  rw [Mcs.settled_eq]
  exact ⟨rfl, rfl, rfl, rfl, rfl⟩

/-- What each END leaves of the ramp after its last segment. -/
theorem Mcs.profileEnded_ramp {x : Mcs} (hrun : x.rampSt = 1) :
    let fin := (x.prof.getD x.seg (0, 1)).1 * rUnits
    let y := x.profileEnded.settled
    (x.endAct = 1 → y.r = 0 ∧ y.rampSt = 0) ∧ (x.endAct = 2 → y.r = fin ∧ y.rampSt = 1 ∧ y.seg = 0 ∧ y.elapsed = 0 ∧ y.from' = fin) ∧
    (x.endAct = 0 → y.r = fin ∧ y.rampSt = 2) := by
  intro fin y
  obtain ⟨hr, hst, hseg, helapsed, hfrom⟩ := x.profileEnded.settled_ramp
  rw [hr, hst, hseg, helapsed, hfrom]
  refine ⟨fun h => ?_, fun h => ?_, fun h => ?_⟩
  · have hend : x.profileEnded = { x with r := 0, rampSt := 0 } := by simp only [Mcs.profileEnded, h]
    rw [hend]
    exact ⟨rfl, rfl⟩
  · have hend : x.profileEnded = { x with r := fin, seg := 0, elapsed := 0, from' := fin } := by simp only [Mcs.profileEnded, h, fin]
    rw [hend]
    exact ⟨rfl, hrun, rfl, rfl, rfl⟩
  · have hend : x.profileEnded = { x with r := fin, rampSt := 2 } := by simp only [Mcs.profileEnded, h, fin]
    rw [hend]
    exact ⟨rfl, rfl⟩

/-- MCS_FREQ_UPDATE keeps the other synthesizers and the PW registers. -/
theorem freqUpdate_moves (s : State) (n pg ln) :
    McsMoves n s { s with dev := freqUpdate s.root n { s.dev with page := pg, lines := ln } }
      ((freqUpdate s.root n { s.dev with page := pg, lines := ln }).mcsn n) := by
  obtain ⟨y, hm⟩ := mcsn_freqUpdate s.root n { s.dev with page := pg, lines := ln }
  refine ⟨devOnly_dev .., ?_, eff_freqUpdate s.root n { s.dev with page := pg, lines := ln }⟩
  dsimp only
  rw [hm, Function.update_self]
  rfl

theorem McsMoves.dropped {s t : State} {n on : Nat} {x z : Mcs} (hm : McsMoves n s t (z.unlocked on)) (h3 : z.st = 3) (hu : z.unlocks = x.unlocks)
    (hr : z.r = x.r) (hramp : z.rampSt = x.rampSt) : x.Dropped on (t.dev.mcsn n) := by
  obtain ⟨hst, hin, hout, hunlocks, hbypass, hr', hramp'⟩ := Mcs.dropped_unlocked on h3
  rw [hm.self]
  exact ⟨hst, hin, hout, hu ▸ hunlocks, hbypass, hr ▸ hr', hramp ▸ hramp'⟩

section
variable {s : State} {n : Fin 8} (hon : s.root.coreOn = true)
include hon

theorem refLost_drops : Completes (.mcsRefLoss n true) s fun t => McsFrame n s t ∧ (t.dev.mcsn n).refLoss = true ∧
    ((s.dev.mcsn n).st = 3 → (s.dev.mcsn n).Dropped (mcsOuts s.dev n) (t.dev.mcsn n)) ∧ ((s.dev.mcsn n).st ≠ 3 → (t.dev.mcsn n).st = (s.dev.mcsn n).st) := by
  refine (refLost_completes hon).imp fun t hm => ⟨hm.frame, ?_, fun h => hm.dropped h rfl rfl rfl, fun h => ?_⟩
  · rw [hm.self, Mcs.unlocked_refLoss]
  · rw [hm.self, Mcs.unlocked_other (x := { s.dev.mcsn n with refLoss := true }) h]

theorem lastRun_drops {err : List PhaseRun} {p : PhaseRun} {c : Instr} (hc : CarriesRuns c n (err ++ [p]))
    (hquiet : ∀ k, 1 ≤ k → k ≤ err.length → ((err.take k).foldl (Mcs.judge (lockWin s.dev n)) (s.dev.mcsn n)).quiet s.dev n) (h3 : (s.dev.mcsn n).st = 3)
    (hout : unlockCnt s.dev n ≤ ((err ++ [p]).foldl (Mcs.judge (lockWin s.dev n)) (s.dev.mcsn n)).outWin) :
    Completes c s fun t => McsFrame n s t ∧ (s.dev.mcsn n).Dropped (mcsOuts s.dev n) (t.dev.mcsn n) := by
  obtain ⟨-, -, -, hdrop⟩ := lockRuns_complete hon hc hquiet
  obtain ⟨a, b, hxz⟩ := Mcs.foldl_judge_eq (lockWin s.dev n) (s.dev.mcsn n) (err ++ [p])
  refine (hdrop h3 hout).imp fun t hm => ⟨hm.frame, hm.dropped (x := s.dev.mcsn n) ?_ ?_ ?_ ?_⟩
  · rwa [hxz]
  all_goals rw [hxz]

theorem stopComplete_stops (h : (s.dev.mcsn n).st = 4) :
    Completes (.mcsStopComplete n) s fun t => McsFrame n s t ∧ (s.dev.mcsn n).Stopped (mcsEn s.dev n) (t.dev.mcsn n) :=
  (stopComplete_completes hon h).imp fun _ ⟨_, hm, hz⟩ => ⟨hm.frame, hm.self ▸ hz⟩

theorem segmentEnd_ends (hrun : (s.dev.mcsn n).rampSt = 1)
    (hend : ((s.dev.mcsn n).prof.getD (s.dev.mcsn n).seg (0, 1)).2 ≤ (s.dev.mcsn n).elapsed) : Completes (.rampSegmentEnd n) s fun t => McsFrame n s t ∧
      let x := s.dev.mcsn n
      let y := t.dev.mcsn n
      let fin := (x.prof.getD x.seg (0, 1)).1 * rUnits
      (x.seg + 1 < x.prof.length → y = { x with r := fin, seg := x.seg + 1, elapsed := 0, from' := fin }) ∧
      (x.prof.length ≤ x.seg + 1 → x.endAct = 1 → y.r = 0 ∧ y.rampSt = 0) ∧
      (x.prof.length ≤ x.seg + 1 → x.endAct = 2 → y.r = fin ∧ y.rampSt = 1 ∧ y.seg = 0 ∧ y.elapsed = 0 ∧ y.from' = fin) ∧
      (x.prof.length ≤ x.seg + 1 → x.endAct = 0 → y.r = fin ∧ y.rampSt = 2) := by
  refine (segmentEnd_completes hon hrun hend).imp fun t ⟨z, hm, hnext, hlast⟩ => ⟨hm.frame, ?_⟩
  obtain ⟨hzero, hagain, hhold⟩ := Mcs.profileEnded_ramp hrun
  dsimp only
  rw [hm.self]
  exact ⟨hnext, fun hl ha => hlast hl ▸ hzero ha, fun hl ha => hlast hl ▸ hagain ha, fun hl ha => hlast hl ▸ hhold ha⟩

end

/-- Settles O38: each operation's effect on the synthesizer, as an update of the function that reads them. -/
theorem mcsRuns : Obligations.McsRuns := by
  intro s n hon d x y frame seen drop
  refine ⟨fun h => (vcoSettled_completes hon h).frame_self, ?_, (noRuns_completes hon (.inl rfl)).frame_self, (noRuns_completes hon (.inr rfl)).frame_self,
    refLost_drops hon, (refBack_completes hon).frame_self, stopComplete_stops hon, ?_, fun h => (segmentEnd_idle hon h).frame_self, segmentEnd_ends hon⟩
  · intro err p c hc _ _ _ _ hquiet
    obtain ⟨hlock, hstay, hcount, -⟩ := lockRuns_complete hon hc hquiet
    exact ⟨fun h2 hr hin => (hlock h2 hr hin).frame_self, fun h hout => (hstay h hout).frame_self, fun hin hout => (hcount hin hout).frame_self,
      lastRun_drops hon hc hquiet⟩
  · refine completes_mcsUse (f := fun r => freqUpdate r n) hon (show _ = execMcsFreqUpdate n s from rfl) fun pg ln => ⟨(freqUpdate_moves s n pg ln).frame, ?_⟩
    exact FreqUpdates.congr (freqUpdate_updates s.root n { s.dev with page := pg, lines := ln }) rfl rfl rfl

end Sys2Proof.Machine

/-! The discipline of a synthesizer: its intervals, clamp, ALIGNED and NO_FEEDBACK (R194 to R197). -/

namespace Sys2Proof.Machine

open Function (update)

/-! ### The loop and its clamp (R195) -/

/-- DISC_CLAMP in units of 2^-24 ppb. -/
def discClamp (d : Dev) (n : Nat) : Nat := min 100000 (d.rf (.mcs n) 0x08C 23 0) * 2 ^ 24

/-- An update of the loop moves I and u alone, and keeps u within the clamp. -/
theorem discLoop_eq (d : Dev) (n : Nat) (x : Mcs) (phi : Int) : ∃ i u, discLoop d n x phi = { x with i := i, u := u } ∧ u.natAbs ≤ discClamp d n := by
  unfold discLoop discClamp
  dsimp only
  split
  next h => exact ⟨_, _, rfl, by omega⟩
  next => exact ⟨_, _, rfl, by split <;> omega⟩

/-! ### Intervals (R194 to R197) -/

/-- The interval in which AT's RATE is read. -/
def Mcs.rated (d : Dev) (x : Mcs) : Mcs := { x with rho := d.tb.at'.rate }

/-- A stamp is missing, or is not usable (R197). -/
def Mcs.missing (x : Mcs) : Mcs := { x with inRun := 0, missRun := x.missRun + 1, fbMissed := satInc x.fbMissed 0xFFFF }

/-- The feedback pad's stamp. -/
def fbStamp (d : Dev) (n : Nat) : Option Stamp := sget (fun _ => none) d.fb (d.rf (.mcs n) 0x084 3 0)

/-- Stamp `t` is measured, before the discipline follows the ramp (R195, R196). -/
def Mcs.measured (d : Dev) (n : Nat) (t : Stamp) (x : Mcs) : Mcs :=
  let phi := discPhi d n t
  let st := if x.disc = 4 then 1 else x.disc
  let y0 : Mcs := { x with taken := some t.ec, phi := phi, missRun := 0, disc := st }
  let y := if (st = 1 ∨ st = 2) ∧ x.rampSt = 0 then discLoop d n y0 phi else y0
  let inside := inPs phi (d.rf (.mcs n) 0x090 15 0)
  let out := st == 2 && !inPs phi (d.rf (.mcs n) 0x090 31 16)
  { y with disc := if out then 1 else st, inRun := if st = 1 && inside then x.inRun + 1 else 0, aligned := if out then y.aligned &&& keepFed d n else y.aligned }

/-- The stamp is of this millisecond and not yet taken. -/
def freshStamp (r : Root) (x : Mcs) (t : Stamp) : Bool := decide (r.ec < t.ec + secEC / 500) && x.taken != some t.ec

/-- A stamp in PHASE mode takes the discipline out of ALIGNED. -/
def Mcs.strays (d : Dev) (n : Nat) (t : Stamp) (x : Mcs) : Bool :=
  (if x.disc = 4 then 1 else x.disc) == 2 && !inPs (discPhi d n t) (d.rf (.mcs n) 0x090 31 16)

/-- An interval in PHASE mode, by the output fed back and the stamp to use; `x` is the synthesizer with AT's RATE read, on the device `e`. -/
def discPhase (r : Root) (n : Nat) (d e : Dev) (x : Mcs) : Option Nat → Option Stamp → Dev
  | some _, some t =>
    if t.valid && d.sameEra t then
      discSettle n (monTake r 6 n true (discPhi d n t) (raiseIf (x.strays d n t) r (164 + 8 * n) (e.setMcs n (x.measured d n t))))
    else e.setMcs n { x.missing with taken := some t.ec }
  | none, _ => e.setMcs n { x.missing with refuse := 6 }
  | some _, none => e.setMcs n x.missing

/-- The stamp is of this millisecond and not yet taken. -/
def freshIn (r : Root) (x : Mcs) (s : Option Stamp) : Bool :=
  match s with
  | some t => freshStamp r x t
  | none => false

theorem discInterval_eq (r : Root) (n : Nat) (d : Dev) : discInterval r n d =
    let e := d.setMcs n ((d.mcsn n).rated d)
    let x := e.mcsn n
    if x.disc = 0 then e else discPhase r n d e x (fbOutput d n) (if freshIn r x (fbStamp d n) then fbStamp d n else none) := rfl

section
variable {r : Root} {n : Nat} {d : Dev} {z : Stamp}

theorem discInterval_off (h : (d.mcsn n).disc = 0) : (discInterval r n d).mcsn = update d.mcsn n ((d.mcsn n).rated d) := by
  rw [discInterval_eq]
  dsimp only
  rw [mcsn_setMcs, Function.update_self, if_pos (show ((d.mcsn n).rated d).disc = 0 from h), mcsn_setMcs]

theorem discInterval_on (h : (d.mcsn n).disc ≠ 0) : discInterval r n d =
    discPhase r n d (d.setMcs n ((d.mcsn n).rated d)) ((d.mcsn n).rated d) (fbOutput d n)
      (if freshIn r ((d.mcsn n).rated d) (fbStamp d n) then fbStamp d n else none) := by
  rw [discInterval_eq]
  dsimp only
  rw [mcsn_setMcs, Function.update_self, if_neg (show ((d.mcsn n).rated d).disc ≠ 0 from h)]

/-- A second update of synthesizer `n` covers the first. -/
theorem mcsn_setMcs_setMcs (x y : Mcs) : ((d.setMcs n x).setMcs n y).mcsn = update d.mcsn n y := by
  rw [mcsn_setMcs, mcsn_setMcs, Function.update_idem]

theorem discInterval_unfed (h : (d.mcsn n).disc ≠ 0) (hf : fbOutput d n = none) :
    (discInterval r n d).mcsn = update d.mcsn n { ((d.mcsn n).rated d).missing with refuse := 6 } := by
  rw [discInterval_on h, hf]
  exact mcsn_setMcs_setMcs ..

theorem discInterval_stale (h : (d.mcsn n).disc ≠ 0) (hf : (fbOutput d n).isSome = true) (hz : freshIn r ((d.mcsn n).rated d) (fbStamp d n) = false) :
    (discInterval r n d).mcsn = update d.mcsn n ((d.mcsn n).rated d).missing := by
  obtain ⟨k, hk⟩ := Option.isSome_iff_exists.mp hf
  rw [discInterval_on h, hk, hz]
  exact mcsn_setMcs_setMcs ..

theorem discInterval_fresh (h : (d.mcsn n).disc ≠ 0) (hf : (fbOutput d n).isSome = true) (hz : fbStamp d n = some z)
    (hfresh : freshStamp r ((d.mcsn n).rated d) z = true) : ∃ k, discInterval r n d =
      discPhase r n d (d.setMcs n ((d.mcsn n).rated d)) ((d.mcsn n).rated d) (some k) (some z) := by
  obtain ⟨k, hk⟩ := Option.isSome_iff_exists.mp hf
  have hin : freshIn r ((d.mcsn n).rated d) (some z) = true := hfresh
  exact ⟨k, by rw [discInterval_on h, hk, hz, hin, if_pos rfl]⟩

theorem discInterval_unusable (h : (d.mcsn n).disc ≠ 0) (hf : (fbOutput d n).isSome = true) (hz : fbStamp d n = some z)
    (hfresh : freshStamp r ((d.mcsn n).rated d) z = true) (hbad : z.valid = false ∨ d.sameEra z = false) :
    (discInterval r n d).mcsn = update d.mcsn n { ((d.mcsn n).rated d).missing with taken := some z.ec } := by
  obtain ⟨k, hk⟩ := discInterval_fresh h hf hz hfresh
  have hand : ¬(z.valid && d.sameEra z) = true := by
    rcases hbad with hb | hb
    all_goals simp [hb]
  rw [hk, discPhase, if_neg hand]
  exact mcsn_setMcs_setMcs ..

theorem discInterval_measures (h : (d.mcsn n).disc ≠ 0) (hf : (fbOutput d n).isSome = true) (hz : fbStamp d n = some z)
    (hfresh : freshStamp r ((d.mcsn n).rated d) z = true) (hvalid : z.valid = true) (hera : d.sameEra z = true) :
    (discInterval r n d).mcsn = update d.mcsn n (((d.mcsn n).rated d).measured d n z).settled := by
  obtain ⟨k, hk⟩ := discInterval_fresh h hf hz hfresh
  have hmon : ∀ (e : Dev) a b c f, (monTake r a b c f e).mcsn = e.mcsn := fun e _ _ _ _ => mcsn_of (of_monTake (.of (by decide)) ..)
  rw [hk, discPhase, hvalid, hera, if_pos (by rfl), mcsn_discSettle, hmon, mcsn_raiseIf, mcsn_setMcs_setMcs, Function.update_self, Function.update_idem]

end

/-! ### A stamp measured (R195, R196) -/

section
variable {n : Nat} {d : Dev} {z : Stamp} {x : Mcs}

/-- What a measured stamp leaves of the loop, and what it makes of the discipline state and of OUT_ALIGNED. -/
structure Mcs.Measured (d : Dev) (n : Nat) (z : Stamp) (x y : Mcs) : Prop where
  st : y.st = x.st
  phi : y.phi = discPhi d n z
  taken : y.taken = some z.ec
  missRun : y.missRun = 0
  fbMissed : y.fbMissed = x.fbMissed
  clamped : x.disc ≠ 3 → x.rampSt = 0 → y.u.natAbs ≤ discClamp d n
  held : x.disc = 3 ∨ x.rampSt ≠ 0 → y.u = x.u ∧ y.i = x.i
  aligned : x.disc = 2 → x.rampSt = 0 →
    if inPs (discPhi d n z) (d.rf (.mcs n) 0x090 31 16) then y.disc = 2 ∧ y.aligned = x.aligned else y.disc = 1 ∧ y.aligned = x.aligned &&& keepFed d n
  fedAgain : x.disc = 4 → y.disc = if x.rampSt = 0 then 1 else 3
  pulling : x.disc = 1 → x.rampSt = 0 → y.disc = 1 ∧ y.inRun = if inPs (discPhi d n z) (d.rf (.mcs n) 0x090 15 0) then x.inRun + 1 else 0

/-- A stamp measured sets the loop by whether it runs, and then the state by the windows. -/
theorem Mcs.measured_eq (d : Dev) (n : Nat) (z : Stamp) (h1 : 1 ≤ x.disc) (h4 : x.disc ≤ 4) : ∃ i u,
    (x.disc ≠ 3 → x.rampSt = 0 → u.natAbs ≤ discClamp d n) ∧ (x.disc = 3 ∨ x.rampSt ≠ 0 → u = x.u ∧ i = x.i) ∧
    x.measured d n z =
      { x with taken := some z.ec, phi := discPhi d n z, missRun := 0, i := i, u := u,
               disc := if x.strays d n z then 1 else if x.disc = 4 then 1 else x.disc,
               inRun := if (if x.disc = 4 then 1 else x.disc) = 1 && inPs (discPhi d n z) (d.rf (.mcs n) 0x090 15 0) then x.inRun + 1 else 0,
               aligned := if x.strays d n z then x.aligned &&& keepFed d n else x.aligned } := by
  unfold Mcs.measured Mcs.strays
  dsimp only
  by_cases hloop : ((if x.disc = 4 then 1 else x.disc) = 1 ∨ (if x.disc = 4 then 1 else x.disc) = 2) ∧ x.rampSt = 0
  · obtain ⟨i, u, he, hu⟩ := discLoop_eq d n { x with taken := some z.ec, phi := discPhi d n z, missRun := 0, disc := if x.disc = 4 then 1 else x.disc }
      (discPhi d n z)
    rw [if_pos hloop, he]
    obtain ⟨hdisc, hramp⟩ := hloop
    refine ⟨i, u, fun _ _ => hu, fun hheld => ?_, rfl⟩
    rcases hheld with h3 | hr
    · simp [h3] at hdisc
    · exact absurd hramp hr
  · rw [if_neg hloop]
    refine ⟨x.i, x.u, fun h3 hramp => absurd ⟨?_, hramp⟩ hloop, fun _ => ⟨rfl, rfl⟩, rfl⟩
    split <;> omega

theorem Mcs.measured_settled (h1 : 1 ≤ x.disc) (h4 : x.disc ≤ 4) : x.Measured d n z (x.measured d n z).settled := by
  obtain ⟨i, u, hclamp, hheld, he⟩ := Mcs.measured_eq d n z h1 h4
  have hdisc : (x.measured d n z).disc = if x.strays d n z then 1 else if x.disc = 4 then 1 else x.disc := by rw [he]
  have hinRun : (x.measured d n z).inRun =
      if (if x.disc = 4 then 1 else x.disc) = 1 && inPs (discPhi d n z) (d.rf (.mcs n) 0x090 15 0) then x.inRun + 1 else 0 := by rw [he]
  have haligned : (x.measured d n z).settled.aligned = if x.strays d n z then x.aligned &&& keepFed d n else x.aligned := by rw [Mcs.settled_eq, he]
  have hramp : (x.measured d n z).rampSt = x.rampSt := by rw [he]
  have hstill : (x.measured d n z).disc = 1 ∨ (x.measured d n z).disc = 2 → x.rampSt = 0 → (x.measured d n z).settled = x.measured d n z :=
    fun hd h0 => by
      unfold Mcs.settled
      rw [hramp, if_neg (fun hc => hc.2 h0), if_neg (fun hc => by omega)]
  refine ⟨?_, ?_, ?_, ?_, ?_, fun h3 h0 => ?_, fun hh => ?_, fun h2 h0 => ?_, fun hd => ?_, fun hd h0 => ?_⟩
  iterate 5 rw [Mcs.settled_eq, he]
  · rw [Mcs.settled_eq, he]
    exact hclamp h3 h0
  · rw [Mcs.settled_eq, he]
    exact hheld hh
  · have hstrays : x.strays d n z = !inPs (discPhi d n z) (d.rf (.mcs n) 0x090 31 16) := by simp [Mcs.strays, h2]
    rw [hstrays] at hdisc haligned
    cases hin : inPs (discPhi d n z) (d.rf (.mcs n) 0x090 31 16) with
    | true =>
      rw [hin] at hdisc haligned
      have hd2 : (x.measured d n z).disc = 2 := by simpa [h2] using hdisc
      rw [haligned, hstill (.inr hd2) h0]
      exact ⟨hd2, rfl⟩
    | false =>
      rw [hin] at hdisc haligned
      have hd1 : (x.measured d n z).disc = 1 := by simpa using hdisc
      rw [haligned, hstill (.inl hd1) h0]
      exact ⟨hd1, rfl⟩
  · have hd1 : (x.measured d n z).disc = 1 := by simpa [hd] using hdisc
    by_cases h0 : x.rampSt = 0
    · rw [hstill (.inl hd1) h0, hd1, if_pos h0]
    · unfold Mcs.settled
      rw [if_pos ⟨.inl hd1, hramp ▸ h0⟩, if_neg h0]
  · have hd1 : (x.measured d n z).disc = 1 := by simpa [hd] using hdisc
    rw [hstill (.inl hd1) h0]
    exact ⟨hd1, by simpa [hd] using hinRun⟩

end

end Sys2Proof.Machine

/-! The obligation on a synthesizer's discipline (R194 to R197). -/

namespace Sys2Proof.Machine

open Function (update)

/-- The command keeps what `McsFrame` keeps, and the synthesizer's state. -/
def DiscFrame (n : Nat) (s t : State) : Prop :=
  DevOnly s t ∧ (∀ m, m ≠ n → t.dev.mcsn m = s.dev.mcsn m) ∧ t.dev.eff = s.dev.eff ∧ (t.dev.mcsn n).st = (s.dev.mcsn n).st

theorem McsMoves.disc {n : Nat} {s t : State} {z : Mcs} (hm : McsMoves n s t z) (hst : z.st = (s.dev.mcsn n).st) : DiscFrame n s t := by
  obtain ⟨honly, hothers, heff⟩ := hm.frame
  exact ⟨honly, hothers, heff, hm.self ▸ hst⟩

/-- A stamp is missed: the run of missed stamps and FB_MISSED count it, the run inside the window ends, and the loop holds. -/
def Mcs.Missed (x y : Mcs) : Prop :=
  y.missRun = x.missRun + 1 ∧ y.inRun = 0 ∧ y.aligned = x.aligned ∧ y.fbMissed = satInc x.fbMissed 0xFFFF ∧ y.u = x.u ∧ y.disc = x.disc

theorem McsMoves.missed {n : Nat} {s t : State} {z : Mcs} (hm : McsMoves n s t z) (hst : z.st = (s.dev.mcsn n).st) (hz : (s.dev.mcsn n).Missed z) :
    DiscFrame n s t ∧ (s.dev.mcsn n).Missed (t.dev.mcsn n) := ⟨hm.disc hst, by rwa [hm.self]⟩

/-- An interval reads AT's RATE and misses its stamp. -/
theorem Mcs.rated_missing (d : Dev) (x : Mcs) : x.Missed (x.rated d).missing := ⟨rfl, rfl, rfl, rfl, rfl, rfl⟩

section
variable {s : State} {n : Fin 8} (hon : s.root.coreOn = true)
include hon

/-- MCS_DISC_INTERVAL makes `y` of the synthesizer, whatever the page's error bits are. -/
theorem discInterval_completes {y : Mcs}
    (h : ∀ pg ln, (discInterval s.root n { s.dev with page := pg, lines := ln }).mcsn = update s.dev.mcsn n y) :
    Completes (.mcsDiscInterval n) s fun t => McsMoves n s t y :=
  completes_mcsUse (f := fun r => discInterval r n) hon (show _ = execMcsDiscInterval n s from rfl) fun pg ln =>
    ⟨devOnly_dev .., h pg ln, eff_of (of_discInterval (.of (by decide)) ..)⟩

theorem alignAchieved_completes (h1 : (s.dev.mcsn n).disc = 1) (h16 : 16 ≤ (s.dev.mcsn n).inRun) : Completes (.mcsAlignAchieved n) s fun t =>
    McsMoves n s t { s.dev.mcsn n with disc := 2, inRun := 0, aligned := (s.dev.mcsn n).aligned ||| keepFed s.dev n } := by
  refine completes_mcsUse (f := fun r => alignAchieved r n) hon (show _ = execMcsAlignAchieved n s from rfl) fun pg ln =>
    ⟨devOnly_dev .., ?_, eff_of (of_alignAchieved (.of (by decide)) ..)⟩
  show (alignAchieved s.root n { s.dev with page := pg, lines := ln }).mcsn = _
  unfold alignAchieved
  dsimp only
  rw [if_pos ⟨h1, h16⟩, mcsn_mcsEvt, mcsn_setMcs]
  rfl

theorem noFeedback_completes (h1 : 1 ≤ (s.dev.mcsn n).disc) (h3 : (s.dev.mcsn n).disc ≤ 3) (h16 : 16 ≤ (s.dev.mcsn n).missRun) :
    Completes (.mcsNoFeedback n) s fun t => McsMoves n s t { s.dev.mcsn n with disc := 4, inRun := 0 } := by
  refine completes_onDev hon (show _ = execMcsNoFeedback n s from rfl) ⟨devOnly_dev .., ?_, eff_of (of_noFeedback (.of (by decide)) ..)⟩
  show (noFeedback s.root n s.dev).mcsn = _
  unfold noFeedback
  dsimp only
  rw [if_pos ⟨h1, h3, h16⟩, mcsn_mcsEvt, mcsn_setMcs]

/-- A stamp that is not usable counts as missed, whether the interval takes it or finds it stale. -/
theorem discInterval_bad {z : Stamp} (h : (s.dev.mcsn n).disc ≠ 0) (hf : (fbOutput s.dev n).isSome = true) (hz : fbStamp s.dev n = some z)
    (hbad : z.valid = false ∨ s.dev.sameEra z = false) :
    Completes (.mcsDiscInterval n) s fun t => DiscFrame n s t ∧ (s.dev.mcsn n).Missed (t.dev.mcsn n) := by
  cases hfresh : freshStamp s.root ((s.dev.mcsn n).rated s.dev) z with
  | true =>
    exact (discInterval_completes hon (y := { ((s.dev.mcsn n).rated s.dev).missing with taken := some z.ec }) fun pg ln =>
      discInterval_unusable (d := { s.dev with page := pg, lines := ln }) h hf hz hfresh hbad).imp
      fun t hm => hm.missed rfl (Mcs.rated_missing ..)
  | false =>
    have hstale : freshIn s.root ((s.dev.mcsn n).rated s.dev) (fbStamp s.dev n) = false := by rw [hz]; exact hfresh
    exact (discInterval_completes hon (y := ((s.dev.mcsn n).rated s.dev).missing) fun pg ln =>
      discInterval_stale (d := { s.dev with page := pg, lines := ln }) h hf hstale).imp
      fun t hm => hm.missed rfl (Mcs.rated_missing ..)

theorem discInterval_good {z : Stamp} (h1 : 1 ≤ (s.dev.mcsn n).disc) (h4 : (s.dev.mcsn n).disc ≤ 4) (hf : (fbOutput s.dev n).isSome = true)
    (hz : fbStamp s.dev n = some z) (hec : s.root.ec < z.ec + secEC / 500) (htaken : (s.dev.mcsn n).taken ≠ some z.ec) (hvalid : z.valid = true)
    (hera : s.dev.sameEra z = true) :
    Completes (.mcsDiscInterval n) s fun t => DiscFrame n s t ∧ ((s.dev.mcsn n).rated s.dev).Measured s.dev n z (t.dev.mcsn n) := by
  have hfresh : freshStamp s.root ((s.dev.mcsn n).rated s.dev) z = true := by
    rw [freshStamp, decide_eq_true hec, Bool.true_and, bne_iff_ne]
    exact htaken
  have hy := Mcs.measured_settled (d := s.dev) (n := n) (z := z) (x := (s.dev.mcsn n).rated s.dev) h1 h4
  refine (discInterval_completes hon (y := (((s.dev.mcsn n).rated s.dev).measured s.dev n z).settled) fun pg ln =>
    discInterval_measures (d := { s.dev with page := pg, lines := ln }) (by show (s.dev.mcsn n).disc ≠ 0; omega) hf hz hfresh hvalid hera).imp
    fun t hm => ⟨hm.disc hy.st, hm.self ▸ hy⟩

end

/-- Settles O40: each interval's case by the stamp it finds, as an update of the synthesizer. -/
theorem mcsDiscipline : Obligations.McsDiscipline := by
  intro s n hon d x y frame stamp missed clamp
  refine ⟨fun h => ?_, fun h hf => ?_, fun h hf hz => ?_, fun z h hf hz hbad => discInterval_bad hon h hf hz hbad, fun z h1 h4 hf hz hec ht hv he => ?_,
    fun h1 h16 => ?_, fun h1 h3 h16 => ?_⟩
  · exact (discInterval_completes hon (y := (s.dev.mcsn n).rated s.dev) fun pg ln =>
      discInterval_off (d := { s.dev with page := pg, lines := ln }) h).imp
      fun t hm => ⟨hm.disc rfl, hm.self⟩
  · exact (discInterval_completes hon (y := { ((s.dev.mcsn n).rated s.dev).missing with refuse := 6 }) fun pg ln =>
      discInterval_unfed (d := { s.dev with page := pg, lines := ln }) h hf).imp
      fun t hm => by
        obtain ⟨hframe, hmissed⟩ := hm.missed rfl (Mcs.rated_missing ..)
        exact ⟨hframe, hmissed, by show (t.dev.mcsn n).refuse = 6; rw [hm.self]⟩
  · have hstale : freshIn s.root ((s.dev.mcsn n).rated s.dev) (fbStamp s.dev n) = false := by
      rw [show fbStamp s.dev n = none from hz]
      rfl
    exact (discInterval_completes hon (y := ((s.dev.mcsn n).rated s.dev).missing) fun pg ln =>
      discInterval_stale (d := { s.dev with page := pg, lines := ln }) h hf hstale).imp
      fun t hm => hm.missed rfl (Mcs.rated_missing ..)
  · exact (discInterval_good hon h1 h4 hf hz hec ht hv he).imp fun t ⟨hframe, hy⟩ =>
      ⟨hframe, hy.phi, hy.taken, hy.missRun, hy.fbMissed, hy.clamped, hy.held, hy.aligned, hy.fedAgain, hy.pulling⟩
  · exact (alignAchieved_completes hon h1 h16).imp fun t hm => ⟨hm.disc rfl, hm.self⟩
  · exact (noFeedback_completes hon h1 h3 h16).imp fun t hm => ⟨hm.disc rfl, hm.self⟩

end Sys2Proof.Machine

/-! The obligation on the strobes of MCSn.CMD and the MCLKO pad select (R182, R188, R189, R192, R193). -/

namespace Sys2Proof.Machine

open Function (update)

/-! ### MCSn.CMD by its strobe -/

section
variable (r : Root) (n : Nat) (d : Dev)

theorem mcsCmd_start : mcsCmd r n 1 d = rampStart r n d := rfl

theorem mcsCmd_stop : mcsCmd r n 2 d = rampStop r n d := rfl

theorem mcsCmd_return : mcsCmd r n 4 d = if (d.mcsn n).st = 3 then bypassNone r n d else d := by
  by_cases h : (d.mcsn n).st = 3
  · rw [if_pos h, show mcsCmd r n 4 d = if (d.mcsn n).st == 3 then bypassNone r n d else d from rfl, h]
    rfl
  · rw [if_neg h, show mcsCmd r n 4 d = if (d.mcsn n).st == 3 then bypassNone r n d else d from rfl, beq_false_of_ne h]
    rfl

theorem mcsCmd_realign : mcsCmd r n 8 d =
    if (d.mcsn n).disc = 2 then d.setMcs n { d.mcsn n with aligned := mcsOuts d n } else mcsRefuse r n 9 d := rfl

/-- A strobe changes the synthesizers and what it signals, beside what its uses of the page report. -/
theorem mcsCmd_used (w : Word) (pg ln) : mcsCmd r n w { d with page := pg, lines := ln } =
    let e := mcsCmd r n w { d with page := pg, lines := ln }
    { d with mcs := e.mcs, evc := e.evc, page := e.page, lines := e.lines } :=
  Part.ext fun p => by
    cases p
    case mcs | evc | page | lines => rfl
    all_goals exact Part.same_iff.mpr ((of_mcsCmd (.of (by decide)) ..).trans rfl)

end

/-! ### RAMP_START (R188) -/

/-- The profile that RAMP_START takes: the offset and the length of each segment. -/
def rampProf (d : Dev) (n : Nat) : List (Int × Nat) :=
  (List.range (d.rf (.mcs n) 0x0B0 3 0 + 1)).map fun i =>
    (sgn (d.reg (.mcs n) (0x100 + 8 * i)).toNat 32, max 1 (d.rf (.mcs n) (0x104 + 8 * i) 23 0))

/-- The highest offset change in a segment of `len` microseconds. -/
def rampSlope (len : Nat) : Nat := 200000 * rUnits * len

/-- The band keeps an offset of the frequency. -/
def rampKept (d : Dev) (n : Nat) (x : Mcs) (off : Int) : Bool :=
  inBand x.lim ((mcsN d n : Int) * (if mcsMode d n = 0 then 2 ^ 48 else 2 ^ 48 + x.rho) * (1000000000 + off)).toNat (2 ^ 48 * 1000000000)

/-- RAMP_START of `prof` fits: the synthesizer is LOCKED, no segment is too steep, each offset stays in the band, and END 1 ends at 0. -/
def RampFits (d : Dev) (n : Nat) (x : Mcs) (prof : List (Int × Nat)) : Prop :=
  x.st = 3 ∧ (∀ q ∈ (x.r :: prof.map fun p => p.1 * rUnits).zip prof, (q.2.1 * rUnits - q.1).natAbs ≤ rampSlope q.2.2) ∧
    (∀ p ∈ prof, rampKept d n x p.1 = true) ∧ (d.rf (.mcs n) 0x0B0 9 8 = 1 → prof.getLast?.map (·.1) = some 0)

/-- The model's check of RAMP_START. -/
def rampBad (d : Dev) (n : Nat) (x : Mcs) (prof : List (Int × Nat)) : Bool :=
  x.st ≠ 3 || ((x.r :: prof.map fun p => p.1 * rUnits).zip prof).any (fun q => decide (rampSlope q.2.2 < (q.2.1 * rUnits - q.1).natAbs)) ||
    prof.any (fun p => !rampKept d n x p.1) || (d.rf (.mcs n) 0x0B0 9 8 == 1 && (prof.getLast?.map (·.1)) != some 0)

theorem rampStart_eq (r : Root) (n : Nat) (d : Dev) : rampStart r n d =
    if rampBad d n (d.mcsn n) (rampProf d n) then mcsRefuse r n 7 d
    else if (d.mcsn n).rampSt = 1 then mcsRefuse r n 8 d
    else discSettle n (d.setMcs n { d.mcsn n with rampSt := 1, seg := 0, elapsed := 0, from' := (d.mcsn n).r, prof := rampProf d n,
                                                  endAct := d.rf (.mcs n) 0x0B0 9 8 }) := rfl

theorem rampBad_iff {d : Dev} {n : Nat} {x : Mcs} {prof : List (Int × Nat)} : rampBad d n x prof = false ↔ RampFits d n x prof := by
  have hsteep : ((x.r :: prof.map fun p => p.1 * rUnits).zip prof).any (fun q => decide (rampSlope q.2.2 < (q.2.1 * rUnits - q.1).natAbs)) = false ↔
      ∀ q ∈ (x.r :: prof.map fun p => p.1 * rUnits).zip prof, (q.2.1 * rUnits - q.1).natAbs ≤ rampSlope q.2.2 := by
    simp only [List.any_eq_false, decide_eq_true_eq, Nat.not_lt]
  have hout : prof.any (fun p => !rampKept d n x p.1) = false ↔ ∀ p ∈ prof, rampKept d n x p.1 = true := by
    simp only [List.any_eq_false, Bool.not_eq_true', Bool.not_eq_false]
  have hend : (d.rf (.mcs n) 0x0B0 9 8 == 1 && (prof.getLast?.map (·.1)) != some 0) = false ↔
      (d.rf (.mcs n) 0x0B0 9 8 = 1 → prof.getLast?.map (·.1) = some 0) := by
    rw [Bool.and_eq_false_imp, beq_iff_eq, bne_eq_false_iff_eq]
  rw [rampBad, Bool.or_eq_false_iff, Bool.or_eq_false_iff, Bool.or_eq_false_iff, hsteep, hout, hend, decide_eq_false_iff_not, not_not]
  rw [RampFits, and_assoc, and_assoc]

section
variable {r : Root} {n : Nat} {d : Dev}

theorem mcsn_rampStart_unfit (h : ¬RampFits d n (d.mcsn n) (rampProf d n)) :
    (rampStart r n d).mcsn = update d.mcsn n { d.mcsn n with refuse := 7 } := by
  rw [← rampBad_iff, Bool.not_eq_false] at h
  rw [rampStart_eq, if_pos h, mcsn_mcsRefuse]

theorem mcsn_rampStart_running (h : RampFits d n (d.mcsn n) (rampProf d n)) (hrun : (d.mcsn n).rampSt = 1) :
    (rampStart r n d).mcsn = update d.mcsn n { d.mcsn n with refuse := 8 } := by
  rw [rampStart_eq, rampBad_iff.mpr h, if_neg Bool.false_ne_true, if_pos hrun, mcsn_mcsRefuse]

theorem mcsn_rampStart_starts (h : RampFits d n (d.mcsn n) (rampProf d n)) (hrun : (d.mcsn n).rampSt ≠ 1) :
    (rampStart r n d).mcsn = update d.mcsn n { d.mcsn n with rampSt := 1, seg := 0, elapsed := 0, from' := (d.mcsn n).r, prof := rampProf d n,
                                                             endAct := d.rf (.mcs n) 0x0B0 9 8 }.settled := by
  rw [rampStart_eq, rampBad_iff.mpr h, if_neg Bool.false_ne_true, if_neg hrun, mcsn_discSettle, mcsn_setMcs, Function.update_self, Function.update_idem]

end

/-- A synthesizer whose discipline state has followed the ramp differs in that state and its run alone. -/
theorem Mcs.eq_of_settled {y z : Mcs} (h : y = z.settled) : y = { z with disc := y.disc, inRun := y.inRun } := by
  subst h
  exact z.settled_eq

/-! ### The strobes -/

/-- A strobe of MCSn.CMD changes synthesizer `n` to `z`, and beside it what it signals and what its uses of the page report. -/
def Strobes (n : Nat) (s t : State) (z : Mcs) : Prop := DevOnly s t ∧ t.dev.mcsn = update s.dev.mcsn n z ∧
  t.dev = { s.dev with mcs := t.dev.mcs, evc := t.dev.evc, page := t.dev.page, lines := t.dev.lines }

theorem Strobes.frame {n : Nat} {s t : State} {z : Mcs} (h : Strobes n s t z) : (DevOnly s t ∧ (∀ m, m ≠ n → t.dev.mcsn m = s.dev.mcsn m) ∧
    t.dev = { s.dev with mcs := t.dev.mcs, evc := t.dev.evc, page := t.dev.page, lines := t.dev.lines }) ∧ t.dev.mcsn n = z := by
  obtain ⟨honly, hmcs, hdev⟩ := h
  refine ⟨⟨honly, fun m hm => ?_, hdev⟩, ?_⟩
  · rw [hmcs, Function.update_of_ne hm]
  · rw [hmcs, Function.update_self]

theorem mcs_cmd (n : Nat) : (Blk.mcs n).reg 0x05C = some (r1 0x05C .wo) := by simp [Blk.reg, Blk.regs, regsMcs, r1, rN, grp, Reg.has]

theorem completes_mcsCmd {i : Instr} {s : State} {g : Gal} {n : Fin 8} {w : Word} {z : Mcs} (hi : exec i s = onReg g (.mcs n) 0x05C w s)
    (hw : canWrite s g (.mcs n) 0x05C w = true)
    (h : ∀ pg ln, (mcsCmd s.root n w { s.dev with page := pg, lines := ln }).mcsn = update s.dev.mcsn n z) : Completes i s fun t => Strobes n s t z := by
  have hx : (Blk.mcs n).reg 0x05C = some (r1 0x05C .wo) := mcs_cmd n
  have hstrobe : regWrite s.root s.mem g (.mcs n) 0x05C (r1 0x05C .wo) w s.dev = eff (mcsCmd s.root n w (pageUse s.root (.mcs n) (actUses (.mcs n) 0x05C) s.dev)) := by
    rfl
  refine ⟨_, hi.trans (onReg_can s g (.mcs n) 0x05C w _ (mcs_mem n) (by decide) hx hw), ?_⟩
  rw [hstrobe, pageUse_eq]
  refine ⟨⟨rfl, rfl, rfl⟩, h _ _, ?_⟩
  exact mcsCmd_used ..

section
variable {s : State} {g : Gal} {n : Fin 8}

theorem rampStart_unfit (hw : canWrite s g (.mcs n) 0x05C 1 = true) (h : ¬RampFits s.dev n (s.dev.mcsn n) (rampProf s.dev n)) :
    Completes (.mcsRampStart g n) s fun t => Strobes n s t { s.dev.mcsn n with refuse := 7 } :=
  completes_mcsCmd (show _ = execMcsRampStart g n s from rfl) hw fun pg ln => by
    rw [mcsCmd_start]
    exact mcsn_rampStart_unfit (d := { s.dev with page := pg, lines := ln }) h

theorem rampStart_running (hw : canWrite s g (.mcs n) 0x05C 1 = true) (h : RampFits s.dev n (s.dev.mcsn n) (rampProf s.dev n))
    (hrun : (s.dev.mcsn n).rampSt = 1) : Completes (.mcsRampStart g n) s fun t => Strobes n s t { s.dev.mcsn n with refuse := 8 } :=
  completes_mcsCmd (show _ = execMcsRampStart g n s from rfl) hw fun pg ln => by
    rw [mcsCmd_start]
    exact mcsn_rampStart_running (d := { s.dev with page := pg, lines := ln }) h hrun

theorem rampStart_starts (hw : canWrite s g (.mcs n) 0x05C 1 = true) (h : RampFits s.dev n (s.dev.mcsn n) (rampProf s.dev n))
    (hrun : (s.dev.mcsn n).rampSt ≠ 1) : Completes (.mcsRampStart g n) s fun t => Strobes n s t
      { s.dev.mcsn n with rampSt := 1, seg := 0, elapsed := 0, from' := (s.dev.mcsn n).r, prof := rampProf s.dev n,
                          endAct := s.dev.rf (.mcs n) 0x0B0 9 8 }.settled :=
  completes_mcsCmd (show _ = execMcsRampStart g n s from rfl) hw fun pg ln => by
    rw [mcsCmd_start]
    exact mcsn_rampStart_starts (d := { s.dev with page := pg, lines := ln }) h hrun

theorem rampStop_completes (hw : canWrite s g (.mcs n) 0x05C 2 = true) :
    Completes (.mcsRampStop g n) s fun t => Strobes n s t (s.dev.mcsn n).rampHeld :=
  completes_mcsCmd (show _ = execMcsRampStop g n s from rfl) hw fun pg ln => by
    rw [mcsCmd_stop]
    exact mcsn_rampStop s.root n { s.dev with page := pg, lines := ln }

theorem return_completes (hw : canWrite s g (.mcs n) 0x05C 4 = true) : Completes (.mcsReturn g n) s fun t => Strobes n s t
    { s.dev.mcsn n with bypass := if (s.dev.mcsn n).st = 3 then 0 else (s.dev.mcsn n).bypass } := by
  refine completes_mcsCmd (show _ = execMcsReturn g n s from rfl) hw fun pg ln => ?_
  rw [mcsCmd_return]
  by_cases h3 : (s.dev.mcsn n).st = 3
  · rw [if_pos (show (Dev.mcsn { s.dev with page := pg, lines := ln } n).st = 3 from h3), if_pos h3, mcsn_bypassNone]
    rfl
  · rw [if_neg (show (Dev.mcsn { s.dev with page := pg, lines := ln } n).st ≠ 3 from h3), if_neg h3]
    exact (Function.update_eq_self ..).symm

theorem realign_completes (hw : canWrite s g (.mcs n) 0x05C 8 = true) : Completes (.mcsRealign g n) s fun t => Strobes n s t
    (if (s.dev.mcsn n).disc = 2 then { s.dev.mcsn n with aligned := mcsOuts s.dev n } else { s.dev.mcsn n with refuse := 9 }) := by
  refine completes_mcsCmd (show _ = execMcsRealign g n s from rfl) hw fun pg ln => ?_
  rw [mcsCmd_realign]
  by_cases h2 : (s.dev.mcsn n).disc = 2
  · rw [if_pos (show (Dev.mcsn { s.dev with page := pg, lines := ln } n).disc = 2 from h2), if_pos h2, mcsn_setMcs]
    rfl
  · rw [if_neg (show (Dev.mcsn { s.dev with page := pg, lines := ln } n).disc ≠ 2 from h2), if_neg h2, mcsn_mcsRefuse]
    rfl

end

/-! ### The MCLKO pads (R193) -/

theorem mcs_pad (n : Nat) (k : Fin 2) : (Blk.mcs n).reg (0x400 + 4 * k) = some (rN 0x400 4 2 .rw 0x3F) := by
  match k with
  | 0 | 1 => simp [Blk.reg, Blk.regs, regsMcs, r1, rN, grp, Reg.has]

theorem mclkoSelWrite_completes {s : State} {g : Gal} {n : Fin 8} {k : Fin 2} {w : Word} (hw : canWrite s g (.mcs n) (0x400 + 4 * k) w = true) :
    Completes (.mclkoSelWrite g n k w) s fun t => DevOnly s t ∧ t.dev.mcs = s.dev.mcs ∧ t.dev.eff = s.dev.eff ∧
      t.dev.reg (.mcs n) (0x400 + 4 * k) = w ∧
      mclkoSource t.root t.dev (2 * n + k) = if fld w 5 0 < 32 then outSource s.root s.dev (fld w 5 0 / 4) (fld w 5 0 % 4) else .low := by
  refine completes_onReg_rw (act := id) (show _ = execMclkoSelWrite g n k w s from rfl) (mcs_mem n) (by omega) (by omega) (mcs_pad n k) rfl (by simp) (by simp) rfl hw
    (fun d => rfl) fun pg ln => ?_
  have hreg : (s.dev.setReg (.mcs n) (0x400 + 4 * k) w).reg (.mcs n) (0x400 + 4 * k) = w := reg_setReg_self ..
  refine ⟨⟨rfl, rfl, rfl⟩, rfl, rfl, hreg, ?_⟩
  have hon : s.root.coreOn = true := by
    simp only [canWrite, Bool.and_eq_true] at hw
    obtain ⟨⟨hreach, -⟩, -⟩ := hw
    exact reaches_core hreach
  have hpage : (2 * n.val + k) / 2 = n := by omega
  have hpad : (2 * n.val + k) % 2 = k := by omega
  show mclkoSource s.root { s.dev.setReg (.mcs n) (0x400 + 4 * k) w with page := pg, lines := ln } (2 * n + k) = _
  have hsel : (Dev.rf { s.dev.setReg (.mcs n) (0x400 + 4 * k) w with page := pg, lines := ln } (.mcs n) (0x400 + 4 * k) 5 0) = fld w 5 0 :=
    congrArg (fld · 5 0) hreg
  rw [mclkoSource, hpage, hpad, hsel, hon, Bool.true_and]
  by_cases h32 : fld w 5 0 < 32
  · rw [if_pos (decide_eq_true h32), if_pos h32]
    rfl
  · rw [if_neg (by rwa [decide_eq_true_eq]), if_neg h32]

/-- Settles O39: each strobe is one operation on the synthesizer, and RAMP_START goes by its checks and by a ramp that runs. -/
theorem mcsCommands : Obligations.McsCommands := by
  intro s g n w d x y frame
  refine ⟨fun hw => ?_, fun hw => ?_, fun hw => (return_completes hw).imp fun t ht => ht.frame, fun hw => (realign_completes hw).imp fun t ht => ht.frame,
    fun k hw => mclkoSelWrite_completes hw⟩
  · by_cases hfit : RampFits d n x (rampProf d n)
    · by_cases hrun : x.rampSt = 1
      · refine (rampStart_running hw hfit hrun).imp fun t ht => ?_
        obtain ⟨hframe, hy⟩ := ht.frame
        exact ⟨hframe, fun _ h => absurd hrun h, fun _ _ => hy, fun h => absurd hfit h⟩
      · refine (rampStart_starts hw hfit hrun).imp fun t ht => ?_
        obtain ⟨hframe, hy⟩ := ht.frame
        exact ⟨hframe, fun _ _ => Mcs.eq_of_settled hy, fun _ h => absurd h hrun, fun h => absurd hfit h⟩
    · refine (rampStart_unfit hw hfit).imp fun t ht => ?_
      obtain ⟨hframe, hy⟩ := ht.frame
      exact ⟨hframe, fun h => absurd h hfit, fun h => absurd h hfit, fun _ => hy⟩
  · refine (rampStop_completes hw).imp fun t ht => ?_
    obtain ⟨hframe, hy⟩ := ht.frame
    refine ⟨hframe, fun hrun => ?_, fun hrun => hy.trans (if_neg hrun)⟩
    show (t.dev.mcsn n).rampSt = 2 ∧ (t.dev.mcsn n).r = (s.dev.mcsn n).r ∧ (t.dev.mcsn n).st = (s.dev.mcsn n).st
    rw [hy, Mcs.rampHeld_eq]
    exact ⟨if_pos hrun, rfl, rfl⟩

end Sys2Proof.Machine

/-! Synthesizers: the posted write of MCSn.CTRL as it takes effect (R180, R182, R196). -/

namespace Sys2Proof.Machine

open Function (update)

/-! ### DISC_MODE (R196) -/

/-- The discipline's state by DISC_MODE. -/
def Mcs.moded (mode : Nat) (x : Mcs) : Mcs :=
  if mode = 2 then (if x.disc = 0 then { x with disc := 1, inRun := 0, missRun := 0 }.settled else x)
  else { x with disc := 0, u := 0, i := 0, inRun := 0, missRun := 0 }

theorem Mcs.moded_eq (mode : Nat) (x : Mcs) : x.moded mode =
    { x with disc := (x.moded mode).disc, u := (x.moded mode).u, i := (x.moded mode).i, inRun := (x.moded mode).inRun, missRun := (x.moded mode).missRun } := by
  unfold Mcs.moded
  split
  · split
    · rw [Mcs.settled_eq]
    · rfl
  · rfl

theorem Mcs.moded_off {mode : Nat} (h : mode ≠ 2) (x : Mcs) : (x.moded mode).disc = 0 ∧ (x.moded mode).u = 0 ∧ (x.moded mode).i = 0 := by
  rw [Mcs.moded, if_neg h]
  exact ⟨rfl, rfl, rfl⟩

theorem Mcs.moded_phase {x : Mcs} (h : x.disc = 0) : (x.moded 2).disc = if x.rampSt = 0 then 1 else 3 := by
  rw [Mcs.moded, if_pos rfl, if_pos h, Mcs.settled]
  by_cases h0 : x.rampSt = 0
  · rw [if_neg (fun hc => hc.2 h0), if_neg (by simp), if_pos h0]
  · rw [if_pos ⟨.inl rfl, h0⟩, if_neg h0]

theorem Mcs.moded_same {x : Mcs} (h : x.disc ≠ 0) : x.moded 2 = x := by rw [Mcs.moded, if_pos rfl, if_neg h]

theorem Mcs.returned_eq (manual : Nat) (x : Mcs) : x.returned manual = { x with bypass := if x.st = 3 ∧ manual = 0 then 0 else x.bypass } := by
  unfold Mcs.returned
  split <;> rfl

/-- What CTRL leaves alone after EN has acted. -/
theorem Mcs.ctrl_eq (mode manual : Nat) (z : Mcs) : ∃ disc u i inRun missRun bypass, (z.moded mode).returned manual =
    { z with disc := disc, u := u, i := i, inRun := inRun, missRun := missRun, bypass := bypass } ∧ (z.st ≠ 3 → bypass = z.bypass) := by
  rw [Mcs.returned_eq, Mcs.moded_eq]
  exact ⟨_, _, _, _, _, _, rfl, fun h => if_neg fun hc => h hc.1⟩

/-! ### EN (R180) -/

/-- The counters and the refusal that EN clears. -/
def Mcs.cleared (x : Mcs) : Mcs := { x with unlocks := 0, bypasses := 0, fbMissed := 0, updRefused := 0, refuse := 0 }

/-- EN stops a synthesizer that runs. -/
def Mcs.stopping (x : Mcs) : Mcs := { x with st := 4, rampSt := 0, r := 0, unlocks := if x.st = 3 then satInc x.unlocks 0xFFFF else x.unlocks }

/-- A stop of a synthesizer that runs: its ramp ends, it leaves LOCKED, and its outputs go to bypass. -/
def enStop (r : Root) (n : Nat) (d : Dev) : Dev :=
  let x := d.mcsn n
  discSettle n (bypassAll r n (raiseIf (x.rampSt == 1) r (163 + 8 * n) (raiseIf (x.st == 3) r (160 + 8 * n) (d.setMcs n x.stopping))))

/-- EN of CTRL as it takes effect. -/
def enHook (r : Root) (n : Nat) (old new : Word) (d : Dev) : Dev :=
  let x := d.mcsn n
  if bitOf new 0 && !bitOf old 0 then
    let d0 := d.setMcs n x.cleared
    if x.st = 0 then mcsStart r n d0 else d0
  else if !bitOf new 0 && bitOf old 0 then
    if x.st = 5 then d.setMcs n { x with st := 0 }
    else if 1 ≤ x.st ∧ x.st ≤ 3 then enStop r n d
    else d
  else d

/-- DISC_MODE as it takes effect. -/
def modeHook (n mode : Nat) (d : Dev) : Dev :=
  let y := d.mcsn n
  if mode = 2 then (if y.disc = 0 then discSettle n (d.setMcs n { y with disc := 1, inRun := 0, missRun := 0 }) else d)
  else d.setMcs n { y with disc := 0, u := 0, i := 0, inRun := 0, missRun := 0 }

theorem mcsCtrlHook_eq (r : Root) (n : Nat) (old new : Word) (d : Dev) :
    mcsCtrlHook r n old new d = mcsReturnAuto r n (modeHook n (fld new 2 1) (enHook r n old new d)) := rfl

section
variable {r : Root} {n : Nat} {d : Dev} {old new : Word}

theorem mcsn_modeHook (mode : Nat) : (modeHook n mode d).mcsn = update d.mcsn n ((d.mcsn n).moded mode) := by
  unfold modeHook Mcs.moded
  dsimp only
  split
  · split
    · rw [mcsn_discSettle, mcsn_setMcs, Function.update_self, Function.update_idem]
    · rw [Function.update_eq_self]
  · exact mcsn_setMcs ..

/-- DISC_MODE and the return from bypass act on what EN has left. -/
theorem mcsn_mcsCtrlHook {z : Mcs} (h : (enHook r n old new d).mcsn = update d.mcsn n z) :
    ∃ manual, (mcsCtrlHook r n old new d).mcsn = update d.mcsn n ((z.moded (fld new 2 1)).returned manual) := by
  rw [mcsCtrlHook_eq, mcsn_mcsReturnAuto, mcsn_modeHook, h, Function.update_self, Function.update_idem, Function.update_self, Function.update_idem]
  exact ⟨_, rfl⟩

theorem enHook_same (h : bitOf new 0 = bitOf old 0) : enHook r n old new d = d := by
  unfold enHook
  cases hb : bitOf old 0 with
  | false => simp [h, hb]
  | true => simp [h, hb]

theorem enHook_rise (hnew : bitOf new 0 = true) (hold : bitOf old 0 = false) : enHook r n old new d =
    if (d.mcsn n).st = 0 then mcsStart r n (d.setMcs n (d.mcsn n).cleared) else d.setMcs n (d.mcsn n).cleared := by
  rw [enHook, hnew, hold]
  exact if_pos rfl

theorem enHook_fall (hnew : bitOf new 0 = false) (hold : bitOf old 0 = true) : enHook r n old new d =
    if (d.mcsn n).st = 5 then d.setMcs n { d.mcsn n with st := 0 } else if 1 ≤ (d.mcsn n).st ∧ (d.mcsn n).st ≤ 3 then enStop r n d else d := by
  rw [enHook, hnew, hold]
  rfl

end

/-! ### A start (R178 to R180) -/

/-- What EN makes of a synthesizer whose page has bands `bands`, whose frequency is `f` and for which `band` is selected. -/
structure Mcs.Enabled (bands : Nat → Option (Nat × Nat)) (f : Nat) (band : Option (Nat × Nat × Nat)) (x z : Mcs) : Prop where
  unlocks : z.unlocks = 0
  fbMissed : z.fbMissed = 0
  updRefused : z.updRefused = 0
  running : x.st ≠ 0 → z.st = x.st
  bandless : x.st = 0 → (∀ j < 64, bands j = none) → z.st = 5 ∧ z.refuse = 1
  outside : x.st = 0 → (∃ j < 64, bands j ≠ none) → (f / 2 ^ 48 < 70 ∨ 90 * 2 ^ 48 < f) → z.st = 5 ∧ z.refuse = 3
  starts : x.st = 0 → (∃ j < 64, bands j ≠ none) → ¬(f / 2 ^ 48 < 70 ∨ 90 * 2 ^ 48 < f) →
    (band = none → z.st = 5 ∧ z.refuse = 2) ∧ ∀ b, band = some b → z.st = 1 ∧ z.refuse = 0 ∧ z.band = b.1 ∧ z.lim = b.2

theorem mcsn_enHook_rise {r : Root} {n : Nat} {d : Dev} {old new : Word} (hnew : bitOf new 0 = true) (hold : bitOf old 0 = false) :
    ∃ z, (enHook r n old new d).mcsn = update d.mcsn n z ∧ (d.mcsn n).Enabled (bandOf d n) (mcsN d n) (bandSelect d n (mcsN d n)) z := by
  rw [enHook_rise hnew hold]
  by_cases h0 : (d.mcsn n).st = 0
  · have hset : (d.setMcs n (d.mcsn n).cleared).mcsn = update d.mcsn n (d.mcsn n).cleared := mcsn_setMcs ..
    rw [if_pos h0]
    by_cases hb : ∀ j < 64, bandOf d n j = none
    · refine ⟨{ (d.mcsn n).cleared with st := 5, refuse := 1 }, ?_,
        ⟨rfl, rfl, rfl, fun h => absurd h0 h, fun _ _ => ⟨rfl, rfl⟩, fun _ h => ?_, fun _ h => ?_⟩⟩
      · rw [mcsStart_bandless (d := d.setMcs n _) r hb, hset, Function.update_self, Function.update_idem]
      all_goals
        obtain ⟨j, hj, hne⟩ := h
        exact absurd (hb j hj) hne
    · have hb : ∃ j < 64, bandOf d n j ≠ none := by simpa using hb
      have hnone : ¬∀ j < 64, bandOf d n j = none := fun h => by
        obtain ⟨j, hj, hne⟩ := hb
        exact hne (h j hj)
      by_cases hf : mcsN d n / 2 ^ 48 < 70 ∨ 90 * 2 ^ 48 < mcsN d n
      · refine ⟨{ (d.mcsn n).cleared with st := 5, refuse := 3 }, ?_, ⟨rfl, rfl, rfl, fun h => absurd h0 h, fun _ h => absurd h hnone, fun _ _ _ => ⟨rfl, rfl⟩,
          fun _ _ h => absurd hf h⟩⟩
        rw [mcsStart_outside (d := d.setMcs n _) r hb hf, hset, Function.update_self, Function.update_idem]
      · cases hs : bandSelect d n (mcsN d n) with
        | none =>
          refine ⟨{ (d.mcsn n).cleared with st := 5, refuse := 2 }, ?_, ⟨rfl, rfl, rfl, fun h => absurd h0 h, fun _ h => absurd h hnone,
            fun _ _ h => absurd h hf, fun _ _ _ => ⟨fun _ => ⟨rfl, rfl⟩, nofun⟩⟩⟩
          rw [mcsStart_unfit (d := d.setMcs n _) r hb hf hs, hset, Function.update_self, Function.update_idem]
        | some b =>
          refine ⟨{ (d.mcsn n).cleared with st := 1, refuse := 0, band := b.1, lim := b.2, sscFrom := d.free, lfsr := max 1 (d.pwv (.mcs n) 0x050).toNat }, ?_,
            ⟨rfl, rfl, rfl, fun h => absurd h0 h, fun _ h => absurd h hnone, fun _ _ h => absurd h hf, fun _ _ _ => ⟨nofun, fun b' h => ?_⟩⟩⟩
          · rw [mcsStart_fits (d := d.setMcs n _) r hb hf hs, hset, Function.update_self, Function.update_idem]
            rfl
          · cases h
            exact ⟨rfl, rfl, rfl, rfl⟩
  · rw [if_neg h0]
    exact ⟨_, mcsn_setMcs .., rfl, rfl, rfl, fun _ => rfl, fun h => absurd h h0, fun h => absurd h h0, fun h => absurd h h0⟩

end Sys2Proof.Machine

/-! Synthesizers: the stop that EN asks for (R180, R189), and posted writes of a synthesizer as they complete (R51). -/

namespace Sys2Proof.Machine

open Function (update)

/-! ### A stop (R180, R189) -/

section
variable {r : Root} {n : Nat} {d : Dev} {old new : Word}

theorem mcsn_enStop : (enStop r n d).mcsn = update d.mcsn n ((d.mcsn n).stopping.bypassing (mcsOuts d n)).settled := by
  have houts : mcsOuts (raiseIf ((d.mcsn n).rampSt == 1) r (163 + 8 * n) (raiseIf ((d.mcsn n).st == 3) r (160 + 8 * n) (d.setMcs n (d.mcsn n).stopping))) n =
      mcsOuts d n := mcsOuts_of_eff (eff_of ((of_raiseIf (.of (by decide)) ..).trans ((of_raiseIf (.of (by decide)) ..).trans (of_setMcs (.of (by decide)) ..)))) n
  rw [enStop, mcsn_discSettle, mcsn_bypassAll, houts, mcsn_raiseIf, mcsn_raiseIf, mcsn_setMcs, Function.update_self, Function.update_idem, Function.update_self,
    Function.update_idem]

/-- What EN 0 makes of a synthesizer with outputs `on` enabled. -/
structure Mcs.Disabled (on : Nat) (x z : Mcs) : Prop where
  refused : x.st = 5 → z.st = 0
  running : 1 ≤ x.st → x.st ≤ 3 → z.st = 4 ∧ z.rampSt = 0 ∧ z.r = 0 ∧ z.bypass = on

theorem mcsn_enHook_fall (hnew : bitOf new 0 = false) (hold : bitOf old 0 = true) :
    ∃ z, (enHook r n old new d).mcsn = update d.mcsn n z ∧ (d.mcsn n).Disabled (mcsOuts d n) z := by
  rw [enHook_fall hnew hold]
  by_cases h5 : (d.mcsn n).st = 5
  · rw [if_pos h5]
    exact ⟨_, mcsn_setMcs .., fun _ => rfl, fun _ h => by omega⟩
  · rw [if_neg h5]
    by_cases hrun : 1 ≤ (d.mcsn n).st ∧ (d.mcsn n).st ≤ 3
    · rw [if_pos hrun]
      refine ⟨_, mcsn_enStop, fun h => absurd h h5, fun _ _ => ?_⟩
      rw [Mcs.settled_eq]
      exact ⟨rfl, rfl, rfl, rfl⟩
    · rw [if_neg hrun]
      exact ⟨_, (Function.update_eq_self ..).symm, fun h => absurd h h5, fun h1 h3 => absurd ⟨h1, h3⟩ hrun⟩

/-! ### The line of a ramp's end -/

theorem src_raise_cyc (k : Nat) : ((raise r k d).src k).cyc = r.cyc + 2 := by
  unfold raise
  dsimp only
  split
  · assumption
  · rw [src_setSrc_self]

theorem src_raiseIf_other {j k : Nat} (h : j ≠ k) (c : Bool) : (raiseIf c r k d).src j = d.src j := by
  cases c with
  | false => rfl
  | true =>
    show (raise r k d).src j = d.src j
    unfold raise
    dsimp only
    split
    · rfl
    · rw [src_setSrc, if_neg h]

theorem src_setMcs (m : Nat) (x : Mcs) (j : Nat) : (d.setMcs m x).src j = d.src j := rfl

theorem src_discSettle (m j : Nat) : (discSettle m d).src j = d.src j := src_of_evc (evc_of (of_discSettle (.of (by decide)) ..)) j

theorem src_modeHook (mode j : Nat) : (modeHook n mode d).src j = d.src j := by
  unfold modeHook
  dsimp only
  split
  · split
    · rw [src_discSettle, src_setMcs]
    · rfl
  · rfl

theorem src_mcsReturnAuto_other {j : Nat} (h : j ≠ 161 + 8 * n) : (mcsReturnAuto r n d).src j = d.src j := by
  unfold mcsReturnAuto
  split
  · rw [bypassNone, src_raiseIf_other h, src_setMcs]
  · rfl

/-- A stop signals the end of a ramp that runs. -/
theorem src_enStop (hramp : (d.mcsn n).rampSt = 1) : ((enStop r n d).src (163 + 8 * n)).cyc = r.cyc + 2 := by
  unfold enStop bypassAll
  dsimp only
  rw [src_discSettle, src_raiseIf_other (by omega), src_setMcs, hramp]
  exact src_raise_cyc _

theorem src_mcsCtrlHook_stop (hnew : bitOf new 0 = false) (hold : bitOf old 0 = true) (h1 : 1 ≤ (d.mcsn n).st) (h3 : (d.mcsn n).st ≤ 3)
    (hramp : (d.mcsn n).rampSt = 1) : ((mcsCtrlHook r n old new d).src (163 + 8 * n)).cyc = r.cyc + 2 := by
  rw [mcsCtrlHook_eq, src_mcsReturnAuto_other (by omega), src_modeHook, enHook_fall hnew hold, if_neg (by omega), if_pos ⟨h1, h3⟩, src_enStop hramp]

end

/-! ### PW registers -/

theorem pwv_setPwv_other (d : Dev) (b : Blk) {o j : Nat} (w : Word) (h : j ≠ o) : (d.setPwv b o w).pwv b j = d.pwv b j :=
  sget_sset_other _ _ _ _ _ (by simp only [Blk.addr]; omega)

/-- The device after register `o` of synthesizer `n` has taken word `w`: the page is no longer busy, and the word is in effect. -/
def tookWord (d : Dev) (n o : Nat) (w : Word) (pg : SMap PageSt) (ln : SMap LineSt) : Dev :=
  { (d.setPost (.mcs n) none).setPwv (.mcs n) o w with page := pg, lines := ln }

section
variable (d : Dev) (n o : Nat) (w : Word) (pg : SMap PageSt) (ln : SMap LineSt)

theorem tookWord_other {j : Nat} (h : j ≠ o) : (tookWord d n o w pg ln).pwv (.mcs n) j = d.pwv (.mcs n) j := pwv_setPwv_other _ _ w h

end

/-- The posted write of register `o` of synthesizer `n` has taken word `w`, and made `y` of the synthesizer. -/
def McsTook (n o : Nat) (w : Word) (s t : State) (y : Mcs) : Prop :=
  DevOnly s t ∧ t.dev.busy (.mcs n) = false ∧ t.dev.mcsn = update s.dev.mcsn n y ∧ t.dev.regs = s.dev.regs ∧ t.dev.eff = (s.dev.setPwv (.mcs n) o w).eff

theorem McsTook.self {n o : Nat} {w : Word} {s t : State} {y : Mcs} (h : McsTook n o w s t y) : t.dev.mcsn n = y := by
  obtain ⟨-, -, hmcs, -⟩ := h
  rw [hmcs, Function.update_self]

theorem McsTook.eff {n o : Nat} {w : Word} {s t : State} {y : Mcs} (h : McsTook n o w s t y) : t.dev.eff = (s.dev.setPwv (.mcs n) o w).eff := by
  obtain ⟨-, -, -, -, heff⟩ := h
  exact heff

theorem McsTook.frame {n o : Nat} {w : Word} {s t : State} {y : Mcs} (h : McsTook n o w s t y) :
    (DevOnly s t ∧ t.dev.busy (.mcs n) = false ∧ (∀ m, m ≠ n → t.dev.mcsn m = s.dev.mcsn m) ∧ t.dev.regs = s.dev.regs) ∧ t.dev.pwv (.mcs n) o = w := by
  obtain ⟨honly, hbusy, hmcs, hregs, heff⟩ := h
  refine ⟨⟨honly, hbusy, fun m hm => ?_, hregs⟩, (pwv_of_eff heff ..).trans (pwv_setPwv_self ..)⟩
  rw [hmcs, Function.update_of_ne hm]

/-- What acts on a synthesizer alone keeps the rest of what a posted write has set. -/
theorem mcsTook_of {n o : Nat} {w : Word} {s : State} {pg ln} {f : Dev → Dev} {y : Mcs}
    (hf : ∀ π : Part, π.off [.evc, .mcs, .freeCtr] → ∀ d, π.of (f d) = π.of d)
    (hm : (f (tookWord s.dev n o w pg ln)).mcsn = update s.dev.mcsn n y) : McsTook n o w s { s with dev := f (tookWord s.dev n o w pg ln) } y := by
  have hposted : (f (tookWord s.dev n o w pg ln)).posted = (s.dev.setPost (.mcs n) none).posted := posted_of (hf .posted (.of (by decide)) _)
  refine ⟨devOnly_dev .., ?_, hm, regs_of (hf .regs (.of (by decide)) _), eff_of (hf .eff (.of (by decide)) _)⟩
  show (f (tookWord s.dev n o w pg ln)).busy (.mcs n) = false
  rw [Dev.busy, Dev.post, hposted]
  exact busy_setPost_self ..

/-! ### The commands (R51) -/

section
variable {i : Instr} {s : State} {n : Fin 8} {P : State → Prop}

/-- The posted write that the command names takes effect. -/
theorem completes_posted {o : Nat} {ws : List Word} {rel : Word → Word → Bool} (hon : s.root.coreOn = true) (hi : exec i s = onMcsPost n o rel s)
    (hp : s.dev.post (.mcs n) = some { off := o, ws := ws }) (hrel : rel (s.dev.pwv (.mcs n) o) (ws.headD 0) = true)
    (h : P { s with dev := pwDone s.root (.mcs n) { off := o, ws := ws } s.dev }) : Completes i s P := by
  have hposts : mcsPosts n o rel s = true := by simp only [mcsPosts, hp, hrel, beq_self_eq_true, Bool.and_self]
  refine ⟨_, hi.trans ?_, h⟩
  rw [onMcsPost, if_pos hposts, onPost, onRoot, if_pos hon, pwComplete_posted hp (fun hc => by cases hc.1)]

/-- The posted write of one word takes effect: `f` acts on the device that has taken it. -/
theorem completes_took {o : Nat} {w : Word} {rel : Word → Word → Bool} {f : Dev → Dev} (hon : s.root.coreOn = true) (hi : exec i s = onMcsPost n o rel s)
    (hp : s.dev.post (.mcs n) = some { off := o, ws := [w] }) (hrel : rel (s.dev.pwv (.mcs n) o) w = true)
    (hdone : pwDone s.root (.mcs n) { off := o, ws := [w] } s.dev =
      f (pageUse s.root (.mcs n) (actUses (.mcs n) o) ((s.dev.setPost (.mcs n) none).setPwv (.mcs n) o w)))
    (h : ∀ pg ln, P { s with dev := f (tookWord s.dev n o w pg ln) }) : Completes i s P := by
  refine completes_posted hon hi hp hrel ?_
  rw [hdone, pageUse_eq]
  exact h _ _

end

theorem pwDone_ctrl (r : Root) (n : Nat) (w : Word) (d : Dev) : pwDone r (.mcs n) { off := 0x040, ws := [w] } d =
    mcsCtrlHook r n (d.pwv (.mcs n) 0x040) w (pageUse r (.mcs n) (actUses (.mcs n) 0x040) ((d.setPost (.mcs n) none).setPwv (.mcs n) 0x040 w)) := rfl

theorem pwDone_freq (r : Root) (n : Nat) (lo hi : Word) (d : Dev) :
    pwDone r (.mcs n) { off := 0x048, ws := [lo, hi] } d = mcsFreqHook r n lo hi (d.setPost (.mcs n) none) := rfl

theorem pwDone_cfg (r : Root) (n : Nat) (k : Fin 4) (w : Word) (d : Dev) : pwDone r (.mcs n) { off := 0x060 + 8 * k, ws := [w] } d =
    outCfgHook r n k (d.pwv (.mcs n) (0x060 + 8 * k)) w
      (pageUse r (.mcs n) (actUses (.mcs n) (0x060 + 8 * k)) ((d.setPost (.mcs n) none).setPwv (.mcs n) (0x060 + 8 * k) w)) := by
  have hk : (0x060 + 8 * k.val - 0x060) / 8 = k := by omega
  unfold pwDone
  dsimp only
  rw [if_neg (by omega), if_neg (by omega), if_neg (by omega), if_pos (by omega), if_pos (by omega), hk]
  rfl

theorem pwDone_delay (r : Root) (n : Nat) (k : Fin 4) (w : Word) (d : Dev) : pwDone r (.mcs n) { off := 0x064 + 8 * k, ws := [w] } d =
    outDelayHook r n k (d.pwv (.mcs n) (0x064 + 8 * k)) w
      (pageUse r (.mcs n) (actUses (.mcs n) (0x064 + 8 * k)) ((d.setPost (.mcs n) none).setPwv (.mcs n) (0x064 + 8 * k) w)) := by
  have hk : (0x064 + 8 * k.val - 0x060) / 8 = k := by omega
  unfold pwDone
  dsimp only
  rw [if_neg (by omega), if_neg (by omega), if_neg (by omega), if_pos (by omega), if_neg (by omega), hk]
  rfl

end Sys2Proof.Machine

/-! Synthesizers: posted writes of MCSn.CTRL and of FREQ as they complete (R180, R184, R196). -/

namespace Sys2Proof.Machine

open Function (update)

/-! ### The device that a posted write of CTRL acts on -/

section
variable (d : Dev) (n : Nat) (w : Word) (pg : SMap PageSt) (ln : SMap LineSt)

theorem mcsN_tookCtrl : mcsN (tookWord d n 0x040 w pg ln) n = mcsN d n := by
  rw [mcsN, tookWord_other _ _ _ _ _ _ (by decide), tookWord_other _ _ _ _ _ _ (by decide), mcsN]

theorem mcsOuts_tookCtrl : mcsOuts (tookWord d n 0x040 w pg ln) n = mcsOuts d n := by
  have hcfg : ∀ k, (tookWord d n 0x040 w pg ln).pf (.mcs n) (0x060 + 8 * k) 31 31 = d.pf (.mcs n) (0x060 + 8 * k) 31 31 := fun k =>
    congrArg (fld · 31 31) (tookWord_other _ _ _ _ _ _ (by omega))
  simp only [mcsOuts, hcfg]

/-- A band is selected by the page's registers and the PW registers. -/
theorem bandSelect_congr {a b : Dev} (hregs : a.regs = b.regs) (heff : a.eff = b.eff) (n f : Nat) : bandSelect a n f = bandSelect b n f := by
  have hreg : ∀ o, a.reg (.mcs n) o = b.reg (.mcs n) o := fun o => by rw [Dev.reg, hregs, Dev.reg]
  have hband : bandOf a n = bandOf b n := funext fun j => by rw [bandOf, hreg, hreg, bandOf]
  have hdepth : mcsDepth a n = mcsDepth b n := by simp only [mcsDepth, pf_of_eff heff]
  unfold bandSelect
  rw [hband, hdepth]

end

section
variable {s : State} {n : Fin 8} {w : Word} (hon : s.root.coreOn = true)

/-- The state after the posted write of CTRL has taken `w`, with what its uses of the page report. -/
def ctrlTaken (s : State) (n : Nat) (w : Word) (pg : SMap PageSt) (ln : SMap LineSt) : State :=
  { s with dev := mcsCtrlHook s.root n (s.dev.pwv (.mcs n) 0x040) w (tookWord s.dev n 0x040 w pg ln) }

include hon in
theorem ctrl_completes {i : Instr} {rel : Word → Word → Bool} (hi : exec i s = onMcsPost n 0x040 rel s)
    (hp : s.dev.post (.mcs n) = some { off := 0x040, ws := [w] }) (hrel : rel (s.dev.pwv (.mcs n) 0x040) w = true) :
    Completes i s fun t => ∃ pg ln, t = ctrlTaken s n w pg ln :=
  completes_took (f := mcsCtrlHook s.root n (s.dev.pwv (.mcs n) 0x040) w) hon hi hp hrel (pwDone_ctrl ..) fun pg ln => ⟨pg, ln, rfl⟩

theorem ctrlTaken_took {pg ln} {z : Mcs}
    (hz : (enHook s.root n (s.dev.pwv (.mcs n) 0x040) w (tookWord s.dev n 0x040 w pg ln)).mcsn = update s.dev.mcsn n z) :
    ∃ manual, McsTook n 0x040 w s (ctrlTaken s n w pg ln) ((z.moded (fld w 2 1)).returned manual) := by
  obtain ⟨manual, hm⟩ := mcsn_mcsCtrlHook (d := tookWord s.dev n 0x040 w pg ln) hz
  exact ⟨manual, mcsTook_of (f := mcsCtrlHook s.root n (s.dev.pwv (.mcs n) 0x040) w) (fun π h d => of_mcsCtrlHook h ..) hm⟩

/-- EN as it was: the synthesizer changes by DISC_MODE and by the return from bypass alone. -/
theorem ctrlTaken_same (h : bitOf w 0 = bitOf (s.dev.pwv (.mcs n) 0x040) 0) (pg ln) :
    ∃ manual, McsTook n 0x040 w s (ctrlTaken s n w pg ln) (((s.dev.mcsn n).moded (fld w 2 1)).returned manual) :=
  ctrlTaken_took (by rw [enHook_same h]; exact (Function.update_eq_self ..).symm)

/-! ### EN -/

/-- EN 1 over EN 0 takes the synthesizer to what `Mcs.Enabled` says, and then DISC_MODE acts. -/
theorem ctrlTaken_rise (hnew : bitOf w 0 = true) (hold : bitOf (s.dev.pwv (.mcs n) 0x040) 0 = false) (pg ln) :
    ∃ z manual, McsTook n 0x040 w s (ctrlTaken s n w pg ln) ((z.moded (fld w 2 1)).returned manual) ∧
      (s.dev.mcsn n).Enabled (bandOf s.dev n) (mcsN s.dev n) (bandSelect (s.dev.setPwv (.mcs n) 0x040 w) n (mcsN s.dev n)) z := by
  obtain ⟨z, hz, hen⟩ := mcsn_enHook_rise (r := s.root) (n := n) (d := tookWord s.dev n 0x040 w pg ln) hnew hold
  obtain ⟨manual, ht⟩ := ctrlTaken_took hz
  rw [mcsN_tookCtrl, bandSelect_congr (a := tookWord s.dev n 0x040 w pg ln) (b := s.dev.setPwv (.mcs n) 0x040 w) rfl rfl] at hen
  exact ⟨z, manual, ht, hen⟩

/-- EN 0 over EN 1 takes the synthesizer to what `Mcs.Disabled` says, and signals the end of its ramp. -/
theorem ctrlTaken_fall (hnew : bitOf w 0 = false) (hold : bitOf (s.dev.pwv (.mcs n) 0x040) 0 = true) (pg ln) :
    (∃ z manual, McsTook n 0x040 w s (ctrlTaken s n w pg ln) ((z.moded (fld w 2 1)).returned manual) ∧
      (s.dev.mcsn n).Disabled (mcsOuts s.dev n) z) ∧
    (1 ≤ (s.dev.mcsn n).st → (s.dev.mcsn n).st ≤ 3 → (s.dev.mcsn n).rampSt = 1 →
      ((ctrlTaken s n w pg ln).dev.src (163 + 8 * n)).cyc = s.root.cyc + 2) := by
  obtain ⟨z, hz, hdis⟩ := mcsn_enHook_fall (r := s.root) (n := n) (d := tookWord s.dev n 0x040 w pg ln) hnew hold
  obtain ⟨manual, ht⟩ := ctrlTaken_took hz
  rw [mcsOuts_tookCtrl] at hdis
  exact ⟨⟨z, manual, ht, hdis⟩, fun h1 h3 hramp => src_mcsCtrlHook_stop (d := tookWord s.dev n 0x040 w pg ln) hnew hold h1 h3 hramp⟩

end

/-! ### FREQ (R184) -/

/-- Why a frequency is refused; 0 when it is taken. -/
def freqWhy (x : Mcs) (old new : Nat) : Nat :=
  if 1 ≤ x.st ∧ x.st ≤ 3 then
    (if old * 200 < ((new : Int) - old).natAbs * 1000000 then 4
    else if !inBand x.lim new 1 then 5
    else if x.rampSt ≠ 0 then 8 else 0)
  else 0

theorem mcsFreqHook_eq (r : Root) (n : Nat) (lo hi : Word) (d : Dev) : mcsFreqHook r n lo hi d =
    let why := freqWhy (d.mcsn n) (mcsN d n) (freqOf lo hi)
    if why = 0 then (d.setPwv (.mcs n) 0x048 lo).setPwv (.mcs n) 0x04C hi
    else
      let d1 := (d.setReg (.mcs n) 0x048 (d.pwv (.mcs n) 0x048)).setReg (.mcs n) 0x04C (d.pwv (.mcs n) 0x04C)
      mcsRefuse r n why (d1.setMcs n { d1.mcsn n with updRefused := satInc (d.mcsn n).updRefused 0xFFFF }) := rfl

section
variable {r : Root} {n : Nat} {d : Dev} {lo hi : Word}

theorem mcsFreqHook_taken (h : freqWhy (d.mcsn n) (mcsN d n) (freqOf lo hi) = 0) :
    (mcsFreqHook r n lo hi d).mcsn = d.mcsn ∧ mcsN (mcsFreqHook r n lo hi d) n = freqOf lo hi := by
  rw [mcsFreqHook_eq]
  dsimp only
  rw [if_pos h]
  refine ⟨rfl, ?_⟩
  rw [mcsN, pwv_setPwv_other _ _ _ (by decide), pwv_setPwv_self, pwv_setPwv_self]

theorem mcsFreqHook_refused (h : freqWhy (d.mcsn n) (mcsN d n) (freqOf lo hi) ≠ 0) :
    (mcsFreqHook r n lo hi d).mcsn = update d.mcsn n
      { d.mcsn n with refuse := freqWhy (d.mcsn n) (mcsN d n) (freqOf lo hi), updRefused := satInc (d.mcsn n).updRefused 0xFFFF } ∧
    mcsN (mcsFreqHook r n lo hi d) n = mcsN d n := by
  rw [mcsFreqHook_eq]
  dsimp only
  rw [if_neg h]
  constructor
  · rw [mcsn_mcsRefuse, mcsn_setMcs, Function.update_self, Function.update_idem]
    rfl
  · have heff : ∀ e why, (mcsRefuse r n why e).eff = e.eff := fun e why => eff_of (of_mcsRefuse (.of (by decide)) ..)
    simp only [mcsN, pwv_of_eff (heff _ _)]
    rfl

end

theorem freqCommit_completes {s : State} {n : Fin 8} {lo hi : Word} (hon : s.root.coreOn = true)
    (hp : s.dev.post (.mcs n) = some { off := 0x048, ws := [lo, hi] }) : Completes (.mcsFreqCommit n) s fun t =>
      let x := s.dev.mcsn n
      let why := freqWhy x (mcsN s.dev n) (freqOf lo hi)
      (DevOnly s t ∧ t.dev.busy (.mcs n) = false ∧ ∀ m, m ≠ n.val → t.dev.mcsn m = s.dev.mcsn m) ∧
      (why = 0 → mcsN t.dev n = freqOf lo hi ∧ t.dev.mcsn n = x) ∧
      (why ≠ 0 → mcsN t.dev n = mcsN s.dev n ∧ t.dev.mcsn n = { x with refuse := why, updRefused := satInc x.updRefused 0xFFFF }) := by
  refine completes_posted hon (show _ = execMcsFreqCommit n s from rfl) hp rfl ?_
  rw [pwDone_freq]
  have hposted : (mcsFreqHook s.root n lo hi (s.dev.setPost (.mcs n) none)).posted = (s.dev.setPost (.mcs n) none).posted :=
    posted_of (of_mcsFreqHook (.of (by decide)) ..)
  have hbusy : (mcsFreqHook s.root n lo hi (s.dev.setPost (.mcs n) none)).busy (.mcs n) = false := by
    rw [Dev.busy, Dev.post, hposted]
    exact busy_setPost_self ..
  by_cases hwhy : freqWhy (s.dev.mcsn n) (mcsN s.dev n) (freqOf lo hi) = 0
  · obtain ⟨hmcs, hnew⟩ := mcsFreqHook_taken (r := s.root) (d := s.dev.setPost (.mcs n) none) hwhy
    exact ⟨⟨devOnly_dev .., hbusy, fun m _ => congrFun hmcs m⟩, fun _ => ⟨hnew, congrFun hmcs n⟩, fun h => absurd hwhy h⟩
  · obtain ⟨hmcs, hold⟩ := mcsFreqHook_refused (r := s.root) (d := s.dev.setPost (.mcs n) none) hwhy
    refine ⟨⟨devOnly_dev .., hbusy, fun m hm => ?_⟩, fun h => absurd h hwhy, fun _ => ⟨hold, ?_⟩⟩
    · exact (congrFun hmcs m).trans (Function.update_of_ne hm ..)
    · exact (congrFun hmcs n).trans (Function.update_self ..)

end Sys2Proof.Machine

/-! The obligation on a synthesizer's posted writes (R180, R184, R190, R191, R196): its outputs, and all the clauses. -/

namespace Sys2Proof.Machine

open Function (update)

/-! ### Enabled outputs (R190) -/

/-- Bit `k` of the enabled outputs is EN of OUTk_CFG. -/
theorem nbit_mcsOuts (d : Dev) (n : Nat) {k : Nat} (hk : k < 4) : nbit (mcsOuts d n) k = bitOf (d.pwv (.mcs n) (0x060 + 8 * k)) 31 := by
  have hbit : ∀ j, d.pf (.mcs n) (0x060 + 8 * j) 31 31 < 2 := fun j => Nat.mod_lt _ (by decide)
  have h0 := hbit 0
  have h1 := hbit 1
  have h2 := hbit 2
  have h3 := hbit 3
  have hdigit : mcsOuts d n / 2 ^ k % 2 = d.pf (.mcs n) (0x060 + 8 * k) 31 31 := by
    simp only [mcsOuts, List.range_succ, List.range_zero, List.nil_append, List.cons_append, List.map_cons, List.map_nil, List.sum_cons, List.sum_nil]
    interval_cases k
    all_goals omega
  rw [nbit, hdigit]
  rfl

theorem outSource_low {r : Root} {d : Dev} {n k : Nat} (h : bitOf (d.pwv (.mcs n) (0x060 + 8 * k)) 31 = false) : outSource r d n k = .low := by
  unfold outSource
  dsimp only
  rw [h]
  rfl

/-! ### OUTk_CFG (R182, R190, R191) -/

section
variable {r : Root} {n k : Nat} {d : Dev} {old new : Word}

/-- The synthesizer as output `k` is enabled: aligned while the discipline is, its delay at what is asked for. -/
def Mcs.outOn (k goal ec : Nat) (x : Mcs) : Mcs := { x with aligned := nset x.aligned k (x.disc == 2), delay := sput k (goal, ec, 0) x.delay }

theorem mcsn_outCfgHook_on (hnew : bitOf new 31 = true) (hold : bitOf old 31 = false) : (outCfgHook r n k old new d).mcsn = update d.mcsn n
    (if (d.mcsn n).st = 3 then (d.mcsn n).outOn k (delayGoal d n k) r.ec else ((d.mcsn n).outOn k (delayGoal d n k) r.ec).bypassing (mcsOuts d n)) := by
  have hcond : (bitOf new 31 && !bitOf old 31) = true := by rw [hnew, hold]; rfl
  unfold outCfgHook
  dsimp only
  rw [if_pos hcond]
  by_cases h3 : (d.mcsn n).st = 3
  · rw [if_pos h3, if_pos h3, mcsn_setMcs]
    rfl
  · rw [if_neg h3, if_neg h3, mcsn_bypassAll, mcsn_setMcs, Function.update_self, Function.update_idem]
    rfl

theorem mcsn_outCfgHook_off (hnew : bitOf new 31 = false) : (outCfgHook r n k old new d).mcsn = update d.mcsn n
    { d.mcsn n with aligned := nset (d.mcsn n).aligned k false, bypass := nset (d.mcsn n).bypass k false } := by
  have hon : ¬(bitOf new 31 && !bitOf old 31) = true := by simp [hnew]
  have hoff : (!bitOf new 31) = true := by rw [hnew]; rfl
  unfold outCfgHook
  dsimp only
  rw [if_neg hon, if_pos hoff, mcsn_raiseIf, mcsn_setMcs]

theorem mcsn_outCfgHook_div (hnew : bitOf new 31 = true) (hold : bitOf old 31 = true) (hdiv : fld old 9 0 ≠ fld new 9 0) :
    (outCfgHook r n k old new d).mcsn =
      let q := delayAt r (d.mcsn n) k (delayGoal d n k) (if fld old 9 0 = 0 then 1024 else fld old 9 0)
      update d.mcsn n { d.mcsn n with aligned := nset (d.mcsn n).aligned k false, delay := sput k (q.1, r.ec, q.2) (d.mcsn n).delay } := by
  have hon : ¬(bitOf new 31 && !bitOf old 31) = true := by simp [hold]
  have hoff : ¬(!bitOf new 31) = true := by simp [hnew]
  unfold outCfgHook
  dsimp only
  rw [if_neg hon, if_neg hoff, if_pos hdiv, mcsn_setMcs]

theorem mcsn_outDelayHook : (outDelayHook r n k old new d).mcsn =
    let q := delayAt r (d.mcsn n) k (fld old 13 0) (outDiv d n k)
    update d.mcsn n { d.mcsn n with
      delay := sput k (if d.pf (.mcs n) (0x060 + 8 * k) 31 31 = 1 then (q.1, r.ec, q.2) else (fld new 13 0, r.ec, 0)) (d.mcsn n).delay } := mcsn_setMcs ..

end

/-- A delay just kept is where the output stands. -/
theorem delayNow_kept {r : Root} {d : Dev} {n k a b : Nat} {x : Mcs} (h : d.mcsn n = { x with delay := sput k (a, r.ec, b) x.delay }) (hb : b < 2 ^ 32)
    (goal : Nat) : delayNow r d n k goal = a := by
  have hk : (d.mcsn n).delayOf k = (a, r.ec, b) := by rw [h, delayOf_sput_self]
  exact delayAt_present hk hb ..

theorem Part.off_subset {p : Part} {l l' : List Part} (h : p.off l) (hl : l' ⊆ l) : p.off l' := fun hm => h (hl hm)

section
variable {i : Instr} {s : State} {n : Fin 8} {k : Fin 4} {w : Word} {rel : Word → Word → Bool} (hon : s.root.coreOn = true)
include hon

/-- The posted write of OUTk_CFG takes `w`, when `y` is what it makes of the synthesizer. -/
theorem cfg_completes {y : Mcs} (hi : exec i s = onMcsPost n (0x060 + 8 * k) rel s)
    (hp : s.dev.post (.mcs n) = some { off := 0x060 + 8 * k, ws := [w] }) (hrel : rel (s.dev.pwv (.mcs n) (0x060 + 8 * k)) w = true)
    (hy : ∀ pg ln, (outCfgHook s.root n k (s.dev.pwv (.mcs n) (0x060 + 8 * k)) w (tookWord s.dev n (0x060 + 8 * k) w pg ln)).mcsn = update s.dev.mcsn n y) :
    Completes i s fun t => McsTook n (0x060 + 8 * k) w s t y :=
  completes_took (f := outCfgHook s.root n k (s.dev.pwv (.mcs n) (0x060 + 8 * k)) w) hon hi hp hrel (pwDone_cfg ..) fun pg ln =>
    mcsTook_of (f := outCfgHook s.root n k (s.dev.pwv (.mcs n) (0x060 + 8 * k)) w) (fun _ h _ => of_outCfgHook (Part.off_subset h (by simp)) ..) (hy pg ln)

theorem outputEnable_completes (hp : s.dev.post (.mcs n) = some { off := 0x060 + 8 * k, ws := [w] }) (hnew : bitOf w 31 = true)
    (hold : bitOf (s.dev.pwv (.mcs n) (0x060 + 8 * k)) 31 = false) : Completes (.mcsOutputEnable n k) s fun t =>
      let z := (s.dev.mcsn n).outOn k (delayGoal s.dev n k) s.root.ec
      McsTook n (0x060 + 8 * k) w s t (if (s.dev.mcsn n).st = 3 then z else z.bypassing (mcsOuts (s.dev.setPwv (.mcs n) (0x060 + 8 * k) w) n)) := by
  refine cfg_completes hon (show _ = execMcsOutputEnable n k s from rfl) hp hnew fun pg ln => ?_
  have hgoal : delayGoal (tookWord s.dev n (0x060 + 8 * k) w pg ln) n k = delayGoal s.dev n k := congrArg (fld · 13 0) (tookWord_other _ _ _ _ _ _ (by omega))
  rw [mcsn_outCfgHook_on hnew hold, hgoal, mcsOuts_of_eff (b := s.dev.setPwv (.mcs n) (0x060 + 8 * k) w) rfl]
  rfl

theorem outputDisable_completes (hp : s.dev.post (.mcs n) = some { off := 0x060 + 8 * k, ws := [w] }) (hnew : bitOf w 31 = false) :
    Completes (.mcsOutputDisable n k) s fun t => McsTook n (0x060 + 8 * k) w s t
      { s.dev.mcsn n with aligned := nset (s.dev.mcsn n).aligned k false, bypass := nset (s.dev.mcsn n).bypass k false } :=
  cfg_completes hon (show _ = execMcsOutputDisable n k s from rfl) hp (by rw [hnew]; rfl) fun pg ln =>
    mcsn_outCfgHook_off (d := tookWord s.dev n (0x060 + 8 * k) w pg ln) hnew

/-- A new divider takes the output on from where its delay stands. -/
theorem outputDivChange_completes (hp : s.dev.post (.mcs n) = some { off := 0x060 + 8 * k, ws := [w] }) (hnew : bitOf w 31 = true)
    (hold : bitOf (s.dev.pwv (.mcs n) (0x060 + 8 * k)) 31 = true) (hdiv : fld (s.dev.pwv (.mcs n) (0x060 + 8 * k)) 9 0 ≠ fld w 9 0) :
    Completes (.mcsOutputDivChange n k) s fun t =>
      let x := s.dev.mcsn n
      let q := delayAt s.root x k (delayGoal s.dev n k) (outDiv s.dev n k)
      McsTook n (0x060 + 8 * k) w s t { x with aligned := nset x.aligned k false, delay := sput k (q.1, s.root.ec, q.2) x.delay } := by
  refine cfg_completes hon (show _ = execMcsOutputDivChange n k s from rfl) hp (bne_iff_ne.mpr hdiv) fun pg ln => ?_
  have hgoal : delayGoal (tookWord s.dev n (0x060 + 8 * k) w pg ln) n k = delayGoal s.dev n k := congrArg (fld · 13 0) (tookWord_other _ _ _ _ _ _ (by omega))
  rw [mcsn_outCfgHook_div hnew hold hdiv, hgoal]
  rfl

/-- A new delay takes a running output on from where its delay stands, and another from the delay itself. -/
theorem outputDelayChange_completes (hp : s.dev.post (.mcs n) = some { off := 0x064 + 8 * k, ws := [w] }) : Completes (.mcsOutputDelayChange n k) s fun t =>
      let x := s.dev.mcsn n
      let q := delayAt s.root x k (fld (s.dev.pwv (.mcs n) (0x064 + 8 * k)) 13 0) (outDiv s.dev n k)
      McsTook n (0x064 + 8 * k) w s t { x with
        delay := sput k (if s.dev.pf (.mcs n) (0x060 + 8 * k) 31 31 = 1 then (q.1, s.root.ec, q.2) else (fld w 13 0, s.root.ec, 0)) x.delay } := by
  refine completes_took (f := outDelayHook s.root n k (s.dev.pwv (.mcs n) (0x064 + 8 * k)) w) hon (show _ = execMcsOutputDelayChange n k s from rfl) hp rfl
    (pwDone_delay ..) fun pg ln => mcsTook_of (f := outDelayHook s.root n k (s.dev.pwv (.mcs n) (0x064 + 8 * k)) w)
      (fun _ h _ => of_outDelayHook (Part.off_subset h (by simp)) ..) ?_
  have hcfg : (tookWord s.dev n (0x064 + 8 * k) w pg ln).pwv (.mcs n) (0x060 + 8 * k) = s.dev.pwv (.mcs n) (0x060 + 8 * k) :=
    tookWord_other _ _ _ _ _ _ (by omega)
  rw [mcsn_outDelayHook, outDiv, Dev.pf, Dev.pf, hcfg]
  rfl

end

/-! ### The clauses -/

section
variable {s : State} {n : Fin 8} {w : Word} (hon : s.root.coreOn = true)
include hon

theorem enable_completes (hp : s.dev.post (.mcs n) = some { off := 0x040, ws := [w] }) (hnew : bitOf w 0 = true) : Completes (.mcsEnable n) s fun t =>
    ∃ y, McsTook n 0x040 w s t y ∧
      (bitOf (s.dev.pwv (.mcs n) 0x040) 0 = true → y.st = (s.dev.mcsn n).st ∧ y.unlocks = (s.dev.mcsn n).unlocks) ∧
      (bitOf (s.dev.pwv (.mcs n) 0x040) 0 = false →
        (s.dev.mcsn n).Enabled (bandOf s.dev n) (mcsN s.dev n) (bandSelect (s.dev.setPwv (.mcs n) 0x040 w) n (mcsN s.dev n)) y) := by
  refine (ctrl_completes hon (show _ = execMcsEnable n s from rfl) hp hnew).imp fun t ⟨pg, ln, ht⟩ => ?_
  subst ht
  cases hold : bitOf (s.dev.pwv (.mcs n) 0x040) 0 with
  | true =>
    obtain ⟨manual, ht⟩ := ctrlTaken_same (hnew.trans hold.symm) pg ln
    obtain ⟨_, _, _, _, _, _, he, -⟩ := (s.dev.mcsn n).ctrl_eq (fld w 2 1) manual
    exact ⟨_, ht, fun _ => by rw [he]; exact ⟨rfl, rfl⟩, nofun⟩
  | false =>
    obtain ⟨z, manual, ht, hen⟩ := ctrlTaken_rise hnew hold pg ln
    obtain ⟨_, _, _, _, _, _, he, -⟩ := z.ctrl_eq (fld w 2 1) manual
    refine ⟨_, ht, nofun, fun _ => ?_⟩
    rw [he]
    exact ⟨hen.unlocks, hen.fbMissed, hen.updRefused, hen.running, hen.bandless, hen.outside, hen.starts⟩

theorem disable_completes (hp : s.dev.post (.mcs n) = some { off := 0x040, ws := [w] }) (hnew : bitOf w 0 = false) : Completes (.mcsDisable n) s fun t =>
    ∃ y, McsTook n 0x040 w s t y ∧
      (bitOf (s.dev.pwv (.mcs n) 0x040) 0 = true → (s.dev.mcsn n).Disabled (mcsOuts s.dev n) y ∧
        (1 ≤ (s.dev.mcsn n).st → (s.dev.mcsn n).st ≤ 3 → (s.dev.mcsn n).rampSt = 1 → (t.dev.src (163 + 8 * n)).cyc = s.root.cyc + 2)) ∧
      (bitOf (s.dev.pwv (.mcs n) 0x040) 0 = false → y.st = (s.dev.mcsn n).st) := by
  refine (ctrl_completes hon (show _ = execMcsDisable n s from rfl) hp (by rw [hnew]; rfl)).imp fun t ⟨pg, ln, ht⟩ => ?_
  subst ht
  cases hold : bitOf (s.dev.pwv (.mcs n) 0x040) 0 with
  | true =>
    obtain ⟨⟨z, manual, ht, hdis⟩, hline⟩ := ctrlTaken_fall hnew hold pg ln
    obtain ⟨_, _, _, _, _, _, he, hbypass⟩ := z.ctrl_eq (fld w 2 1) manual
    refine ⟨_, ht, fun _ => ⟨?_, hline⟩, nofun⟩
    rw [he]
    refine ⟨hdis.refused, fun h1 h3 => ?_⟩
    obtain ⟨hst, hramp, hr, houts⟩ := hdis.running h1 h3
    exact ⟨hst, hramp, hr, (hbypass (by omega)).trans houts⟩
  | false =>
    obtain ⟨manual, ht⟩ := ctrlTaken_same (hnew.trans hold.symm) pg ln
    obtain ⟨_, _, _, _, _, _, he, -⟩ := (s.dev.mcsn n).ctrl_eq (fld w 2 1) manual
    exact ⟨_, ht, nofun, fun _ => by rw [he]⟩

theorem discModeSet_completes (hp : s.dev.post (.mcs n) = some { off := 0x040, ws := [w] }) (hmode : fld (s.dev.pwv (.mcs n) 0x040) 2 1 ≠ fld w 2 1)
    (hen : bitOf w 0 = bitOf (s.dev.pwv (.mcs n) 0x040) 0) : Completes (.mcsDiscModeSet n) s fun t =>
      ∃ manual, McsTook n 0x040 w s t (((s.dev.mcsn n).moded (fld w 2 1)).returned manual) :=
  (ctrl_completes hon (show _ = execMcsDiscModeSet n s from rfl) hp (bne_iff_ne.mpr hmode)).imp fun t ⟨pg, ln, ht⟩ => by
    subst ht
    exact ctrlTaken_same hen pg ln

end

/-- What DISC_MODE leaves, whatever then returns from bypass. -/
theorem Mcs.moded_clause {x y : Mcs} {mode manual : Nat} (h : y = (x.moded mode).returned manual) : y.st = x.st ∧
    (mode ≠ 2 → y.disc = 0 ∧ y.u = 0 ∧ y.i = 0 ∧ y.aligned = x.aligned) ∧
    (mode = 2 → x.disc = 0 → y.disc = if x.rampSt = 0 then 1 else 3) ∧ (mode = 2 → x.disc ≠ 0 → y.disc = x.disc) := by
  have hst : (x.moded mode).st = x.st := by rw [Mcs.moded_eq]
  have haligned : (x.moded mode).aligned = x.aligned := by rw [Mcs.moded_eq]
  rw [h, Mcs.returned_eq]
  refine ⟨hst, fun h2 => ?_, fun h2 h0 => ?_, fun h2 h0 => ?_⟩
  · obtain ⟨hdisc, hu, hi⟩ := Mcs.moded_off h2 x
    exact ⟨hdisc, hu, hi, haligned⟩
  · subst h2
    exact Mcs.moded_phase h0
  · subst h2
    show (x.moded 2).disc = x.disc
    rw [Mcs.moded_same h0]

/-- The reasons of a refused frequency, in their order. -/
theorem freqWhy_eq {x : Mcs} {old new : Nat} :
    let runs := 1 ≤ x.st ∧ x.st ≤ 3
    let far := old * 200 < ((new : Int) - old).natAbs * 1000000
    let inside := inBand x.lim new 1 = true
    (¬runs ∨ ¬far ∧ inside ∧ x.rampSt = 0 → freqWhy x old new = 0) ∧ (runs → far → freqWhy x old new = 4) ∧
    (runs → ¬far → ¬inside → freqWhy x old new = 5) ∧ (runs → ¬far → inside → x.rampSt ≠ 0 → freqWhy x old new = 8) := by
  intro runs far inside
  unfold freqWhy
  refine ⟨fun h => ?_, fun hr hf => ?_, fun hr hf hi => ?_, fun hr hf hi h0 => ?_⟩
  · rcases h with h | ⟨hf, hi, h0⟩
    · exact if_neg h
    · have hin : ¬(!inBand x.lim new 1) = true := by simp [show inBand x.lim new 1 = true from hi]
      rw [if_neg hf, if_neg hin, if_neg (not_not.mpr h0), ite_self]
  · rw [if_pos hr, if_pos hf]
  · have hout : (!inBand x.lim new 1) = true := by simp [show ¬inBand x.lim new 1 = true from hi]
    rw [if_pos hr, if_neg hf, if_pos hout]
  · have hin : ¬(!inBand x.lim new 1) = true := by simp [show inBand x.lim new 1 = true from hi]
    rw [if_pos hr, if_neg hf, if_neg hin, if_pos h0]

/-- Settles O37: each posted write's effect on the synthesizer, as an update of the function that reads them. -/
theorem mcsPosted : Obligations.McsPosted := by
  intro s n k w hon d x y waits done took old oldk f band
  refine ⟨fun hp hnew => ?_, fun hp hnew => ?_, fun hp hmode hen => ?_, fun lo hi hp => ?_, fun hp hnew hold => ?_, fun hp hnew => ?_,
    fun hp hnew hold hdiv => ?_, fun hp => ?_⟩
  · refine (enable_completes hon hp hnew).imp fun t ⟨z, ht, hkept, hrise⟩ => ?_
    obtain rfl := ht.self
    refine ⟨ht.frame, hkept, fun hold => ?_⟩
    have hen := hrise hold
    exact ⟨hen.unlocks, hen.fbMissed, hen.updRefused, hen.running, hen.bandless, hen.outside,
      fun h0 hb h70 h90 => hen.starts h0 hb (not_or.mpr ⟨Nat.not_lt.mpr h70, Nat.not_lt.mpr h90⟩)⟩
  · refine (disable_completes hon hp hnew).imp fun t ⟨z, ht, hfall, hkept⟩ => ?_
    obtain rfl := ht.self
    refine ⟨ht.frame, fun hold => (hfall hold).1.refused, fun hold h1 h3 => ?_, hkept⟩
    obtain ⟨hdis, hline⟩ := hfall hold
    obtain ⟨hst, hramp, hr, hbypass⟩ := hdis.running h1 h3
    exact ⟨hst, hramp, hr, hbypass, hline h1 h3⟩
  · exact (discModeSet_completes hon hp hmode hen).imp fun t ⟨manual, ht⟩ => ⟨ht.frame, Mcs.moded_clause ht.self⟩
  · refine (freqCommit_completes hon hp).imp fun t ⟨⟨honly, hbusy, hothers⟩, htaken, hrefused⟩ => ?_
    obtain ⟨hzero, hfar, hout, hramp⟩ := freqWhy_eq (x := x) (old := f) (new := freqOf lo hi)
    have hwhy : ∀ {why}, freqWhy x f (freqOf lo hi) = why → why ≠ 0 →
        mcsN t.dev n = f ∧ t.dev.mcsn n = { x with refuse := why, updRefused := satInc x.updRefused 0xFFFF } := fun h h0 => by
      subst h
      exact hrefused h0
    exact ⟨honly, hbusy, hothers, fun h => htaken (hzero h), fun hr hf => hwhy (hfar hr hf) (by decide), fun hr hf hi => hwhy (hout hr hf hi) (by decide),
      fun hr hf hi h0 => hwhy (hramp hr hf hi h0) (by decide)⟩
  · refine (outputEnable_completes hon hp hnew hold).imp fun t ht => ⟨ht.frame, ?_⟩
    obtain ⟨-, hword⟩ := ht.frame
    have hbit : nbit (mcsOuts t.dev n) k = true := by rw [nbit_mcsOuts _ _ k.isLt, hword, hnew]
    have houts : mcsOuts t.dev n = mcsOuts (d.setPwv (.mcs n) (0x060 + 8 * k) w) n := mcsOuts_of_eff ht.eff n
    have haligned : nbit (nset x.aligned k (x.disc == 2)) k = (x.disc == 2) := (nbit_nset_ite ..).trans (if_pos rfl)
    show nbit (t.dev.mcsn n).aligned k = _ ∧ (_ → (t.dev.mcsn n).bypass = _) ∧ (_ → (t.dev.mcsn n).bypass = _ ∧ nbit (t.dev.mcsn n).bypass k = _)
    rw [ht.self]
    by_cases h3 : x.st = 3
    · rw [if_pos h3]
      exact ⟨haligned, fun _ => rfl, fun h => absurd h3 h⟩
    · rw [if_neg h3, ← houts]
      exact ⟨haligned, fun h => absurd h h3, fun _ => ⟨rfl, hbit⟩⟩
  · refine (outputDisable_completes hon hp hnew).imp fun t ht => ?_
    obtain ⟨hdone, hword⟩ := ht.frame
    exact ⟨⟨hdone, hword⟩, outSource_low (hword ▸ hnew), ht.self⟩
  · refine (outputDivChange_completes hon hp hnew hold hdiv).imp fun t ht => ⟨ht.frame, ?_, ?_⟩
    · show t.dev.mcsn n = { x with aligned := _, delay := (t.dev.mcsn n).delay }
      rw [ht.self]
    · exact delayNow_kept (x := { x with aligned := nset x.aligned k false }) ht.self (delayAt_part_lt ..) _
  · refine (outputDelayChange_completes hon hp).imp fun t ht => ⟨ht.frame, ?_, fun hk => ?_, fun hk => ?_⟩
    · show t.dev.mcsn n = { x with delay := (t.dev.mcsn n).delay }
      rw [ht.self]
    · have hy := ht.self
      rw [if_pos (show d.pf (.mcs n) (0x060 + 8 * k) 31 31 = 1 from beq_iff_eq.mp hk)] at hy
      exact delayNow_kept (x := x) hy (delayAt_part_lt ..) _
    · have hy := ht.self
      rw [if_neg (show d.pf (.mcs n) (0x060 + 8 * k) 31 31 ≠ 1 from beq_eq_false_iff_ne.mp hk)] at hy
      exact delayNow_kept (x := x) hy (by decide) _

end Sys2Proof.Machine
